-- ==== Sys2Proof/Word.lean ====
section
/-! DEFINITION. The word types of the EXR9720 model. The part is little-endian throughout (R3). -/

namespace Sys2Proof

/-- One byte of host or device memory, of a packet or of a register. -/
abbrev Byte := BitVec 8
/-- One 32-bit register word (DW). -/
abbrev Word := BitVec 32

end Sys2Proof
end

