-- ==== Sys2Proof/Syntax.lean ====
section
/-! DEFINITION. The commands and events the block takes: one constructor of Instr per row of the spec's table of operations
and events, with the data that comes with it from outside (packets, frames, samples, pin levels). -/

namespace Sys2Proof

/-- Causes of a failed read of host memory (R62, Table 20.8). -/
inductive FetchCause where
  | timeout | completion | poisoned
  deriving DecidableEq, Repr

/-- A command packet as fetched (Table 3.4): header fields, the 48 parameter bytes (packet bytes 16 to 63), the extension bytes (R65), and
what becomes of the command's own reads of host memory: none, or the cause they fail with (DETAIL 0xE4). -/
structure CmdPacket where
  flags : Nat
  hdrVer : Nat
  hseq : Nat
  context : Nat
  layer : Nat
  operator : Nat
  payloadLen : Nat
  params : List Byte
  ext : List Byte
  fault : Option FetchCause
  deriving DecidableEq, Repr

/-- Bytes the host has stored into its own memory: address and bytes. -/
abbrev HostWrites := List (Nat × List Byte)

/-- A floating-point operation of a core (R313). -/
inductive CoreFp where
  | add | sub | mul | fma | div | sqrt
  deriving DecidableEq, Repr

/-- What an ordinary core instruction is (R312, R313, R320). -/
inductive CoreKind where
  /-- One whose results the step carries. -/
  | plain
  /-- A call, and a return. -/
  | call
  | ret
  /-- Scalar register `rd` takes the E36 encoding of the binary64 value in `src`. -/
  | e36 (src rd : Nat)
  /-- A scalar operation on registers `a`, `b`, `c` in a format (6 binary32, 8 binary64). -/
  | fp (op : CoreFp) (fmt a b c rd : Nat)
  /-- A vector operation, lane by lane (4 BF16, 5 FP16, 6 FP32). -/
  | lanes (op : CoreFp) (fmt a b c rd : Nat)
  /-- A horizontal reduction of vector register `v`; the total ends in lane 0 of `rd`. -/
  | reduce (fmt v rd : Nat)
  /-- An encoding the core does not define. -/
  | undefined
  deriving DecidableEq, Repr

/-- An ordinary instruction of a general core, whose encodings the manual leaves to the toolchain: its offset in local memory,
whether it begins a CORE cycle or issues beside the one before, the local ranges it reads, the bytes it stores, and the
scalar and vector register values it leaves beside those its kind computes. -/
structure CoreStep where
  pc : Nat
  newCycle : Bool
  kind : CoreKind
  loads : List (Nat × Nat)
  stores : List (Nat × List Byte)
  scalar : List (Nat × Nat)
  vector : List (Nat × Nat)
  deriving DecidableEq, Repr
/-- A frame received on the Tandem link with a good CRC: the header fields of Table 16.1 and the payload. -/
structure LinkIn where
  flags : Nat
  seq : Nat
  ack : Nat
  tag : Nat
  payload : List Byte
  deriving DecidableEq, Repr
/-- What the header of a CSI-2 packet tells (R105, R106): VC, VCX, ECC outcome (0 good, 1 corrected, 2 lost), and the lane rate of the
packet's burst, Mb/s. -/
structure CsiHead where
  vc : Nat
  vcx : Nat
  ecc : Nat
  rate : Nat
  deriving DecidableEq, Repr
/-- When an encoder's inputs changed (R114): the CORE cycle in which the change was first sampled behind the synchroniser, and for how
many CORE cycles the new levels hold. -/
structure EdgeTime where
  sampled : Nat
  held : Nat
  deriving DecidableEq, Repr
/-- A promotion whose copies have ended (R341): the HOME of its object or of the stored map tile, and the tiles whose read failed. -/
structure Promotion where
  home : Nat
  lost : List Nat
  deriving DecidableEq, Repr

/-- A command or event of the block, in the order of the table. -/
inductive Instr where
  /-- CCU_CTRL.RUN is written (R449). -/
  | cadenceRun (run : Bool)
  /-- Disciplined time reaches a boundary instant (R18, R32). -/
  | cadenceBoundary
  /-- A function is still STARTING at a 16th boundary (R83). -/
  | startBoundExceeded (func : Nat)
  /-- Disciplined time reaches the trigger instant of CAM_TRIGn (R36). -/
  | cameraTrigger (pin : Nat)
  | triggerPulseEnd (pin : Nat)
  /-- A stage's START_OFFSET is reached (R43): slot, descriptor index, the Route flag indices it produces (its compiled output flag
  list), and those it declares as weight tile flags where its class has no WT_LIST (R338). -/
  | stageStart (slot index : Nat) (outFlags weightFlags : List Nat)
  /-- A stage's DEADLINE_OFFSET is reached (R44). -/
  | deadlineAbort (slot index : Nat)
  /-- All instances of a stage have ended (R45). -/
  | stageEnd (slot index : Nat)
  | functionDrainComplete (func : Nat)
  | routeDrainComplete (slot : Nat)
  /-- A drain bound passes (R42, R84); function IDs 0x000 to 0x00F are Route slots. -/
  | drainOverrun (func : Nat)
  /-- The CCU resolves the oldest draft epoch: COMMIT or SQUASH (R222). -/
  | epochResolution (epoch : Nat) (commit : Bool)
  /-- Unit 0 (FPP) or 1 (MAP) acknowledges (R222). -/
  | resolutionAck (unit epoch : Nat)
  | resolutionAckTimeout (unit epoch : Nat)
  /-- Control-core pair A (false) or B (true) mismatches (R322). -/
  | lockstepMismatch (pairB : Bool)
  /-- Host commands (Table 3.9): each is a fetched packet of that opcode, put through the acceptance checks of R66. -/
  | sessionOpen (p : CmdPacket)
  | sessionClose (p : CmdPacket)
  | sessionQuery (p : CmdPacket)
  | replay (p : CmdPacket)
  | nop (p : CmdPacket)
  /-- A packet whose OPCODE Table 3.9 does not define. -/
  | badOpcode (opcode : Nat) (p : CmdPacket)
  | funcEnable (p : CmdPacket)
  | funcDisable (p : CmdPacket)
  | funcQuery (p : CmdPacket)
  | routeLoad (p : CmdPacket)
  | routeUnload (p : CmdPacket)
  | routeEnable (p : CmdPacket)
  | routeDisable (p : CmdPacket)
  | routeSwitch (p : CmdPacket)
  | routeQuery (p : CmdPacket)
  | sensorConfig (p : CmdPacket)
  | sensorQuery (p : CmdPacket)
  | mirageConfig (p : CmdPacket)
  | lidarTemplate (p : CmdPacket)
  | decConfig (p : CmdPacket)
  | mapRead (p : CmdPacket)
  | tileExport (p : CmdPacket)
  | tileImport (p : CmdPacket)
  | mapArchive (p : CmdPacket)
  | solveSubmit (p : CmdPacket)
  | channelConfig (p : CmdPacket)
  | channelReset (p : CmdPacket)
  | memRead (p : CmdPacket)
  | memWrite (p : CmdPacket)
  | memCopy (p : CmdPacket)
  | sramWindow (p : CmdPacket)
  | memPromote (p : CmdPacket)
  | memEvict (p : CmdPacket)
  | memFlush (p : CmdPacket)
  | timeRead (p : CmdPacket)
  | timeAdjust (p : CmdPacket)
  | ptpConfig (p : CmdPacket)
  | tandemConfig (p : CmdPacket)
  | tandemStatus (p : CmdPacket)
  | tandemSwitchover (p : CmdPacket)
  | pelotonJoin (p : CmdPacket)
  | pelotonLeave (p : CmdPacket)
  | pelotonSchedule (p : CmdPacket)
  | pelotonStatus (p : CmdPacket)
  | counterRead (p : CmdPacket)
  | monitorConfig (p : CmdPacket)
  | traceConfig (p : CmdPacket)
  | tensorDump (p : CmdPacket)
  | brake (p : CmdPacket)
  | metIdent (p : CmdPacket)
  | metCounter (p : CmdPacket)
  | metSelect (p : CmdPacket)
  | metResultRead (p : CmdPacket)
  /-- The outstanding long command of this HSEQ ends; `hostFault`: a host-memory access of it failed (DETAIL 0xE4). -/
  | longCommandCompletion (hseq : Nat)
  /-- The host stores into its memory and writes HIF_CMD_TAIL, the doorbell (R58). -/
  | hifCmdTail (tail : Nat) (writes : HostWrites)
  /-- The host writes HIF_RPL_HEAD (R59). -/
  | hifRplHead (head : Nat)
  /-- ENABLE written 1 or 0 (R61). -/
  | ringEnable
  | ringDisable
  /-- Delivery of retained records to the reply ring (R59). -/
  | replyDelivery
  /-- The host stores into its memory and writes HIF_CMD_TAIL, and the fetch that follows fails (R62). -/
  | commandFetchError (cause : FetchCause) (tail : Nat) (writes : HostWrites)
  | replyWriteError
  | irqHoldoffExpiry (vector : Nat)
  /-- MASK of a vector is cleared (R82). -/
  | msixUnmask (vector : Nat)
  /-- Bus Master Enable of the Command register changes (R459). -/
  | busMasterEnable (on : Bool)
  /-- MSI-X Enable and Function Mask change (R459). -/
  | msixEnable (on : Bool) (functionMask : Bool)
  /-- A register request that breaks R452: a read or a write of `dw` DW. -/
  | bar0Oversize (write : Bool) (offset : Nat) (dw : Nat)
  /-- A BAR0 register write of one or more DW with its byte enables (R11, R452, R454). -/
  | registerWrite (offset : Nat) (data : List Byte) (enables : List Bool)
  /-- A BAR0 register read of one DW with its byte enables (R13). -/
  | rcFieldRead (offset : Nat) (enables : List Bool)
  /-- A read that starts at the LO register of a latched pair: LO alone, or LO and HI (R453). -/
  | latchedPairRead (offset : Nat) (both : Bool)
  /-- A write through the SRAM window (R456). -/
  | windowWrite (offset : Nat) (data : List Byte) (enables : List Bool)
  /-- A frame comes in at an Ethernet port: FCS outcome, bytes without FCS, raw TIME capture, fill of the receive FIFO
  behind it in bytes (R91, R93, R95). -/
  | ethernetFrameReceive (port : Nat) (fcsOk : Bool) (frame : List Byte) (capture fifo : Nat)
  /-- An ARP request at a sensor port (R95). -/
  | arpRequest (port : Nat) (frame : List Byte)
  /-- A PAUSE frame of so many quanta (R93). -/
  | pauseFrame (port quanta : Nat)
  /-- The head of a forwarding FIFO leaves through fabric port 0 or 1 (R96). -/
  | forwardEgress (port : Nat)
  | ethernetLinkUp (port : Nat)
  | ethernetLinkLoss (port : Nat)
  /-- PTP messages (Table 4.5): port, frame, raw TIME capture at the MAC/PCS boundary (R100). -/
  | ptpSync (port : Nat) (frame : List Byte) (capture : Nat)
  | ptpDelayReq (port : Nat) (frame : List Byte) (capture : Nat)
  | ptpPdelayReq (port : Nat) (frame : List Byte) (capture : Nat)
  | ptpPdelayResp (port : Nat) (frame : List Byte) (capture : Nat)
  | ptpFollowUp (port : Nat) (frame : List Byte) (capture : Nat)
  | ptpDelayResp (port : Nat) (frame : List Byte) (capture : Nat)
  | ptpPdelayRespFollowUp (port : Nat) (frame : List Byte) (capture : Nat)
  | ptpAnnounce (port : Nat) (frame : List Byte) (capture : Nat)
  | ptpSignaling (port : Nat) (frame : List Byte) (capture : Nat)
  | ptpManagement (port : Nat) (frame : List Byte) (capture : Nat)
  /-- A message interval of a PTP port ends; `type` is the messageType due. -/
  | ptpMessageInterval (port type : Nat)
  | syncReceiptTimeout (port : Nat)
  | announceReceiptTimeout (port : Nat)
  /-- The 1,024-cycle spacing lets the oldest held time change apply (R86). -/
  | heldTimeChange
  | slewEnd
  /-- A Frame Start short packet on a port, with its frame number (R109). -/
  | frameStart (port : Nat) (head : CsiHead) (number : Nat)
  /-- A packet of image data (R106): header VCX and data type, ECC outcome, lane rate, CRC outcome, payload. -/
  | linePacket (port vc vcx dataType ecc rate : Nat) (crcOk : Bool) (payload : List Byte)
  | frameEnd (port : Nat) (head : CsiHead) (number : Nat)
  /-- The Frame Start window of a stream closes (R109). -/
  | fsWindowClose (stream : Nat)
  /-- A channel's run of equal bits reaches 4,096 (R113); inertial channels 0 to 23, audio channels 24 to 55. -/
  | stuckRun (channel : Nat)
  /-- Inputs of an encoder change in one CORE cycle, to these levels (R114, R115). -/
  | encoderEdge (channel : Nat) (a b z : Bool) (time : EdgeTime)
  /-- A record instant of an encoder channel (R116). -/
  | encoderRecord (channel : Nat)
  /-- A UDP packet the sensor port hands to the lidar parser (R117 to R119). -/
  | lidarPacket (port srcIpv4 udpPort : Nat) (payload : List Byte) (stamp : Nat)
  /-- A template has matched nothing for ABSENT_MS (R120). -/
  | lidarSilence (template : Nat)
  /-- The initial deskew sequence of a CSI-2 port and the lane rate detected, Mb/s (R105, R121). -/
  | initialDeskew (port rate : Nat)
  /-- A start-of-transmission error on a CSI-2 port (R106): the burst, a line of `vc`, is discarded. -/
  | sotError (port vc : Nat)
  /-- A DEC channel samples its pin at its next sampling cycles, one a clock period (R112): the levels `before` and then `last`; outputs
  that become due are formed and delivered (R125, R126, R130). -/
  | decOutput (channel : Nat) (before : List Bool) (last : Bool)
  /-- VIS units (Table 7.6): stream context 0 to 15, level, band or cell row. -/
  | rectBand (stream band : Nat)
  | pyrBand (stream level band : Nat)
  | crnBand (stream level band : Nat)
  | dscRow (stream level row : Nat)
  /-- REQUEST or REVERT of VIS_STRMs_GRID_CTRL is written 1 (R146). -/
  | gridRequest (stream : Nat)
  | gridRevert (stream : Nat)
  /-- FST units (Table 8.7): pair context, level, band; flow context, level, band. -/
  | stereoBand (pair level band : Nat)
  | flowCopy (stream level band : Nat)
  | flowCarry (stream : Nat)
  | trackBand (stream band : Nat)
  /-- The close unit of a block: engine 0 flow or 1 stereo, and its context. -/
  | closeUnit (engine ctx : Nat)
  /-- FUS units (Table 9.9) of a fusion context, each the next one in canonical order. -/
  | instantEmission (ctx : Nat)
  | prjBlock (ctx : Nat)
  | pixelGrid (ctx : Nat)
  | featureRecord (ctx : Nat)
  | stateRecord (ctx : Nat)
  | instantRecord (ctx : Nat)
  | delayedRecord (ctx : Nat)
  | silentEncoder (ctx entry : Nat)
  | quarantine (func : Nat)
  | readmission (func : Nat)
  /-- A write of FUS_CTXf_WIN_START_LO (R454). -/
  | winStartWrite (ctx value : Nat)
  /-- 16 nominal output periods pass without a sample set (R211). -/
  | noSampleSet
  /-- The set in the live path reaches cycle 720; `ringFault`: a posted write of the pose ring fails. -/
  | livePath (ringFault : Bool)
  | replayComplete
  /-- SEED_REQ of FPP_CTRL is written 1 (R212). -/
  | seedReq
  /-- BSU events of a channel (R245, R248 to R250). -/
  | problemIssue (channel : Nat)
  | chainedPacket (channel : Nat)
  | problemComplete (channel : Nat)
  | solverDeadline (channel : Nat)
  /-- MAP record operations (Table 12.5): the pipe issues the record of that OP which stands next in its stage's queue. -/
  | insert (pipe : Nat)
  | update (pipe : Nat)
  | miss (pipe : Nat)
  | retire (pipe : Nat)
  | kfInsert (pipe : Nat)
  | kfUpdate (pipe : Nat)
  | loop (pipe : Nat)
  | kfRetire (pipe : Nat)
  | activate (pipe : Nat)
  | read (pipe : Nat)
  | search (pipe : Nat)
  | select (pipe : Nat)
  | graph (pipe : Nat)
  /-- MAP's part in the resolution in progress (R271, R272). -/
  | mapCommit
  | mapSquash
  /-- MAP_CTRL.INIT is written; initialisation completes (R263). -/
  | init
  | initComplete
  /-- The next unit of an array (R301): a tile operation, an output unit, a softmax unit. -/
  | tileOperation (array : Nat)
  | outputUnit (array : Nat)
  | softmaxUnit (array : Nat)
  /-- Intrinsics of a general core at offset `pc` of its local memory (Table 14.3). One that waits is presented when it
  issues, and again to end its wait. `rd` is the scalar register that takes its answer. -/
  | get (core pc ofs addr len : Nat)
  | put (core pc ofs addr len : Nat)
  /-- One of the core's beats completes, by its place among those under way. -/
  | beatCompletion (core beat : Nat)
  | waitio (core pc : Nat)
  | flagWait (core pc index rd : Nat)
  | flagSet (core pc o : Nat)
  | sync (core pc : Nat)
  | submit (core pc channel addr len tag : Nat)
  | mapPost (core pc queue ofs rd : Nat)
  | statePost (core pc queue ofs rd : Nat)
  | fppCorrect (core pc ofs rd : Nat)
  | items (core pc n : Nat)
  | rand (core pc rd : Nat)
  /-- The five values of INFO go to the registers from `rd` on: cadence, epoch, position, population, stage instant. -/
  | info (core pc rd : Nat)
  | endStage (core pc : Nat)
  | coreInstruction (core : Nat) (step : CoreStep)
  | wallTrap (core : Nat)
  | tidyReserveExhausted (core : Nat)
  /-- A bounded loop at `pc` reaches its bound. -/
  | boundHit (core pc : Nat)
  /-- Entry `entry` of a Route's prefetch order issues (R335). -/
  | prefetchIssue (slot entry : Nat)
  /-- Copy `n` of those in flight ends (R335); `fault`: its source gave no tile; `retries` of its flash read; `corrected`:
  link ECC corrected an error. -/
  | copyComplete (n : Nat) (fault : Bool) (retries : Nat) (corrected : Bool)
  | writeBackComplete (n : Nat)
  | promotionComplete (done : Promotion)
  | evictionComplete (home : Nat)
  | copyLatencyOverrun (n : Nat)
  /-- The flash program at the head of the queue ends: failed or not, with a spare left for another try, and the flash
  controller's erase counts, spares and background beats as they then stand. -/
  | flashSlotWrite (failed spareLeft : Bool) (mean top spare gcBeats : Nat) (gcActive : Bool)
  | wearWarning (mean top spare : Nat)
  | writeLock (mean top spare : Nat)
  | dramUncorrectable (addr : Nat)
  /-- MR4 codes of the eight controllers. -/
  | refreshRatePoll (mults : List Nat)
  /-- The Tandem lanes finish training (R354). -/
  | linkTrainingComplete
  /-- A twin declares the link lost, for a reason of R356. -/
  | linkLost (reason : Nat)
  /-- Link frames received (Table 16.2). -/
  | tdmIdle (f : LinkIn)
  | tdmPair (f : LinkIn)
  | tdmNak (f : LinkIn)
  | tdmBoundary (f : LinkIn)
  | tdmTime (f : LinkIn)
  | tdmTimeEcho (f : LinkIn)
  | tdmLine (f : LinkIn)
  | tdmFrame (f : LinkIn)
  | tdmInertial (f : LinkIn)
  | tdmAudio (f : LinkIn)
  | tdmEncoder (f : LinkIn)
  | tdmPoints (f : LinkIn)
  | tdmFusCount (f : LinkIn)
  | tdmCommand (f : LinkIn)
  | tdmRegwrite (f : LinkIn)
  | tdmTile (f : LinkIn)
  | tdmSchedule (f : LinkIn)
  | tdmDigest (f : LinkIn)
  | tdmSwitch (f : LinkIn)
  /-- A barrier round instant and the member's report (R369). -/
  | barrierRound
  /-- Peloton frames received: header of Table 16.5 and payload. -/
  | barrierUp (body : List Byte)
  | barrierRelease
  | barrierDown (body : List Byte)
  | barrierTimeout
  | pelotonScheduleFrame (body : List Byte)
  | schedAck (body : List Byte)
  /-- The next armed operation's instant comes (R374). -/
  | globalOperation
  | tileFrag (body : List Byte)
  | tileAssemblyTimeout (key : Nat)
  | snapshotComplete
  | metrologyFrame
  /-- Bytes of the frame that have come in 10 ms. -/
  | frameTruncated (got : Nat)
  | frameProcessed
  /-- The debounced level of SEAL_N. -/
  | sealChange (high : Bool)
  | identPeriod
  | oasisStart
  /-- Requests on MET_RX (Table 17.8). -/
  | identReq
  | logReq
  | paramRead
  | paramWrite (block : List Byte)
  | paramCommit
  | imageLoad (offset : Nat) (bytes : List Byte)
  | imageCommit (len : Nat) (sig : List Byte)
  | resultRecord
  | identificationRecord
  | resultPathDiscard
  | identTimeout
  | metRxDiscard
  | tdmCrcFail
  | tdmIdleSend
  | traceSyncTimer
  | pcSample
  | monitorLevelSample
  | monitorBankSwap
  | obsEngLatch
  | dumpCopy
  /-- The REASON field of the write. -/
  | obsBrakeCtrlBrake (reason : Nat)
  | brkIn
  | brakeStop
  | memSettled
  | scanSegmentRead
  | scanDramRead
  | scanFlashRead
  | scanAccessEnd (unmapped fault : Bool)
  | obsCreditRefill
  | tracePacketTaken
  /-- 0 BYPASS, 1 IDCODE, 2 SAMPLE/PRELOAD, 3 EXTEST, 4 IJTAG. -/
  | tapInstruction (ins : Nat)
  /-- Levels of the reset pins, and lock of the ROOT PLL. -/
  | porstN (low : Bool)
  | rstN (low : Bool)
  | softwareReset (value : Nat)
  | rootPllUnlock (lost : Bool)
  /-- 1 LPDDR5X, 2 Ethernet, 3 Tandem, 4 PCIe. -/
  | phyPllUnlock (pll : Nat) (locked : Bool)
  /-- The junction temperature in 1/16 °C. -/
  | thermalTrip (temp : Int)
  | pcieReset
  /-- The level of the BOOT_SEL strap. -/
  | resetRelease (bootSel : Bool)
  /-- What the ROM has read of a NOR slot. -/
  | bootImageCheck (nor : List Byte)
  | xspiReadTimeout
  | hostBootGo
  /-- LPDDR5X packages and NAND channels whose training failed. -/
  | ready (dram nand : List Nat)
  | clockDivisorWrite (pdm : Bool) (value : Nat)
  | pcieLinkUp (width speed : Nat)
  | d3hotEntry
  deriving DecidableEq, Repr

end Sys2Proof
end

