-- ==== Sys2Proof/Machine/Bits.lean ====
section
/-! DEFINITION. Bit fields, little-endian and two's-complement fields, saturation and rounding (R3, R6), and small list
helpers. -/

namespace Sys2Proof

/-- `n` bits of `v` from bit `lo` upward. -/
def bits (v lo n : Nat) : Nat := (v / 2 ^ lo) % 2 ^ n

/-- Bit `i` of `v`. -/
def bit (v i : Nat) : Bool := v.testBit i

/-- One bit as a number. -/
def b2n (b : Bool) : Nat := if b then 1 else 0

/-- The bit mask of a list of bit numbers. -/
def maskOf : List Nat → Nat
  | [] => 0
  | i :: r => (2 ^ i) ||| maskOf r

/-- The `n` low bytes of `v`, little-endian. -/
def leBytes : Nat → Nat → List Byte
  | 0, _ => []
  | n + 1, v => BitVec.ofNat 8 v :: leBytes n (v / 256)

/-- The number a little-endian byte string spells. -/
def leNat : List Byte → Nat
  | [] => 0
  | b :: r => b.toNat + 256 * leNat r

/-- Bytes `ofs` to `ofs + n - 1` of a byte string as a little-endian number (missing bytes read 0). -/
def leAt (bs : List Byte) (ofs n : Nat) : Nat := leNat ((bs.drop ofs).take n)

/-- Big-endian reading, for the Ethernet header fields. -/
def beNat (bs : List Byte) : Nat := leNat bs.reverse
def beAt (bs : List Byte) (ofs n : Nat) : Nat := beNat ((bs.drop ofs).take n)
def beBytes (n v : Nat) : List Byte := (leBytes n v).reverse

/-- `n` zero bytes. -/
def zeros (n : Nat) : List Byte := List.replicate n 0

/-- The signed value of the low `w` bits of `v`. -/
def sgn (w v : Nat) : Int :=
  let x := v % 2 ^ w
  if x < 2 ^ (w - 1) then (x : Int) else (x : Int) - 2 ^ w

/-- The low `w` bits of an integer, two's complement. -/
def unsgn (w : Nat) (x : Int) : Nat := (x % (2 ^ w : Nat)).toNat

/-- Signed little-endian field of a byte string. -/
def sleAt (bs : List Byte) (ofs n : Nat) : Int := sgn (8 * n) (leAt bs ofs n)
/-- The `n` bytes of a signed value. -/
def sleBytes (n : Nat) (x : Int) : List Byte := leBytes n (unsgn (8 * n) x)

/-- Clamp an integer into a range. -/
def clampI (lo hi x : Int) : Int := if x < lo then lo else if hi < x then hi else x

/-- Saturation to a signed `w`-bit field (R6). -/
def satS (w : Nat) (x : Int) : Int := clampI (-(2 ^ (w - 1))) (2 ^ (w - 1) - 1) x
/-- Saturation to an unsigned `w`-bit field (R6). -/
def satU (w : Nat) (x : Int) : Int := clampI 0 (2 ^ w - 1) x

/-- The integer nearest to `a ÷ b`, ties to even (R6); `b > 0`. -/
def rneDiv (a : Int) (b : Nat) : Int :=
  let q := a / (b : Int)
  let r := (a % (b : Int)).toNat
  if 2 * r < b then q
  else if b < 2 * r then q + 1
  else if q % 2 = 0 then q else q + 1

/-- `x ÷ 2^n` rounded to nearest, ties to even (R6). -/
def rneShr (x : Int) (n : Nat) : Int := rneDiv x (2 ^ n)

/-- `ceil(a ÷ b)`. -/
def ceilDiv (a b : Nat) : Nat := (a + b - 1) / b

/-- `floor(√n)`. -/
def isqrtAux : Nat → Nat → Nat → Nat
  | 0, _, r => r
  | k + 1, n, r => let c := r + 2 ^ k; isqrtAux k n (if c * c ≤ n then c else r)
def isqrt (n : Nat) : Nat := isqrtAux (n.log2 / 2 + 1) n 0

/-- A set of small numbers kept as a list without repeats. -/
def insertOnce (x : Nat) (l : List Nat) : List Nat := if l.contains x then l else l ++ [x]

/-- A byte string with the bytes from `ofs` on replaced by `x`. -/
def patch (bs : List Byte) (ofs : Nat) (x : List Byte) : List Byte := bs.take ofs ++ x ++ bs.drop (ofs + x.length)

/-- Replace element `i` of a list by `f` of it (nothing where the list is shorter). -/
def modifyAt {α : Type} (f : α → α) : List α → Nat → List α
  | [], _ => []
  | x :: r, 0 => f x :: r
  | x :: r, i + 1 => x :: modifyAt f r i

end Sys2Proof
end

