-- ==== Sys2Proof/Machine/Crc.lean ====
section
/-! DEFINITION. CRC-32 with the IEEE 802.3 polynomial (R37, R143, R355, R440). -/

namespace Sys2Proof.Machine

/-- `n` bit steps of the reflected polynomial. -/
def crcBits : Nat → Nat → Nat
  | 0, c => c
  | n + 1, c => crcBits n (if c % 2 = 1 then (c / 2) ^^^ 0xEDB88320 else c / 2)

/-- One byte. -/
def crcByte (c : Nat) (b : Byte) : Nat := crcBits 8 (c ^^^ b.toNat)

/-- CRC-32 of a byte string. -/
def crc32 (bs : List Byte) : Nat := (bs.foldl crcByte 0xFFFFFFFF) ^^^ 0xFFFFFFFF

/-- CRC-32 of a byte string with the four bytes at `ofs` taken as 0. -/
def crc32Without (bs : List Byte) (ofs : Nat) : Nat := crc32 (bs.take ofs ++ zeros 4 ++ bs.drop (ofs + 4))

end Sys2Proof.Machine
end

