-- ==== Sys2Proof/Config.lean ====
section
/-! DEFINITION. What one device fixes (grade fuses, die fuses, boot straps) and the free values: constants with no
body, of which nothing can be proved but that they exist (the assumption log names each). -/

namespace Sys2Proof.Config

/-- GRADE fuse: true for EXR9720-I, false for EXR9720-C (R1, Table 20.3). -/
opaque gradeI : Bool
/-- The 64 bits of the die's identity fuses, CRB_UID (Table 20.3: "Per die"). -/
opaque uid : Nat
/-- A value the spec leaves open: the `k`-th value drawn on, of any width the user reduces it to. -/
opaque freeValue : Nat → Nat

/-- The 36-bit encoding an E36 result beyond the format's range takes (R8 names the flag, not the value), by the exact
value m × 2^x; also what an operand with e = 255 counts as, by its encoding and x = 0. -/
opaque e36Open : Int → Int → Nat

/-- The place of a tile key among those that enter an activation set at one boundary (R279 gives them no order, and the frames and
directory ways they take depend on it): lower values first. -/
opaque activationRank : Nat → Nat

/-- CORE cycles a MAP record of an undefined OP costs, by its OP: R269 charges them, Table 12.5 lists no such OP. -/
opaque mapUndefinedCost : Nat → Nat

/-- Device address of the key tensor of an ATTN operator, by its IN_ADDR and W_ADDR (Table 13.4 names none). -/
opaque attnKeyAddr : Nat → Nat → Nat

/-- The NaN a core's operation gives, by format (R313 rounds results, no rule names a NaN): its sign and fraction. -/
opaque coreNan : Nat → Nat
/-- The lanes above lane 0 after a horizontal reduction, by the register reduced (R313 places the total only). -/
opaque coreRest : Nat → Nat

/-- Oasis accepts an image and its signature: ECDSA P-384 against the key whose hash is fused into Oasis OTP (R390; the
spec gives no key). -/
opaque oasisImageOk : List Byte → List Byte → Bool
/-- SW_VERSION of a legally relevant image (R390 does not place it). -/
opaque oasisVersion : List Byte → Nat
/-- IMAGE_CRC, SW_VERSION and check of the image of the delivered part (no contents are given). -/
opaque oasisDeliveredCrc : Nat
opaque oasisDeliveredVersion : Nat
opaque oasisDeliveredOk : Bool
/-- A coordinate of a grid entry, in 1/16 mm, for a sealed block with FX or FY of 0: by column, row, Z and axis (R391
divides by it). -/
opaque oasisPoint : Nat → Nat → Nat → Nat → Int
/-- E of R392 for FX of 0, in 1/16 mm × 2^30, by the median Z. -/
opaque oasisE : Nat → Int

/-- Device address of the stage status record of a slot and descriptor index (R45 names the partition, not the place). -/
opaque statusAddr : Nat → Nat → Nat

/-- Device addresses of what units keep in on-die memory at places the spec does not give, by kind, unit and index: 0 the replay buffer's
records, 1 a stream's frame records, 2 IMU ring entries, 3 corrections, 4 landmark frame headers, 5 MAP control words, 6 waiting state
input records, 7 result records, 8 the elements of an array's recurrent state. -/
opaque heldAddr : Nat → Nat → Nat → Nat
/-- A byte of on-die memory in which a unit keeps state of a layout of its own, by the draw and its address. -/
opaque sramByte : Nat → Nat → Nat

/-- The entries of a provisioning block (R441 gives no layout): fuse field number, 0 to 3 KEY_HASH, then in the order of Table
19.4, and the bits to set. -/
opaque provision : List Byte → List (Nat × Nat)

end Sys2Proof.Config
end

