-- ==== Sys2Proof/Machine/E36.lean ====
section
/-! DEFINITION. E36 arithmetic (R7, R8, R230, R231): values, exact dots, rounding, division and square root, and the
conversion from binary64. -/

namespace Sys2Proof.Machine

/-- An E36 value m × 2^x, with what its computation met, the computation of its operands included: a range violation (R8), a truncated
small product (R231). -/
structure E36 where
  m : Int
  x : Int
  range : Bool
  sticky : Bool
  deriving DecidableEq, Repr

namespace E36

def zero : E36 := ⟨0, 0, false, false⟩

/-- The value of the encoding's fields, e = 255 taken by the same formula. -/
def ofFields (code : Nat) : Int × Int :=
  let e := bits code 27 8
  let v : Int := if e = 0 then 0 else (2 ^ 27 + bits code 0 27 : Nat)
  (if code.testBit 35 then -v else v, (e : Int) - 127 - 27)

/-- Read an operand: e = 255 is no value and raises RANGE_EXCEEDED (R8). -/
def ofCode (code : Nat) : E36 :=
  let none_ := bits code 27 8 == 255
  let v := ofFields (if none_ then Config.e36Open code 0 % 2 ^ 36 else code)
  ⟨v.1, v.2, none_, false⟩

/-- floor(log2) of a non-zero number m × 2^x. -/
def expo (m x : Int) : Int := (m.natAbs.log2 : Int) + x

/-- Round n ÷ d × 2^x to E36, to nearest with ties to even (R8, R230); d is not 0. -/
def rnd (n : Int) (d : Nat) (x : Int) (range sticky : Bool) : E36 :=
  if n = 0 then ⟨0, 0, range, sticky⟩
  else
    -- a quotient of at least 32 significant bits, with its lost part as one bit below
    let sh := 34 + d.log2 - n.natAbs.log2
    let num := n.natAbs * 2 ^ sh
    let q := num / d
    let rem := num % d
    let cut := q.log2 - 27
    let kept := q / 2 ^ cut
    let half := q % 2 ^ cut
    let up := decide (2 ^ (cut - 1) < half) || (decide (half = 2 ^ (cut - 1)) && (decide (rem ≠ 0) || kept % 2 = 1))
    let k0 := kept + b2n up
    let k := if k0 = 2 ^ 28 then 2 ^ 27 else k0
    let e : Int := x - sh + cut + (if k0 = 2 ^ 28 then 1 else 0)
    let top := e + 27
    let s : Int := if n < 0 then -1 else 1
    if 128 ≤ top ∨ top < -126 then
      let v := ofFields (Config.e36Open (s * k) e % 2 ^ 36)
      ⟨v.1, v.2, true, sticky⟩
    else ⟨s * k, e, range, sticky⟩

/-- A value as rounded to E36 from m × 2^x. -/
def rnd1 (m x : Int) (range sticky : Bool) : E36 := rnd m 1 x range sticky

/-- The 36-bit encoding of a value that an operation returned. A zero is written +0: R7 has two zeros and names none for a result (the
model's choice, assumption log 61). -/
def code (v : E36) : Nat :=
  if v.m = 0 then 0
  else
    let e := expo v.m v.x
    let f := if 27 ≤ v.m.natAbs.log2 then v.m.natAbs / 2 ^ (v.m.natAbs.log2 - 27) else v.m.natAbs * 2 ^ (27 - v.m.natAbs.log2)
    (if v.m < 0 then 2 ^ 35 else 0) + ((e + 127).toNat % 256) * 2 ^ 27 + f % 2 ^ 27

/-- A dot of R231 before its rounding: the accumulator A with A × 2^x, the range flag of its products and operands, STICKY. -/
structure Acc where
  a : Int
  x : Int
  range : Bool
  sticky : Bool

/-- A product of exact magnitude outside 2^−128 to 2^127, and not 0 (R8). -/
def prodBad (m x : Int) : Bool :=
  m != 0 && (decide (expo m x < -128) || decide (127 < expo m x) || (decide (expo m x = 127) && decide (m.natAbs ≠ 2 ^ m.natAbs.log2)))

/-- c + Σ a_k × b_k in the accumulator (R231): products exact, the window set by the largest one, a product below 2^(Emax − 183) truncated
toward zero at the window's LSB and reported by STICKY; a product outside the range of R8 raises RANGE_EXCEEDED. -/
def acc (c : E36) (ps : List (E36 × E36)) : Acc :=
  let prods := ps.map (fun p => (p.1.m * p.2.m, p.1.x + p.2.x))
  let terms := ((c.m, c.x) :: prods).filter (fun t => t.1 != 0)
  let bad := c.range || ps.any (fun p => p.1.range || p.2.range) || prods.any (fun t => prodBad t.1 t.2)
  let had := c.sticky || ps.any (fun p => p.1.sticky || p.2.sticky)
  match terms with
  | [] => ⟨0, 0, bad, had⟩
  | t :: rest =>
    let top := rest.foldl (fun m u => max m (expo u.1 u.2)) (expo t.1 t.2)
    let lsb := top - 238
    let put := fun (s : Int × Bool) (u : Int × Int) =>
      let small := decide (expo u.1 u.2 < top - 183)
      if lsb ≤ u.2 then (s.1 + u.1 * 2 ^ (u.2 - lsb).toNat, s.2 || small)
      else
        let k := (lsb - u.2).toNat
        let q : Int := (u.1.natAbs / 2 ^ k : Nat)
        (s.1 + (if u.1 < 0 then -q else q), s.2 || small)
    let r := terms.foldl put (0, false)
    ⟨r.1, lsb, bad, had || r.2⟩

/-- c + Σ a_k × b_k rounded once. -/
def dot (c : E36) (ps : List (E36 × E36)) : E36 := let a := acc c ps; rnd1 a.a a.x a.range a.sticky

def neg (v : E36) : E36 := { v with m := -v.m }

/-- c − Σ a_k × b_k rounded once. -/
def dotSub (c : E36) (ps : List (E36 × E36)) : E36 := dot c (ps.map (fun p => (neg p.1, p.2)))

/-- The quotient of an accumulator by a value, rounded once (R231); a quotient by zero is open. -/
def quot (a : Acc) (d : E36) : E36 :=
  let range := a.range || d.range
  let sticky := a.sticky || d.sticky
  if d.m = 0 then
    let v := ofFields (Config.e36Open a.a a.x % 2 ^ 36)
    ⟨v.1, v.2, range, sticky⟩
  else rnd (if d.m < 0 then -a.a else a.a) d.m.natAbs (a.x - d.x) range sticky

/-- (c − Σ a_k × b_k) ÷ d. -/
def dotDiv (c : E36) (ps : List (E36 × E36)) (d : E36) : E36 := quot (acc c (ps.map (fun p => (neg p.1, p.2)))) d

/-- p + q, exact and rounded once (R230): no product, so neither a product's range nor a window bounds it. -/
def add (p q : E36) : E36 :=
  let lo := min p.x q.x
  rnd1 (p.m * 2 ^ (p.x - lo).toNat + q.m * 2 ^ (q.x - lo).toNat) lo (p.range || q.range) (p.sticky || q.sticky)
def sub (p q : E36) : E36 := add p (neg q)
def mul (p q : E36) : E36 := dot zero [(p, q)]
def div (p q : E36) : E36 := dotDiv p [] q

/-- Square root of a value that is not negative (R230). -/
def sqrt (v : E36) : E36 :=
  if v.m ≤ 0 then ⟨0, 0, v.range, v.sticky⟩
  else
    -- an even exponent, a root of more than 64 bits, and its lost part as one bit below
    let sh : Nat := 130 + (if (v.x - 130) % 2 = 0 then 0 else 1)
    let n := v.m.toNat * 2 ^ sh
    let r := isqrt n
    rnd1 (2 * r + b2n (r * r != n) : Nat) ((v.x - (sh : Int)) / 2 - 1) v.range v.sticky

def abs (v : E36) : E36 := { v with m := (v.m.natAbs : Int) }

/-- Order by value. -/
def lt (p q : E36) : Bool :=
  let lo := min p.x q.x
  decide (p.m * 2 ^ (p.x - lo).toNat < q.m * 2 ^ (q.x - lo).toNat)

/-- The largest magnitude of a list; it has met what each of them has. -/
def maxAbs (l : List E36) : E36 :=
  { l.foldl (fun m v => if lt m (abs v) then abs v else m) zero with range := l.any (fun v => v.range), sticky := l.any (fun v => v.sticky) }

def one : E36 := ⟨1, 0, false, false⟩

/-- A binary64 value to E36 (R313): a result outside the range of R8, or one that is no number, is written with e = 255, its fraction a
free value; true when it was. -/
def ofBinary64 (w : Nat) : Nat × Bool :=
  let e := bits w 52 11
  let f := bits w 0 52
  let s : Int := if w.testBit 63 then -1 else 1
  let out := (if w.testBit 63 then 2 ^ 35 else 0) + 255 * 2 ^ 27 + Config.e36Open w 36 % 2 ^ 27
  if e = 2047 then (out, true)
  else
    let m : Int := if e = 0 then (f : Int) else (2 ^ 52 + f : Nat)
    if m = 0 then (0, false)
    else
      let v := rnd1 (s * m) ((max e 1 : Nat) - 1075) false false
      if v.range then (out, true) else (code v, false)

end E36

end Sys2Proof.Machine
end

