-- ==== Sys2Proof/Machine/Solve.lean ====
section
/-! DEFINITION. The solver's numerics (R235 to R237, R244): factorisations with regularised pivots, solves, the Schur
complement, conjugate gradients. Every scalar operation is rounded once (R230), every sum of products is one dot (R231). Each part
returns the values it forms in their order, by column, so that the first range violation and a truncated product are found wherever
they come about (R231, R232); assumption log 22. -/

namespace Sys2Proof.Machine

abbrev EVec := List E36

def evAt (v : EVec) (i : Nat) : E36 := v.getD i E36.zero
def emAt (m : List EVec) (i j : Nat) : E36 := evAt (m.getD i []) j

/-- What the parts of an iteration met: (column, value) pairs of each phase in order, replaced pivots. -/
structure STrace where
  /-- Values by phase: 0 build, 1 F, 2 residual, 3 solve, 4 update. -/
  vals : List (Nat × Nat × E36)
  pivots : List Nat

def STrace.nil : STrace := ⟨[], []⟩
def STrace.join (a b : STrace) : STrace := ⟨a.vals ++ b.vals, a.pivots ++ b.pivots⟩
/-- The values of a vector, by index from `base`, in a phase. -/
def STrace.vec (phase base : Nat) (v : EVec) : STrace := ⟨(v.zip (List.range v.length)).map (fun e => (phase, base + e.2, e.1)), []⟩

/-- Values in order, each with its column, in a phase. -/
def STrace.cols (phase : Nat) (l : List (Nat × E36)) : STrace := ⟨l.map (fun e => (phase, e.1, e.2)), []⟩

/-- thr = rnd(τ × m), m taken as 1 when it is 0 (R236). -/
def pivotThr (tau : E36) (diag : EVec) : E36 :=
  let m := E36.maxAbs diag
  E36.mul tau (if m.m = 0 then { E36.one with range := m.range, sticky := m.sticky } else m)

/-- A pivot that was tested against the threshold has met what both have. -/
def tested (p d thr : E36) : E36 :=
  { p with range := p.range || d.range || thr.range, sticky := p.sticky || d.sticky || thr.sticky }

/-! ### CHOL (R236) -/

/-- Row `i` of L from the rows above. -/
def cholRow (rows : List EVec) (aij : Nat → E36) (thr : E36) (i : Nat) : EVec × Bool :=
  let off := (List.range i).foldl (fun (acc : EVec) j =>
    acc ++ [E36.dotDiv (aij j) (acc.zip (rows.getD j [])) (emAt rows j j)]) []
  let d := E36.dotSub (aij i) (off.zip off)
  let small := E36.lt d thr
  (off ++ [tested (E36.sqrt (if small then thr else d)) d thr], small)

/-- L by rows and the columns replaced. -/
def chol (n : Nat) (a : Nat → Nat → E36) (tau : E36) : List EVec × List Nat :=
  let thr := pivotThr tau ((List.range n).map (fun i => a i i))
  (List.range n).foldl (fun (r : List EVec × List Nat) i =>
    let row := cholRow r.1 (a i) thr i
    (r.1 ++ [row.1], if row.2 then r.2 ++ [i] else r.2)) ([], [])

/-- A triangular factor column by column, from rows of lengths 1, 2, … (R236), and its replaced columns. -/
def STrace.factor (phase base : Nat) (l : List EVec) (pivots : List Nat) : STrace :=
  ⟨(List.range l.length).flatMap (fun j => (l.drop j).map (fun r => (phase, base + j, evAt r j))), pivots.map (base + ·)⟩

/-- Solve L Lᵀ x = b. -/
def cholSolve (l : List EVec) (b : EVec) : EVec × STrace :=
  let n := l.length
  let y := (List.range n).foldl (fun (acc : EVec) i => acc ++ [E36.dotDiv (evAt b i) (acc.zip (l.getD i [])) (emAt l i i)]) []
  let x := (List.range n).foldl (fun (acc : EVec) k =>
    let i := n - 1 - k
    let col := (List.range k).map (fun t => emAt l (i + 1 + t) i)
    E36.dotDiv (evAt y i) (col.zip acc) (emAt l i i) :: acc) []
  (x, (STrace.vec 3 0 y).join (STrace.vec 3 0 x))

/-! ### LDLT and QR (R237) -/

/-- A pivot below the threshold is replaced by it, with the pivot's sign (+ at 0). -/
def signedPivot (d thr : E36) : E36 × Bool :=
  let small := E36.lt (E36.abs d) thr
  (tested (if small then (if d.m < 0 then E36.neg thr else thr) else d) d thr, small)

/-- L by rows without its unit diagonal, D, and replaced columns. -/
def ldlt (n : Nat) (a : Nat → Nat → E36) (tau : E36) : List EVec × EVec × List Nat :=
  let thr := pivotThr tau ((List.range n).map (fun i => a i i))
  (List.range n).foldl (fun (r : List EVec × EVec × List Nat) i =>
    let off := (List.range i).foldl (fun (acc : EVec) j =>
      let u := ((r.1.getD j []).zip r.2.1).map (fun e => E36.mul e.1 e.2)
      acc ++ [E36.dotDiv (a i j) (acc.zip u) (evAt r.2.1 j)]) []
    let u := (off.zip r.2.1).map (fun e => E36.mul e.1 e.2)
    let p := signedPivot (E36.dotSub (a i i) (off.zip u)) thr
    (r.1 ++ [off], r.2.1 ++ [p.1], if p.2 then r.2.2 ++ [i] else r.2.2)) ([], [], [])

/-- What LDLT formed, column by column: d_j, then each l_ij and l_ij × d_j below it. -/
def STrace.ldlt (f : List EVec × EVec × List Nat) : STrace :=
  (STrace.cols 1 ((f.2.1.zip (List.range f.2.1.length)).flatMap (fun e =>
    (e.2, e.1) :: (f.1.drop (e.2 + 1)).flatMap (fun row => [(e.2, evAt row e.2), (e.2, E36.mul (evAt row e.2) e.1)])))).join
    ⟨[], f.2.2⟩

def ldltSolve (l : List EVec) (d : EVec) (b : EVec) : EVec × STrace :=
  let n := l.length
  let y := (List.range n).foldl (fun (acc : EVec) i => acc ++ [E36.dotSub (evAt b i) (acc.zip (l.getD i []))]) []
  let z := (y.zip d).map (fun e => E36.div e.1 e.2)
  let x := (List.range n).foldl (fun (acc : EVec) k =>
    let i := n - 1 - k
    let col := (List.range k).map (fun t => emAt l (i + 1 + t) i)
    E36.dotSub (evAt z i) (col.zip acc) :: acc) []
  (x, ((STrace.vec 3 0 y).join (STrace.vec 3 0 z)).join (STrace.vec 3 0 x))

/-- A Householder reflector of column `j`: v, and the pivot −sign(a_jj) × norm. -/
structure Reflector where
  j : Nat
  v : EVec
  vv : E36

/-- Apply a reflector to a column: c − v × (2 vᵀc ÷ vᵀv). -/
def Reflector.apply (h : Reflector) (c : EVec) : EVec :=
  if h.vv.m = 0 then c
  else
    let tail := c.drop h.j
    let two : E36 := ⟨2, 0, false, false⟩
    let s := E36.quot (E36.acc E36.zero (h.v.zip (tail.map (fun e => E36.mul two e)))) h.vv
    c.take h.j ++ (tail.zip h.v).map (fun e => E36.dotSub e.1 [(s, e.2)])

/-- A QR factorisation in progress: R by columns, the reflectors, replaced columns, the values formed. -/
structure QrFac where
  cols : List EVec
  hs : List Reflector
  pivots : List Nat
  seen : List (Nat × E36)

/-- The norm of a column, its square an exact dot (R237). -/
def colNorm (c : EVec) : E36 := E36.sqrt (E36.dot E36.zero (c.zip c))

/-- Column `j` of QR (R237). -/
def qrCol (m n : Nat) (thr : E36) (f : QrFac) (j : Nat) : QrFac :=
  let tail := (f.cols.getD j []).drop j
  let nm := colNorm tail
  let p := if (evAt tail 0).m < 0 then nm else E36.neg nm
  let v := match tail with
    | [] => []
    | h :: t => E36.sub h p :: t
  let h : Reflector := ⟨j, v, E36.dot E36.zero (v.zip v)⟩
  let pv := signedPivot p thr
  let cols := (f.cols.zip (List.range n)).map (fun e =>
    if e.2 < j then e.1
    else if e.2 = j then e.1.take j ++ [pv.1] ++ List.replicate (m - j - 1) E36.zero
    else h.apply e.1)
  let after := ((cols.drop (j + 1)).zip (List.range n)).flatMap (fun e => (e.1.drop j).map (fun v => (j + 1 + e.2, v)))
  ⟨cols, f.hs ++ [h], if pv.2 then f.pivots ++ [j] else f.pivots,
    f.seen ++ [(j, nm)] ++ v.map (fun x => (j, x)) ++ [(j, h.vv), (j, pv.1)] ++ after⟩

/-- R by columns, the reflectors, replaced columns, the values formed. -/
def qr (m n : Nat) (a : Nat → Nat → E36) (tau : E36) : QrFac :=
  let cols := (List.range n).map (fun j => (List.range m).map (fun i => a i j))
  let norms := cols.map colNorm
  (List.range n).foldl (qrCol m n (pivotThr tau norms)) ⟨cols, [], [], (List.range n).zip norms⟩

def qrSolve (r : List EVec) (hs : List Reflector) (b : EVec) : EVec × STrace :=
  let n := r.length
  let c := hs.foldl (fun v h => h.apply v) b
  let x := (List.range n).foldl (fun (acc : EVec) k =>
    let i := n - 1 - k
    let row := (List.range k).map (fun t => emAt r (i + 1 + t) i)
    E36.dotDiv (evAt c i) (row.zip acc) (emAt r i i) :: acc) []
  (x, (STrace.vec 3 0 c).join (STrace.vec 3 0 x))

/-! ### PCG -/

/-- The vectors of the conjugate-gradient loop: d, residual, direction and its product, and the values formed. -/
structure CgState where
  d : EVec
  r : EVec
  p : EVec
  rho : E36
  seen : List (Nat × E36)

def edot (p q : EVec) : E36 := E36.dot E36.zero (p.zip q)
/-- q + al × p. -/
def axpy (al : E36) (p q : EVec) : EVec := (p.zip q).map (fun e => E36.dot e.2 [(al, e.1)])
def indexed {α : Type} (v : List α) : List (Nat × α) := (List.range v.length).zip v

/-- The block-Jacobi preconditioner (6 × 6 factors): z, and the values formed. -/
def precond (pre : List (List EVec)) (r : EVec) : EVec × List (Nat × E36) :=
  let parts := (pre.zip (List.range pre.length)).map (fun e => (e.2, cholSolve e.1 ((r.drop (6 * e.2)).take 6)))
  (parts.flatMap (fun e => e.2.1), parts.flatMap (fun e => e.2.2.vals.map (fun v => (6 * e.1 + v.2.1, v.2.2))))

/-- One inner iteration; a scalar counts under column 0. -/
def cgStep (rows : List EVec) (pre : List (List EVec)) (c : CgState) : CgState :=
  let q := rows.map (fun row => edot row c.p)
  let pq := edot c.p q
  let al := E36.quot (E36.acc c.rho []) pq
  let d := axpy al c.p c.d
  let r := axpy (E36.neg al) q c.r
  let z := precond pre r
  let rho := edot r z.1
  let be := E36.quot (E36.acc rho []) c.rho
  ⟨d, r, axpy be c.p z.1, rho, c.seen ++ indexed q ++ [(0, pq), (0, al)] ++ indexed d ++ indexed r ++ z.2 ++ [(0, rho), (0, be)]⟩

/-- INNER conjugate-gradient iterations for A d = r: d, and the values formed. -/
def pcg (rows : List EVec) (pre : List (List EVec)) (r0 : EVec) (inner : Nat) : EVec × STrace :=
  let z0 := precond pre r0
  let rho := edot r0 z0.1
  let out := (List.range inner).foldl (fun c _ => cgStep rows pre c) ⟨r0.map (fun _ => E36.zero), r0, z0.1, rho, z0.2 ++ [(0, rho)]⟩
  (out.d, STrace.cols 3 out.seen)

/-! ### SCHUR -/

/-- An observation record (Table 11.5). -/
structure SObs where
  landmark : Nat
  camera : Nat
  r : EVec
  w : EVec
  jl : List EVec
  jc : List EVec

namespace SObs
/-- J_l's column `a` and J_c's column `a`. -/
def colL (o : SObs) (a : Nat) : EVec := o.jl.map (fun row => evAt row a)
def colC (o : SObs) (a : Nat) : EVec := o.jc.map (fun row => evAt row a)
def weighted (o : SObs) (v : EVec) : EVec := (o.w.zip v).map (fun e => E36.mul e.1 e.2)
/-- Products of two columns with the weights. -/
def prods (o : SObs) (p q : EVec) : List (E36 × E36) := p.zip (o.weighted q)
end SObs

/-- Outcome of a Schur iteration: camera part, landmark part, what build and factor met, what the solve met. -/
structure SchurOut where
  dc : EVec
  dl : EVec
  built : STrace
  solved : STrace

/-- S = H_cc − Σ W H_lc, rhs = −g_c + Σ W g_l, S δ_c = rhs, δ_l = H_ll⁻¹ (−g_l − H_lc δ_c) (R235). `prior` gives the
camera-state prior's matrix entries, `priorB` what it adds to −g. -/
def schur (n block lands : Nat) (obs : List SObs) (prior : Nat → Nat → E36) (priorB : Nat → E36) (tau : E36) : SchurOut :=
  let of := fun (l : Nat) => obs.filter (fun o => o.landmark == l)
  let hll := fun (l a b : Nat) => E36.dot E36.zero ((of l).flatMap (fun o => o.prods (o.colL a) (o.colL b)))
  let gl := fun (l a : Nat) => E36.dot E36.zero ((of l).flatMap (fun o => o.prods (o.colL a) o.r))
  let land := (List.range lands).map (fun l =>
    let m := (List.range 3).map (fun a => (List.range 3).map (fun b => hll l a b))
    let f := chol 3 (fun i j => emAt m i j) tau
    let inv := (List.range 3).map (fun c => cholSolve f.1 ((List.range 3).map (fun i => if i = c then E36.one else E36.zero)))
    let g := (List.range 3).map (gl l)
    let col := fun (k : Nat) => n + 3 * l + k
    let seen : STrace := ((STrace.cols 0 ((m.map indexed).flatten.map (fun e => (col e.1, e.2)))).join
      (STrace.factor 0 (col 0) f.1 f.2)).join ((STrace.cols 0 ((inv.zip (List.range 3)).flatMap (fun e =>
        e.1.2.vals.map (fun v => (col e.2, v.2.2))))).join (STrace.vec 0 (col 0) g))
    (seen, inv.map (fun e => e.1), g))
  let invAt := fun (l i j : Nat) => match land[l]? with | some e => emAt e.2.1 j i | none => E36.zero
  let glAt := fun (l i : Nat) => match land[l]? with | some e => evAt e.2.2 i | none => E36.zero
  let parts := obs.map (fun o =>
    let hcl := (List.range block).map (fun a => (List.range 3).map (fun b => E36.dot E36.zero (o.prods (o.colC a) (o.colL b))))
    let w := hcl.map (fun row => (List.range 3).map (fun j =>
      E36.dot E36.zero ((List.range 3).map (fun k => (evAt row k, invAt o.landmark k j)))))
    (o, hcl, w))
  let camOf := fun (i : Nat) => i / block
  let hcc := fun (i j : Nat) =>
    E36.dot (prior i j) (if camOf i = camOf j then
      (obs.filter (fun o => o.camera == camOf i)).flatMap (fun o => o.prods (o.colC (i % block)) (o.colC (j % block))) else [])
  let sAt := fun (i j : Nat) =>
    let ps := (parts.filter (fun p => p.1.camera == camOf i)).flatMap (fun p =>
      (parts.filter (fun q => q.1.camera == camOf j && q.1.landmark == p.1.landmark)).flatMap (fun q =>
        (List.range 3).map (fun k => (emAt p.2.2 (i % block) k, emAt q.2.1 (j % block) k))))
    E36.dotSub (hcc i j) ps
  let smat := (List.range n).map (fun i => (List.range (i + 1)).map (fun j => sAt i j))
  let gc := fun (i : Nat) => E36.dot (E36.neg (priorB i)) ((obs.filter (fun o => o.camera == camOf i)).flatMap (fun o =>
    o.prods (o.colC (i % block)) o.r))
  let rhs := (List.range n).map (fun i =>
    E36.dot (E36.neg (gc i)) ((parts.filter (fun p => p.1.camera == camOf i)).flatMap (fun p =>
      (List.range 3).map (fun k => (emAt p.2.2 (i % block) k, glAt p.1.landmark k)))))
  let f := chol n (fun i j => emAt smat i j) tau
  let sol := cholSolve f.1 rhs
  let ts := (List.range lands).map (fun l => (List.range 3).map (fun a =>
    E36.dotSub (E36.neg (glAt l a)) ((parts.filter (fun p => p.1.landmark == l)).flatMap (fun p =>
      (List.range block).map (fun k => (emAt p.2.1 k a, evAt sol.1 (block * p.1.camera + k)))))))
  let dl := (ts.zip (List.range lands)).flatMap (fun e =>
    (List.range 3).map (fun a => E36.dot E36.zero ((List.range 3).map (fun k => (invAt e.2 a k, evAt e.1 k)))))
  let tl := land.foldl (fun (t : STrace) e => t.join e.1) STrace.nil
  let tw := STrace.cols 0 (parts.flatMap (fun p => ((p.2.1.zip p.2.2).zip (List.range block)).flatMap (fun e =>
    (e.1.1 ++ e.1.2).map (fun v => (block * p.1.camera + e.2, v)))))
  let tb := (smat.foldl (fun (t : STrace) e => t.join (STrace.vec 0 0 e)) STrace.nil).join (STrace.vec 0 0 rhs)
  ⟨sol.1, dl, ((tl.join tw).join tb).join (STrace.factor 1 0 f.1 f.2),
    (sol.2.join (STrace.vec 3 n ts.flatten)).join (STrace.vec 3 n dl)⟩

end Sys2Proof.Machine
end

