-- ==== Sys2Proof/Machine/Image.lean ====
section
/-! DEFINITION. Route images as data: the header (Table 2.1) and the stage descriptors (Table 2.2). -/

namespace Sys2Proof.Machine

/-! ### The Route image header (Table 2.1) -/
namespace Img
def stageCount (m : List Byte) : Nat := leAt m 6 2
def basePeriod (m : List Byte) : Nat := leAt m 8 4
def stride (m : List Byte) : Nat := leAt m 12 1
def phase (m : List Byte) : Nat := leAt m 13 1
def commitLag (m : List Byte) : Nat := leAt m 14 1
def estimator (m : List Byte) : Bool := (leAt m 15 1).testBit 0
def signed (m : List Byte) : Bool := (leAt m 15 1).testBit 1
def trigClaim (m : List Byte) : Nat := leAt m 16 1
def trigOffset (m : List Byte) (n : Nat) : Nat := leAt m (20 + 4 * n) 4
def allocCyc (m : List Byte) (c : Nat) : Nat := leAt m (52 + 12 * c) 8
def allocTok (m : List Byte) (c : Nat) : Nat := leAt m (60 + 12 * c) 4
def imageLen (m : List Byte) : Nat := leAt m 196 4
/-- The Route's period STRIDE × P. -/
def period (m : List Byte) : Nat := stride m * basePeriod m
/-- Stage descriptor `k`: 64 bytes. -/
def desc (m : List Byte) (k : Nat) : List Byte := (m.drop (256 + 64 * k)).take 64
end Img

/-! ### Stage descriptors (Table 2.2) -/
namespace Sd
def layer (d : List Byte) : Nat := leAt d 0 2
def operator (d : List Byte) : Nat := leAt d 2 2
def cls (d : List Byte) : Nat := leAt d 4 1
def flags (d : List Byte) : Nat := leAt d 5 1
def unitMask (d : List Byte) : Nat := leAt d 8 8
def start (d : List Byte) : Nat := leAt d 16 4
def deadline (d : List Byte) : Nat := leAt d 20 4
def cycLimit (d : List Byte) : Nat := leAt d 24 4
def tokLimit (d : List Byte) : Nat := leAt d 28 4
def tidy (d : List Byte) : Nat := leAt d 32 2
def inputCount (d : List Byte) : Nat := leAt d 34 2
def inputList (d : List Byte) : Nat := leAt d 36 4
def freewheelStage (d : List Byte) : Nat := leAt d 40 4
def program (d : List Byte) : Nat := leAt d 44 4
end Sd

/-- Input flag `i` of a descriptor: Route flag index (16-bit entries, assumption log 14). -/
def inputFlag (image d : List Byte) (i : Nat) : Nat := leAt image (Sd.inputList d + 2 * i) 2

/-- The Route flag indices a stage consumes: the INPUT_LIST of descriptor `k`. -/
def inputFlags (image : List Byte) (k : Nat) : List Nat :=
  let d := Img.desc image k
  (List.range (Sd.inputCount d)).map (inputFlag image d)

/-- The Route flag indices of the weight tiles a stage declares (R53): the WT_LIST of a matrix stage's program (Table 13.3); a stage of
another class may list a resident object among its weight tiles too (R338), and no field of its program holds that list: `others`
(assumption log 14). -/
def weightFlags (image d : List Byte) (others : List Nat) : List Nat :=
  if Sd.cls d = 5 then
    let o := Sd.program d
    (List.range (leAt image (o + 2) 2)).map (fun k => leAt image (leAt image (o + 4) 4 + 2 * k) 2)
  else others

end Sys2Proof.Machine
end

