-- ==== Sys2Proof/Machine/RegTable.lean ====
section
/-! DEFINITION. The register map of BAR0: one row per register (or register array) of the register index
tables of the spec (Tables 2.7, 3.1, 4.9, 4.12, 5.12, 6.10, 7.8, 8.9, 9.11, 10.9, 11.9, 12.13, 13.7, 14.4,
15.13, 16.9, 17.10, 18.15, 19.7, 20.3, 20.6) with its field maps' access codes (R11) as bit masks and its reset
value (R14), and the BAR0 offset of each register under its own name (R451). -/

namespace Sys2Proof.Machine

/-- One row of a register index table: `n1 × n2` registers at `base + s1·i + s2·j`, the reset value, and the
bits of each access code (Table 0.7); a bit in none of them is RSV. -/
structure RegRow where
  name : String
  base : Nat
  n1 : Nat
  s1 : Nat
  n2 : Nat
  s2 : Nat
  rst : Nat
  rw : Nat
  ro : Nat
  w1c : Nat
  w1s : Nat
  rc : Nat
  wo : Nat
  deriving DecidableEq, Repr

/-- A single register. -/
def regOne (name : String) (base rst rw ro w1c w1s rc wo : Nat) : RegRow :=
  ⟨name, base, 1, 4, 1, 4, rst, rw, ro, w1c, w1s, rc, wo⟩
/-- An array of registers. -/
def regArr (name : String) (base n s rst rw ro w1c w1s rc wo : Nat) : RegRow :=
  ⟨name, base, n, s, 1, 4, rst, rw, ro, w1c, w1s, rc, wo⟩

namespace Reg
def CCU_CTRL : Nat := 0x100000
def CCU_STATUS : Nat := 0x100004
def CCU_CADENCE_PERIOD : Nat := 0x100008
def CCU_CADENCE_ANCHOR_LO : Nat := 0x100010
def CCU_CADENCE_ANCHOR_HI : Nat := 0x100014
def CCU_CADENCE_COUNT_LO : Nat := 0x100018
def CCU_CADENCE_COUNT_HI : Nat := 0x10001C
def CCU_BOUNDARY_TIME_LO : Nat := 0x100020
def CCU_BOUNDARY_TIME_HI : Nat := 0x100024
def CCU_DRAM_PLAN : Nat := 0x100028
def CCU_WALL_COUNT : Nat := 0x10002C
def CCU_TRIG_CTRL (n : Nat) : Nat := 0x100040 + 4 * n
def CCU_TRIG_OFFSET (n : Nat) : Nat := 0x100060 + 4 * n
def CCU_ROUTE_STATE (n : Nat) : Nat := 0x100080 + 4 * n
def CCU_CLASS_STAT (c : Nat) : Nat := 0x100100 + 16 * c
def CCU_CLASS_FREE_CYC (c : Nat) : Nat := 0x100104 + 16 * c
def CCU_CLASS_FREE_TOK (c : Nat) : Nat := 0x100108 + 16 * c
def CCU_CLASS_USED_TOK (c : Nat) : Nat := 0x10010C + 16 * c
def HIF_RING_CTRL : Nat := 0x100
def HIF_RING_STATUS : Nat := 0x104
def HIF_CMD_BASE_LO : Nat := 0x108
def HIF_CMD_BASE_HI : Nat := 0x10C
def HIF_CMD_SIZE : Nat := 0x110
def HIF_CMD_TAIL : Nat := 0x114
def HIF_CMD_HEAD : Nat := 0x118
def HIF_RPL_BASE_LO : Nat := 0x120
def HIF_RPL_BASE_HI : Nat := 0x124
def HIF_RPL_SIZE : Nat := 0x128
def HIF_RPL_HEAD : Nat := 0x12C
def HIF_RPL_TAIL : Nat := 0x130
def HIF_RPL_SHADOW_LO : Nat := 0x138
def HIF_RPL_SHADOW_HI : Nat := 0x13C
def HIF_NEXT_HSEQ : Nat := 0x140
def HIF_LAST_DSEQ : Nat := 0x144
def HIF_OLDEST_DSEQ : Nat := 0x148
def HIF_CONTEXT : Nat := 0x14C
def HIF_IRQ_HOLDOFF : Nat := 0x150
def TIM_CTRL : Nat := 0x200000
def TIM_STATUS : Nat := 0x200004
def TIM_RAW_LO : Nat := 0x200008
def TIM_RAW_HI : Nat := 0x20000C
def TIM_DISC_LO : Nat := 0x200010
def TIM_DISC_HI : Nat := 0x200014
def TIM_OFFSET_LO : Nat := 0x200018
def TIM_OFFSET_HI : Nat := 0x20001C
def TIM_RATE : Nat := 0x200020
def TIM_SLEW_RATE : Nat := 0x200024
def TIM_SLEW_REMAIN : Nat := 0x200028
def TIM_STEP_THRESH : Nat := 0x20002C
def TIM_OFFSET_EST : Nat := 0x200030
def TIM_PATH_DELAY : Nat := 0x200034
def TIM_UTC_OFFSET : Nat := 0x200038
def TIM_LOCK_THRESH : Nat := 0x20003C
def TIM_TSC_TX (p m : Nat) : Nat := 0x200200 + 64 * p + 8 * m
def TIM_TSC_RX (p m : Nat) : Nat := 0x200204 + 64 * p + 8 * m
def NET_PORT_CTRL (p : Nat) : Nat := 0x300000 + 64 * p
def NET_PORT_STATUS (p : Nat) : Nat := 0x300004 + 64 * p
def NET_PORT_MAC_LO (p : Nat) : Nat := 0x300008 + 64 * p
def NET_PORT_MAC_HI (p : Nat) : Nat := 0x30000C + 64 * p
def NET_PORT_IPV4 (p : Nat) : Nat := 0x300010 + 64 * p
def ING_CSI_CTRL (p : Nat) : Nat := 0x400000 + 32 * p
def ING_CSI_STATUS (p : Nat) : Nat := 0x400004 + 32 * p
def ING_CSI_RATE (p : Nat) : Nat := 0x400008 + 32 * p
def ING_CLK_CTRL : Nat := 0x400100
def ING_SDM_STUCK : Nat := 0x400104
def ING_PDM_STUCK : Nat := 0x400108
def ING_ENC_COUNT (n : Nat) : Nat := 0x400140 + 4 * n
def DEC_STATUS : Nat := 0x500000
def DEC_CH_STATUS (c : Nat) : Nat := 0x500100 + 8 * c
def DEC_CH_GD (c : Nat) : Nat := 0x500104 + 8 * c
def DEC_BANK_CENTRE (b : Nat) : Nat := 0x500400 + 4 * b
def DEC_COEF (b i : Nat) : Nat := 0x510000 + 4096 * b + 4 * i
def VIS_STATUS : Nat := 0x600000
def VIS_STRM_STATUS (s : Nat) : Nat := 0x600100 + 32 * s
def VIS_STRM_GRID_LO (s : Nat) : Nat := 0x600104 + 32 * s
def VIS_STRM_GRID_HI (s : Nat) : Nat := 0x600108 + 32 * s
def VIS_STRM_GRID_CTRL (s : Nat) : Nat := 0x60010C + 32 * s
def VIS_STRM_GRID_CRC (s : Nat) : Nat := 0x600110 + 32 * s
def VIS_STRM_LAST_CAD_LO (s : Nat) : Nat := 0x600114 + 32 * s
def VIS_STRM_LAST_CAD_HI (s : Nat) : Nat := 0x600118 + 32 * s
def VIS_STRM_LAST_COUNT (s : Nat) : Nat := 0x60011C + 32 * s
def FST_STATUS : Nat := 0x700000
def FST_FLOW_STATUS (s : Nat) : Nat := 0x700100 + 16 * s
def FST_FLOW_LAST (s : Nat) : Nat := 0x700104 + 16 * s
def FST_FLOW_REF_CAD_LO (s : Nat) : Nat := 0x700108 + 16 * s
def FST_FLOW_REF_CAD_HI (s : Nat) : Nat := 0x70010C + 16 * s
def FST_PAIR_STATUS (q : Nat) : Nat := 0x700200 + 16 * q
def FST_PAIR_VALID (q : Nat) : Nat := 0x700204 + 16 * q
def FST_PAIR_LAST_CAD_LO (q : Nat) : Nat := 0x700208 + 16 * q
def FST_PAIR_LAST_CAD_HI (q : Nat) : Nat := 0x70020C + 16 * q
def FUS_STATUS : Nat := 0x800000
def FUS_CTX_STATUS (f : Nat) : Nat := 0x800100 + 32 * f
def FUS_CTX_WIN_START_LO (f : Nat) : Nat := 0x800104 + 32 * f
def FUS_CTX_WIN_START_HI (f : Nat) : Nat := 0x800108 + 32 * f
def FUS_CTX_LAST_TIME_LO (f : Nat) : Nat := 0x80010C + 32 * f
def FUS_CTX_LAST_TIME_HI (f : Nat) : Nat := 0x800110 + 32 * f
def FUS_CTX_LATE (f : Nat) : Nat := 0x800114 + 32 * f
def FUS_VOTE (n : Nat) : Nat := 0x800400 + 4 * n
def FPP_CTRL : Nat := 0x900000
def FPP_STATUS : Nat := 0x900004
def FPP_AXIS (a : Nat) : Nat := 0x900010 + 8 * a
def FPP_SCALE (a : Nat) : Nat := 0x900014 + 8 * a
def FPP_GRAVITY_Z : Nat := 0x900040
def FPP_SKEW_MAX : Nat := 0x900044
def FPP_GAP_MAX : Nat := 0x900048
def FPP_REPLAY_LEAD : Nat := 0x90004C
def FPP_SEED_LO : Nat := 0x900050
def FPP_SEED_HI : Nat := 0x900054
def FPP_WIN_ADDR : Nat := 0x900058
def FPP_RING_CTRL : Nat := 0x900060
def FPP_RING_STATUS : Nat := 0x900064
def FPP_RING_BASE_LO : Nat := 0x900068
def FPP_RING_BASE_HI : Nat := 0x90006C
def FPP_RING_SIZE : Nat := 0x900070
def FPP_RING_HEAD : Nat := 0x900074
def FPP_RING_TAIL : Nat := 0x900078
def FPP_RING_SHADOW_LO : Nat := 0x90007C
def FPP_RING_SHADOW_HI : Nat := 0x900080
def FPP_EPOCH_OPEN : Nat := 0x900090
def FPP_COMMIT_EPOCH : Nat := 0x900094
def FPP_COMMIT_GEN : Nat := 0x900098
def FPP_SEQ_LO : Nat := 0x90009C
def FPP_SEQ_HI : Nat := 0x9000A0
def BSU_STATUS : Nat := 0xA00000
def BSU_LANE_BUSY_LO : Nat := 0xA00008
def BSU_LANE_BUSY_HI : Nat := 0xA0000C
def BSU_CH_CFG (c : Nat) : Nat := 0xA00100 + 32 * c
def BSU_CH_TAU_LO (c : Nat) : Nat := 0xA00104 + 32 * c
def BSU_CH_TAU_HI (c : Nat) : Nat := 0xA00108 + 32 * c
def BSU_CH_DEADLINE (c : Nat) : Nat := 0xA0010C + 32 * c
def BSU_CH_STATUS (c : Nat) : Nat := 0xA00110 + 32 * c
def BSU_CH_SIG (c : Nat) : Nat := 0xA00114 + 32 * c
def BSU_CH_LAST (c : Nat) : Nat := 0xA00118 + 32 * c
def MAP_CTRL : Nat := 0xB00000
def MAP_STATUS : Nat := 0xB00004
def MAP_STORE_BASE_LO : Nat := 0xB00010
def MAP_STORE_BASE_HI : Nat := 0xB00014
def MAP_DIR_BASE_LO : Nat := 0xB00018
def MAP_DIR_BASE_HI : Nat := 0xB0001C
def MAP_KF_BASE_LO : Nat := 0xB00020
def MAP_KF_BASE_HI : Nat := 0xB00024
def MAP_DESC_BASE_LO : Nat := 0xB00028
def MAP_DESC_BASE_HI : Nat := 0xB0002C
def MAP_EDGE_BASE_LO : Nat := 0xB00030
def MAP_EDGE_BASE_HI : Nat := 0xB00034
def MAP_ARC_BASE_LO : Nat := 0xB00038
def MAP_ARC_BASE_HI : Nat := 0xB0003C
def MAP_ARC_SLOTS : Nat := 0xB00040
def MAP_STORE_USED : Nat := 0xB00044
def MAP_ARC_USED : Nat := 0xB00048
def MAP_FRAMES_USED : Nat := 0xB0004C
def MAP_KF_LIVE : Nat := 0xB00050
def MAP_EDGES_LIVE : Nat := 0xB00054
def MAP_LAST_COMMIT : Nat := 0xB00058
def MAP_LAST_SQUASH : Nat := 0xB0005C
def MAP_Q_STATE (q : Nat) : Nat := 0xB00100 + 4 * q
def MXA_STATUS : Nat := 0xC00000
def MXA_ARR_STATUS (a : Nat) : Nat := 0xC00100 + 32 * a
def MXA_ARR_CUR (a : Nat) : Nat := 0xC00104 + 32 * a
def MXA_ARR_LAST_CAD_LO (a : Nat) : Nat := 0xC00108 + 32 * a
def MXA_ARR_LAST_CAD_HI (a : Nat) : Nat := 0xC0010C + 32 * a
def MXA_ARR_CUT_POS (a : Nat) : Nat := 0xC00110 + 32 * a
def GCR_STAGE_LO : Nat := 0xD00000
def GCR_STAGE_HI : Nat := 0xD00004
def GCR_TRAP_LO : Nat := 0xD00008
def GCR_TRAP_HI : Nat := 0xD0000C
def GCR_FAULT_LO : Nat := 0xD00010
def GCR_FAULT_HI : Nat := 0xD00014
def GCR_CORE_STATUS (n : Nat) : Nat := 0xD00100 + 16 * n
def GCR_CORE_CUR (n : Nat) : Nat := 0xD00104 + 16 * n
def GCR_CORE_PC (n : Nat) : Nat := 0xD00108 + 16 * n
def GCR_CORE_CHARGED (n : Nat) : Nat := 0xD0010C + 16 * n
def GCR_CTL_STATUS : Nat := 0xD00800
def GCR_CTL_PC (i : Nat) : Nat := 0xD00804 + 4 * i
def MEM_STATUS : Nat := 0xE00000
def MEM_WINDOW : Nat := 0xE00004
def MEM_OBJ_SEL : Nat := 0xE00010
def MEM_OBJ_HOME_LO : Nat := 0xE00014
def MEM_OBJ_HOME_HI : Nat := 0xE00018
def MEM_OBJ_STATE : Nat := 0xE0001C
def MEM_OBJ_COUNT : Nat := 0xE00020
def MEM_FLASH_STATUS : Nat := 0xE00040
def MEM_FLASH_ERASE_MEAN : Nat := 0xE00044
def MEM_FLASH_ERASE_MAX : Nat := 0xE00048
def MEM_FLASH_SPARE : Nat := 0xE0004C
def MEM_FLASH_WRITTEN_LO : Nat := 0xE00050
def MEM_FLASH_WRITTEN_HI : Nat := 0xE00054
def MEM_DRAM_STATUS (c : Nat) : Nat := 0xE00100 + 4 * c
def TDM_STATUS : Nat := 0xF00000
def TDM_CMP_CAD_LO : Nat := 0xF00004
def TDM_CMP_CAD_HI : Nat := 0xF00008
def TDM_DIV_CAD_LO : Nat := 0xF0000C
def TDM_DIV_CAD_HI : Nat := 0xF00010
def TDM_DIV_LANES : Nat := 0xF00014
def TDM_FWD_RATE : Nat := 0xF00018
def TDM_LINK_DELAY : Nat := 0xF0001C
def TDM_DIGEST_LO (l : Nat) : Nat := 0xF00020 + 8 * l
def TDM_DIGEST_HI (l : Nat) : Nat := 0xF00024 + 8 * l
def PEL_CTRL : Nat := 0xF00400
def PEL_STATUS : Nat := 0xF00404
def PEL_BARRIER_PERIOD : Nat := 0xF00408
def PEL_HOP : Nat := 0xF0040C
def PEL_LAST_BARRIER_LO : Nat := 0xF00410
def PEL_LAST_BARRIER_HI : Nat := 0xF00414
def PEL_PRESENT (w : Nat) : Nat := 0xF00420 + 4 * w
def PEL_SNAP_CAD_LO : Nat := 0xF00440
def PEL_SNAP_CAD_HI : Nat := 0xF00444
def PEL_SNAP_TIME_LO : Nat := 0xF00448
def PEL_SNAP_TIME_HI : Nat := 0xF0044C
def PEL_SNAP_SEQ_LO : Nat := 0xF00450
def PEL_SNAP_SEQ_HI : Nat := 0xF00454
def PEL_SNAP_COMMIT : Nat := 0xF00458
def MET_GW_STATUS : Nat := 0x1200000
def MET_IDENT_VERSION : Nat := 0x1200004
def MET_IDENT_CRC : Nat := 0x1200008
def MET_IDENT_STATE : Nat := 0x120000C
def MET_EVENT_COUNT : Nat := 0x1200010
def MET_PARAM_CRC : Nat := 0x1200014
def MET_SOURCE : Nat := 0x1200018
def MET_CONFIG_CRC : Nat := 0x120001C
def MET_FRAME_SEQ : Nat := 0x1200020
def MET_RESULT_COUNT : Nat := 0x1200024
def MET_STAGE_BASE_LO : Nat := 0x1200030
def MET_STAGE_BASE_HI : Nat := 0x1200034
def OBS_STATUS : Nat := 0x1000000
def OBS_TRC_WR_LO : Nat := 0x1000008
def OBS_TRC_WR_HI : Nat := 0x100000C
def OBS_ENG_SEL : Nat := 0x1000020
def OBS_ENG_LATCH : Nat := 0x1000024
def OBS_BRAKE_CTRL : Nat := 0x1000040
def OBS_BRAKE_STATUS : Nat := 0x1000044
def OBS_BRAKE_TIME_LO : Nat := 0x1000048
def OBS_BRAKE_TIME_HI : Nat := 0x100004C
def OBS_BRAKE_CAD_LO : Nat := 0x1000050
def OBS_BRAKE_CAD_HI : Nat := 0x1000054
def OBS_SCAN_CMD : Nat := 0x1000060
def OBS_SCAN_STATUS : Nat := 0x1000064
def OBS_SCAN_ADDR_LO : Nat := 0x1000068
def OBS_SCAN_ADDR_HI : Nat := 0x100006C
def OBS_SCAN_DATA (w : Nat) : Nat := 0x1000080 + 4 * w
def OBS_ENG_HOLD (w : Nat) : Nat := 0x1000200 + 4 * w
def CRB_START_STATUS : Nat := 0x1100100
def CRB_BOOT_STATUS : Nat := 0x1100104
def CRB_RESET_CAUSE : Nat := 0x1100108
def CRB_RESET_CTRL : Nat := 0x110010C
def CRB_SDM_DIV : Nat := 0x1100110
def CRB_PDM_DIV : Nat := 0x1100114
def CRB_CLK_STATUS : Nat := 0x1100118
def CRB_HOST_BOOT_LEN : Nat := 0x110011C
def CRB_HOST_BOOT_CTRL : Nat := 0x1100120
def CRB_TEMP : Nat := 0x1100124
def CRB_BOOT_DIGEST (w : Nat) : Nat := 0x1100140 + 4 * w
def CRB_FW_VERSION : Nat := 0x1100180
def CRB_BOOT_SVN : Nat := 0x1100184
def CRB_IDCODE : Nat := 0x1100000
def CRB_PART : Nat := 0x1100004
def CRB_REVISION : Nat := 0x1100008
def CRB_TJ : Nat := 0x110000C
def CRB_UID_LO : Nat := 0x1100010
def CRB_UID_HI : Nat := 0x1100014
def CRB_MEMCFG : Nat := 0x1100018
def CRB_UNITS : Nat := 0x110001C
def CRB_PCI_ID : Nat := 0x1100020
def CRB_PCI_SUBSYS : Nat := 0x1100024
def CRB_BAR_STATUS : Nat := 0x11000F0
def HIF_PCIE_STATUS : Nat := 0x0
def HIF_PCIE_ERR : Nat := 0x4
def HIF_DMA_STATUS (e : Nat) : Nat := 0x10 + 4 * e
def HIF_SCRATCH (k : Nat) : Nat := 0x40 + 4 * k
def HIF_XSPI_STATUS : Nat := 0x50
def HIF_MSIX_ADDR_LO (v : Nat) : Nat := 0x8000 + 16 * v
def HIF_MSIX_ADDR_HI (v : Nat) : Nat := 0x8004 + 16 * v
def HIF_MSIX_DATA (v : Nat) : Nat := 0x8008 + 16 * v
def HIF_MSIX_CTRL (v : Nat) : Nat := 0x800C + 16 * v
def HIF_MSIX_PBA_LO : Nat := 0x9000
def HIF_MSIX_PBA_HI : Nat := 0x9004
end Reg

/-- The registers of block HIF. -/
def rowsHif : List RegRow := [
  regOne "HIF_RING_CTRL" 0x100 0x0 0x3 0 0 0 0 0,
  regOne "HIF_RING_STATUS" 0x104 0x1 0 0xFF61 0x1E 0 0 0,
  regOne "HIF_CMD_BASE_LO" 0x108 0x0 0xFFFFFFC0 0 0 0 0 0,
  regOne "HIF_CMD_BASE_HI" 0x10C 0x0 0xFFFFFFFF 0 0 0 0 0,
  regOne "HIF_CMD_SIZE" 0x110 0x8 0x1F 0 0 0 0 0,
  regOne "HIF_CMD_TAIL" 0x114 0x0 0xFFFFFFFF 0 0 0 0 0,
  regOne "HIF_CMD_HEAD" 0x118 0x0 0 0xFFFFFFFF 0 0 0 0,
  regOne "HIF_RPL_BASE_LO" 0x120 0x0 0xFFFFFFC0 0 0 0 0 0,
  regOne "HIF_RPL_BASE_HI" 0x124 0x0 0xFFFFFFFF 0 0 0 0 0,
  regOne "HIF_RPL_SIZE" 0x128 0xA 0x1F 0 0 0 0 0,
  regOne "HIF_RPL_HEAD" 0x12C 0x0 0xFFFFFFFF 0 0 0 0 0,
  regOne "HIF_RPL_TAIL" 0x130 0x0 0 0xFFFFFFFF 0 0 0 0,
  regOne "HIF_RPL_SHADOW_LO" 0x138 0x0 0xFFFFFFFC 0 0 0 0 0,
  regOne "HIF_RPL_SHADOW_HI" 0x13C 0x0 0xFFFFFFFF 0 0 0 0 0,
  regOne "HIF_NEXT_HSEQ" 0x140 0x0 0 0xFFFFFFFF 0 0 0 0,
  regOne "HIF_LAST_DSEQ" 0x144 0x0 0 0xFFFFFFFF 0 0 0 0,
  regOne "HIF_OLDEST_DSEQ" 0x148 0x1 0 0xFFFFFFFF 0 0 0 0,
  regOne "HIF_CONTEXT" 0x14C 0x0 0 0xFFFF 0 0 0 0,
  regOne "HIF_IRQ_HOLDOFF" 0x150 0x0 0xFFFF 0 0 0 0 0,
  regOne "HIF_PCIE_STATUS" 0x0 0x0 0 0x1FFF 0 0 0 0,
  regOne "HIF_PCIE_ERR" 0x4 0x0 0 0 0x1F 0 0 0,
  regArr "HIF_DMA_STATUS" 0x10 4 4 0x0 0 0xFFFF0001 0x2 0 0 0,
  regArr "HIF_SCRATCH" 0x40 4 4 0x0 0xFFFFFFFF 0 0 0 0 0,
  regOne "HIF_XSPI_STATUS" 0x50 0x0 0 0xFF03 0 0 0 0,
  regArr "HIF_MSIX_ADDR_LO" 0x8000 64 16 0x0 0xFFFFFFFC 0 0 0 0 0,
  regArr "HIF_MSIX_ADDR_HI" 0x8004 64 16 0x0 0xFFFFFFFF 0 0 0 0 0,
  regArr "HIF_MSIX_DATA" 0x8008 64 16 0x0 0xFFFFFFFF 0 0 0 0 0,
  regArr "HIF_MSIX_CTRL" 0x800C 64 16 0x1 0x1 0 0 0 0 0,
  regOne "HIF_MSIX_PBA_LO" 0x9000 0x0 0 0xFFFFFFFF 0 0 0 0,
  regOne "HIF_MSIX_PBA_HI" 0x9004 0x0 0 0xFFFFFFFF 0 0 0 0]

/-- The registers of block CCU. -/
def rowsCcu : List RegRow := [
  regOne "CCU_CTRL" 0x100000 0x0 0x3 0 0 0 0 0,
  regOne "CCU_STATUS" 0x100004 0x0 0 0xFFFF03 0xC 0 0 0,
  regOne "CCU_CADENCE_PERIOD" 0x100008 0x1E84800 0xFFFFFFFF 0 0 0 0 0,
  regOne "CCU_CADENCE_ANCHOR_LO" 0x100010 0x0 0xFFFFFFFF 0 0 0 0 0,
  regOne "CCU_CADENCE_ANCHOR_HI" 0x100014 0x0 0xFFFFFFFF 0 0 0 0 0,
  regOne "CCU_CADENCE_COUNT_LO" 0x100018 0x0 0 0xFFFFFFFF 0 0 0 0,
  regOne "CCU_CADENCE_COUNT_HI" 0x10001C 0x0 0 0xFFFFFFFF 0 0 0 0,
  regOne "CCU_BOUNDARY_TIME_LO" 0x100020 0x0 0 0xFFFFFFFF 0 0 0 0,
  regOne "CCU_BOUNDARY_TIME_HI" 0x100024 0x0 0 0xFFFFFFFF 0 0 0 0,
  regOne "CCU_DRAM_PLAN" 0x100028 0x350 0x7F 0xFF00 0 0 0 0,
  regOne "CCU_WALL_COUNT" 0x10002C 0x0 0 0 0 0 0xFFFFFFFF 0,
  regArr "CCU_TRIG_CTRL" 0x100040 8 4 0x1F40000 0xFFFF0020 0x1F 0 0 0 0,
  regArr "CCU_TRIG_OFFSET" 0x100060 8 4 0x0 0 0xFFFFFFFF 0 0 0 0,
  regArr "CCU_ROUTE_STATE" 0x100080 16 4 0x0 0 0x1FF7FFF 0 0 0 0,
  regArr "CCU_CLASS_STAT" 0x100100 12 16 0 0 0x4 0x3 0 0 0,
  regArr "CCU_CLASS_FREE_CYC" 0x100104 12 16 0x0 0 0xFFFFFFFF 0 0 0 0,
  regArr "CCU_CLASS_FREE_TOK" 0x100108 12 16 0x0 0 0xFFFFFFFF 0 0 0 0,
  regArr "CCU_CLASS_USED_TOK" 0x10010C 12 16 0x0 0 0xFFFFFFFF 0 0 0 0]

/-- The registers of block TIM. -/
def rowsTim : List RegRow := [
  regOne "TIM_CTRL" 0x200000 0x3 0x3 0 0 0 0 0,
  regOne "TIM_STATUS" 0x200004 0x700 0 0x70B 0x14 0 0 0,
  regOne "TIM_RAW_LO" 0x200008 0x0 0 0xFFFFFFFF 0 0 0 0,
  regOne "TIM_RAW_HI" 0x20000C 0x0 0 0xFFFFFFFF 0 0 0 0,
  regOne "TIM_DISC_LO" 0x200010 0x0 0 0xFFFFFFFF 0 0 0 0,
  regOne "TIM_DISC_HI" 0x200014 0x0 0 0xFFFFFFFF 0 0 0 0,
  regOne "TIM_OFFSET_LO" 0x200018 0x0 0 0xFFFFFFFF 0 0 0 0,
  regOne "TIM_OFFSET_HI" 0x20001C 0x0 0 0xFFFFFFFF 0 0 0 0,
  regOne "TIM_RATE" 0x200020 0x0 0 0xFFFFFFFF 0 0 0 0,
  regOne "TIM_SLEW_RATE" 0x200024 0x68DB8BB 0xFFFFFFFF 0 0 0 0 0,
  regOne "TIM_SLEW_REMAIN" 0x200028 0x0 0 0xFFFFFFFF 0 0 0 0,
  regOne "TIM_STEP_THRESH" 0x20002C 0xC3500 0xFFFFFFFF 0 0 0 0 0,
  regOne "TIM_OFFSET_EST" 0x200030 0x0 0 0xFFFFFFFF 0 0 0 0,
  regOne "TIM_PATH_DELAY" 0x200034 0x0 0 0xFFFFFFFF 0 0 0 0,
  regOne "TIM_UTC_OFFSET" 0x200038 0x0 0 0x1FFFF 0 0 0 0,
  regOne "TIM_LOCK_THRESH" 0x20003C 0x64 0xFFFF 0 0 0 0 0,
  ⟨"TIM_TSC_TX", 0x200200, 4, 64, 6, 8, 0, 0xFFFFFFFF, 0, 0, 0, 0, 0⟩,
  ⟨"TIM_TSC_RX", 0x200204, 4, 64, 6, 8, 0, 0xFFFFFFFF, 0, 0, 0, 0, 0⟩]

/-- The registers of block NET. -/
def rowsNet : List RegRow := [
  regArr "NET_PORT_CTRL" 0x300000 4 64 0 0x3FFFFF 0 0 0 0 0,
  regArr "NET_PORT_STATUS" 0x300004 4 64 0x0 0 0x30F 0x30 0 0 0,
  regArr "NET_PORT_MAC_LO" 0x300008 4 64 0 0xFFFFFFFF 0 0 0 0 0,
  regArr "NET_PORT_MAC_HI" 0x30000C 4 64 0 0xFFFF 0 0 0 0 0,
  regArr "NET_PORT_IPV4" 0x300010 4 64 0x0 0xFFFFFFFF 0 0 0 0 0]

/-- The registers of block ING. -/
def rowsIng : List RegRow := [
  regArr "ING_CSI_CTRL" 0x400000 8 32 0xE404 0x1FFF0F 0 0 0 0 0,
  regArr "ING_CSI_STATUS" 0x400004 8 32 0x0 0 0xF07 0x78 0 0 0,
  regArr "ING_CSI_RATE" 0x400008 8 32 0x0 0 0xFFFFFFFF 0 0 0 0,
  regOne "ING_CLK_CTRL" 0x400100 0x0 0x3F 0 0x100 0 0 0,
  regOne "ING_SDM_STUCK" 0x400104 0x0 0 0xFFFFFF 0 0 0 0,
  regOne "ING_PDM_STUCK" 0x400108 0x0 0 0xFFFFFFFF 0 0 0 0,
  regArr "ING_ENC_COUNT" 0x400140 8 4 0x0 0 0xFFFFFFFF 0 0 0 0]

/-- The registers of block DEC. -/
def rowsDec : List RegRow := [
  regOne "DEC_STATUS" 0x500000 0x0 0 0xFFFF0000 0x1 0 0 0,
  regArr "DEC_CH_STATUS" 0x500100 56 8 0 0 0x1F07 0x8 0 0 0,
  regArr "DEC_CH_GD" 0x500104 56 8 0 0 0xFFFFFFFF 0 0 0 0,
  regArr "DEC_BANK_CENTRE" 0x500400 16 4 0x3F 0x7FF 0 0 0 0 0,
  ⟨"DEC_COEF", 0x510000, 16, 4096, 1024, 4, 0, 0x3FFFF, 0, 0, 0, 0, 0⟩]

/-- The registers of block VIS. -/
def rowsVis : List RegRow := [
  regOne "VIS_STATUS" 0x600000 0x0 0 0xF 0x10 0 0 0,
  regArr "VIS_STRM_STATUS" 0x600100 16 32 0xF00 0 0xF60 0x1F 0 0 0,
  regArr "VIS_STRM_GRID_LO" 0x600104 16 32 0x0 0xFFFFFFC0 0 0 0 0 0,
  regArr "VIS_STRM_GRID_HI" 0x600108 16 32 0x0 0xFFFF 0 0 0 0 0,
  regArr "VIS_STRM_GRID_CTRL" 0x60010C 16 32 0x0 0 0 0 0x3 0 0,
  regArr "VIS_STRM_GRID_CRC" 0x600110 16 32 0x0 0 0xFFFFFFFF 0 0 0 0,
  regArr "VIS_STRM_LAST_CAD_LO" 0x600114 16 32 0x0 0 0xFFFFFFFF 0 0 0 0,
  regArr "VIS_STRM_LAST_CAD_HI" 0x600118 16 32 0x0 0 0xFFFFFFFF 0 0 0 0,
  regArr "VIS_STRM_LAST_COUNT" 0x60011C 16 32 0x0 0 0xFFFF0FFF 0 0 0 0]

/-- The registers of block FST. -/
def rowsFst : List RegRow := [
  regOne "FST_STATUS" 0x700000 0x0 0 0x3 0 0 0 0,
  regArr "FST_FLOW_STATUS" 0x700100 16 16 0x0 0 0x30 0xF 0 0 0,
  regArr "FST_FLOW_LAST" 0x700104 16 16 0x0 0 0xFFF0FFF 0 0 0 0,
  regArr "FST_FLOW_REF_CAD_LO" 0x700108 16 16 0x0 0 0xFFFFFFFF 0 0 0 0,
  regArr "FST_FLOW_REF_CAD_HI" 0x70010C 16 16 0x0 0 0xFFFFFFFF 0 0 0 0,
  regArr "FST_PAIR_STATUS" 0x700200 8 16 0x0 0 0x8 0x7 0 0 0,
  regArr "FST_PAIR_VALID" 0x700204 8 16 0x0 0 0xFFFFFFFF 0 0 0 0,
  regArr "FST_PAIR_LAST_CAD_LO" 0x700208 8 16 0x0 0 0xFFFFFFFF 0 0 0 0,
  regArr "FST_PAIR_LAST_CAD_HI" 0x70020C 8 16 0x0 0 0xFFFFFFFF 0 0 0 0]

/-- The registers of block FUS. -/
def rowsFus : List RegRow := [
  regOne "FUS_STATUS" 0x800000 0x0 0 0x3 0 0 0 0,
  regArr "FUS_CTX_STATUS" 0x800100 8 32 0x0 0 0x1F20 0x1F 0 0 0,
  regArr "FUS_CTX_WIN_START_LO" 0x800104 8 32 0xFFFFFFFF 0xFFFFFFFF 0 0 0 0 0,
  regArr "FUS_CTX_WIN_START_HI" 0x800108 8 32 0xFFFFFFFF 0xFFFFFFFF 0 0 0 0 0,
  regArr "FUS_CTX_LAST_TIME_LO" 0x80010C 8 32 0x0 0 0xFFFFFFFF 0 0 0 0,
  regArr "FUS_CTX_LAST_TIME_HI" 0x800110 8 32 0x0 0 0xFFFFFFFF 0 0 0 0,
  regArr "FUS_CTX_LATE" 0x800114 8 32 0x0 0 0xFFFFFFFF 0 0 0 0,
  regArr "FUS_VOTE" 0x800400 88 4 0xA30000 0 0xFFFFFF3 0 0 0 0]

/-- The registers of block FPP. -/
def rowsFpp : List RegRow := [
  regOne "FPP_CTRL" 0x900000 0x0 0 0 0 0x1 0 0,
  regOne "FPP_STATUS" 0x900004 0x0 0 0x733 0xCC 0 0 0,
  regArr "FPP_AXIS" 0x900010 6 8 0 0x3F 0 0 0 0 0,
  regArr "FPP_SCALE" 0x900014 6 8 0x0 0xFFFFFFFF 0 0 0 0 0,
  regOne "FPP_GRAVITY_Z" 0x900040 0xF6317F63 0xFFFFFFFF 0 0 0 0 0,
  regOne "FPP_SKEW_MAX" 0x900044 0xC8 0xFFFF 0 0 0 0 0,
  regOne "FPP_GAP_MAX" 0x900048 0x30D400 0xFFFFFFFF 0 0 0 0 0,
  regOne "FPP_REPLAY_LEAD" 0x90004C 0x27100 0xFFFFFFFF 0 0 0 0 0,
  regOne "FPP_SEED_LO" 0x900050 0x0 0xFFFFFFC0 0 0 0 0 0,
  regOne "FPP_SEED_HI" 0x900054 0x0 0xFFFF 0 0 0 0 0,
  regOne "FPP_WIN_ADDR" 0x900058 0 0 0xFFFFFFFF 0 0 0 0,
  regOne "FPP_RING_CTRL" 0x900060 0x4 0xFF 0 0 0 0 0,
  regOne "FPP_RING_STATUS" 0x900064 0x0 0 0 0x7 0 0 0,
  regOne "FPP_RING_BASE_LO" 0x900068 0x0 0xFFFFFFC0 0 0 0 0 0,
  regOne "FPP_RING_BASE_HI" 0x90006C 0x0 0xFFFFFFFF 0 0 0 0 0,
  regOne "FPP_RING_SIZE" 0x900070 0xA 0x1F 0 0 0 0 0,
  regOne "FPP_RING_HEAD" 0x900074 0x0 0xFFFFFFFF 0 0 0 0 0,
  regOne "FPP_RING_TAIL" 0x900078 0x0 0 0xFFFFFFFF 0 0 0 0,
  regOne "FPP_RING_SHADOW_LO" 0x90007C 0x0 0xFFFFFFFC 0 0 0 0 0,
  regOne "FPP_RING_SHADOW_HI" 0x900080 0x0 0xFFFFFFFF 0 0 0 0 0,
  regOne "FPP_EPOCH_OPEN" 0x900090 0x0 0 0xFFFFFFFF 0 0 0 0,
  regOne "FPP_COMMIT_EPOCH" 0x900094 0x0 0 0xFFFFFFFF 0 0 0 0,
  regOne "FPP_COMMIT_GEN" 0x900098 0x0 0 0xFFFF 0 0 0 0,
  regOne "FPP_SEQ_LO" 0x90009C 0x0 0 0xFFFFFFFF 0 0 0 0,
  regOne "FPP_SEQ_HI" 0x9000A0 0x0 0 0xFFFFFFFF 0 0 0 0]

/-- The registers of block BSU. -/
def rowsBsu : List RegRow := [
  regOne "BSU_STATUS" 0xA00000 0x0 0 0xF 0 0 0 0,
  regOne "BSU_LANE_BUSY_LO" 0xA00008 0x0 0 0xFFFFFFFF 0 0 0 0,
  regOne "BSU_LANE_BUSY_HI" 0xA0000C 0x0 0 0xFFFFFFFF 0 0 0 0,
  regArr "BSU_CH_CFG" 0xA00100 64 32 0x100 0 0x17F01 0 0 0 0,
  regArr "BSU_CH_TAU_LO" 0xA00104 64 32 0xB8000000 0 0xFFFFFFFF 0 0 0 0,
  regArr "BSU_CH_TAU_HI" 0xA00108 64 32 0x2 0 0xF 0 0 0 0,
  regArr "BSU_CH_DEADLINE" 0xA0010C 64 32 0x0 0 0xFFFFFFFF 0 0 0 0,
  regArr "BSU_CH_STATUS" 0xA00110 64 32 0x0 0 0xFF7F 0x1F0000 0 0 0,
  regArr "BSU_CH_SIG" 0xA00114 64 32 0x0 0 0xFFFFFFFF 0 0 0 0,
  regArr "BSU_CH_LAST" 0xA00118 64 32 0xFFFF0000 0 0xFFFF00FF 0 0 0 0]

/-- The registers of block MAP. -/
def rowsMap : List RegRow := [
  regOne "MAP_CTRL" 0xB00000 0x0 0 0 0 0 0 0x1,
  regOne "MAP_STATUS" 0xB00004 0x0 0 0x8F 0x70 0 0 0,
  regOne "MAP_STORE_BASE_LO" 0xB00010 0x0 0xFFFFFFC0 0 0 0 0 0,
  regOne "MAP_STORE_BASE_HI" 0xB00014 0x0 0xFFFF 0 0 0 0 0,
  regOne "MAP_DIR_BASE_LO" 0xB00018 0x0 0xFFFFFFC0 0 0 0 0 0,
  regOne "MAP_DIR_BASE_HI" 0xB0001C 0x0 0xFFFF 0 0 0 0 0,
  regOne "MAP_KF_BASE_LO" 0xB00020 0x0 0xFFFFFFC0 0 0 0 0 0,
  regOne "MAP_KF_BASE_HI" 0xB00024 0x0 0xFFFF 0 0 0 0 0,
  regOne "MAP_DESC_BASE_LO" 0xB00028 0x0 0xFFFFFFC0 0 0 0 0 0,
  regOne "MAP_DESC_BASE_HI" 0xB0002C 0x0 0xFFFF 0 0 0 0 0,
  regOne "MAP_EDGE_BASE_LO" 0xB00030 0x0 0xFFFFFFC0 0 0 0 0 0,
  regOne "MAP_EDGE_BASE_HI" 0xB00034 0x0 0xFFFF 0 0 0 0 0,
  regOne "MAP_ARC_BASE_LO" 0xB00038 0x0 0xFFFF8000 0 0 0 0 0,
  regOne "MAP_ARC_BASE_HI" 0xB0003C 0x0 0x7F 0 0 0 0 0,
  regOne "MAP_ARC_SLOTS" 0xB00040 0x0 0xFFFFF 0 0 0 0 0,
  regOne "MAP_STORE_USED" 0xB00044 0x0 0 0xFFFFFFFF 0 0 0 0,
  regOne "MAP_ARC_USED" 0xB00048 0x0 0 0xFFFFFFFF 0 0 0 0,
  regOne "MAP_FRAMES_USED" 0xB0004C 0x0 0 0x7FF 0 0 0 0,
  regOne "MAP_KF_LIVE" 0xB00050 0x0 0 0xFFFFFFFF 0 0 0 0,
  regOne "MAP_EDGES_LIVE" 0xB00054 0x0 0 0xFFFFFFFF 0 0 0 0,
  regOne "MAP_LAST_COMMIT" 0xB00058 0x0 0 0xFFFFFFFF 0 0 0 0,
  regOne "MAP_LAST_SQUASH" 0xB0005C 0x0 0 0xFFFFFFFF 0 0 0 0,
  regArr "MAP_Q_STATE" 0xB00100 64 4 0xF0000 0 0xFFFFF 0 0 0 0]

/-- The registers of block MXA. -/
def rowsMxa : List RegRow := [
  regOne "MXA_STATUS" 0xC00000 0x0 0 0xFFFF 0 0 0 0,
  regArr "MXA_ARR_STATUS" 0xC00100 8 32 0x0 0 0xF20 0x1F 0 0 0,
  regArr "MXA_ARR_CUR" 0xC00104 8 32 0x0 0 0xFFFFFFFF 0 0 0 0,
  regArr "MXA_ARR_LAST_CAD_LO" 0xC00108 8 32 0x0 0 0xFFFFFFFF 0 0 0 0,
  regArr "MXA_ARR_LAST_CAD_HI" 0xC0010C 8 32 0x0 0 0xFFFFFFFF 0 0 0 0,
  regArr "MXA_ARR_CUT_POS" 0xC00110 8 32 0xFFFFFFFF 0 0xFFFFFFFF 0 0 0 0]

/-- The registers of block GCR. -/
def rowsGcr : List RegRow := [
  regOne "GCR_STAGE_LO" 0xD00000 0x0 0 0xFFFFFFFF 0 0 0 0,
  regOne "GCR_STAGE_HI" 0xD00004 0x0 0 0xFFFFFFFF 0 0 0 0,
  regOne "GCR_TRAP_LO" 0xD00008 0x0 0 0 0xFFFFFFFF 0 0 0,
  regOne "GCR_TRAP_HI" 0xD0000C 0x0 0 0 0xFFFFFFFF 0 0 0,
  regOne "GCR_FAULT_LO" 0xD00010 0x0 0 0 0xFFFFFFFF 0 0 0,
  regOne "GCR_FAULT_HI" 0xD00014 0x0 0 0 0xFFFFFFFF 0 0 0,
  regArr "GCR_CORE_STATUS" 0xD00100 64 16 0xF0000 0 0xF0F03 0x1C 0 0 0,
  regArr "GCR_CORE_CUR" 0xD00104 64 16 0x0 0 0xFFFFFFFF 0 0 0 0,
  regArr "GCR_CORE_PC" 0xD00108 64 16 0x0 0 0x1FFFF 0 0 0 0,
  regArr "GCR_CORE_CHARGED" 0xD0010C 64 16 0x0 0 0xFFFFFFFF 0 0 0 0,
  regOne "GCR_CTL_STATUS" 0xD00800 0x0 0 0x7 0x18 0 0 0,
  regArr "GCR_CTL_PC" 0xD00804 4 4 0x0 0 0xFFFFFFFF 0 0 0 0]

/-- The registers of block MEM. -/
def rowsMem : List RegRow := [
  regOne "MEM_STATUS" 0xE00000 0x0 0 0x8 0x7 0 0 0,
  regOne "MEM_WINDOW" 0xE00004 0x0 0 0x3 0 0 0 0,
  regOne "MEM_OBJ_SEL" 0xE00010 0x0 0xFFF 0 0 0 0 0,
  regOne "MEM_OBJ_HOME_LO" 0xE00014 0x0 0 0xFFFFFFFF 0 0 0 0,
  regOne "MEM_OBJ_HOME_HI" 0xE00018 0x0 0 0xFFFF 0 0 0 0,
  regOne "MEM_OBJ_STATE" 0xE0001C 0x0 0 0xFFFF1F3F 0 0 0 0,
  regOne "MEM_OBJ_COUNT" 0xE00020 0x0 0 0x1FFF 0 0 0 0,
  regOne "MEM_FLASH_STATUS" 0xE00040 0x0 0 0xFF0B 0x4 0 0 0,
  regOne "MEM_FLASH_ERASE_MEAN" 0xE00044 0x0 0 0xFFFF 0 0 0 0,
  regOne "MEM_FLASH_ERASE_MAX" 0xE00048 0x0 0 0xFFFF 0 0 0 0,
  regOne "MEM_FLASH_SPARE" 0xE0004C 0x0 0 0xFFFFF 0 0 0 0,
  regOne "MEM_FLASH_WRITTEN_LO" 0xE00050 0x0 0 0xFFFFFFFF 0 0 0 0,
  regOne "MEM_FLASH_WRITTEN_HI" 0xE00054 0x0 0 0xFFFFFFFF 0 0 0 0,
  regArr "MEM_DRAM_STATUS" 0xE00100 8 4 0x0 0 0x301 0x6 0 0 0]

/-- The registers of block TDM. -/
def rowsTdm : List RegRow := [
  regOne "TDM_STATUS" 0xF00000 0x0 0 0xF030F 0x70 0 0 0,
  regOne "TDM_CMP_CAD_LO" 0xF00004 0x0 0 0xFFFFFFFF 0 0 0 0,
  regOne "TDM_CMP_CAD_HI" 0xF00008 0x0 0 0xFFFFFFFF 0 0 0 0,
  regOne "TDM_DIV_CAD_LO" 0xF0000C 0x0 0 0xFFFFFFFF 0 0 0 0,
  regOne "TDM_DIV_CAD_HI" 0xF00010 0x0 0 0xFFFFFFFF 0 0 0 0,
  regOne "TDM_DIV_LANES" 0xF00014 0x0 0 0xFFFF 0 0 0 0,
  regOne "TDM_FWD_RATE" 0xF00018 0x0 0 0xFFFFFFFF 0 0 0 0,
  regOne "TDM_LINK_DELAY" 0xF0001C 0x0 0 0xFFFFFFFF 0 0 0 0,
  regArr "TDM_DIGEST_LO" 0xF00020 16 8 0x0 0 0xFFFFFFFF 0 0 0 0,
  regArr "TDM_DIGEST_HI" 0xF00024 16 8 0x0 0 0xFFFFFFFF 0 0 0 0,
  regOne "PEL_CTRL" 0xF00400 0x388B5 0x3FFFF 0 0 0 0 0,
  regOne "PEL_STATUS" 0xF00404 0x0 0 0x3FFFF23 0x1C 0 0 0,
  regOne "PEL_BARRIER_PERIOD" 0xF00408 0x4C4B400 0xFFFFFFFF 0 0 0 0 0,
  regOne "PEL_HOP" 0xF0040C 0xC 0 0xFF 0 0 0 0,
  regOne "PEL_LAST_BARRIER_LO" 0xF00410 0x0 0 0xFFFFFFFF 0 0 0 0,
  regOne "PEL_LAST_BARRIER_HI" 0xF00414 0x0 0 0xFFFFFFFF 0 0 0 0,
  regArr "PEL_PRESENT" 0xF00420 8 4 0x0 0 0xFFFFFFFF 0 0 0 0,
  regOne "PEL_SNAP_CAD_LO" 0xF00440 0x0 0 0xFFFFFFFF 0 0 0 0,
  regOne "PEL_SNAP_CAD_HI" 0xF00444 0x0 0 0xFFFFFFFF 0 0 0 0,
  regOne "PEL_SNAP_TIME_LO" 0xF00448 0x0 0 0xFFFFFFFF 0 0 0 0,
  regOne "PEL_SNAP_TIME_HI" 0xF0044C 0x0 0 0xFFFFFFFF 0 0 0 0,
  regOne "PEL_SNAP_SEQ_LO" 0xF00450 0x0 0 0xFFFFFFFF 0 0 0 0,
  regOne "PEL_SNAP_SEQ_HI" 0xF00454 0x0 0 0xFFFFFFFF 0 0 0 0,
  regOne "PEL_SNAP_COMMIT" 0xF00458 0x0 0 0xFFFFFFFF 0 0 0 0]

/-- The registers of block OBS. -/
def rowsObs : List RegRow := [
  regOne "OBS_STATUS" 0x1000000 0x0 0 0x70B 0x34 0 0 0,
  regOne "OBS_TRC_WR_LO" 0x1000008 0x0 0 0xFFFFFFFF 0 0 0 0,
  regOne "OBS_TRC_WR_HI" 0x100000C 0x0 0 0xFFFFFFFF 0 0 0 0,
  regOne "OBS_ENG_SEL" 0x1000020 0x0 0xF3F 0 0 0 0 0,
  regOne "OBS_ENG_LATCH" 0x1000024 0x0 0 0 0 0 0 0x1,
  regOne "OBS_BRAKE_CTRL" 0x1000040 0x0 0x2 0 0 0 0 0xFF01,
  regOne "OBS_BRAKE_STATUS" 0x1000044 0x0 0 0x1FFFFF 0 0 0 0,
  regOne "OBS_BRAKE_TIME_LO" 0x1000048 0x0 0 0xFFFFFFFF 0 0 0 0,
  regOne "OBS_BRAKE_TIME_HI" 0x100004C 0x0 0 0xFFFFFFFF 0 0 0 0,
  regOne "OBS_BRAKE_CAD_LO" 0x1000050 0x0 0 0xFFFFFFFF 0 0 0 0,
  regOne "OBS_BRAKE_CAD_HI" 0x1000054 0x0 0 0xFFFFFFFF 0 0 0 0,
  regOne "OBS_SCAN_CMD" 0x1000060 0x0 0x6 0 0 0x1 0 0,
  regOne "OBS_SCAN_STATUS" 0x1000064 0x0 0 0x1D 0x2 0 0 0,
  regOne "OBS_SCAN_ADDR_LO" 0x1000068 0x0 0xFFFFFFFF 0 0 0 0 0,
  regOne "OBS_SCAN_ADDR_HI" 0x100006C 0x0 0xFFFF 0 0 0 0 0,
  regArr "OBS_SCAN_DATA" 0x1000080 16 4 0x0 0 0xFFFFFFFF 0 0 0 0,
  regArr "OBS_ENG_HOLD" 0x1000200 64 4 0x0 0 0xFFFFFFFF 0 0 0 0]

/-- The registers of block CRB. -/
def rowsCrb : List RegRow := [
  regOne "CRB_START_STATUS" 0x1100100 0x0 0 0x7 0 0 0 0,
  regOne "CRB_BOOT_STATUS" 0x1100104 0 0 0xFFF7F 0 0 0 0,
  regOne "CRB_RESET_CAUSE" 0x1100108 0x1 0 0 0x3F 0 0 0,
  regOne "CRB_RESET_CTRL" 0x110010C 0x0 0 0 0 0 0 0xFFFF0001,
  regOne "CRB_SDM_DIV" 0x1100110 0x258 0xFFF 0 0 0 0 0,
  regOne "CRB_PDM_DIV" 0x1100114 0x600 0x1FFF 0 0 0 0 0,
  regOne "CRB_CLK_STATUS" 0x1100118 0x0 0 0x1F 0x20 0 0 0,
  regOne "CRB_HOST_BOOT_LEN" 0x110011C 0x0 0x3FFFFF 0 0 0 0 0,
  regOne "CRB_HOST_BOOT_CTRL" 0x1100120 0x0 0 0 0 0x1 0 0,
  regOne "CRB_TEMP" 0x1100124 0x0 0 0xFFFF 0 0 0 0,
  regArr "CRB_BOOT_DIGEST" 0x1100140 12 4 0x0 0 0xFFFFFFFF 0 0 0 0,
  regOne "CRB_FW_VERSION" 0x1100180 0x0 0 0xFFFFFFFF 0 0 0 0,
  regOne "CRB_BOOT_SVN" 0x1100184 0x0 0 0x7FFFF 0 0 0 0,
  regOne "CRB_IDCODE" 0x1100000 0x1972058B 0 0xFFFFFFFF 0 0 0 0,
  regOne "CRB_PART" 0x1100004 0 0 0xFFFFF 0 0 0 0,
  regOne "CRB_REVISION" 0x1100008 0x4101 0 0xFFFF 0 0 0 0,
  regOne "CRB_TJ" 0x110000C 0 0 0xFFFFFFFF 0 0 0 0,
  regOne "CRB_UID_LO" 0x1100010 0 0 0xFFFFFFFF 0 0 0 0,
  regOne "CRB_UID_HI" 0x1100014 0 0 0xFFFFFFFF 0 0 0 0,
  regOne "CRB_MEMCFG" 0x1100018 0x1004070 0 0xFFFFFFF 0 0 0 0,
  regOne "CRB_UNITS" 0x110001C 0x4008FFFF 0 0xFFFFFFFF 0 0 0 0,
  regOne "CRB_PCI_ID" 0x1100020 0x97201CE9 0 0xFFFFFFFF 0 0 0 0,
  regOne "CRB_PCI_SUBSYS" 0x1100024 0 0xFFFFFFFF 0 0 0 0 0,
  regOne "CRB_BAR_STATUS" 0x11000F0 0x0 0 0 0x7 0 0 0]

/-- The registers of block MET. -/
def rowsMet : List RegRow := [
  regOne "MET_GW_STATUS" 0x1200000 0x0 0 0x7 0xF8 0 0 0,
  regOne "MET_IDENT_VERSION" 0x1200004 0x0 0 0xFFFFFFFF 0 0 0 0,
  regOne "MET_IDENT_CRC" 0x1200008 0x0 0 0xFFFFFFFF 0 0 0 0,
  regOne "MET_IDENT_STATE" 0x120000C 0x0 0 0xFFFFFFFF 0 0 0 0,
  regOne "MET_EVENT_COUNT" 0x1200010 0x0 0 0xFFFFFFFF 0 0 0 0,
  regOne "MET_PARAM_CRC" 0x1200014 0x0 0 0xFFFFFFFF 0 0 0 0,
  regOne "MET_SOURCE" 0x1200018 0x0 0 0x1FFFF 0 0 0 0,
  regOne "MET_CONFIG_CRC" 0x120001C 0x0 0 0xFFFFFFFF 0 0 0 0,
  regOne "MET_FRAME_SEQ" 0x1200020 0x0 0 0xFFFFFFFF 0 0 0 0,
  regOne "MET_RESULT_COUNT" 0x1200024 0x0 0 0x1FF 0 0 0 0,
  regOne "MET_STAGE_BASE_LO" 0x1200030 0x0 0xFFFFFFC0 0 0 0 0 0,
  regOne "MET_STAGE_BASE_HI" 0x1200034 0x0 0xFFFF 0 0 0 0 0]

/-- The rows of the 1 MiB block a BAR0 offset lies in (Table 20.1). -/
def blockRows : Nat → List RegRow
  | 0 => rowsHif
  | 1 => rowsCcu
  | 2 => rowsTim
  | 3 => rowsNet
  | 4 => rowsIng
  | 5 => rowsDec
  | 6 => rowsVis
  | 7 => rowsFst
  | 8 => rowsFus
  | 9 => rowsFpp
  | 10 => rowsBsu
  | 11 => rowsMap
  | 12 => rowsMxa
  | 13 => rowsGcr
  | 14 => rowsMem
  | 15 => rowsTdm
  | 16 => rowsObs
  | 17 => rowsCrb
  | 18 => rowsMet
  | _ => []
/-- The indices of offset `off` inside a row, if it is one of the row's registers. -/
def RegRow.hit (r : RegRow) (off : Nat) : Option (Nat × Nat) :=
  if off < r.base then none
  else
    let d := off - r.base
    let i := d / r.s1
    let e := d % r.s1
    if i < r.n1 ∧ e % r.s2 = 0 ∧ e / r.s2 < r.n2 then some (i, e / r.s2) else none

/-- The row and indices of a register offset. -/
def findRow : List RegRow → Nat → Option (RegRow × Nat × Nat)
  | [], _ => none
  | r :: rest, off =>
    match r.hit off with
    | some (i, j) => some (r, i, j)
    | none => findRow rest off

/-- The register at a DW-aligned BAR0 offset; `none` for an offset that reads 0 and ignores writes (R451). The
TIM_TSC registers of port and mode combinations absent from Table 4.8 are reserved. -/
def regAt (off : Nat) : Option (RegRow × Nat × Nat) :=
  match findRow (blockRows (off / 0x100000)) off with
  | some (r, i, j) =>
    if r.name = "TIM_TSC_TX" ∨ r.name = "TIM_TSC_RX" then
      if (i < 2 ∧ j < 5) ∨ (2 ≤ i ∧ j = 5) then some (r, i, j) else none
    else some (r, i, j)
  | none => none

/-- Table 4.8: reset value of TX_CORR of mode m. -/
def tscTx : Nat → Nat
  | 0 => 0x168000 | 1 => 0x1CC000 | 2 => 0x294000 | 3 => 0x384000 | 4 => 0x3E8000 | _ => 0xA8C000
/-- Table 4.8: reset value of RX_CORR of mode m. -/
def tscRx : Nat → Nat
  | 0 => 0x1F4000 | 1 => 0x564000 | 2 => 0x924000 | 3 => 0x4D8000 | 4 => 0xF14000 | _ => 0xE00000

/-- The reset value of a register (R14): the row's value, and the cases the Reset columns state by index, by grade,
by strap or by boot image (assumption log 5). -/
def resetOf (r : RegRow) (i j : Nat) : Nat :=
  if r.name = "CCU_CLASS_STAT" then (if i = 11 then 4 else 0)
  else if r.name = "TIM_TSC_TX" then tscTx j
  else if r.name = "TIM_TSC_RX" then tscRx j
  else if r.name = "NET_PORT_CTRL" then (if i < 2 then 0x5F208 else 0x5F212)
  else if r.name = "DEC_CH_STATUS" then (if i ≤ 23 then 0x1800 else 0x1600)
  else if r.name = "DEC_CH_GD" then (if i ≤ 23 then 0x311AC else 0x1ECA0)
  else if r.name = "DEC_COEF" then (if j % 16 = 0 then 0x10000 else 0)
  else if r.name = "FPP_AXIS" then i
  else if r.name = "FPP_WIN_ADDR" then 0x06F80000
  else if r.name = "CRB_PART" then (if Config.gradeI then 0x19720 else 0x9720)
  else if r.name = "CRB_TJ" then (if Config.gradeI then 0x5F6E69D8 else 0x55645F00)
  else if r.name = "CRB_UID_LO" then Config.uid % 2 ^ 32
  else if r.name = "CRB_UID_HI" then Config.uid / 2 ^ 32 % 2 ^ 32
  else if r.name = "CRB_PCI_SUBSYS" then 0x00001CE9
  else if r.name = "CCU_CTRL" then 0x2
  else r.rst

/-- The word a register holds after reset; 0 where there is no register. -/
def resetWord (off : Nat) : Word :=
  match regAt off with
  | some (r, i, j) => BitVec.ofNat 32 (resetOf r i j)
  | none => 0

end Sys2Proof.Machine
end

