-- ==== Sys2Proof/Machine/SMap.lean ====
section
/-! DEFINITION. Tables with sparse keys, as plain data: a list of (key, value) pairs in rising key order. -/

namespace Sys2Proof.Machine

/-- A table indexed by numbers; a key that is not listed holds the table's default. -/
abbrev SMap (α : Type) := List (Nat × α)

/-- The entry of key `i`, if one is listed. -/
def SMap.find {α : Type} : SMap α → Nat → Option α
  | [], _ => none
  | (k, v) :: r, i => if k = i then some v else SMap.find r i

/-- The value at key `i`, `d` where none is listed. -/
def SMap.get {α : Type} (d : α) (m : SMap α) (i : Nat) : α := (SMap.find m i).getD d

/-- Enter `v` at key `i`. -/
def SMap.set {α : Type} : SMap α → Nat → α → SMap α
  | [], i, v => [(i, v)]
  | (k, w) :: r, i, v =>
    if i < k then (i, v) :: (k, w) :: r
    else if i = k then (i, v) :: r
    else (k, w) :: SMap.set r i v

/-- Remove key `i`. -/
def SMap.erase {α : Type} : SMap α → Nat → SMap α
  | [], _ => []
  | (k, w) :: r, i => if k = i then SMap.erase r i else (k, w) :: SMap.erase r i

/-- Change the value at key `i`. -/
def SMap.upd {α : Type} (d : α) (m : SMap α) (i : Nat) (f : α → α) : SMap α := SMap.set m i (f (SMap.get d m i))

/-- Keep the entries whose key passes. -/
def SMap.keep {α : Type} (m : SMap α) (p : Nat → Bool) : SMap α := m.filter (fun e => p e.1)

/-- Keys strictly rising from `lo` on. -/
def SMap.rising {α : Type} : Nat → SMap α → Bool
  | _, [] => true
  | lo, (k, _) :: r => decide (lo ≤ k) && SMap.rising (k + 1) r

end Sys2Proof.Machine
end

