-- ==== Sys2Proof/Machine/UnitBsu.lean ====
section
/-! DEFINITION. State of the Batch Solver Unit (ch. 11), beside the registers. -/

namespace Sys2Proof.Machine

/-- Mode, count, τ and deadline of a channel (R239). -/
structure BsuCfg where
  mode : Nat
  count : Nat
  tau : Nat
  deadline : Nat
  deriving DecidableEq, Repr

/-- A queued descriptor (R240): packet address and length, ITER_TAG, the long command of a host problem, and the values in force
when it was queued. -/
structure BsuDesc where
  addr : Nat
  len : Nat
  tag : Nat
  host : Option Nat
  cfg : BsuCfg
  deriving DecidableEq, Repr

/-- A problem in progress. -/
structure BsuRun where
  desc : BsuDesc
  /-- Header and structure block of the packet that feeds it, and its observation and prior records (SCHUR). -/
  hdr : List Byte
  struct : List Byte
  records : List Byte
  cadence : Nat
  /-- CORE cycles in which its first unit issued and in which the iteration in progress, or the wait, began. -/
  start : Nat
  at_ : Nat
  /-- Completed iterations; the problem waits for the packet of the next one. -/
  iter : Nat
  waiting : Bool
  ended : Bool
  x : List Nat
  residual : Nat
  charged : Nat
  sig : Nat
  warmMismatch : Bool
  inputCut : Bool
  resMet : Bool
  sticky : Bool
  /-- First replaced pivot: column and iteration; replacements. -/
  pivot : Option (Nat × Nat)
  pivots : Nat
  /-- First range violation: column, phase, iteration. -/
  range : Option (Nat × Nat × Nat)
  /-- BAD_PARAM's DETAIL or BUDGET_EXCEEDED's 0 that ended it. -/
  stop : Option (Nat × Nat)
  deriving DecidableEq, Repr

/-- A channel block at work in a stage (R252). -/
structure BsuBlk where
  block : List Byte
  slot : Nat
  index : Nat
  cadence : Nat
  flagBase : Nat
  done : Nat
  /-- Iterates the last completed problem wrote. -/
  last : Nat
  spent : Bool
  deriving DecidableEq, Repr

/-- A submission channel. -/
structure BsuCh where
  /-- Values of the last CHANNEL_CONFIG. -/
  base : BsuCfg
  queue : List BsuDesc
  /-- Accepted SOLVE_SUBMITs that wait for a free descriptor. -/
  waiting : List BsuDesc
  run : Option BsuRun
  /-- Signature and WORK_BASE of the last completed problem; none: the channel holds nothing. -/
  sig : Option (Nat × Nat)
  /-- Resident matrix by 65,536 × row + column, right-hand sides and initial iterate by 65,536 × RHS + row. -/
  a : SMap Nat
  b : SMap Nat
  x0 : SMap Nat
  /-- Committed solution and its cadence. -/
  sol : List Nat
  solCad : Nat
  blk : Option BsuBlk
  deriving DecidableEq, Repr

def BsuCfg.reset : BsuCfg := ⟨0, 1, 0x2B8000000, 0⟩
def BsuCh.reset : BsuCh := ⟨BsuCfg.reset, [], [], none, none, [], [], [], [], 0, none⟩

structure Bsu where
  chs : SMap BsuCh
  deriving DecidableEq, Repr

def Bsu.reset : Bsu := ⟨[]⟩

end Sys2Proof.Machine
end

