-- ==== Sys2Proof/Machine/UnitDec.lean ====
section
/-! DEFINITION. State of the decimation chain (ch. 6), beside the registers. -/

namespace Sys2Proof.Machine

/-- A filter's input history, newest first, and how many inputs it has taken (R125, R126). -/
structure FirState where
  hist : List Int
  count : Nat
  deriving DecidableEq, Repr

/-- The audio block being written (R137). -/
structure AudioBlock where
  seq : Nat
  samples : Nat
  sat : Bool
  first : Bool
  stampFirst : Nat
  stampLast : Nat
  phaseFirst : Nat
  deriving DecidableEq, Repr

/-- A DEC channel. -/
structure DecCh where
  /-- The filter setting of DEC_CONFIG; empty while the channel runs the default of its kind (R128). -/
  setting : List Byte
  /-- Bits sampled since STARTING (R134). -/
  bits : Nat
  stages : List FirState
  resamp : FirState
  /-- Index of the next output. -/
  n : Nat
  /-- A saturation since the last delivered output (Table 6.8). -/
  sat : Bool
  /-- No output has been delivered since ON. -/
  first : Bool
  /-- Disciplined instant of the boundary at which it entered ON in this run, and of the one at which it entered DRAINING
  (R134, R135). -/
  onInstant : Option Nat
  drainInstant : Nat
  /-- An output at or after the DRAINING boundary has been formed: what comes before it is delivered (R135). -/
  flushed : Bool
  block : AudioBlock
  deriving DecidableEq, Repr

def DecCh.reset : DecCh := ⟨[], 0, [], ⟨[], 0⟩, 0, false, true, none, 0, false, ⟨0, 0, false, true, 0, 0, 0⟩⟩

structure Dec where
  chans : SMap DecCh
  deriving DecidableEq, Repr

def Dec.reset : Dec := ⟨[]⟩

end Sys2Proof.Machine
end

