-- ==== Sys2Proof/Machine/UnitFpp.lean ====
section
/-! DEFINITION. State of the Fast Pose Path (ch. 10), beside the registers. -/

namespace Sys2Proof.Machine

/-- The state of Table 10.1, as the integers its formats hold. -/
structure Pose where
  p : List Int
  v : List Int
  q : List Int
  bg : List Int
  ba : List Int
  stamp : Nat
  deriving DecidableEq, Repr

def Pose.reset : Pose := ⟨[0, 0, 0], [0, 0, 0], [0, 0, 0, 0], [0, 0, 0], [0, 0, 0], 0⟩

/-- An IMU ring entry (Table 10.5) with the draft state after it. `avail`: CORE cycle from which replay may take it. -/
structure ImuEntry where
  stamp : Nat
  epoch : Nat
  flags : Nat
  values : List Int
  speed : Int
  yaw : Int
  validTime : Nat
  seq : Nat
  cadence : Nat
  avail : Nat
  state : Pose
  deriving DecidableEq, Repr

/-- A posted correction (Table 10.7); `committed`: its COMMIT has reached FPP (R222); `late`: its switch-over set came before its replay was
complete (R225). -/
structure Correction where
  record : List Byte
  committed : Bool
  /-- Cycle 13 of its switch-over set, which found its replay incomplete (R225). -/
  late : Option Nat
  deriving DecidableEq, Repr

namespace Correction
def epoch (c : Correction) : Nat := leAt c.record 4 4
def tc (c : Correction) : Nat := leAt c.record 8 8
def apply (c : Correction) : Nat := leAt c.record 16 8
end Correction

/-- The replay in progress (R224): where it has come to, the CORE cycle at which the engine is free, the states reached. -/
structure Replay where
  corr : Correction
  state : Pose
  free : Nat
  nextSeq : Nat
  done : Nat
  /-- State, entry, speed and yaw rate of the last entry of the corrected epoch. -/
  anchor : Option (Pose × ImuEntry × Int × Int)
  /-- Replayed states, newest first, down to the correction's own. -/
  states : List Pose
  deriving DecidableEq, Repr

/-- A sample set in the live path (R211, R215). -/
structure SampleSet where
  values : List Int
  stamp : Nat
  core0 : Nat
  valid : Nat
  sat : Bool
  cadence : Nat
  deriving DecidableEq, Repr

/-- A search-window pose written (Table 10.6). -/
structure WinPose where
  stream : Nat
  flags : Nat
  cadence : Nat
  t : Nat
  p : List Int
  q : List Int
  gen : Nat
  deriving DecidableEq, Repr

structure Fpp where
  /-- Pending inertial record by axis (R211). -/
  pend : SMap (List Byte)
  set : Option SampleSet
  state : Option Pose
  ring : List ImuEntry
  queue : List Correction
  replay : Option Replay
  /-- Epochs squashed whose anchor is due before the next set, each with COMMIT_GEN after its squash (R227). -/
  forced : List (Nat × Nat)
  /-- The seed loaded and not yet taken (R212). -/
  seed : Option Pose
  /-- Stamp of the latest seeded set. -/
  seedStamp : Option Nat
  /-- SEQ of the next set, COMMIT_GEN, stamp of the last set. -/
  seq : Nat
  gen : Nat
  lastStamp : Nat
  /-- CORE cycle from which the wait for a set counts (R211). -/
  waitFrom : Nat
  /-- Trigger instants whose search-window pose is due: stream, instant, cadence (R220). -/
  winDue : List (Nat × Nat × Nat)
  /-- Search-window poses by 8 × stream + slot. -/
  wins : SMap WinPose
  /-- Frames sent on the pose port, newest first (R217). -/
  port : List (List Byte)
  /-- CORE cycle in which the latest frame's first nibble was launched, and its nibbles. -/
  frame : Option (Nat × List Nat)
  deriving DecidableEq, Repr

def Fpp.reset : Fpp := ⟨[], none, none, [], [], none, [], none, none, 0, 0, 0, 0, [], [], [], none⟩

end Sys2Proof.Machine
end

