-- ==== Sys2Proof/Machine/UnitFst.lean ====
section
/-! DEFINITION. State of flow and stereo (ch. 8), beside the registers. -/

namespace Sys2Proof.Machine

/-- A flow or stereo context at work (R181): its block, where its flags lie, units passed in canonical order, what its
sub-bucket has been charged, the header's flags and counts, and the disparity maps of the levels done. -/
structure FstCtx where
  block : List Byte
  slot : Nat
  index : Nat
  flagBase : Nat
  /-- The block's own output flags. -/
  outFlags : List Nat
  cadence : Nat
  /-- The block's close unit has not run. -/
  active : Bool
  /-- No unit but the close unit issues any more. -/
  stopped : Bool
  cursor : Nat
  cyc : Nat
  tok : Nat
  hdr : Nat
  /-- Level-BOT bands written, or tracks processed. -/
  done : Nat
  codes : SMap Nat
  /-- Rows of disparity words by level. -/
  maps : SMap (List (List Nat))
  /-- The stage has run since the Route entered STARTING, and had before this cadence: only then is there a read half (R183). -/
  ran : Bool
  ranBefore : Bool
  deriving DecidableEq, Repr

def FstCtx.reset : FstCtx := ⟨zeros 64, 0, 0, 0, [], 0, false, false, 0, 0, 0, 0, 0, [], [], false, false⟩

structure Fst where
  flows : SMap FstCtx
  pairs : SMap FstCtx
  deriving DecidableEq, Repr

def Fst.reset : Fst := ⟨[], []⟩

end Sys2Proof.Machine
end

