-- ==== Sys2Proof/Machine/UnitFus.lean ====
section
/-! DEFINITION. State of the Fusion Unit (ch. 9), beside the registers. -/

namespace Sys2Proof.Machine

/-- A buffered record of an entry (R193): its instant (TIME, observation instant or INSTANT), its 32 bytes and, for an
encoder, the wheel speed it yields. -/
structure FusBuf where
  t : Nat
  bytes : List Byte
  v : Int
  deriving DecidableEq, Repr

/-- An emitted instant (R192) until its instant record is written. -/
structure FusInst where
  t : Nat
  present : Nat
  missing : Nat
  /-- Entries absent: complete or not, they give the instant nothing. -/
  absent : Nat
  anchorAbsent : Bool
  /-- Points of each KIND 5 entry in parser order. -/
  points : SMap (List (List Byte))
  /-- Speed and yaw rate of each KIND 4 and 6 entry that is complete and not absent. -/
  values : SMap (Int × Int)
  gridDone : Bool
  /-- DEPTH, DCODE and stereo confidence of the grid pixels. -/
  grid : SMap (Nat × Nat × Nat)
  features : Nat
  groups : Nat
  degraded : Bool
  deriving DecidableEq, Repr

/-- What PRJ has done for an instant of the cadence, emitted or not (Table 9.9): points projected, by entry; the nearest point of
each grid pixel: depth and intensity. -/
structure FusProj where
  projected : SMap Nat
  hits : SMap (Nat × Nat)
  deriving DecidableEq, Repr

def FusProj.reset : FusProj := ⟨[], []⟩

/-- What an emitted instant used (R192): T and, by 2 × entry + side, the stamps of its bracketing pair. -/
structure FusEmitted where
  t : Nat
  pairs : SMap (Option Nat × Option Nat)
  deriving DecidableEq, Repr

/-- A late sample accepted for a delayed record (R194): its entry and its own FUNC_ID. -/
structure FusLate where
  entry : Nat
  func : Nat
  kind : Nat
  stamp : Nat
  bytes : List Byte
  deriving DecidableEq, Repr

/-- A fusion context. -/
structure FusCtx where
  /-- The context is in a Route that is not OFF. -/
  on : Bool
  /-- The block of Table 9.1 and its entries. -/
  block : List Byte
  entries : List (List Byte)
  slot : Nat
  index : Nat
  cadence : Nat
  boundary : Nat
  /-- The stage runs. -/
  active : Bool
  afeCut : Bool
  prjCut : Bool
  /-- Emitted instants of the cadence, and how many instant records are written. -/
  insts : List FusInst
  recorded : Nat
  /-- PRJ's work by instant. -/
  proj : SMap FusProj
  /-- Entries quarantined in this cadence (R204). -/
  quar : Nat
  /-- Entries missing at the last emitted instant, suspended by the latest state record of their group. -/
  lastMissing : Nat
  lastSuspended : Nat
  /-- The latest state record carried DEGRADED. -/
  degraded : Bool
  /-- A record was dropped for a full buffer since the last instant record. -/
  overflow : Bool
  /-- Alignment buffers and latest instant arrived, by 2 × entry + side. -/
  bufs : SMap (List FusBuf)
  newest : SMap Nat
  emitted : List FusEmitted
  /-- KIND 1 entries with flags EMPTY at an emitted instant of the cadence: entry, T, which flags. -/
  frameDue : List (Nat × Nat × List Nat)
  /-- Late frames that wait for the stage's next start: entry, T, frame record. -/
  frameLate : List (Nat × Nat × List Byte)
  /-- Late samples and delayed records of the cadence by FUNC_ID. -/
  lateCount : SMap Nat
  delayed : SMap Nat
  late : List FusLate
  written : Nat
  discarded : Nat
  dropped : Nat
  /-- Entries gated in a state record of the cadence; present and used or agreeing in every one; in any. -/
  gatedMask : Nat
  cleanMask : Nat
  votedMask : Nat
  /-- Per 2 × entry + side: records of the cadence, those without NO_MOTION, Σ dc. -/
  motion : SMap (Nat × Nat × Int)
  /-- Consecutive silent cadences of a wheel entry and the silent side; entries absent for silence (R201). -/
  silent : SMap (Nat × Nat)
  silentMask : Nat
  /-- Record counts the primary sent, by 64 × the Route's cadence + instant (R195, R361). -/
  counts : SMap (List Nat)
  deriving DecidableEq, Repr

def FusCtx.reset : FusCtx :=
  ⟨false, zeros 64, [], 0, 0, 0, 0, false, false, false, [], 0, [], 0, 0, 0, false, false, [], [], [], [], [], [], [], [],
    0, 0, 0, 0, 0, 0, [], [], 0, []⟩

structure Fus where
  ctxs : SMap FusCtx
  /-- State input records waiting in a queue (R317). -/
  queues : SMap (List (List Byte))
  /-- Window starts in effect (R454); 2^64 − 1 where none was written. -/
  win : SMap Nat
  /-- Last COUNT of an encoder, by FUNC_ID. -/
  lastCount : SMap Nat
  /-- K and M set and due at the next boundary, by FUNC_ID (R205). -/
  mirage : SMap (Nat × Nat)
  /-- Samples of each sensor function up to the latest boundary; late samples of the cadence; both of the last completed
  cadence (R205). -/
  total : SMap Nat
  lateNow : SMap Nat
  last : SMap (Nat × Nat)
  deriving DecidableEq, Repr

def Fus.reset : Fus := ⟨[], [], [], [], [], [], [], []⟩

end Sys2Proof.Machine
end

