-- ==== Sys2Proof/Machine/UnitGcr.lean ====
section
/-! DEFINITION. State of the general cores (ch. 14), beside the registers and their local memory. -/

namespace Sys2Proof.Machine

/-- What a core waits for (Table 14.3). -/
inductive GcrWait where
  | io | flag (i rd : Nat) | sync | submit
  deriving DecidableEq, Repr

/-- The stall reason of a wait, in the order of Table 18.2. -/
def GcrWait.reason : GcrWait → Nat
  | .io => 2
  | .flag _ _ => 4
  | .sync => 5
  | .submit => 1

/-- A beat on its way (R315): to local memory or from it, local offset, device address, the cadence of the stage that issued it. -/
structure GcrBeat where
  get : Bool
  ofs : Nat
  addr : Nat
  cadence : Nat
  deriving DecidableEq, Repr

structure GcrCore where
  slot : Nat
  stage : Nat
  /-- 0 idle, 1 running, 2 in cut handler, 3 ended or stopped (Table 14.5). -/
  state : Nat
  position : Nat
  /-- Scalar registers of 64 bits, vector registers of 1,024 bits (R312). -/
  x : SMap Nat
  v : SMap Nat
  depth : Nat
  /-- The random sequence (R318). -/
  seq : Nat
  beats : List GcrBeat
  wait : Option GcrWait
  waitFrom : Nat
  /-- Limits reached and not yet trapped for: 1 cycles, 2 tokens. -/
  walled : Nat
  /-- Cycles of TIDY_RESERVE used. -/
  tidy : Nat
  /-- SYNCs arrived at in this stage. -/
  syncs : Nat
  bound : Bool
  deriving DecidableEq, Repr

def GcrCore.reset : GcrCore := ⟨0, 0, 0, 0, [], [], 0, 0, [], none, 0, 0, 0, 0, false⟩

structure Gcr where
  cores : SMap GcrCore
  deriving DecidableEq, Repr

def Gcr.reset : Gcr := ⟨[]⟩

end Sys2Proof.Machine
end

