-- ==== Sys2Proof/Machine/Memory.lean ====
section
/-! DEFINITION. Byte memories (device memory of R325 and host memory) as canonical lists of (address, byte) pairs:
addresses strictly rising, no entry equal to the byte an unlisted address reads as. -/

namespace Sys2Proof.Machine

/-- What a byte that nothing has written reads as (assumption log 3). -/
def Memory.blank : Byte := 0

/-- A byte memory. -/
abbrev Memory := List Host.Cell

/-- The byte at address `a`. -/
def Memory.read : Memory → Nat → Byte
  | [], _ => Memory.blank
  | (k, v) :: r, a => if a = k then v else Memory.read r a

/-- Store one byte, keeping the canonical form. -/
def Memory.write : Memory → Nat → Byte → Memory
  | [], a, b => if b = Memory.blank then [] else [(a, b)]
  | (k, v) :: r, a, b =>
    if a < k then (if b = Memory.blank then (k, v) :: r else (a, b) :: (k, v) :: r)
    else if a = k then (if b = Memory.blank then r else (a, b) :: r)
    else (k, v) :: Memory.write r a b

/-- Canonical from address `lo` on. -/
def Memory.wfFrom : Nat → Memory → Bool
  | _, [] => true
  | lo, (k, v) :: r => decide (lo ≤ k) && decide (v ≠ Memory.blank) && Memory.wfFrom (k + 1) r

/-- The canonical form: equal memories are equal lists. -/
def Memory.wf (m : Memory) : Bool := Memory.wfFrom 0 m

/-- `n` bytes from address `a`. -/
def Memory.readBytes (m : Memory) (a : Nat) : Nat → List Byte
  | 0 => []
  | n + 1 => Memory.read m a :: Memory.readBytes m (a + 1) n

/-- Store a byte string at address `a`. -/
def Memory.writeBytes : Memory → Nat → List Byte → Memory
  | m, _, [] => m
  | m, a, b :: r => Memory.writeBytes (Memory.write m a b) (a + 1) r

/-- A little-endian number of `n` bytes (R3). -/
def Memory.readLE (m : Memory) (a n : Nat) : Nat := leNat (Memory.readBytes m a n)
/-- Store a number as `n` little-endian bytes (R3). -/
def Memory.writeLE (m : Memory) (a n v : Nat) : Memory := Memory.writeBytes m a (leBytes n v)

/-- Store the bytes whose enable is set (byte enables of a PCIe write). -/
def Memory.writeMasked : Memory → Nat → List Byte → List Bool → Memory
  | m, a, b :: r, e :: es => Memory.writeMasked (if e then Memory.write m a b else m) (a + 1) r es
  | m, _, _, _ => m

/-- Clear `n` bytes from address `a`. -/
def Memory.clear (m : Memory) (a n : Nat) : Memory := m.filter (fun c => decide (c.1 < a) || decide (a + n ≤ c.1))

/-- A list of (address, bytes) writes, in order. -/
def Memory.writeAll : Memory → List (Nat × List Byte) → Memory
  | m, [] => m
  | m, (a, bs) :: r => Memory.writeAll (Memory.writeBytes m a bs) r

end Sys2Proof.Machine
end

