-- ==== Sys2Proof/Machine/UnitHost.lean ====
section
/-! DEFINITION. State of the host interface (ch. 3, ch. 20), of the Cadence Controller (ch. 2) and of the time
unit (ch. 4), beside the registers. -/

namespace Sys2Proof.Machine

/-- A reply or event record (Table 3.6). `consumed` marks the first reply of a command that consumed its HSEQ (R71);
it is the device's own note, not one of the 32 bytes. -/
structure Record where
  opcode : Nat
  status : Nat
  detail : Nat
  hseq : Nat
  dseq : Nat
  time : Nat
  result : List Byte
  consumed : Bool
  quiet : Bool
  deriving DecidableEq, Repr

/-- One entry of the delivery order of R59 and R73: a retained record not yet written, or a copy. -/
structure Delivery where
  record : Record
  copy : Bool
  vector : Option Nat
  deriving DecidableEq, Repr

/-- A completed effect of a long command: STATUS, DETAIL, Result. -/
structure LongResult where
  status : Nat
  detail : Nat
  result : List Byte
  deriving DecidableEq, Repr

/-- An outstanding long command (R67): its opcode, packet and, once its effect has taken place, the completion. -/
structure Long where
  /-- The model's own number of it: its HSEQ in the low 32 bits, above them the count of long commands before it. Two of different sessions
  may share an HSEQ. -/
  key : Nat
  opcode : Nat
  packet : CmdPacket
  effect : Option LongResult
  /-- The DMA engine that moves its host-memory bytes (Table 20.9). -/
  engine : Option Nat
  deriving DecidableEq, Repr

/-- An MSI-X message sent. -/
structure Msi where
  vector : Nat
  address : Nat
  data : Nat
  deriving DecidableEq, Repr

/-- The host interface beside its registers. -/
structure Hif where
  /-- The last CONTEXT assigned (R75). -/
  lastContext : Nat
  /-- The replay buffer, oldest first, at most 4,096 records (R72). -/
  buf : List Record
  /-- Records and copies not yet written to the reply ring, in delivery order (R59, R73). -/
  out : List Delivery
  /-- Commands fetched and held by FENCE, with those fetched behind them (Table 3.4). -/
  waiting : List (Nat × CmdPacket)
  /-- Outstanding long commands in acceptance order (R67). -/
  longs : List Long
  /-- Long commands accepted since reset, the model's own count. -/
  longCount : Nat
  /-- Vectors whose holdoff runs, with the CORE cycle at which it ends (R82). -/
  holdoff : SMap Nat
  /-- Vectors with records written during their holdoff (R82). -/
  owed : List Nat
  /-- Vectors with records written while MSIX_EN was 0 (R459). -/
  owedOff : List Nat
  /-- Messages sent, newest first. -/
  sent : List Msi
  /-- Completion data of the last BAR0 read. -/
  readData : List Byte
  /-- The 32-bit latches of the LO/HI pairs, by the HI register's offset (R453). -/
  latch : SMap Word
  deriving DecidableEq, Repr

def Hif.reset : Hif := ⟨0, [], [], [], [], 0, [], [], [], [], [], []⟩

/-- Lifecycle states of functions and Routes (R41, R83). -/
inductive Life where
  | off | starting | on | draining
  deriving DecidableEq, Repr

/-- The code of Table 2.12 and of FUNC_STATE. -/
def Life.code : Life → Nat
  | .off => 0 | .starting => 1 | .on => 2 | .draining => 3

/-- A startable function of Table 3.12 other than a Route slot (R83, R84). -/
structure Func where
  life : Life
  enablePending : Bool
  /-- The last lifecycle command accepted and not yet applied: true an enable, false a disable. -/
  accepted : Option Bool
  /-- The boundary at which it entered STARTING. -/
  startedAt : Nat
  /-- Cadence of the last transition (FUNC_QUERY). -/
  lastTransition : Nat
  /-- CORE cycle at which the drain bound of Table 3.14 passes. -/
  drainBy : Nat
  /-- The unit's start condition has been seen to hold. -/
  ready : Bool
  /-- SENSOR_CONFIG, LIDAR_TEMPLATE or DEC_CONFIG has configured it. -/
  configured : Bool
  /-- Cadence of the last start-bound event (R83). -/
  boundAt : Nat
  /-- The drain in progress has outlasted its bound (R84). -/
  overran : Bool
  deriving DecidableEq, Repr

def Func.reset : Func := ⟨.off, false, none, 0, 0, 0, false, false, 0, false⟩

/-- A Route slot (R39, R41). -/
structure Slot where
  /-- The resident image; empty when the slot holds none. -/
  image : List Byte
  life : Life
  enablePending : Bool
  accepted : Option Bool
  lastTransition : Nat
  /-- The last cadence the Route ran its stages from, and that boundary's instant. -/
  runCadence : Nat
  runInstant : Nat
  /-- A cadence of the Route is open. -/
  running : Bool
  /-- The 32-byte stage status records (Table 2.6) by descriptor index; an absent one is 32 zero bytes. -/
  status : SMap (List Byte)
  /-- The drain in progress has outlasted its bound (R42). -/
  overran : Bool
  deriving DecidableEq, Repr

def Slot.reset : Slot := ⟨[], .off, false, none, 0, 0, 0, false, [], false⟩

/-- Ready flag states (Table 2.5). -/
inductive Flag where
  | empty | ready | cut | stale
  deriving DecidableEq, Repr

/-- One instance of a running stage with its own bucket (R47). -/
structure Inst where
  unit : Nat
  cyc : Nat
  tok : Nat
  /-- Bits of the limit reached: 1 cycles, 2 tokens (Table 2.6 DETAIL[1:0]). -/
  limit : Nat
  ended : Bool
  cut : Bool
  /-- FLAG_WAIT cycles. -/
  wait : Nat
  /-- Waits in progress of its engines: number in the subsystem's banks, reason (Table 18.2), CORE cycle of their beginning. -/
  stalls : List (Nat × Nat × Nat)
  deriving DecidableEq, Repr

/-- A stage in progress (R43). -/
structure Run where
  slot : Nat
  /-- Descriptor index of the stage. -/
  index : Nat
  /-- Descriptor whose program and limits run: the Freewheel variant's when one was taken (R53). -/
  variant : Nat
  cadence : Nat
  instant : Nat
  startCore : Nat
  insts : List Inst
  /-- Route flag indices of the flags it produces, in the order of its output flag list. -/
  outFlags : List Nat
  /-- It waits for input flags that are EMPTY (R43). -/
  waiting : Bool
  items : Nat
  degraded : Bool
  freewheel : Bool
  missed : Bool
  fault : Bool
  deriving DecidableEq, Repr

/-- A charge of command-driven work that found its free pool empty (R48): class, cycles and tokens still to be charged, the long
command it belongs to (by its key), the CORE cycle since which it waits. -/
structure PoolWait where
  cls : Nat
  cyc : Nat
  tok : Nat
  long : Option Nat
  since : Nat
  deriving DecidableEq, Repr

/-- The Cadence Controller beside its registers. -/
structure Ccu where
  /-- The 64-bit cadence counter (R18). -/
  cadence : Nat
  /-- CCU_BOUNDARY_TIME. -/
  boundaryTime : Nat
  /-- The instant of the grid at which the last boundary opened; none before the first after RUN. -/
  lastInstant : Option Nat
  /-- Disciplined time stepped since the last boundary: 1 forward across an instant, 2 backward (R35). -/
  stepped : Nat
  funcs : SMap Func
  slots : SMap Slot
  runs : List Run
  flags : SMap Flag
  /-- Free-pool cycles of the classes (R48). -/
  poolCyc : SMap Nat
  /-- Free-pool tokens, shared by all classes (R48). -/
  poolTok : Nat
  /-- Charges that wait for the next refill, oldest first (R48). -/
  poolWaits : List PoolWait
  /-- Tokens charged per class in the cadence in progress and in the one before. -/
  usedTok : SMap Nat
  usedPrev : SMap Nat
  /-- Tokens OBS has drawn in this cadence (R51). -/
  obsTok : Nat
  /-- NoC flit credits of the OBS injection point (R51). -/
  obsCredit : Nat
  /-- OBS flits that wait for credits. -/
  obsOwed : Nat
  /-- CAM_TRIGn pins active, with the raw TIME count at which each pulse ends (R36). -/
  trigEnd : SMap Nat
  /-- Trigger instants still to come in this cadence: pin ↦ instant (R36). -/
  trigDue : SMap Nat
  /-- Open draft epochs not yet resolved, oldest first, as cadence numbers, each with what has been decided of it: COMMIT
  (true) or SQUASH (false) (R20, R42, R221). -/
  epochs : List (Nat × Option Bool)
  /-- The resolution issued and not yet acknowledged: epoch, COMMIT?, holders still to acknowledge (0 FPP, 1 MAP),
  cadence of its issue, holders reported late (R222). -/
  resolving : Option (Nat × Bool × List Nat × Nat × List Nat)
  deriving DecidableEq, Repr

def Ccu.reset : Ccu :=
  ⟨0, 0, none, 0, [], [], [], [], [], 0, [], [], [], 0, 30, 0, [], [], [], none⟩

/-- One segment of disciplined time (R86). -/
structure Seg where
  r : Nat
  d : Int
  f : Nat
  e : Int
  deriving DecidableEq, Repr

/-- A time change of Table 4.1. -/
inductive Change where
  /-- A slew, with TIM_SLEW_RATE as it stood at its acceptance (R89). -/
  | slew (delta : Int) (rate : Nat)
  | step (offset : Int)
  | rate (rate : Int)
  deriving DecidableEq, Repr

/-- A slew in progress: offset asked for, rate in force, raw start. -/
structure Slew where
  delta : Int
  rate : Nat
  r : Nat
  deriving DecidableEq, Repr

/-- TIM beside its registers. -/
structure Tim where
  /-- The retained segments, newest first, at most eight (R86). -/
  segs : List Seg
  slew : Option Slew
  /-- Held changes in acceptance order (R86). -/
  held : List Change
  /-- Raw count at which the last spaced change applied. -/
  lastChange : Option Nat
  /-- Changes of SYNC_STATE of the last 50 µs, newest first: disciplined time and the state left (R374). -/
  syncLog : List (Nat × Nat)
  deriving DecidableEq, Repr

def Tim.reset : Tim := ⟨[⟨0, 0, 0, 0⟩], none, [], none, []⟩

end Sys2Proof.Machine
end

