-- ==== Sys2Proof/Machine/UnitIng.lean ====
section
/-! DEFINITION. State of sensor ingress (ch. 5), beside the registers. -/

namespace Sys2Proof.Machine

/-- An open Frame Start window (R109). -/
structure FsWindow where
  opened : Nat
  closes : Nat
  cadence : Nat
  trigTime : Nat
  /-- The window's Frame Start has come. -/
  taken : Bool
  /-- Cadence number of the boundary that ends the Route's cadence. -/
  ends : Nat
  deriving DecidableEq, Repr

/-- A frame in reception or closed (R106, R110): `lines` holds the pixels delivered so far, top line first. -/
structure Frame where
  number : Nat
  fsTime : Nat
  cadence : Nat
  trigTime : Nat
  flags : Nat
  /-- Lines received before zero-fill. -/
  received : Nat
  lines : List (List Nat)
  /-- The received payload bytes of each line, for the capture of YUV422 (R107). -/
  raw : List (List Byte)
  /-- Per line: it was zero-filled (Table 5.2). -/
  fill : List Bool
  closed : Bool
  absent : Bool
  /-- Cadence number of the boundary that ends its Route's cadence. -/
  ends : Nat
  deriving DecidableEq, Repr

/-- A camera stream (R106 to R110). -/
structure Cam where
  desc : List Byte
  window : Option FsWindow
  frame : Option Frame
  /-- Closed frames since the last entry into ON (R107). -/
  seq : Nat
  /-- A frame was dropped; the flag goes into the next record (Table 5.2). -/
  extra : Bool
  /-- Frame records of the frame queue, newest first (R110). -/
  queue : List (List Byte)
  /-- A Frame Start has been seen since the last boundary. -/
  fsSeen : Bool
  deriving DecidableEq, Repr

def Cam.reset : Cam := ⟨zeros 64, none, none, 0, false, [], false⟩

/-- An inertial or audio input (R112, R113): descriptor, last sampled bit, its run, STUCK. -/
structure BitIn where
  desc : List Byte
  last : Option Bool
  run : Nat
  stuck : Bool
  /-- A transition has been sampled since the channel entered STARTING. -/
  flipped : Bool
  /-- CORE cycle of the channel's next sample (R112). -/
  next : Nat
  deriving DecidableEq, Repr

def BitIn.reset : BitIn := ⟨zeros 64, none, 0, false, false, 0⟩

/-- An encoder channel (R114 to R116). -/
structure Enc where
  desc : List Byte
  a : Bool
  b : Bool
  z : Bool
  seenA : Bool
  seenB : Bool
  seenZ : Bool
  count : Nat
  /-- Counted edges since the last record. -/
  edges : Nat
  /-- Any A/B edge since the last record. -/
  moved : Bool
  illegal : Bool
  index : Bool
  edgeTime : Nat
  indexCount : Nat
  indexTime : Nat
  /-- The boundary the record instants count from, and the records written since: the next falls at
  base + records × RECORD_PERIOD. -/
  base : Nat
  records : Nat
  deriving DecidableEq, Repr

def Enc.reset : Enc :=
  ⟨zeros 64, false, false, false, false, false, false, 0, 0, false, false, false, 0, 0, 0, 0, 0⟩

/-- A lidar template (R117 to R120). -/
structure LidarTpl where
  desc : List Byte
  /-- Matched packets since ON (PACKET_SEQ). -/
  seq : Nat
  /-- Disciplined time of the last matching packet. -/
  lastSeen : Nat
  /-- Disciplined time from which the silence now running counts. -/
  silentFrom : Nat
  deriving DecidableEq, Repr

def LidarTpl.reset : LidarTpl := ⟨zeros 320, 0, 0, 0⟩

/-- A record handed to FUS through a record queue (Table 1.3): source FUNC_ID, stamp, bytes. -/
structure FusRec where
  func : Nat
  stamp : Nat
  bytes : List Byte
  deriving DecidableEq, Repr

structure Ing where
  cams : SMap Cam
  bitIns : SMap BitIn
  encs : SMap Enc
  lidars : SMap LidarTpl
  /-- VCs of each port on which a Frame Start came in this cadence. -/
  vcNow : SMap Nat
  /-- Bytes waiting in the 64 KiB input FIFO of each sensor port. -/
  fifo : SMap Nat
  /-- Records on their way to FUS, oldest first. -/
  toFus : List FusRec
  deriving DecidableEq, Repr

def Ing.reset : Ing := ⟨[], [], [], [], [], [], []⟩

end Sys2Proof.Machine
end

