-- ==== Sys2Proof/Machine/UnitMap.lean ====
section
/-! DEFINITION. State of the Map Engine (ch. 12), beside the registers and the stores that lie in device memory. -/

namespace Sys2Proof.Machine

/-- A committed map object a shadow handle resolves to (R259). -/
inductive MapObj where
  /-- A landmark: store frame and index. -/
  | landmark (frame index : Nat)
  | keyframe (number : Nat)
  deriving DecidableEq, Repr

/-- A draft shadow (R270): its epoch, its place in the canonical order of the epoch (R265), its handle (R259), the address
of its 64-byte slot, and the stage's MISS_RETIRE. -/
structure Shadow where
  epoch : Nat
  layer : Nat
  stage : Nat
  entry : Nat
  pos : Nat
  handle : Nat
  addr : Nat
  missRetire : Nat
  applied : Bool
  deriving DecidableEq, Repr

/-- A landmark table frame in use: the store frame of its tile, the 64-byte header (Table 12.1) and the dirty bit. -/
structure TabFrame where
  store : Nat
  header : List Byte
  dirty : Bool
  deriving DecidableEq, Repr

/-- What commits change beside device memory. -/
structure MapData where
  /-- Store frames in use, with the key each holds (R261). -/
  stored : SMap Nat
  /-- Landmark table frames in use (R260). -/
  frames : SMap TabFrame
  /-- Archive slots in use, with their keys. -/
  archive : SMap Nat
  /-- The shadows of the retained epochs (R273). -/
  shadows : List Shadow
  /-- Retained epochs that were squashed. -/
  squashed : List Nat
  /-- Committed objects of recent epochs' insertions, by epoch × 2^32 + handle. -/
  bound : SMap MapObj
  deriving DecidableEq, Repr

def MapData.reset : MapData := ⟨[], [], [], [], [], []⟩

/-- A MAP stage at work in this cadence. -/
structure MapStage where
  /-- Queue entry in progress, and the result codes of its records taken. -/
  entry : Nat
  codes : List Nat
  /-- Handles of this stage's records that wrote a shadow. -/
  inserted : List Nat
  /-- CORE cycle in which the pipe is free again. -/
  free : Nat
  /-- CORE cycle from which its next record has waited for a tile's promotion (R279). -/
  held : Option Nat
  deriving DecidableEq, Repr

def MapStage.reset : MapStage := ⟨0, [], [], 0, none⟩

structure Map where
  data : MapData
  /-- The view of the running epoch, kept when its own shadows are committed within its cadence (R275). -/
  frozen : Option (Memory × MapData)
  /-- Records received in the cadence by queue (the control words of R264). -/
  received : SMap Nat
  /-- Records of a queue run. -/
  run : SMap Nat
  /-- Stages at work, by flag key of (slot, descriptor index). -/
  stages : SMap MapStage
  /-- Activation sets in effect, and those built in this cadence, by (slot, descriptor index) (R278). -/
  sets : SMap (List Nat)
  built : SMap (List Nat)
  /-- Keys of sets in effect that wait for a free table frame (R279). -/
  waiting : List Nat
  /-- Store frames a MEM_PROMOTE of the host pins (R340), and those whose physical eviction a MEM_EVICT left deferred
  (R342). -/
  hostPins : List Nat
  deferred : List Nat
  /-- MEM_PROMOTEs of tiles accepted and not complete. -/
  promoting : List Nat
  /-- Tiles a MAP_ARCHIVE moves: key, archive slot, store frame, direction (R287). -/
  moving : List (Nat × Nat × Nat × Nat)
  deriving DecidableEq, Repr

def Map.reset : Map := ⟨MapData.reset, none, [], [], [], [], [], [], [], [], [], []⟩

end Sys2Proof.Machine
end

