-- ==== Sys2Proof/Machine/UnitMem.lean ====
section
/-! DEFINITION. State of the memory tiers (ch. 15), beside the registers and the memory itself. -/

namespace Sys2Proof.Machine

/-- States of a resident object (Table 15.15). -/
inductive ObjState where
  | absent | promoting | resident | evicting
  deriving DecidableEq, Repr

def ObjState.code : ObjState → Nat
  | .absent => 0 | .promoting => 1 | .resident => 2 | .evicting => 3

/-- An entry of the object table: its declaration (Table 15.5) and its state (R340 to R342). -/
structure MemObj where
  home : Nat
  staging : Nat
  tiles : Nat
  resident : Bool
  writable : Bool
  stageTiles : Nat
  state : ObjState
  /-- Holders: Route slots 0 to 15, 16 the host. -/
  pins : List Nat
  /-- EVICT_DEFERRED. -/
  deferred : Bool
  /-- The physical eviction in progress was a deferred one. -/
  wasDeferred : Bool
  /-- Tiles an eviction in progress has written back. -/
  written : Nat
  /-- Dirty staging slots (R337). -/
  dirty : List Nat
  /-- A promotion became requested during EVICTING: the staging is kept (R341). -/
  keep : Bool
  deriving DecidableEq, Repr

/-- What a copy serves. -/
inductive CopyFor where
  /-- A prefetch entry's fetch: Route slot and flag index. -/
  | fetch (slot flag : Nat)
  /-- A prefetch entry's write-back. -/
  | writeBack
  /-- A write-back of an eviction, of a drain of a Route slot, of a MEM_FLUSH (the key of its command). -/
  | eviction
  | drain (slot : Nat)
  | flush (key : Nat)
  deriving DecidableEq, Repr

/-- A tile copy in flight (R335, R337, R341): object index, tile, staging slot. -/
structure Copy where
  obj : Nat
  tile : Nat
  slot : Nat
  why : CopyFor
  /-- CORE cycle by which the bound of Table 15.11 ends. -/
  bound : Nat
  late : Bool
  /-- CORE cycle of its issue. -/
  since : Nat
  deriving DecidableEq, Repr

/-- A flash slot write that waits for its program (R346): slot address, content, key of its command. -/
structure FlashWrite where
  addr : Nat
  bytes : List Byte
  key : Nat
  deriving DecidableEq, Repr

/-- Kinds of long memory commands that wait for events. -/
inductive JobKind where
  | promote | evict | flush | flashWrite | archive
  deriving DecidableEq, Repr

/-- A long memory command in progress: its key, its parts still outstanding, bytes or tiles moved, and what it acts on: an object index,
4,096 + a store frame, or the key of an archived tile. -/
structure MemJob where
  key : Nat
  kind : JobKind
  left : Nat
  moved : Nat
  obj : Nat
  failed : Bool
  deriving DecidableEq, Repr

structure Memt where
  /-- The object table by index. -/
  objs : SMap MemObj
  copies : List Copy
  /-- Prefetch entries issued in the Route's cadence, by 65536 × slot + entry. -/
  issued : List Nat
  /-- Pre-charges of stages not yet started, by 64 × flag key of (slot, stage) + unit (R336). -/
  precharge : SMap Nat
  /-- FLASH buckets of the Routes (R336). -/
  flashTok : SMap Nat
  /-- ALLOC tokens of STARTING Routes still to spend (R338). -/
  startTok : SMap Nat
  /-- What the allocations of STARTING Routes have not paid yet, oldest first: slot, work (2 × object index, 1 + 2 × flag key of a fetch),
  tokens and FLASH beats left (R338). -/
  owed : List (Nat × Nat × Nat × Nat)
  /-- 64-byte beats of DRAM whose next read stays uncorrectable and gives zeros (R339). -/
  lost : List Nat
  /-- Cause of a tile that was not issued or failed, by flag key (Table 15.7). -/
  cause : SMap Nat
  flash : List FlashWrite
  jobs : List MemJob
  deriving DecidableEq, Repr

def Memt.reset : Memt := ⟨[], [], [], [], [], [], [], [], [], [], []⟩

end Sys2Proof.Machine
end

