-- ==== Sys2Proof/Machine/UnitMet.lean ====
section
/-! DEFINITION. State of the Oasis metrology die and of its gateway on the compute die (ch. 17), beside the registers. -/

namespace Sys2Proof.Machine

/-- The run of frames since the last EMPTY one (R395). -/
structure MetRun where
  /-- FRAME_SEQ of the previous frame of the channel. -/
  lastSeq : Option Nat
  /-- Consecutive candidates with these indicated L, W, H. -/
  agree : Nat
  dims : Nat × Nat × Nat
  /-- Dimensions of the run's last valid record while no candidate with different ones has come. -/
  held : Option (Nat × Nat × Nat)
  /-- CAUSE of the run's last record, 0 for a valid one; none before the first. -/
  lastRecord : Option Nat
  /-- Frames of the run; a valid record, and the UNSTABLE record, issued in it. -/
  frames : Nat
  valid : Bool
  unstable : Bool
  deriving DecidableEq, Repr

def MetRun.reset : MetRun := ⟨none, 0, (0, 0, 0), none, none, 0, false, false⟩

/-- A legally relevant image as stored: bytes, length, signature. Length 0 is the image of the delivered part. -/
structure MetImage where
  bytes : Memory
  len : Nat
  sig : List Byte
  deriving DecidableEq, Repr

/-- A frame that is arriving: its first byte found Oasis processing; the CORE cycle of that byte; the frame's header (R384). -/
structure MetRx where
  busy : Bool
  since : Nat
  header : List Byte
  deriving DecidableEq, Repr

/-- The Oasis die (R378 to R398). -/
structure Oasis where
  /-- It has started since its power-on reset. -/
  started : Bool
  /-- SEAL_N low or open after its debounce. -/
  sealed : Bool
  /-- The active and the other copy of the parameter block, and a staged one. -/
  params : List Byte
  spare : List Byte
  staged : Option (List Byte)
  /-- The event counter in OTP and the last 256 log entries, oldest first. -/
  counter : Nat
  log : List (List Byte)
  /-- The active bank and the inactive one, which IMAGE_LOAD fills. -/
  image : MetImage
  load : MetImage
  imageOk : Bool
  paramOk : Bool
  /-- Records issued since the start. -/
  issued : Nat
  lastCause : Nat
  dropped : Nat
  received : Nat
  refused : Nat
  /-- A frame is arriving. -/
  rx : Option MetRx
  /-- The frame being processed, with its CRC as its last four bytes, and the CORE cycle of its last byte. -/
  frame : Option (List Byte)
  frameAt : Nat
  /-- SEAL_N's state at the last byte of the frame judged last (R395). -/
  frameSealed : Bool
  /-- Parameter requests that wait for the frame being processed, oldest first: TYPE and payload (R398). -/
  waiting : List (Nat × List Byte)
  run : MetRun
  /-- Frames sent on MET_TX, oldest first: TYPE and payload. -/
  txOut : List (Nat × List Byte)
  /-- Records on the result path not yet taken by the gateway, oldest first. -/
  path : List (Nat × List Byte)
  deriving DecidableEq, Repr

/-- The block as delivered (Table 17.4), without its CRC. -/
def metDefaultBody : List Byte :=
  [0x01, 0x00, 5, 0x0E, 0x10, 0x00, 0, 3] ++ zeros 24 ++
    (leBytes 4 (2 ^ 30) ++ zeros 12) ++ (leBytes 4 (2 ^ 30) ++ zeros 12) ++ leBytes 4 (2 ^ 30) ++ zeros 20 ++
    leBytes 2 20 ++ leBytes 2 10 ++ leBytes 2 200 ++ leBytes 2 20 ++ [5, 2] ++ leBytes 2 1000 ++ [10, 50, 2] ++ zeros 149

/-- The block as delivered; its PARAM_CRC is that of its 252 bytes. -/
def metDefaultParams : List Byte := metDefaultBody ++ leBytes 4 0x5890FC93

def Oasis.reset : Oasis :=
  ⟨false, true, metDefaultParams, metDefaultParams, none, 0, [], ⟨[], 0, []⟩, ⟨[], 0, []⟩, false, false, 0, 0, 0, 0, 0,
    none, none, 0, true, [], MetRun.reset, [], []⟩

/-- A frame of the gateway: a snapshot in progress, or in transmission. -/
structure MetSend where
  ctx : Nat
  /-- CORE cycle at which this stage of it ends. -/
  by_ : Nat
  /-- Header, bytes of header and entries, frame CRC. -/
  len : Nat
  crc : Nat
  /-- Once its cadence has ended: a window write landed in a live placement during it (R382). -/
  host : Option Bool
  deriving DecidableEq, Repr

/-- Oasis, and the gateway beside its registers. -/
structure Met where
  oasis : Oasis
  /-- MET_SELECT accepted and not yet in effect. -/
  selDue : Option (Nat × Nat)
  /-- The fusion block context that qualified at the last boundary. -/
  cand : Option Nat
  /-- This cadence's snapshot was taken. -/
  taken : Bool
  snap : Option MetSend
  tx : Option MetSend
  /-- WINDOW_WRITE_LIVE was set during the cadence in progress (R382). -/
  hostWrite : Bool
  /-- Frames sent since the channel entered STARTING. -/
  sent : Nat
  /-- The latest identification record and the CORE cycle of its arrival. -/
  ident : Option (List Byte)
  identAt : Nat
  /-- RESULT_SEQ of the latest result record. -/
  lastSeq : Nat
  /-- The last 256 result records with a mark for those not read, oldest first (R399). -/
  ring : List (Bool × List Byte)
  deriving DecidableEq, Repr

def Met.reset : Met := ⟨Oasis.reset, none, none, false, none, none, false, 0, none, 0, 0, []⟩

end Sys2Proof.Machine
end

