-- ==== Sys2Proof/Machine/UnitMxa.lean ====
section
/-! DEFINITION. State of the matrix arrays (ch. 13), beside the registers and their local memory. -/

namespace Sys2Proof.Machine

/-- What a stage's operator has done (R309). -/
structure MxOp where
  flags : Nat
  sat : Nat
  nonfinite : Nat
  extent : Nat
  units : Nat
  /-- The extent has been read (R307). -/
  started : Bool
  /-- Blocks written. -/
  blocks : List Nat
  deriving DecidableEq, Repr

def MxOp.reset : MxOp := ⟨0, 0, 0, 0, 0, false, []⟩

/-- Where an array stands in its stage: operator, the block it works on, and the unit of that block. -/
structure MxPos where
  op : Nat
  block : Nat
  unit : Nat
  /-- Units issued in canonical order. -/
  index : Nat
  done : Bool
  deriving DecidableEq, Repr

/-- A stage at work on the arrays. -/
structure MxStage where
  slot : Nat
  stage : Nat
  cadence : Nat
  ops : SMap MxOp
  arrays : SMap MxPos
  deriving DecidableEq, Repr

structure Mxa where
  stages : List MxStage
  /-- Jobs of SEARCH operators of stages started in this cadence: slot, job address, score flags (R306). -/
  searches : List (Nat × Nat × List Nat)
  /-- Output tiles of stages started in the Route's cadence: slot, address, flag index. -/
  tileFlags : List (Nat × Nat × Nat)
  /-- FP32 scores, then softmax weights, of the block in progress on an array, row by row (R300). -/
  scores : SMap (List Nat)
  /-- Elements 128 × row + column of an array's accumulator that are non-finite under an FP8 pairing (R296). -/
  bad : SMap (List Nat)
  /-- INT8 gate values of a recurrent step in progress, and its hidden values h as 16-bit fields, by 4096 × flag key of the
  stage + 2 × operator (R300): row × width + column. -/
  gates : SMap (SMap Nat)
  hidden : SMap (SMap Nat)
  /-- CORE cycle up to which an array has a unit in progress (R303). -/
  busy : SMap Nat
  deriving DecidableEq, Repr

def Mxa.reset : Mxa := ⟨[], [], [], [], [], [], [], []⟩

end Sys2Proof.Machine
end

