-- ==== Sys2Proof/Machine/UnitNet.lean ====
section
/-! DEFINITION. State of the Ethernet ports and of the PTP instance (ch. 4), beside the registers. -/

namespace Sys2Proof.Machine

/-- PTP port states (IEEE 1588-2019, as the instance of R97 uses them). -/
inductive PtpState where
  | initializing | disabled | listening | master | passive | uncalibrated | slave
  deriving DecidableEq, Repr

/-- A PTP port (R97 to R99). Times are in 2^−16 ns. -/
structure PtpPort where
  /-- The descriptor of Table 4.6. -/
  desc : List Byte
  state : PtpState
  /-- Next sequenceId of the messages the port originates: Sync, Announce, Delay_Req, Pdelay_Req, Signaling. -/
  seqSync : Nat
  seqAnnounce : Nat
  seqDelay : Nat
  seqPdelay : Nat
  seqSignal : Nat
  /-- A two-step Sync waiting for its Follow_Up: sequenceId, receive time, correction. -/
  syncWait : Option (Nat × Int × Int)
  /-- Corrected origin and receive time of the last Sync measured. -/
  lastSync : Option (Int × Int)
  /-- sequenceId and transmit time of the last Delay_Req and of the last Pdelay_Req. -/
  delayReq : Option (Nat × Int)
  pdelayReq : Option (Nat × Int)
  /-- A two-step Pdelay_Resp waiting for its follow-up: sequenceId, t2, t4, correction. -/
  pdelayWait : Option (Nat × Int × Int × Int)
  /-- meanPathDelay or meanLinkDelay. -/
  delay : Int
  /-- Consecutive Sync messages with |offset| within TIM_LOCK_THRESH (Table 4.7). -/
  lockRun : Nat
  /-- The Announce data set of the master it follows; empty when it follows none. -/
  parent : List Byte
  /-- Message intervals asked for by a Signaling TLV: link delay, Sync, Announce. -/
  intervals : Option (Int × Int × Int)
  deriving DecidableEq, Repr

/-- The descriptor before any PTP_CONFIG: the defaults of Table 4.6 (sensor ports master-only). -/
def ptpDefault (p : Nat) : List Byte :=
  [0, if p < 2 then 2 else 0, 0, 0, 0xFD, 0, 0, 3, 248, 248, 248, 0] ++ zeros 52

def PtpPort.reset (p : Nat) : PtpPort :=
  ⟨ptpDefault p, .initializing, 0, 0, 0, 0, 0, none, none, none, none, none, 0, 0, [], none⟩

/-- A frame waiting in a forwarding FIFO: its bytes, the raw ingress capture (R102) and whether it goes to the head of the transmit
queue: a PTP event message or a Peloton control frame (R96, R367). -/
structure FwdFrame where
  bytes : List Byte
  ingress : Nat
  event : Bool
  deriving DecidableEq, Repr

/-- An Ethernet port. -/
structure NetPort where
  /-- The forwarding FIFO toward this port: 64 KiB (R96). -/
  fwd : List FwdFrame
  /-- CORE cycle until which a received PAUSE holds the transmitter (R93). -/
  pausedUntil : Nat
  /-- The device's own frames that a received PAUSE holds back, oldest first (R93). -/
  hold : List (List Byte)
  /-- Frames put on the wire, newest first. -/
  sent : List (List Byte)
  deriving DecidableEq, Repr

def NetPort.reset : NetPort := ⟨[], 0, [], []⟩

structure Net where
  ports : SMap NetPort
  ptp : SMap PtpPort
  deriving DecidableEq, Repr

def Net.reset : Net := ⟨[], []⟩

end Sys2Proof.Machine
end

