-- ==== Sys2Proof/Machine/UnitObs.lean ====
section
/-! DEFINITION. State of observability, trace and the Brake (ch. 18) and of clocks, reset and boot (ch. 19), beside
the registers. -/

namespace Sys2Proof.Machine

/-- A counter bank of an engine (Table 18.2). IDLE is what the elapsed engine cycles leave over BUSY and STALL. -/
structure Bank where
  layer : Nat
  operator : Nat
  kind : Nat
  slot : Nat
  cadence : Nat
  openTime : Nat
  openCore : Nat
  busy : Nat
  stall : SMap Nat
  /-- CORE cycle at which the command ended; none while it is in progress. -/
  endCore : Option Nat
  deriving DecidableEq, Repr

/-- A bank no command has opened yet. -/
def Bank.reset : Bank := ⟨0, 0, 0, 0xFF, 0, 0, 0, 0, [], some 0⟩

/-- The two banks of an engine (R404); `closedAt` is the CORE cycle of the last swap. -/
structure Banks where
  completed : Bank
  active : Bank
  closedAt : Nat
  deriving DecidableEq, Repr

def Banks.reset : Banks := ⟨Bank.reset, Bank.reset, 0⟩

/-- A monitor bank (R412). -/
structure MonBank where
  count : Nat
  min : Int
  max : Int
  cadence : Nat
  bins : SMap Nat
  deriving DecidableEq, Repr

def MonBank.reset : MonBank := ⟨0, 2 ^ 63 - 1, -(2 ^ 63), 0, []⟩

/-- A monitor (R409): its descriptor, banks, boundaries since the last swap, crossing seen in this cadence. -/
structure Monitor where
  desc : List Byte
  completed : MonBank
  active : MonBank
  age : Nat
  crossed : Bool
  /-- The previous stamp, for SOURCE 6. -/
  last : Option Int
  deriving DecidableEq, Repr

/-- The monitor descriptor as reset (Table 18.5): off, swapped at every boundary, thresholds out of reach. -/
def monitorOff : List Byte :=
  leBytes 4 0x01000000 ++ zeros 12 ++ leBytes 8 (2 ^ 63 - 1) ++ leBytes 8 (2 ^ 63) ++ zeros 32

def Monitor.reset : Monitor := ⟨monitorOff, MonBank.reset, MonBank.reset, 0, false, none⟩

/-- The trace unit (R414 to R420). -/
structure Trace where
  desc : List Byte
  fifo : List (List Byte)
  /-- Packets lost and not yet announced by a LOST packet. -/
  lost : Nat
  /-- The group of packets waiting to fill a beat of the memory ring (R419). -/
  group : List (List Byte)
  beats : Nat
  /-- Packets driven on the port, newest first. -/
  port : List (List Byte)
  onCore : Nat
  lastSync : Nat
  /-- Packets that wait behind the FIFO's 4,096 under STALL_ON_FULL, oldest first: the CORE cycle since which the units of these engines
  wait, by subsystem and engine (R417). -/
  waits : List (Nat × List (Nat × Nat))
  /-- The CORE cycle of the FIFO's newest packet, and how many are of that cycle (R416). -/
  cycle : Nat × Nat
  /-- Raw TIME count at which the latest packet on the port began (R418). -/
  portAt : Option Nat
  deriving DecidableEq, Repr

/-- The trace descriptor as reset (Table 18.8). -/
def traceDefault : List Byte := [1, 1, 0, 0, 0xFF, 0xFF] ++ zeros 26 ++ leBytes 4 65536 ++ zeros 28

def Trace.reset : Trace := ⟨traceDefault, [], 0, [], 0, [], 0, 0, [], (0, 0), none⟩

/-- An armed tensor dump (R422). -/
structure Dump where
  key : Nat
  layer : Nat
  operator : Nat
  cadence : Nat
  buffer : Nat
  maxBytes : Nat
  tiles : List Nat
  truncated : Bool
  deriving DecidableEq, Repr

/-- A Brake registered in its cycle 0 (R424). -/
structure BrakeReq where
  core : Nat
  sources : Nat
  source : Nat
  reason : Nat
  /-- A BRAKE command has been accepted, in cycle 0 or after it (R79). -/
  command : Bool
  deriving DecidableEq, Repr

/-- Cycle S: the first alignment point at or after cycle 2 of the Brake (R425). -/
def BrakeReq.stopAt (b : BrakeReq) : Nat := (b.core + 7) / 6 * 6

/-- OBS beside its registers. -/
structure Obs where
  /-- Event counters: 65,536 × subsystem + index in Table 18.4. -/
  counters : SMap Nat
  /-- Engine banks: 256 × subsystem + engine (Table 18.1). -/
  banks : SMap Banks
  monitors : SMap Monitor
  trace : Trace
  dumps : List Dump
  brake : Option BrakeReq
  /-- Cycle S has come (R425). -/
  stopped : Bool
  /-- The TAP instruction in the instruction register (R428). -/
  tap : Nat
  /-- The compute-die pins are under EXTEST control. -/
  extest : Bool
  /-- What the last TAP operation shifted out, and its error status (R428). -/
  tdo : Nat
  tapError : Bool
  /-- The scan access in progress or waiting: KIND and address as they stood when GO was set, and whether the device was braked then
  (R429). -/
  scan : Option (Nat × Nat × Bool)
  /-- IJTAG waits for the host's access to end (R429). -/
  tapWait : Bool
  deriving DecidableEq, Repr

def Obs.reset : Obs := ⟨[], [], [], Trace.reset, [], none, false, 1, false, 0, false, none, false⟩

/-- One-time-programmable fuses (Table 19.4) as numbers of their bits. -/
structure Fuses where
  keyHash : SMap Nat
  keyRevoke : Nat
  secureEn : Bool
  routeSigned : Bool
  hostBootDis : Bool
  /-- The 64-bit thermometer. -/
  svnFloor : Nat
  deriving DecidableEq, Repr

/-- The fuses as shipped. -/
def Fuses.shipped : Fuses := ⟨[], 0, false, false, false, 0⟩

/-- What the boot ROM is at (R444). -/
inductive BootTry where
  | none | slotA | slotB
  /-- WAIT_HOST is set. -/
  | hostWait
  /-- GO was written. -/
  | hostCheck
  deriving DecidableEq, Repr

/-- CRB beside its registers (ch. 19): fuses, resets asserted, the boot. -/
structure Crb where
  fuses : Fuses
  /-- Device-scope reset sources asserted now, by the codes of Table 19.2. -/
  held : List Nat
  /-- The CRB reset has been released (step 2 of Table 19.6). -/
  released : Bool
  /-- Step 4 of Table 19.6 has been reached and the link is up in D0: BAR0 responds. -/
  barUp : Bool
  trying : BootTry
  /-- ROUTE_KEY and FW_BASE of the running boot image. -/
  routeKey : List Byte
  fwBase : Nat
  /-- CORE cycle of a rising edge of the SDM and PDM clocks: the alignment point at which the divisor written took effect (R432). -/
  sdmPhase : Nat
  pdmPhase : Nat
  /-- Divisor and rising edge in effect before that point. -/
  sdmWas : Nat × Nat
  pdmWas : Nat × Nat
  deriving DecidableEq, Repr

def Crb.reset : Crb := ⟨Fuses.shipped, [], false, false, BootTry.none, zeros 96, 0, 0, 0, (600, 0), (1536, 0)⟩

end Sys2Proof.Machine
end

