-- ==== Sys2Proof/Machine/UnitTdm.lean ====
section
/-! DEFINITION. State of Tandem pairs and the Peloton (ch. 16), beside the registers. -/

namespace Sys2Proof.Machine

/-- A frame in the replay buffer of the Tandem link (R355): its SEQ and its bytes. -/
structure LinkFrame where
  seq : Nat
  bytes : List Byte
  deriving DecidableEq, Repr

structure Tdm where
  /-- Role set by TANDEM_CONFIG and due at the next boundary (R352). -/
  roleDue : Option Nat
  /-- SEQ of the last frame sent that advances it; highest SEQ received in order (R355). -/
  sentSeq : Nat
  recvSeq : Nat
  /-- Frames put on the link, newest first. -/
  wire : List (List Byte)
  /-- Frames not yet acknowledged, oldest first (at most 1 MiB). -/
  replay : List LinkFrame
  /-- Consecutive NAKs for one SEQ: the SEQ and how many (R356). -/
  naks : Nat × Nat
  /-- The same of the NAKs it has sent. -/
  naksSent : Nat × Nat
  /-- CORE cycle of the last frame received, and of the last one sent. -/
  lastRx : Nat
  lastTx : Nat
  /-- Latest PAIR payload of the twin. -/
  peer : Option (List Byte)
  /-- BOUNDARY frames received and not yet opened: cadence, instant (R359). -/
  boundaries : List (Nat × Nat)
  /-- The last TIME_ECHO taken: its payload, for the next TIME frame (R359). -/
  echo : Nat
  /-- The twin's digests by cadence, and the own closed ones, until they are compared (R363). -/
  peerDigest : SMap (List Nat)
  ownDigest : SMap (List Nat)
  /-- Lanes of the cadences still open: 16 × cadence + lane (R362). -/
  lanes : SMap Nat
  /-- Whose writes are in progress: lane and cadence (R362). -/
  writer : Option (Nat × Nat)
  /-- The link is compared, from this cadence on. -/
  comparing : Option Nat
  /-- The last cadence compared matched, or none was compared since pairing. -/
  matched : Bool
  /-- Boundary at which roles are exchanged (R365); a takeover at the next boundary. -/
  switchAt : Option Nat
  takeover : Bool
  /-- Pixel bytes of a LINE that spans frames (R355). -/
  line : List Byte
  /-- While a forwarded item is taken: the valid instant and the cadence whose epoch stand for those of its arrival
  (R357). -/
  tag : Option (Nat × Nat)
  deriving DecidableEq, Repr

def Tdm.reset : Tdm :=
  ⟨none, 0, 0, [], [], (0, 0), (0, 0), 0, 0, none, [], 0, [], [], [], none, none, true, none, false, [], none⟩

/-- A barrier round in progress (R369). -/
structure Round where
  instant : Nat
  /-- Bits received, the own one included once it reports. -/
  bits : Nat
  slow : Bool
  reported : Bool
  released : Bool
  /-- A broadcast BARRIER_UP of a lower-numbered member came (R369). -/
  lower : Bool
  deriving DecidableEq, Repr

/-- A map tile in assembly (R371). -/
structure PelTile where
  key : Nat
  /-- CORE cycle of its first fragment. -/
  first : Nat
  root : Nat
  frags : SMap (List Byte)
  deriving DecidableEq, Repr

/-- An armed operation (R372, R373). -/
structure PelOp where
  op : Nat
  disable : Nat
  enable : Nat
  instant : Nat
  /-- The issuing member; none for a local ROUTE_SWITCH. -/
  issuer : Option Nat
  /-- Members whose ARMED acknowledgement has arrived. -/
  acks : List Nat
  /-- The device performs it. -/
  armed : Bool
  deriving DecidableEq, Repr

structure Pel where
  /-- The member list in effect, empty while not joined; domain and own number. -/
  members : List (List Byte)
  domain : Nat
  me : Nat
  /-- A join due at the next boundary: list, domain, member; a leave due. -/
  joinDue : Option (List (List Byte) × Nat × Nat)
  leaveDue : Bool
  /-- Frames sent (SEQ). -/
  seq : Nat
  round : Option Round
  /-- Instant of the last round opened. -/
  lastRound : Nat
  tiles : List PelTile
  /-- Complete tiles due at the next boundary: root, bytes; on a secondary with the boundary that applies them. -/
  due : List (Nat × List Byte)
  ops : List PelOp
  deriving DecidableEq, Repr

def Pel.reset : Pel := ⟨[], 0, 0, none, false, 0, none, 0, [], [], []⟩

end Sys2Proof.Machine
end

