-- ==== Sys2Proof/Machine/UnitVis.lean ====
section
/-! DEFINITION. State of the Vision Front (ch. 7), beside the registers. -/

namespace Sys2Proof.Machine

/-- A surviving corner: integer position, score, sub-pixel offsets, flags of Table 7.5. -/
structure Kp where
  x : Nat
  y : Nat
  score : Nat
  offX : Int
  offY : Int
  flags : Nat
  deriving DecidableEq, Repr

/-- The context of a camera stream (R139): its stream block and the frame's work. A level's rows hold 16-bit words
with VALID in bit 15. -/
structure VisCtx where
  /-- The block of Table 7.1. -/
  block : List Byte
  slot : Nat
  index : Nat
  pipe : Nat
  /-- Position of the stream's flags in the stage's output flag list. -/
  flagBase : Nat
  /-- Route flag indices of the stream's flags. -/
  outFlags : List Nat
  cadence : Nat
  /-- A stage run of the stream has started and not ended. -/
  active : Bool
  cut : Bool
  /-- Units issued or passed, in the canonical order of R159. -/
  cursor : Nat
  cyc : Nat
  tok : Nat
  levels : SMap (List (List Nat))
  /-- Input lines below this one are released (R145). -/
  released : Nat
  /-- Survivors by 65,536 × level + band; listed keypoints by 65,536 × level + cell row. -/
  surv : SMap (List Kp)
  rows : SMap (List Kp)
  entered : SMap Nat
  dropped : SMap Nat
  count : SMap Nat
  /-- FLAGS and LEVELS of the feature header. -/
  hdr : Nat
  complete : Nat
  bands : Nat
  /-- Address of the alternative grid in effect. -/
  gridAlt : Option Nat
  /-- Written and waiting for a boundary: 0 none, 1 REQUEST, 2 REVERT. -/
  gridReq : Nat
  /-- Taken at a boundary and due before the stream's next RECT band: address, or a return to the Route's grid. -/
  gridDue : Option (Option Nat)
  deriving DecidableEq, Repr

def VisCtx.reset : VisCtx :=
  ⟨zeros 64, 0, 0, 0xF, 0, [], 0, false, false, 0, 0, 0, [], 0, [], [], [], [], [], 0, 0, 0, none, 0, none⟩

structure Vis where
  ctxs : SMap VisCtx
  /-- Level-0 bands on their way into the input stage of each array, oldest first; an empty band is a CUT marker
  (R162). -/
  direct : SMap (List (List (List Nat)))
  /-- CORE cycle until which a pipe has a unit in progress (Table 7.9). -/
  busy : SMap Nat
  deriving DecidableEq, Repr

def Vis.reset : Vis := ⟨[], [], []⟩

end Sys2Proof.Machine
end

