-- ==== Sys2Proof/Machine/State.lean ====
section
/-! DEFINITION. The state of the block, its fault and refusal reasons, and the state after reset. -/

namespace Sys2Proof.Machine

/-- Everything the spec gives the part, the host's memory it works on, and the queue of waiting commands. -/
structure State where
  /-- CORE cycles since the CRB reset release (R425, R431). From the Brake's cycle S on the CORE clock stands; this count then goes on as
  ROOT ÷ 4, the base of the raw TIME counter, which continues (R85, Table 18.14). -/
  core : Nat
  /-- The registers of BAR0 by offset; one not listed holds its reset value (R11, R14). -/
  regs : SMap Word
  /-- Device memory: SRAM, DRAM and logical flash by device address (R325). -/
  mem : Memory
  /-- Host memory, as far as the device has reached it. -/
  host : Memory
  hif : Hif
  ccu : Ccu
  tim : Tim
  net : Net
  ing : Ing
  dec : Dec
  vis : Vis
  fst : Fst
  fus : Fus
  fpp : Fpp
  bsu : Bsu
  map : Map
  mxa : Mxa
  gcr : Gcr
  memt : Memt
  tdm : Tdm
  pel : Pel
  met : Met
  obs : Obs
  crb : Crb
  /-- How many free values have been drawn (assumption log 2). -/
  free : Nat
  /-- Commands waiting, first in, first out. -/
  pending : List Instr
  deriving DecidableEq, Repr

/-- Why the machine stops. No command or event of this block stops it: what the spec calls an error is a status, a bit or a record of
the device, and what it leaves open is a free value. -/
inductive Fault where
  /-- Raised by nothing; safe. -/
  | unraised
  deriving DecidableEq, Repr

/-- Why a command has no meaning. -/
inductive Refusal where
  /-- The command has no meaning in this model yet; raised by exec's own arms; safe. -/
  | notModelled (mnemonic : String)
  deriving DecidableEq, Repr

/-- The machine right after reset (R14, R435). -/
def State.reset : State :=
  { core := 0, regs := [], mem := [], host := [], hif := Hif.reset, ccu := Ccu.reset, tim := Tim.reset, net := Net.reset,
    ing := Ing.reset, dec := Dec.reset, vis := Vis.reset, fst := Fst.reset, fus := Fus.reset, fpp := Fpp.reset, bsu := Bsu.reset, map := Map.reset, mxa := Mxa.reset, gcr := Gcr.reset, memt := Memt.reset, tdm := Tdm.reset, pel := Pel.reset,
    met := Met.reset, obs := Obs.reset, crb := Crb.reset, free := 0, pending := [] }

end Sys2Proof.Machine
end

