-- ==== Sys2Proof/Machine/Ops.lean ====
section
/-! DEFINITION. The named operations the meanings share: register fields, disciplined time, counters, trace
packets, records and their interrupts, monitors, the Brake request, function and Route-slot access, ready flags,
memory access. -/

namespace Sys2Proof.Machine

/-! ### Register words and fields -/

/-- Replace bits `lo` to `lo + n - 1` of `v` by `x`. -/
def putBits (v lo n x : Nat) : Nat := v - bits v lo n * 2 ^ lo + (x % 2 ^ n) * 2 ^ lo

/-- The word a register holds. -/
def State.reg (s : State) (off : Nat) : Word :=
  match SMap.find s.regs off with
  | some w => w
  | none => resetWord off

def State.setReg (s : State) (off : Nat) (w : Word) : State := { s with regs := SMap.set s.regs off w }

/-- A register as a number. -/
def State.regN (s : State) (off : Nat) : Nat := (s.reg off).toNat
def State.setRegN (s : State) (off v : Nat) : State := s.setReg off (BitVec.ofNat 32 v)

/-- The field of `n` bits from bit `lo`. -/
def State.fld (s : State) (off lo n : Nat) : Nat := bits (s.regN off) lo n
def State.setFld (s : State) (off lo n v : Nat) : State := s.setRegN off (putBits (s.regN off) lo n v)
def State.bitOf (s : State) (off i : Nat) : Bool := (s.regN off).testBit i
def State.setBit (s : State) (off i : Nat) : State := s.setFld off i 1 1
def State.clrBit (s : State) (off i : Nat) : State := s.setFld off i 1 0
def State.putBit (s : State) (off i : Nat) (b : Bool) : State := s.setFld off i 1 (b2n b)

/-- A LO/HI register pair as a 64-bit number. -/
def State.pair (s : State) (lo hi : Nat) : Nat := s.regN lo + 2 ^ 32 * s.regN hi
def State.setPair (s : State) (lo hi v : Nat) : State := (s.setRegN lo (v % 2 ^ 32)).setRegN hi (v / 2 ^ 32 % 2 ^ 32)

/-! ### Free values (assumption log 2) -/

/-- The next free value, reduced below `bound`. -/
def State.freeBelow (s : State) (bound : Nat) : Nat := Config.freeValue s.free % bound
def State.drawFree (s : State) : State := { s with free := s.free + 1 }

/-! ### Time (R85, R86) -/

/-- The raw TIME count of a CORE cycle count: CORE is ROOT ÷ 4 and TIME ROOT ÷ 6 (R85, R425). -/
def rawOf (core : Nat) : Nat := 2 * core / 3

def State.raw (s : State) : Nat := rawOf s.core

/-- The first CORE cycle in which the raw count has reached `r`. -/
def coreOfRaw (r : Nat) : Nat := (3 * r + 1) / 2

/-- The retained segment that contains raw count `r` (R86, R91); the oldest where none starts early enough. -/
def segOf : List Seg → Nat → Seg
  | [], _ => ⟨0, 0, 0, 0⟩
  | [g], _ => g
  | g :: rest, r => if g.r ≤ r then g else segOf rest r

/-- Disciplined time at raw count `r` inside a segment: the formula of R86. -/
def Seg.at (g : Seg) (r : Nat) : Int :=
  g.d + ((r : Int) - g.r) + (((r : Int) - g.r) * g.e + g.f) / 2 ^ 40

/-- Disciplined time at a raw count, as the 64-bit count software sees. -/
def State.disc (s : State) (r : Nat) : Nat := unsgn 64 ((segOf s.tim.segs r).at r)

/-- Disciplined time now. -/
def State.now (s : State) : Nat := s.disc s.raw

/-- The least raw count, not before `from`, at which a segment reaches disciplined time `t`. -/
def Seg.reach (g : Seg) (t : Nat) : Nat :=
  let need : Int := ((t : Int) - g.d) * 2 ^ 40 - g.f
  let rate : Int := 2 ^ 40 + g.e
  if need ≤ 0 then g.r else g.r + ((need + rate - 1) / rate).toNat

/-- The first CORE cycle, not before now, in which disciplined time has reached `t` (R32). -/
def State.coreAt (s : State) (t : Nat) : Nat :=
  if t ≤ s.now then s.core
  else
    let r := (segOf s.tim.segs (s.raw + 2 ^ 40)).reach t
    max s.core (coreOfRaw r)

/-- Let the clock run to a CORE cycle (assumption log 4: a timed event brings the clock to its instant). -/
def State.runTo (s : State) (core : Nat) : State := { s with core := max s.core core }

/-- Let the clock run to the CORE cycle in which disciplined time reaches `t`. -/
def State.runToTime (s : State) (t : Nat) : State := s.runTo (s.coreAt t)

/-- CORE cycles in a number of microseconds. -/
def usCore (us : Nat) : Nat := 1200 * us
/-- TIME cycles in a number of microseconds. -/
def usTime (us : Nat) : Nat := 800 * us

/-! ### Counters (R405, R407) -/

/-- Add `n` to event counter `i` of subsystem `sub`, saturating at 2^64 − 1 (R405). -/
def State.countN (s : State) (sub i n : Nat) : State :=
  { s with obs := { s.obs with
      counters := SMap.upd 0 s.obs.counters (65536 * sub + i) (fun v => min (v + n) (2 ^ 64 - 1)) } }

def State.count (s : State) (sub i : Nat) : State := s.countN sub i 1

/-- The value of an event counter. -/
def State.counter (s : State) (sub i : Nat) : Nat := SMap.get 0 s.obs.counters (65536 * sub + i)

/-! ### Functions and Route slots (R41, R83) -/

def State.func (s : State) (id : Nat) : Func := SMap.get Func.reset s.ccu.funcs id
def State.updFunc (s : State) (id : Nat) (f : Func → Func) : State :=
  { s with ccu := { s.ccu with funcs := SMap.upd Func.reset s.ccu.funcs id f } }
def State.slot (s : State) (n : Nat) : Slot := SMap.get Slot.reset s.ccu.slots n
def State.updSlot (s : State) (n : Nat) (f : Slot → Slot) : State :=
  { s with ccu := { s.ccu with slots := SMap.upd Slot.reset s.ccu.slots n f } }

/-- Lifecycle state by FUNC_ID (Table 3.12). -/
def State.lifeOf (s : State) (id : Nat) : Life := if id < 16 then (s.slot id).life else (s.func id).life

/-- FUNC_ID is one of Table 3.12. -/
def funcDefined (id : Nat) : Bool :=
  decide (id < 0x068) || (decide (0x070 ≤ id) && decide (id ≤ 0x077)) || (decide (0x080 ≤ id) && decide (id ≤ 0x087))

/-- A sensor's FUNC_ID: camera, inertial, audio, encoder, lidar. -/
def isSensor (id : Nat) : Bool := decide (0x010 ≤ id) && decide (id ≤ 0x067)

/-- A function or Route is in STARTING, ON or DRAINING. -/
def Life.active (l : Life) : Bool := l != Life.off

/-- Slots 0 to 15. -/
def slotList : List Nat := List.range 16

/-- Every slot is OFF (R33, R34). -/
def State.allSlotsOff (s : State) : Bool := slotList.all (fun n => (s.slot n).life == Life.off)

/-! ### Trace packets (R414 to R419) -/

/-- The trace function is emitting: 0x086 ON or DRAINING. -/
def State.tracing (s : State) : Bool :=
  let l := (s.func 0x086).life
  l == Life.on || l == Life.draining

/-- A trace packet's 16 bytes (R415). -/
def tracePacket (type source arg time : Nat) (tail : List Byte) : List Byte :=
  [BitVec.ofNat 8 type, BitVec.ofNat 8 source] ++ leBytes 2 arg ++ leBytes 4 time ++ tail

/-- Place of a packet's TYPE in the order of Table 18.9; RAW follows its SYNC at once (R416). -/
def traceRank (pkt : List Byte) : Nat :=
  let t := leAt pkt 0 1
  if t = 2 then 1 else t

/-- Packets of one CORE cycle stand in the order of Table 18.9 (R416): the new ones, whose last gives their place, among them. -/
def traceInsert (old group : List (List Byte)) : List (List Byte) :=
  let r := traceRank (group.getLastD [])
  let after := (old.reverse.takeWhile (fun q => decide (r < traceRank q))).length
  old.take (old.length - after) ++ group ++ old.drop (old.length - after)

/-- Put a packet into the trace FIFO: 4,096 packets; one that finds it full is dropped and counted, and a LOST packet goes ahead of the
next one that enters. With STALL_ON_FULL it waits behind the FIFO, and `waits` names the engines of the unit that waits with it; a packet
without such (of PC sampling, of FPP and of DEC) is dropped in either mode (R417). -/
def State.tracePut (s : State) (waits : Option (List (Nat × Nat))) (pkt : List Byte) : State :=
  let t := s.obs.trace
  let stall := (leAt t.desc 3 1).testBit 0 && waits.isSome
  let room := decide (t.fifo.length + (if t.lost = 0 then 0 else 1) < 4096)
  if room || stall then
    let lostPkt := if t.lost = 0 || !room then []
      else [tracePacket 0x50 0 0 s.now (leBytes 4 (min t.lost (2 ^ 32 - 1)) ++ zeros 4)]
    let group := lostPkt ++ [pkt]
    let k := if t.cycle.1 = s.core then min t.cycle.2 t.fifo.length else 0
    let fifo := t.fifo.take (t.fifo.length - k) ++ traceInsert (t.fifo.drop (t.fifo.length - k)) group
    ({ s with obs := { s.obs with trace := { t with
      fifo := fifo, lost := if room then 0 else t.lost, cycle := (s.core, k + group.length),
      waits := if room then t.waits else t.waits ++ [(s.core, waits.getD [])] } } }).count 15 2
  else
    (({ s with obs := { s.obs with trace := { t with lost := t.lost + 1 } } }).count 15 3).setBit Reg.OBS_STATUS 2

/-- Emit a packet when the trace runs and bit `sel` of SELECT is 1 (`none`: always emitted); `waits` as `State.tracePut` takes it. -/
def State.emit (s : State) (sel : Option Nat) (type source arg : Nat) (tail : List Byte)
    (waits : Option (List (Nat × Nat)) := some []) : State :=
  let on := match sel with
    | none => true
    | some b => (leAt s.obs.trace.desc 0 1).testBit b
  if s.tracing && on then
    s.tracePut waits (tracePacket type source arg s.now tail)
  else s

/-- Engines of the control cores whose pairs run (Table 18.1): those that fetch commands and sequence boundaries. -/
def State.ctlEngines (s : State) : List (Nat × Nat) :=
  (if s.bitOf Reg.GCR_CTL_STATUS 1 then [(11, 0), (11, 1)] else []) ++ (if s.bitOf Reg.GCR_CTL_STATUS 2 then [(11, 2), (11, 3)] else [])

/-- Emit a stage or flag packet of a traced slot (R416). -/
def State.emitSlot (s : State) (sel slot type arg : Nat) (tail : List Byte) (waits : Option (List (Nat × Nat)) := some []) : State :=
  if (leAt s.obs.trace.desc 4 2).testBit slot then s.emit (some sel) type slot arg tail waits else s

/-- SYNC followed by RAW (R416). -/
def State.emitSync (s : State) : State :=
  let s1 := s.emit none 0x01 0 (s.fld Reg.TIM_STATUS 0 2) (leBytes 8 s.now) (some s.ctlEngines)
  let s2 := s1.emit none 0x02 0 0 (leBytes 8 s.raw) (some s.ctlEngines)
  { s2 with obs := { s2.obs with trace := { s2.obs.trace with lastSync := s2.raw } } }

/-- DEVICE: Tandem role, Peloton member, MAC of fabric port 0 (Table 18.9). -/
def State.emitDevice (s : State) : State :=
  let member := if s.pel.members.isEmpty then 0xFFFF else s.pel.me
  s.emit none 0x04 (s.fld Reg.TDM_STATUS 0 2) member
    (leBytes 6 (s.pair (Reg.NET_PORT_MAC_LO 0) (Reg.NET_PORT_MAC_HI 0)) ++ zeros 2) (some s.ctlEngines)

/-! ### Status codes (Table 3.8) -/

namespace St
def ok : Nat := 0x00
def accepted : Nat := 0x01
def pending : Nat := 0x02
def busy : Nat := 0x03
def badOpcode : Nat := 0x10
def badParam : Nat := 0x11
def badContext : Nat := 0x12
def seqGap : Nat := 0x13
def seqDuplicate : Nat := 0x14
def deadlineMiss : Nat := 0x20
def budgetExceeded : Nat := 0x21
def freewheelTaken : Nat := 0x22
def staleResult : Nat := 0x23
def pivotRegularised : Nat := 0x30
def warmMismatch : Nat := 0x31
def rangeExceeded : Nat := 0x32
def sensorAbsent : Nat := 0x40
def sensorQuarantined : Nat := 0x41
def sampleLate : Nat := 0x42
def degraded : Nat := 0x43
def tandemDiverged : Nat := 0x50
def pelotonTimeout : Nat := 0x51
def sealed_ : Nat := 0x60
def metrologyInvalid : Nat := 0x61
def braked : Nat := 0x70
def internalFault : Nat := 0x7F
end St

/-- The Error class of Table 3.8. -/
def isError (st : Nat) : Bool :=
  [0x20, 0x32, 0x40, 0x50, 0x51, 0x61, 0x7F].contains st
/-- The Warning class of Table 3.8. -/
def isWarning (st : Nat) : Bool :=
  [0x21, 0x22, 0x23, 0x30, 0x31, 0x41, 0x42, 0x43].contains st

/-- R78: a record with an Error status increments its unit's ERRORS, one with a Warning its WARNINGS. -/
def State.countStatus (s : State) (sub st : Nat) : State :=
  if isError st then s.count sub 0 else if isWarning st then s.count sub 1 else s

/-! ### MSI-X (R81, R82, R459) -/

/-- Send vector `v`'s message, or set its pending bit when it is masked. -/
def State.msiSend (s : State) (v : Nat) : State :=
  if s.bitOf Reg.HIF_PCIE_STATUS 12 || s.bitOf (Reg.HIF_MSIX_CTRL v) 0 then
    if v < 32 then s.setBit Reg.HIF_MSIX_PBA_LO v else s.setBit Reg.HIF_MSIX_PBA_HI (v - 32)
  else
    let m : Msi := ⟨v, s.pair (Reg.HIF_MSIX_ADDR_LO v) (Reg.HIF_MSIX_ADDR_HI v), s.regN (Reg.HIF_MSIX_DATA v)⟩
    let h := s.fld Reg.HIF_IRQ_HOLDOFF 0 16
    let ho := if h = 0 ∨ v = 12 ∨ v = 13 then s.hif.holdoff
      else SMap.set s.hif.holdoff v (s.core + usCore h)
    { s with hif := { s.hif with sent := m :: s.hif.sent, holdoff := ho } }

/-- Signal a vector (R82): nothing while MSIX_EN is 0, remembered until it is 1 (R459); one message at the end of a
running holdoff; at once otherwise. -/
def State.signal (s : State) (v : Nat) : State :=
  if !s.bitOf Reg.HIF_PCIE_STATUS 11 then
    { s with hif := { s.hif with owedOff := insertOnce v s.hif.owedOff } }
  else if (SMap.find s.hif.holdoff v).isSome then
    { s with hif := { s.hif with owed := insertOnce v s.hif.owed } }
  else s.msiSend v

/-! ### Records (R59, R60, R69, R72) -/

/-- Enter a record into the replay buffer: DSEQ, TIME, the 4,096 most recent, and the loss of a record that leaves
the buffer undelivered (R60, R72). Counters and trace stand still once the die is stopped (R425). `vector`: the MSI-X vector to signal at its delivery; `waits`: its
unit can wait for the trace FIFO (R417). -/
def State.createRecord (s : State) (opcode status detail hseq : Nat) (result : List Byte) (consumed quiet : Bool)
    (vector : Option Nat) (waits : Bool := true) : State :=
  let dseq := (s.regN Reg.HIF_LAST_DSEQ + 1) % 2 ^ 32
  let r : Record := ⟨opcode, status, detail, hseq, dseq, s.now, (result ++ zeros 12).take 12, consumed, quiet⟩
  let full := decide (4096 ≤ s.hif.buf.length)
  let gone := if full then s.hif.buf.head? else none
  let buf := (if full then s.hif.buf.tail else s.hif.buf) ++ [r]
  let lost := match gone with
    | some g => s.hif.out.any (fun (d : Delivery) => !d.copy && d.record.dseq == g.dseq)
    | none => false
  let out : List Delivery := match gone with
    | some g => s.hif.out.filter (fun (d : Delivery) => d.copy || d.record.dseq != g.dseq)
    | none => s.hif.out
  let s1 := { s with hif := { s.hif with buf := buf, out := out ++ [(⟨r, false, vector⟩ : Delivery)] } }
  let s2 := (s1.setRegN Reg.HIF_LAST_DSEQ dseq).setRegN Reg.HIF_OLDEST_DSEQ
    (if buf.length = 4096 then (dseq + 2 ^ 32 - 4095) % 2 ^ 32 else 1)
  let s3 := if lost then (let x := s2.setBit Reg.HIF_RING_STATUS 3; if s.obs.stopped then x else x.count 14 5).signal 13 else s2
  if s.obs.stopped then s3
  else (s3.count 14 4).emit (some 2) 0x21 0 opcode
    ([BitVec.ofNat 8 status, BitVec.ofNat 8 detail] ++ zeros 2 ++ leBytes 4 dseq) (if waits then some [] else none)

/-- An event record (R80): `sub` the unit whose ERRORS and WARNINGS count it, `src` EVENT_SRC. DEC and FPP never wait for the trace
(R417). -/
def State.event (s : State) (sub opcode status detail src : Nat) (result : List Byte) : State :=
  (s.createRecord opcode status detail src result false false (some (opcode - 0xFF01 + 2)) (sub != 2 && sub != 6)).countStatus sub status

/-- EVENT_SRC of a stage (R80). -/
def stageSrc (layer operator : Nat) : Nat := layer + 65536 * operator

/-- Signed or unsigned Result fields placed at record bytes 20 on: a list of (byte offset, width, value). -/
def result (fs : List (Nat × Nat × Nat)) : List Byte :=
  fs.foldl (fun acc f => (acc.take (f.1 - 20)) ++ leBytes f.2.1 f.2.2 ++ acc.drop (f.1 - 20 + f.2.1)) (zeros 12)

/-- The 32 bytes of a record (Table 3.6). -/
def Record.bytes (r : Record) : List Byte :=
  leBytes 2 r.opcode ++ [BitVec.ofNat 8 r.status, BitVec.ofNat 8 r.detail] ++ leBytes 4 r.hseq ++ leBytes 4 r.dseq ++
    leBytes 8 r.time ++ r.result

/-! ### The Brake request (R424) and monitors (R409 to R413) -/

/-- Register a Brake source. The first CORE cycle with a source is cycle 0; sources of that cycle accumulate, the
lowest code gives SOURCE and REASON; later ones are ignored, but that a BRAKE command has been accepted is kept (R79). -/
def State.brakeSource (s : State) (code reason : Nat) : State :=
  if s.obs.stopped then s else
  match s.obs.brake with
  | none => { s with obs := { s.obs with brake := some ⟨s.core, 2 ^ code, code, reason, code == 0⟩ } }
  | some b =>
    if b.core = s.core then
      let b' : BrakeReq := if code < b.source then ⟨b.core, b.sources ||| 2 ^ code, code, reason, b.command || code == 0⟩
        else { b with sources := b.sources ||| 2 ^ code, command := b.command || code == 0 }
      { s with obs := { s.obs with brake := some b' } }
    else { s with obs := { s.obs with brake := some { b with command := b.command || code == 0 } } }

/-- The bin of Table 18.7. -/
def monBin (log : Bool) (shift : Nat) (base v : Int) : Nat :=
  if v < base then 0
  else
    let d := (v - base).toNat
    if log then
      if d < 2 ^ shift then 1 else min 31 (d.log2 + 2 - shift)
    else min 31 (1 + d / 2 ^ shift)

/-- Record a value in a bank (R409, R410). -/
def MonBank.add (b : MonBank) (bin : Nat) (v : Int) : MonBank :=
  { b with count := b.count + 1, min := Min.min b.min v, max := Max.max b.max v,
           bins := SMap.upd 0 b.bins bin (fun c => Min.min (c + 1) (2 ^ 32 - 1)) }

def State.monitor (s : State) (m : Nat) : Monitor := SMap.get Monitor.reset s.obs.monitors m

/-- Monitor `m` takes value `v`: histogram, and a threshold crossing's event, trace packet and Brake source (R413). -/
def State.monTake (s : State) (m : Nat) (v : Int) : State :=
  let mon := s.monitor m
  let mode := leAt mon.desc 1 1
  let bin := monBin (mode.testBit 0) (leAt mon.desc 2 1) (sleAt mon.desc 8 8) v
  let hi := decide (sleAt mon.desc 16 8 < v)
  let lo := decide (v < sleAt mon.desc 24 8)
  let put (mon' : Monitor) : State := { s with obs := { s.obs with monitors := SMap.set s.obs.monitors m mon' } }
  let mon1 := { mon with active := mon.active.add bin v }
  if hi || lo then
    let dir := if hi then 1 else 2
    let s1 := put { mon1 with crossed := true }
    let s2 := if mode.testBit 2 && !mon.crossed then
        s1.event 15 0xFF09 St.ok dir 0x0F
          (leBytes 1 m ++ leBytes 1 (leAt mon.desc 0 1) ++ zeros 2 ++ sleBytes 8 v)
      else s1
    let s3 := s2.emit (some 4) 0x40 m dir (sleBytes 8 v)
    if mode.testBit 1 then s3.brakeSource 2 (0x80 + m) else s3
  else put mon1

/-- Offer a value of a source to every monitor that selects it (Table 18.6). -/
def State.monOffer (s : State) (source selA selB : Nat) (v : Int) : State :=
  s.obs.monitors.foldl (fun st e =>
    if leAt e.2.desc 0 1 = source ∧ leAt e.2.desc 4 2 = selA ∧ leAt e.2.desc 6 2 = selB then st.monTake e.1 v else st) s

/-- Offer a stamp to the INTERVAL monitors of a FUNC_ID: the difference to the previous stamp. -/
def State.monStamp (s : State) (func stamp : Nat) : State :=
  s.obs.monitors.foldl (fun st e =>
    if leAt e.2.desc 0 1 = 6 ∧ leAt e.2.desc 4 2 = func then
      let mon := st.monitor e.1
      let st1 := match mon.last with
        | some p => st.monTake e.1 ((stamp : Int) - p)
        | none => st
      let mon1 := st1.monitor e.1
      { st1 with obs := { st1.obs with monitors := SMap.set st1.obs.monitors e.1 { mon1 with last := some (stamp : Int) } } }
    else st) s

/-! ### Engine counter banks (R402 to R404) -/

def State.banksOf (s : State) (sub e : Nat) : Banks := SMap.get Banks.reset s.obs.banks (256 * sub + e)

def State.setBanks (s : State) (sub e : Nat) (b : Banks) : State :=
  { s with obs := { s.obs with banks := SMap.set s.obs.banks (256 * sub + e) b } }

/-- A command starts on an engine: the open bank becomes the completed one and a fresh bank opens (R404). -/
def State.bankOpen (s : State) (sub e layer operator kind slot : Nat) : State :=
  let b := s.banksOf sub e
  s.setBanks sub e ⟨b.active, ⟨layer, operator, kind, slot, s.ccu.cadence, s.now, s.core, 0, [], none⟩, s.core⟩

/-- BUSY cycles of the command in progress. -/
def State.bankBusy (s : State) (sub e n : Nat) : State :=
  let b := s.banksOf sub e
  s.setBanks sub e { b with active := { b.active with busy := b.active.busy + n } }

/-- CORE cycles in one cycle of the subsystem's engine clock (Table 18.1). -/
def engineDiv (sub : Nat) : Nat := if sub = 3 ∨ sub = 4 then 2 else 1

/-- `n` CORE cycles of STALL[r], counted in the engine's clock (Table 18.2 order: 0 INPUT_WAIT, 1 OUTPUT_BLOCK, 2 MEM_LATENCY, 3 BUDGET,
4 FLAG_WAIT, 5 SYNC, 6 DEBUG, 7 OTHER). -/
def State.bankStall (s : State) (sub e r n : Nat) : State :=
  let b := s.banksOf sub e
  s.setBanks sub e { b with active := { b.active with stall := SMap.upd 0 b.active.stall r (· + n / engineDiv sub) } }

/-- The engine's command ends. -/
def State.bankEnd (s : State) (sub e : Nat) : State :=
  let b := s.banksOf sub e
  s.setBanks sub e { b with active := { b.active with endCore := some s.core } }

/-! ### Ready flags (R17, R43) -/

/-- Flags are Route-wide: the key of flag `i` of a slot. -/
def flagKey (slot i : Nat) : Nat := 65536 * slot + i
def State.flagOf (s : State) (slot i : Nat) : Flag := SMap.get Flag.empty s.ccu.flags (flagKey slot i)

def Flag.code : Flag → Nat
  | .empty => 0 | .ready => 1 | .cut => 2 | .stale => 3

/-- Subsystem number (Table 18.1) of a class's engines, for the classes with counter banks. -/
def classSub (cls : Nat) : Nat :=
  match cls with
  | 0 => 3 | 1 => 4 | 2 => 5 | 3 => 7 | 4 => 8 | 5 => 9 | 6 => 10 | 11 => 6 | 7 => 14 | _ => 15

/-- The counter banks of an instance's engines (Table 18.1): subsystem and engine number. A VIS pipe has four engines; a solver lane's
commands are its problems, not stages. -/
def stageBanks (cls unit : Nat) : List (Nat × Nat) :=
  match cls with
  | 0 => (List.range 4).map (fun k => (3, 4 * unit + k))
  | 3 => []
  | _ => [(classSub cls, unit)]

/-- The cycles a stage has waited for its input flags count as FLAG_WAIT (R43). -/
def State.inputWaited (s : State) (slot index : Nat) : State :=
  match s.ccu.runs.find? (fun r => r.slot == slot && r.index == index) with
  | none => s
  | some r =>
    let n := s.core - r.startCore
    let cls := Sd.cls (Img.desc (s.slot slot).image r.variant)
    let runs := s.ccu.runs.map (fun x => if x.slot = slot ∧ x.index = index then
      { x with waiting := false, insts := x.insts.map (fun i => { i with wait := i.wait + n / engineDiv (classSub cls) }) } else x)
    if !r.waiting then s
    else (r.insts.flatMap (fun i => stageBanks cls i.unit)).foldl (fun (y : State) e => if n = 0 then y else y.bankStall e.1 e.2 4 n)
      { s with ccu := { s.ccu with runs := runs } }

/-- A stage proceeds once every input flag holds a state other than EMPTY; the cycles it waited count as FLAG_WAIT (R43). -/
def State.wake (s : State) (slot : Nat) : State :=
  let image := (s.slot slot).image
  let due := s.ccu.runs.filter (fun r => r.slot == slot && r.waiting &&
    (inputFlags image r.variant).all (fun i => s.flagOf slot i != Flag.empty))
  due.foldl (fun (st : State) r => st.inputWaited slot r.index) s

/-- Engines of the stage of a slot with this LAYER and OPERATOR that runs (Table 18.1). -/
def State.stageEngines (s : State) (slot layer operator : Nat) : List (Nat × Nat) :=
  match s.ccu.runs.find? (fun r => r.slot == slot && (let d := Img.desc (s.slot slot).image r.variant; Sd.layer d == layer && Sd.operator d == operator)) with
  | some r => r.insts.flatMap (fun i => stageBanks (Sd.cls (Img.desc (s.slot slot).image r.variant)) i.unit)
  | none => []

/-- Set a flag, with its FLAG trace packet (R416); stages that waited for it may proceed. -/
def State.setFlag (s : State) (slot i : Nat) (f : Flag) (layer operator : Nat) : State :=
  let s1 := ({ s with ccu := { s.ccu with flags := SMap.set s.ccu.flags (flagKey slot i) f } }).emitSlot 1 slot 0x12 i
    (leBytes 2 layer ++ leBytes 2 operator ++ [BitVec.ofNat 8 f.code] ++ zeros 3) (some (s.stageEngines slot layer operator))
  if f = Flag.empty then s1 else s1.wake slot

/-! ### Memory and host memory -/

def State.ldB (s : State) (a n : Nat) : List Byte := s.mem.readBytes a n
def State.ld (s : State) (a n : Nat) : Nat := leNat (s.ldB a n)

/-- Add a contribution to a digest lane of a cadence (R362): the CRC-32 over the key and the bytes, while the Tandem link
is ON. -/
def State.digest (s : State) (lane cadence key : Nat) (bs : List Byte) : State :=
  if (s.func 0x084).life != Life.on then s
  else
    let ls := SMap.upd 0 s.tdm.lanes (16 * cadence + lane) (fun v => (v + crc32 (leBytes 8 key ++ bs)) % 2 ^ 64)
    { s with tdm := { s.tdm with lanes := ls } }

/-- The 64-byte beats a write touches, as they stand after it, contribute to the writer's lane (R362; assumption log 19). -/
def State.digestBeats (s : State) (a n : Nat) : State :=
  match s.tdm.writer with
  | none => s
  | some (lane, cadence) =>
    (List.range (ceilDiv (a % 64 + n) 64)).foldl (fun (st : State) k =>
      let b := a / 64 * 64 + 64 * k
      st.digest lane cadence b (st.mem.readBytes b 64)) s

/-- A write to a staged tile of a WRITABLE object sets the tile's dirty bit (R337): staging slots the range touches. -/
def MemObj.touch (o : MemObj) (mem : Memory) (a n : Nat) : MemObj :=
  if !o.writable || n == 0 || decide (a + n ≤ o.staging) || decide (o.staging + 16448 * o.stageTiles ≤ a) then o
  else
    let lo := (a - o.staging) / 16448
    let hi := min (o.stageTiles - 1) ((a + n - 1 - o.staging) / 16448)
    let staged := fun (j : Nat) => if o.resident then o.state != ObjState.absent
      else leNat (mem.readBytes (o.staging + 16448 * j + 8) 8) == o.home
    let hit := ((List.range (hi + 1 - lo)).map (· + lo)).filter staged
    { o with dirty := hit.foldl (fun l j => insertOnce j l) o.dirty }

def State.touch (s : State) (a n : Nat) : State :=
  { s with memt := { s.memt with objs := s.memt.objs.map (fun e => (e.1, e.2.touch s.mem a n)) } }

/-- Write device memory. -/
def State.stB (s : State) (a : Nat) (bs : List Byte) : State :=
  (({ s with mem := s.mem.writeBytes a bs } : State).touch a bs.length).digestBeats a bs.length

/-- Run `f` with its writes attributed to a digest lane and cadence (R362). -/
def State.writing (s : State) (lane cadence : Nat) (f : State → State) : State :=
  let t := f { s with tdm := { s.tdm with writer := some (lane, cadence) } }
  { t with tdm := { t.tdm with writer := s.tdm.writer } }

/-- The header of a data tile of a stage's LAYER and OPERATOR is written in a cadence: an armed dump captures its address
(R422). -/
def State.capture (s : State) (a layer operator cadence : Nat) : State :=
  { s with obs := { s.obs with dumps := s.obs.dumps.map (fun d =>
      if d.layer = layer ∧ d.operator = operator ∧ d.cadence = cadence ∧ !d.tiles.contains a then
        (if d.tiles.length < 4096 then { d with tiles := d.tiles ++ [a] } else { d with truncated := true })
      else d) } }

/-- Write a data tile: payload and header (Table 15.4) in one unit of work (R330), which an armed tensor dump of its stage
captures (R422). -/
def State.writeTile (s : State) (a format valid index layer operator cadence : Nat) (payload : List Byte) : State :=
  let owner := s.memt.objs.find? (fun e => decide (e.2.staging ≤ a) && decide (a < e.2.staging + 16448 * e.2.stageTiles))
  let home := match owner with
    | some e => e.2.home
    | none => 0
  let idx := match owner with
    | some e => (a - e.2.staging) / 16448
    | none => index
  let h := leBytes 4 0xC1E97F01 ++ leBytes 1 format ++ leBytes 1 (b2n (decide (valid < 16384))) ++ leBytes 2 valid ++ leBytes 8 home ++
    leBytes 4 idx ++ leBytes 2 layer ++ leBytes 2 operator ++ leBytes 8 cadence ++ leBytes 4 cadence ++ zeros 24
  (s.stB a (h ++ leBytes 4 (crc32 (h ++ payload)) ++ payload)).capture a layer operator cadence

def State.st (s : State) (a n v : Nat) : State := s.stB a (leBytes n v)
def State.hostLd (s : State) (a n : Nat) : List Byte := s.host.readBytes a n
def State.hostSt (s : State) (a : Nat) (bs : List Byte) : State := { s with host := s.host.writeBytes a bs }

/-- The rows of Table 15.1: first address, last address + 1. -/
def addrRows : List (Nat × Nat) := [
  (0x000000000000, 0x000002000000), (0x000002000000, 0x000005000000), (0x000005000000, 0x000006000000),
  (0x000006000000, 0x000006400000), (0x000006400000, 0x000006C00000), (0x000006C00000, 0x000006E00000),
  (0x000006E00000, 0x000006F00000), (0x000006F00000, 0x000007000000), (0x001000000000, 0x002000000000),
  (0x004000000000, 0x007800000000)]

/-- The row of Table 15.1 that holds all of a range; none where a byte is unmapped or the range crosses rows (R325). -/
def addrRow (a n : Nat) : Option Nat :=
  addrRows.findIdx? (fun r => decide (r.1 ≤ a) && decide (a + n ≤ r.2) && decide (a < r.2))

/-- The range lies wholly in a given row. -/
def inRow (row a n : Nat) : Bool := addrRow a n == some row
/-- Wholly in on-die SRAM, in shared tile memory, in DRAM, in flash. -/
def inSram (a n : Nat) : Bool := match addrRow a n with | some r => decide (r < 8) | none => false
def inTile (a n : Nat) : Bool := inRow 1 a n
def inDram (a n : Nat) : Bool := inRow 8 a n
def inFlash (a n : Nat) : Bool := inRow 9 a n

/-- Bytes `from_` to `to_ - 1` are all 0. -/
def zeroIn (bs : List Byte) (from_ to_ : Nat) : Bool := ((bs.drop from_).take (to_ - from_)).all (· == 0)

/-- A value lies in a range, ends included. -/
def rng (v lo hi : Nat) : Bool := decide (lo ≤ v) && decide (v ≤ hi)

/-! ### What runs -/

/-- The die is clocked and not stopped by the Brake (R425, R434). -/
def State.alive (s : State) : Bool := s.crb.released && !s.obs.stopped

/-- The CORE cycle whose state a read shows: that of S on a stopped die (R426). -/
def State.heldCore (s : State) : Nat :=
  if s.obs.stopped then (match s.obs.brake with | some b => b.stopAt | none => s.core) else s.core

/-- The CORE cycle after this one; on a stopped die the raw TIME counter goes on by as much (R85). -/
def State.tick (s : State) : State := if s.crb.released then { s with core := s.core + 1 } else s

/-- A host access to BAR0 has a CORE cycle to itself: what stands before it in the queue came in an earlier cycle, what stands after it
comes in a later one. Of an access and a hardware update of one cycle R12 keeps what one order of the two leaves, and the queue holds
them in that order (assumption log 62). -/
def State.hostTurn (s : State) (f : State → State) : State := (f s.tick).tick

/-- An event of a stopped or unreleased part does not come about: the state stays (assumption log 6). -/
def State.act (s : State) (f : State → State) : State := if s.alive then f s else s

/-- A flag-guarded event: it comes about only where its condition holds (assumption log 6). -/
def State.when (s : State) (c : Bool) (f : State → State) : State := if c then f s else s

/-- Fold a state over a list. -/
def State.each {α : Type} (s : State) (l : List α) (f : State → α → State) : State := l.foldl f s

/-- What a meaning answers. -/
abbrev Out := Host.Outcome State Fault Refusal

/-! ### Replies of host commands -/

/-- The STATUS, DETAIL and Result of a reply. -/
structure Reply where
  status : Nat
  detail : Nat
  result : List Byte
  deriving DecidableEq, Repr

/-- OK with Result fields (record byte offset, width, value). -/
def Reply.ok (fs : List (Nat × Nat × Nat)) : Reply := ⟨St.ok, 0, Machine.result fs⟩
/-- BAD_PARAM with a DETAIL; the Result is 0 (R69). -/
def Reply.bad (d : Nat) : Reply := ⟨St.badParam, d, zeros 12⟩
/-- BUSY with a DETAIL. -/
def Reply.busy (d : Nat) : Reply := ⟨St.busy, d, zeros 12⟩
/-- ACCEPTED, the first reply of a long command (R67). -/
def Reply.accepted : Reply := ⟨St.accepted, 0, zeros 12⟩

/-- A parameter of a packet by its packet byte offset (16 to 63). -/
def param (p : CmdPacket) (ofs n : Nat) : Nat := leAt p.params (ofs - 16) n
def sparam (p : CmdPacket) (ofs n : Nat) : Int := sleAt p.params (ofs - 16) n

/-- Tokens charged to a class outside its stages' buckets (ingress, exempt and command traffic). -/
def State.useTok (s : State) (cls n : Nat) : State :=
  { s with ccu := { s.ccu with usedTok := SMap.upd 0 s.ccu.usedTok cls (· + n) } }

/-- The most DRAM tokens OBS takes in a cadence: 3 % of the nominal ones (R51). -/
def State.obsCap (s : State) : Nat := 3 * s.regN Reg.CCU_CADENCE_PERIOD * 8533 / 80000

/-- Draw cycles of a class and tokens from the free pools, class 10 under its cap (R48, R51): what the pools could not give is left, and
FREE_EXHAUSTED is set where something is; the beats of HOST_DMA are counted. Before the first boundary no pool is in force (assumption
log 60). -/
def State.drawPool (s : State) (cls cyc tok : Nat) : State × Nat × Nat :=
  let live := decide (s.ccu.cadence ≠ 0)
  let c := if live then min cyc (SMap.get 0 s.ccu.poolCyc cls) else cyc
  let t := if !live then tok else min (if cls = 10 then min tok (s.obsCap - s.ccu.obsTok) else tok) s.ccu.poolTok
  let s1 := ({ s with ccu := { s.ccu with
    poolCyc := SMap.upd 0 s.ccu.poolCyc cls (· - c), poolTok := s.ccu.poolTok - t,
    obsTok := if cls = 10 then s.ccu.obsTok + t else s.ccu.obsTok } }).useTok cls t
  let s2 := if cls = 7 then s1.countN 14 6 c else s1
  (if c < cyc ∨ t < tok then s2.setBit (Reg.CCU_CLASS_STAT cls) 0 else s2, cyc - c, tok - t)

/-- Charge command-driven work to the free pools; what they lack waits for the next refill (R48). `key`: the long command whose
completion waits with it. -/
def State.chargePool (s : State) (cls cyc tok : Nat) (key : Option Nat) : State :=
  let d := s.drawPool cls cyc tok
  if d.2 = (0, 0) then d.1
  else { d.1 with ccu := { d.1.ccu with poolWaits := d.1.ccu.poolWaits ++ [⟨cls, d.2.1, d.2.2, key, s.core⟩] } }

/-- A charge of a long command waits for a refill. -/
def State.poolWaiting (s : State) (key : Nat) : Bool := s.ccu.poolWaits.any (fun w => w.long == some key)

/-- The key of the long command accepted last: the one whose meaning runs. -/
def State.longKey (s : State) : Nat :=
  match s.hif.longs.getLast? with
  | some l => l.key
  | none => 0

/-- The effect of an outstanding long command has taken place, with this completion (R67). -/
def State.longDone (s : State) (key status detail : Nat) (result : List Byte) : State :=
  { s with hif := { s.hif with longs := s.hif.longs.map (fun l =>
      if l.key = key ∧ l.effect.isNone then { l with effect := some ⟨status, detail, result⟩ } else l) } }

/-- `n` free bytes (assumption log 2). -/
def State.freeBytes (s : State) (n : Nat) : List Byte :=
  (List.range n).map (fun k => BitVec.ofNat 8 (Config.freeValue (s.free + k)))
def State.drawFrees (s : State) (n : Nat) : State := { s with free := s.free + n }

/-- A holder acknowledges the resolution in progress; when the last has, the epoch is resolved (R222). -/
def State.ackEpoch (s : State) (holder : Nat) : State :=
  match s.ccu.resolving with
  | none => s
  | some (e, c, hs, cad, late) =>
    let hs' := hs.filter (· != holder)
    if hs'.isEmpty then { s with ccu := { s.ccu with resolving := none, epochs := s.ccu.epochs.filter (fun x => x.1 != e) } }
    else { s with ccu := { s.ccu with resolving := some (e, c, hs', cad, late) } }

/-- The unit's start condition holds (R83). -/
def State.setReady (s : State) (id : Nat) : State := s.updFunc id (fun f => { f with ready := true })

end Sys2Proof.Machine
end

