-- ==== Sys2Proof/Machine/Stage.lean ====
section
/-! DEFINITION. What the engines share while a stage runs: buckets and
walls (R47, R52), ready flags of the running stage, items, and the free pools (R48). -/

namespace Sys2Proof.Machine

/-- The instances a UNIT_MASK names, ascending. -/
def maskBits (mask : Nat) : List Nat := (List.range 64).filter (fun i => mask.testBit i)

/-- The image of a slot, descriptor `k` of it, and bytes of its program area. -/
def State.img (s : State) (slot : Nat) : List Byte := (s.slot slot).image
def State.sd (s : State) (slot k : Nat) : List Byte := Img.desc (s.img slot) k

/-! ### Running stages -/

/-- The run of a stage. -/
def State.runOf (s : State) (slot index : Nat) : Option Run :=
  s.ccu.runs.find? (fun r => r.slot == slot && r.index == index)

/-- The stage is in progress and waits for its input flags (R43). -/
def State.waitsAt (s : State) (slot index : Nat) : Bool :=
  match s.runOf slot index with
  | some r => r.waiting
  | none => false

/-- Change the run of a stage. -/
def State.updRun (s : State) (slot index : Nat) (f : Run → Run) : State :=
  { s with ccu := { s.ccu with runs := s.ccu.runs.map (fun r => if r.slot = slot ∧ r.index = index then f r else r) } }

/-- The run that holds instance `unit` of a class. -/
def State.runOn (s : State) (cls unit : Nat) : Option Run :=
  s.ccu.runs.find? (fun r => Sd.cls (s.sd r.slot r.variant) == cls && r.insts.any (fun i => i.unit == unit))

/-- The descriptor whose program and limits run. -/
def State.runDesc (s : State) (r : Run) : List Byte := s.sd r.slot r.variant
/-- LAYER and OPERATOR reported for a run: those of its own descriptor (R53). -/
def State.runLayer (s : State) (r : Run) : Nat := Sd.layer (s.sd r.slot r.index)
def State.runOperator (s : State) (r : Run) : Nat := Sd.operator (s.sd r.slot r.index)

/-- Set the `k`-th flag a run produces; nothing past its list. -/
def State.runFlag (s : State) (r : Run) (k : Nat) (f : Flag) : State :=
  match r.outFlags[k]? with
  | some i => s.setFlag r.slot i f (s.runLayer r) (s.runOperator r)
  | none => s

/-- Set to CUT every flag of a list of the run's flags that is not READY (R44, R52). -/
def State.cutFlags (s : State) (r : Run) (flags : List Nat) : State :=
  s.each flags (fun st i => if st.flagOf r.slot i = Flag.ready then st else
    st.setFlag r.slot i Flag.cut (st.runLayer r) (st.runOperator r))

/-- The counter banks of the VIS, FST and FUS engines an instance uses (Table 18.1): subsystem and engine number. -/
def instBanks (cls unit : Nat) : List (Nat × Nat) :=
  match cls with
  | 0 => (List.range 4).map (fun k => (3, 4 * unit + k))
  | 1 => [(4, unit)]
  | 2 => [(5, unit)]
  | _ => []

/-- The instance `unit` of a stage in progress. -/
def State.instOf (s : State) (slot index unit : Nat) : Option Inst :=
  (s.runOf slot index).bind (fun r => r.insts.find? (fun i => i.unit == unit))

/-- Engine `e` of an instance waits from this CORE cycle on, for reason `r` of Table 18.2 (R17, R162, R304); a wait goes on as it began. -/
def State.waitOn (s : State) (slot index unit e r : Nat) : State :=
  s.updRun slot index (fun x => { x with insts := x.insts.map (fun i =>
    if i.unit = unit && !i.ended && !i.stalls.any (fun w => w.1 == e) then { i with stalls := i.stalls ++ [(e, r, s.core)] } else i) })

/-- The wait of engine `e` ends: its cycles count under their reason, those of FLAG_WAIT for the instance too. -/
def State.waitOver (s : State) (slot index unit e : Nat) : State :=
  match s.runOf slot index, (s.instOf slot index unit).bind (fun i => i.stalls.find? (fun w => w.1 == e)) with
  | some r, some w =>
    let n := s.core - w.2.2
    (s.bankStall (classSub (Sd.cls (s.runDesc r))) e w.2.1 n).updRun slot index (fun x => { x with insts := x.insts.map (fun i =>
      if i.unit = unit then { i with
        stalls := i.stalls.filter (fun v => v.1 != e),
        wait := if w.2.1 = 4 then i.wait + n / engineDiv (classSub (Sd.cls (s.runDesc r))) else i.wait }
      else i) })
  | _, _ => s

/-- Every wait of an instance ends. -/
def State.waitsOver (s : State) (slot index unit : Nat) : State :=
  match s.instOf slot index unit with
  | some i => s.each i.stalls (fun st w => st.waitOver slot index unit w.1)
  | none => s

/-- An instance that has not ended ends now: STAGE_TIME and STAGE_WAIT are recorded (Table 18.6), its banks close. -/
def State.instNote (s0 : State) (slot index unit : Nat) : State :=
  let s := s0.waitsOver slot index unit
  match s.runOf slot index with
  | none => s
  | some r =>
    match r.insts.find? (fun i => i.unit == unit) with
    | none => s
    | some i =>
      if i.ended then s
      else
        let la := s.runLayer r; let op := s.runOperator r
        let s1 := (s.monOffer 1 la op ((s.core : Int) - r.startCore)).monOffer 2 la op i.wait
        s1.each (instBanks (Sd.cls (s.runDesc r)) unit) (fun st e => st.bankEnd e.1 e.2)

/-- Instance `unit` of a run ends its work. -/
def State.endInst (s : State) (slot index unit : Nat) : State :=
  (s.instNote slot index unit).updRun slot index (fun x => { x with insts := x.insts.map (fun i =>
    if i.unit = unit then { i with ended := true } else i) })

/-- Instance `unit` of a run is cut: it ends, with the limits it met. -/
def State.cutInst (s : State) (slot index unit limit : Nat) : State :=
  (s.instNote slot index unit).updRun slot index (fun x => { x with insts := x.insts.map (fun i =>
    if i.unit = unit then { i with limit := i.limit ||| limit, ended := true, cut := true } else i) })

/-- The instance's wall: it ends, the stage's flags not yet READY become CUT (R52). -/
def State.wall (s : State) (slot index unit limit : Nat) : State :=
  match s.runOf slot index with
  | none => s
  | some r => (s.cutInst slot index unit limit).cutFlags r r.outFlags

/-- Bits of the limits a charge would exceed: 1 cycles, 2 tokens. -/
def limitBits (d : List Byte) (i : Inst) (cyc tok : Nat) : Nat :=
  b2n (decide (Sd.cycLimit d < i.cyc + cyc)) + 2 * b2n (decide (Sd.tokLimit d < i.tok + tok))

/-- Add a charge to an instance, to its class and to the engine's BUSY count. -/
def State.chargeTo (s : State) (r : Run) (unit cyc tok : Nat) : State :=
  let s1 := s.updRun r.slot r.index (fun x => { x with insts := x.insts.map (fun i =>
    if i.unit = unit then { i with cyc := i.cyc + cyc, tok := i.tok + tok } else i) })
  s1.useTok (Sd.cls (s.runDesc r)) tok

/-- One work unit of fixed cost (R52): it issues and `f` gives its effect where the bucket pays for it; otherwise the
instance meets its wall. An ended instance issues nothing, nor does a stage that waits for its input flags (R43). -/
def State.unitWork (s : State) (slot index unit cyc tok : Nat) (f : Run → State → State) : State :=
  match s.runOf slot index with
  | none => s
  | some r =>
    match r.insts.find? (fun i => i.unit == unit) with
    | none => s
    | some i =>
      if i.ended || r.waiting then s
      else
        let spent := limitBits (s.runDesc r) i cyc tok
        if spent ≠ 0 then s.wall slot index unit spent
        else f r (s.chargeTo r unit cyc tok)

/-- Items completed (R45). -/
def State.addItems (s : State) (slot index n : Nat) : State := s.updRun slot index (fun x => { x with items := x.items + n })

/-- The stage saw a CUT or STALE input (DETAIL[7]). -/
def State.degrade (s : State) (slot index : Nat) : State := s.updRun slot index (fun x => { x with degraded := true })

/-- DRAM tokens of moving `n` bytes at `a`: one per 64-byte beat in DRAM, none elsewhere. -/
def memTok (a n : Nat) : Nat := if inDram a n then ceilDiv n 64 else 0

end Sys2Proof.Machine
end

