-- ==== Sys2Proof/Machine/Bsu.lean ====
section
/-! DEFINITION. The Batch Solver Unit (ch. 11): channels, queues, packets, iterations, charges, deadlines, results. -/

namespace Sys2Proof.Machine

/-! ### Packets (Tables 11.4 and 11.5) -/

namespace Bp
def op (h : List Byte) : Nat := leAt h 0 1
def flags (h : List Byte) : Nat := leAt h 1 1
def full (h : List Byte) : Bool := (flags h).testBit 0
def warm (h : List Byte) : Bool := (flags h).testBit 1
def chain (h : List Byte) : Bool := (flags h).testBit 2
def n (h : List Byte) : Nat := leAt h 2 2
def rhs (h : List Byte) : Nat := leAt h 4 1
def block (h : List Byte) : Nat := leAt h 5 1
def m (h : List Byte) : Nat := leAt h 6 1
def inner (h : List Byte) : Nat := leAt h 7 1
def structLen (h : List Byte) : Nat := leAt h 8 4
def entries (h : List Byte) : Nat := leAt h 12 4
def resTol (h : List Byte) : Nat := leAt h 16 8 % 2 ^ 36
def work (h : List Byte) : Nat := leAt h 24 8
def sol (h : List Byte) : Nat := leAt h 32 8
def lands (h : List Byte) : Nat := leAt h 40 2
def tag (h : List Byte) : Nat := leAt h 44 4
/-- The problem runs on a cluster (Table 11.2). -/
def cluster (h : List Byte) : Bool := op h == 4 || op h == 5 || (op h == 1 && decide (24 < n h))
/-- Values of the solution (R250). -/
def values (h : List Byte) : Nat :=
  if op h = 4 then n h + 3 * lands h else if op h = 5 then 6 * n h else n h * rhs h
end Bp

/-- Words of a structure block, its padding word included. -/
def structWords (st : List Byte) : List Nat := (List.range (st.length / 4)).map (fun k => leAt st (4 * k) 4)

def obsRows (w : Nat) : Nat := bits w 22 2 + 1
def obsBytes (block rows : Nat) : Nat := 8 + 8 * rows * (5 + block)

/-- The observation words of a SCHUR packet: an odd count leaves a padding word, told by the packet's length. -/
def obsWords (h st : List Byte) (len : Nat) : List Nat :=
  let ws := structWords st
  let fits := fun (l : List Nat) => decide (l.length ≤ Bp.entries h) &&
    64 + st.length + (l.map (fun w => obsBytes (Bp.block h) (obsRows w))).sum + 16 * (Bp.entries h - l.length) == len
  if !fits ws && fits ws.dropLast then ws.dropLast else ws

/-- Stored off-diagonal blocks of a PCG packet: a zero word is the padding. -/
def pcgWords (st : List Byte) : List Nat := let ws := structWords st; if ws.getLast? = some 0 then ws.dropLast else ws

/-- D of a PCG packet, O of a SCHUR packet. -/
def bsuItems (h st : List Byte) (len : Nat) : Nat :=
  if Bp.op h = 4 then (obsWords h st len).length else if Bp.op h = 5 then (pcgWords st).length else 0

/-- WORK bytes (Table 11.2). -/
def workBytes (h : List Byte) (items : Nat) : Nat :=
  if !Bp.cluster h then 0
  else if Bp.op h = 1 then 16 * (Bp.n h * (Bp.n h + 1) / 2)
  else if Bp.op h = 4 then 120 * Bp.lands h + 8 * (3 * Bp.block h) * items
  else 288 * (Bp.n h + items) + 408 * Bp.n h

/-! ### Costs (Table 11.3, R238) -/

def sumTo (n : Nat) (f : Nat → Nat) : Nat := ((List.range n).map (fun k => f (k + 1))).sum

/-- nb and b. -/
def blkCount (n : Nat) : Nat := ceilDiv n 24
def blkLast (n : Nat) : Nat := n - 24 * (blkCount n - 1)

def costF (n : Nat) : Nat :=
  let nb := blkCount n
  sumTo nb (fun k => (if k < nb then 300 else 12 * blkLast n + 12) + 200 * ceilDiv (nb - k) 16 +
    144 * ceilDiv ((nb - k) * (nb - k + 1) / 2) 16 + 16)
def costS (n : Nat) : Nat :=
  let nb := blkCount n
  2 * sumTo nb (fun k => 8 * (if k < nb then 24 else blkLast n) + 8 + 48 * ceilDiv (nb - k) 16 + 8)

/-- Parts of one iteration in order: fixed and build, factor (phase F), the rest; `first`: build and factor run. -/
structure BsuCost where
  build : Nat
  factor : Nat
  rest : Nat

def BsuCost.total (c : BsuCost) : Nat := c.build + c.factor + c.rest

def bsuCost (h st : List Byte) (len : Nat) (first : Bool) : BsuCost :=
  let n := Bp.n h; let m := Bp.m h; let e := Bp.entries h
  let items := bsuItems h st len
  let b := fun (x : Nat) => if first then x else 0
  if Bp.op h = 4 then
    let ws := obsWords h st len
    let l := Bp.lands h
    let per := fun (k : Nat) => (ws.filter (fun w => bits w 0 14 == k)).length
    let p := ((List.range l).map (fun k => per k * (per k + 1) / 2)).sum
    ⟨64 + b (10 * (ws.map obsRows).sum + 40 + 8 * ceilDiv l 16 + (Bp.block h + 9) * ceilDiv items 16 +
        (3 * Bp.block h + 3) * ceilDiv p 16), b (costF n), costS n + 16 * ceilDiv l 16 + 2 * ceilDiv (n + 3 * l) 16⟩
  else if Bp.op h = 5 then
    ⟨64 + b (32 + ceilDiv e 16), b (84 * ceilDiv n 16),
      Bp.inner h * (96 + 40 * ceilDiv (n + 2 * items) 16) + 8 + 2 * ceilDiv (6 * n) 16⟩
  else if Bp.cluster h then
    ⟨16 + b (32 + ceilDiv e 16), b (costF n),
      24 + 32 * ceilDiv (blkCount n * blkCount n) 16 + costS n + 8 + 2 * ceilDiv (n * Bp.rhs h) 16⟩
  else
    let f := if Bp.op h = 1 then 12 * n + 12 else if Bp.op h = 2 then 10 * n + 12 else 20 * n + 2 * m + 12
    let sv := if Bp.op h = 1 then 16 * n + 16 else if Bp.op h = 2 then 16 * n + 20 else 8 * n + 4 * m + 8
    ⟨16 + b (16 + ceilDiv e 4), b f, 8 * n + 8 + sv + 2 * n + 8⟩

/-- Tokens of an iteration (R238). -/
def bsuTok (h st : List Byte) (len : Nat) : Nat :=
  ceilDiv len 64 + 2 * ceilDiv (workBytes h (bsuItems h st len)) 64 * (if Bp.op h = 5 then Bp.inner h else 1) +
    ceilDiv (64 + 8 * Bp.values h) 64

/-! ### Channels -/

def State.bsuCh (s : State) (c : Nat) : BsuCh := SMap.get BsuCh.reset s.bsu.chs c
def State.setBsu (s : State) (c : Nat) (x : BsuCh) : State := { s with bsu := { s.bsu with chs := SMap.set s.bsu.chs c x } }

/-- Counter of channel `c`: 0 PROBLEMS, 1 ITERATIONS, 2 PIVOT, 3 WARM_MISMATCH, 4 STICKY, 5 MISS. -/
def bsuCnt (c k : Nat) : Nat := 2 + 6 * c + k

/-- Lanes of a channel's problems (R233). -/
def chanCluster (c : Nat) : Nat := if c < 4 then c else c / 16
def clusterLanes (k : Nat) : List Nat := (List.range 16).map (16 * k + ·)
def chanLanes (c : Nat) (cluster : Bool) : List Nat := if c < 4 || cluster then clusterLanes (chanCluster c) else [c]

/-- Values in force. -/
def State.bsuForce (s : State) (c : Nat) : BsuCfg :=
  ⟨s.fld (Reg.BSU_CH_CFG c) 0 1, s.fld (Reg.BSU_CH_CFG c) 8 7, s.pair (Reg.BSU_CH_TAU_LO c) (Reg.BSU_CH_TAU_HI c),
    s.regN (Reg.BSU_CH_DEADLINE c)⟩

def State.putForce (s : State) (c : Nat) (v : BsuCfg) (route : Bool) : State :=
  ((s.setRegN (Reg.BSU_CH_CFG c) (v.mode + 2 ^ 8 * v.count + 2 ^ 16 * b2n route)).setPair (Reg.BSU_CH_TAU_LO c)
    (Reg.BSU_CH_TAU_HI c) v.tau).setRegN (Reg.BSU_CH_DEADLINE c) v.deadline

/-- QUEUED, RUNNING and the busy lanes follow the channel. -/
def State.bsuShow (s : State) (c : Nat) : State :=
  let x := s.bsuCh c
  let s1 := (s.putBit (Reg.BSU_CH_STATUS c) 2 x.run.isSome).setFld (Reg.BSU_CH_STATUS c) 3 4 x.queue.length
  let runs := s1.bsu.chs.filterMap (fun e => e.2.run.map (fun r => (e.1, Bp.cluster r.hdr)))
  let lanes := runs.flatMap (fun r => chanLanes r.1 r.2)
  let m := maskOf lanes
  (s1.setPair Reg.BSU_LANE_BUSY_LO Reg.BSU_LANE_BUSY_HI m).setFld Reg.BSU_STATUS 0 4
    (maskOf ((runs.filter (fun r => decide (r.1 < 4) || r.2)).map (fun r => chanCluster r.1)))

/-- Post a descriptor; false where the queue of 8 is full (R240). -/
def State.bsuPost (s : State) (c : Nat) (d : BsuDesc) : State × Bool :=
  let x := s.bsuCh c
  if 8 ≤ x.queue.length then (s, false)
  else ((s.setBsu c { x with queue := x.queue ++ [d] }).bsuShow c, true)

/-- Bytes of a descriptor's packet, read when the problem or iteration it feeds starts (R241). -/
def State.bsuRead (s : State) (d : BsuDesc) : List Byte :=
  if d.host.isSome then s.hostLd d.addr d.len else s.ldB d.addr d.len

/-- The block of the stage a channel's problem belongs to; none for a host problem. -/
def BsuCh.blkOf (ch : BsuCh) (d : BsuDesc) : Option BsuBlk := if d.host.isSome then none else ch.blk

/-- Cadence of the stage a descriptor belongs to; 0 for the host's. -/
def BsuCh.cadOf (ch : BsuCh) (d : BsuDesc) : Nat := match ch.blkOf d with | some b => b.cadence | none => 0

/-! ### The packet check (R241) -/

/-- RES_TOL is an E36 value that is not negative: −0 counts as 0, e = 255 is no value (R7; assumption log 23). -/
def resTolOk (v : Nat) : Bool := bits v 27 8 != 255 && (!v.testBit 35 || bits v 27 8 == 0)

def bsuHeaderOk (c mode count len : Nat) (h st : List Byte) : Bool :=
  let op := Bp.op h; let n := Bp.n h
  let kind := if c < 4 then op == 4 else op == 1 || op == 2 || op == 3 || op == 5
  kind && decide (Bp.flags h ≤ 7) &&
  (if op = 1 then rng n 1 192 else if op = 2 ∨ op = 3 then rng n 1 24 else if op = 4 then rng n 1 192 else rng n 1 4096) &&
  (if op ≤ 3 then rng (Bp.rhs h) 1 8 else Bp.rhs h == 1) &&
  (if op = 4 then rng (Bp.block h) 1 24 && n % Bp.block h == 0 else Bp.block h == (if op = 5 then 6 else 0)) &&
  (if op = 3 then rng (Bp.m h) n 24 else Bp.m h == 0) && (if op = 5 then decide (1 ≤ Bp.inner h) else Bp.inner h == 0) &&
  decide (Bp.structLen h ≤ 262144) && Bp.structLen h % 8 == 0 && (decide (4 ≤ op) || Bp.structLen h == 0) &&
  decide (Bp.entries h ≤ 65535) && (mode == 0 || resTolOk (Bp.resTol h)) && (op != 4 || rng (obsWords h st len).length 1 65535) &&
  (if Bp.cluster h then Bp.work h % 64 == 0 && (addrRow (Bp.work h) (max 1 (workBytes h (bsuItems h st len)))).isSome
    else Bp.work h == 0) &&
  Bp.sol h % 64 == 0 && (addrRow (Bp.sol h) (64 + 8 * Bp.values h)).isSome &&
  (if op = 4 then rng (Bp.lands h) 1 16384 else if op = 5 then Bp.lands h == ceilDiv (pcgWords st).length 2 &&
      decide ((pcgWords st).length ≤ 32768) else Bp.lands h == 0) &&
  zeroIn h 42 44 && zeroIn h 48 64 && rng (Bp.tag h) 1 count

/-- A 16-byte entry record. -/
structure BsuEntry where
  row : Nat
  col : Nat
  target : Nat
  rhs : Nat
  value : Nat

def bsuEntry (b : List Byte) : BsuEntry := ⟨leAt b 0 2, leAt b 2 2, leAt b 4 1, leAt b 5 1, leAt b 8 8 % 2 ^ 36⟩

def bsuEntryOk (h st b : List Byte) : Bool :=
  let e := bsuEntry b
  let op := Bp.op h
  let dim := if op = 5 then 6 * Bp.n h else Bp.n h
  let rows := if op = 3 then Bp.m h else dim
  let stored := op != 5 || e.row / 6 == e.col / 6 ||
    (pcgWords st).any (fun w => bits w 0 12 == e.row / 6 && bits w 12 12 == e.col / 6)
  decide (e.target ≤ 2) && zeroIn b 6 8 && decide (e.rhs < max 1 (Bp.rhs h)) &&
  (if e.target = 0 then decide (e.row < rows) && decide (e.col < dim) && (op == 3 || decide (e.col ≤ e.row)) && stored
   else if e.target = 1 then decide (e.row < rows) else decide (e.row < dim))

/-- Observation records of a SCHUR packet and the prior entries behind them. -/
def splitObs (h : List Byte) : List Nat → List Byte → List (List Byte) × List Byte
  | [], bs => ([], bs)
  | _ :: ws, bs =>
    let n := obsBytes (Bp.block h) (leAt bs 3 1)
    let r := splitObs h ws (bs.drop n)
    (bs.take n :: r.1, r.2)

def chunks16 (n : Nat) (bs : List Byte) : List (List Byte) := (List.range n).map (fun k => (bs.drop (16 * k)).take 16)

/-- DETAIL of a packet that fails its check; `must`: the iteration it must feed. -/
def bsuCheck (c : Nat) (cfg : BsuCfg) (host : Bool) (must : Nat) (pkt : List Byte) : Option Nat :=
  let h := pkt.take 64
  let st := (pkt.drop 64).take (Bp.structLen h)
  let body := pkt.drop (64 + Bp.structLen h)
  let len := pkt.length
  let padBad := if Bp.op h = 4 then
      let w := obsWords h st len
      decide (w.length < (structWords st).length) && (structWords st).getLast? != some 0
    else false
  if !bsuHeaderOk c cfg.mode cfg.count len h st || padBad then some 0x83
  else if Bp.chain h && host then some 0x84
  else
    let badBody :=
      if Bp.op h = 4 then
        let ws := obsWords h st len
        let so := splitObs h ws body
        let prior := Bp.entries h - ws.length
        decide (Bp.entries h < ws.length) || decide (so.2.length ≠ 16 * prior) ||
        (so.1.zip ws).any (fun e =>
          leAt e.1 0 2 != bits e.2 0 14 || leAt e.1 2 1 != bits e.2 14 8 || leAt e.1 3 1 != obsRows e.2 ||
          decide (e.2 / 2 ^ 24 ≠ 0) || !zeroIn e.1 4 8 || decide (Bp.lands h ≤ bits e.2 0 14) ||
          decide (Bp.n h < Bp.block h * (bits e.2 14 8 + 1))) ||
        (prior != 0 && !Bp.full h) || (chunks16 prior so.2).any (fun b => !bsuEntryOk h st b)
      else
        decide (body.length ≠ 16 * Bp.entries h) || (chunks16 (Bp.entries h) body).any (fun b => !bsuEntryOk h st b) ||
        (Bp.op h == 5 && (pcgWords st).any (fun w => decide (w / 2 ^ 24 ≠ 0) || decide (bits w 0 12 ≤ bits w 12 12) ||
          decide (Bp.n h ≤ bits w 0 12)))
    if badBody then some 0x85
    else if Bp.tag h ≠ must then some 0x86
    else none

/-! ### Iterations (R244) -/

/-- Apply the entries of a packet to the resident values (R243). -/
def BsuCh.enter (x : BsuCh) (bs : List (List Byte)) : BsuCh :=
  bs.foldl (fun y b =>
    let e := bsuEntry b
    if e.target = 0 then { y with a := SMap.set y.a (65536 * e.row + e.col) e.value }
    else if e.target = 1 then { y with b := SMap.set y.b (65536 * e.rhs + e.row) e.value }
    else { y with x0 := SMap.set y.x0 (65536 * e.rhs + e.row) e.value }) x

def ecode (m : SMap Nat) (k : Nat) : E36 := E36.ofCode (SMap.get 0 m k)

def obsOf (h : List Byte) (b : List Byte) : SObs :=
  let rows := leAt b 3 1
  let blk := Bp.block h
  let f := fun (k : Nat) => E36.ofCode (leAt b (8 + 8 * k) 8 % 2 ^ 36)
  ⟨leAt b 0 2, leAt b 2 1, (List.range rows).map f, (List.range rows).map (fun k => f (rows + k)),
    (List.range rows).map (fun r => (List.range 3).map (fun a => f (2 * rows + 3 * r + a))),
    (List.range rows).map (fun r => (List.range blk).map (fun a => f (5 * rows + blk * r + a)))⟩

/-- The step d of one iteration from x, and what it met; `factored`: the factorisation runs in this iteration. -/
def bsuStep (ch : BsuCh) (r : BsuRun) (factored : Bool) : EVec × STrace :=
  let h := r.hdr
  let n := Bp.n h; let op := Bp.op h
  let tau := E36.ofCode r.desc.cfg.tau
  let sym := fun (i j : Nat) => ecode ch.a (65536 * max i j + min i j)
  let keep := fun (t : STrace) => if factored then t else STrace.nil
  let inputs := fun (keys : SMap Nat) => (⟨keys.map (fun e => (0, e.1 % 65536, E36.ofCode e.2)), []⟩ : STrace)
  let build := if factored then inputs ch.a |>.join (inputs ch.b) else STrace.nil
  let xs := r.x.map E36.ofCode
  let start : STrace := STrace.cols (if op = 4 then 4 else 2) ((indexed xs).map (fun e => (if 4 ≤ op then e.1 else e.1 % max 1 n, e.2)))
  if op = 4 then
    let ws := obsWords h r.struct r.desc.len
    let so := splitObs h ws r.records
    let obs := so.1.map (obsOf h)
    let read : STrace := ⟨(so.1.zip obs).flatMap (fun e => (e.2.r ++ e.2.w ++ e.2.jl.flatten ++ e.2.jc.flatten).map
      (fun v => (0, Bp.block h * e.2.camera, v))), []⟩
    let o := schur n (Bp.block h) (Bp.lands h) obs (fun i j => sym i j) (fun i => ecode ch.b i) tau
    (o.dc ++ o.dl, ((keep ((read.join build).join o.built)).join o.solved).join start)
  else if op = 5 then
    let dim := 6 * n
    let rows := (List.range dim).map (fun i => (List.range dim).map (fun j => sym i j))
    let res := (List.range dim).map (fun i => E36.dotSub (ecode ch.b i) ((rows.getD i []).zip xs))
    let pre := (List.range n).map (fun k => chol 6 (fun i j => sym (6 * k + i) (6 * k + j)) tau)
    let tp := (pre.zip (List.range n)).foldl (fun (t : STrace) e => t.join (STrace.factor 1 (6 * e.2) e.1.1 e.1.2)) STrace.nil
    let d := pcg rows (pre.map (fun e => e.1)) res (Bp.inner h)
    (d.1, (((build.join (keep tp)).join start).join (STrace.vec 2 0 res)).join d.2)
  else
    let m := if op = 3 then Bp.m h else n
    let at_ := fun (i j : Nat) => if op = 3 then ecode ch.a (65536 * i + j) else sym i j
    let res := (List.range (Bp.rhs h)).map (fun k =>
      let xk := (xs.drop (n * k)).take n
      (List.range m).map (fun i => E36.dotSub (ecode ch.b (65536 * k + i)) (((List.range n).map (at_ i)).zip xk)))
    let tr := res.foldl (fun (t : STrace) v => t.join (STrace.vec 2 0 v)) STrace.nil
    let solve : STrace × (EVec → EVec × STrace) :=
      if op = 1 then let f := chol n at_ tau; (STrace.factor 1 0 f.1 f.2, cholSolve f.1)
      else if op = 2 then
        let f := ldlt n at_ tau
        (STrace.ldlt f, ldltSolve f.1 f.2.1)
      else
        let f := qr m n at_ tau
        ((STrace.cols 1 f.seen).join ⟨[], f.pivots⟩, qrSolve f.cols f.hs)
    let ds := res.map solve.2
    (ds.flatMap (fun e => e.1), ds.foldl (fun (t : STrace) e => t.join e.2) (((build.join (keep solve.1)).join start).join tr))

/-- Set an output flag of the block: `k` counts from 0, the result flag last. -/
def State.bsuFlag (s : State) (b : BsuBlk) (k : Nat) (f : Flag) : State :=
  match s.runOf b.slot b.index with
  | some r => s.runFlag r (b.flagBase + k) f
  | none => s

/-- The solution area's values. -/
def solBytes (x : List Nat) : List Byte := x.flatMap (leBytes 8)

/-- Write device memory for a problem of a stage or the host. -/
def State.bsuSt (s : State) (cadence a : Nat) (stage : Bool) (bs : List Byte) : State :=
  if stage then s.writing 5 cadence (fun t => t.stB a bs) else s.stB a bs

/-- One iteration completes at CORE cycle `at_`: x, the solution area, its iterate flag, the mode-1 test. -/
def State.bsuIterate (s : State) (c : Nat) (at_ : Nat) : State :=
  let ch := s.bsuCh c
  match ch.run with
  | none => s
  | some r =>
    let i := r.iter + 1
    let chain := Bp.chain r.hdr
    let factored := i == 1 || chain
    let st := bsuStep ch r factored
    let xs := r.x.map E36.ofCode
    let x1 := ((xs.zip st.1).map (fun e => E36.add e.1 e.2))
    let res := E36.dot E36.zero (st.1.zip st.1)
    let col := fun (k : Nat) => if 4 ≤ Bp.op r.hdr then k else k % max 1 (Bp.n r.hdr)
    let tr := st.2.join ((STrace.cols 4 ((indexed x1).map (fun e => (col e.1, e.2)))).join (STrace.cols 4 [(0, res)]))
    let codes := x1.map E36.code
    let bad := tr.vals.find? (fun e => e.2.2.range)
    let met := r.desc.cfg.mode == 1 && !E36.lt (E36.ofCode (Bp.resTol r.hdr)) res
    let done := decide (r.desc.cfg.count ≤ i) || met
    let r1 : BsuRun := { r with
      iter := i, at_ := at_, x := codes, residual := res.code, resMet := met, ended := done, waiting := !done && chain,
      sticky := r.sticky || tr.vals.any (fun e => e.2.2.sticky), pivots := r.pivots + tr.pivots.length,
      pivot := match r.pivot with | some p => some p | none => tr.pivots.head?.map (fun p => (p, i)),
      range := match r.range with | some v => some v | none => bad.map (fun e => (e.2.1, e.1, i)) }
    let s1 := (s.setBsu c { ch with run := some r1 }).bsuSt r.cadence (Bp.sol r.hdr + 64) (ch.blkOf r.desc).isSome (solBytes codes)
    let wb := workBytes r.hdr (bsuItems r.hdr r.struct r.desc.len)
    let s2 := if wb = 0 then s1 else (s1.stB (Bp.work r.hdr) (s1.freeBytes wb)).drawFrees wb
    let s3 := s2.count 7 (bsuCnt c 1)
    match ch.blkOf r.desc with
    | some b => if b.done + 1 = leAt b.block 3 1 then s3.bsuFlag b (i - 1) Flag.ready else s3
    | none => s3

/-- CORE cycle in which the iteration in progress ends. -/
def BsuRun.iterEnd (r : BsuRun) : Nat :=
  r.at_ + (bsuCost r.hdr r.struct r.desc.len (r.iter == 0 || Bp.chain r.hdr)).total

/-- Do something in CORE cycle `t`; the clock then stands as before. -/
def State.inCycle (s : State) (t : Nat) (f : State → State) : State := { f { s with core := t } with core := s.core }

/-- The problem is a host's whose charge waits for a refill (R48). -/
def State.bsuHeld (s : State) (r : BsuRun) : Bool := match r.desc.host with | some k => s.poolWaiting k | none => false

/-- Every iteration that ends by a CORE cycle completes, in its own cycle. -/
def State.bsuAdvance (s : State) (c core : Nat) : Nat → State
  | 0 => s
  | n + 1 =>
    match (s.bsuCh c).run with
    | none => s
    | some r =>
      if r.ended || r.waiting || s.bsuHeld r || decide (core < r.iterEnd) then s
      else (s.inCycle r.iterEnd (fun t => t.bsuIterate c r.iterEnd)).bsuAdvance c core n

/-- A stage ends its instances when every block of it is over (R252). -/
def State.bsuStageOver (s : State) (slot index : Nat) : State :=
  let left := s.bsu.chs.any (fun e => match e.2.blk with
    | some b => b.slot == slot && b.index == index && !b.spent
    | none => false)
  if left then s
  else match s.runOf slot index with
    | some r => s.each (r.insts.map (fun i => i.unit)) (fun st u => st.endInst slot index u)
    | none => s

/-- DONE_FLAG not EMPTY with an empty queue tells the last problem of the block: its iterates' flags become READY, and with nothing
running the block is done (R252). -/
def State.bsuDoneFlag (s : State) (c : Nat) : State :=
  let ch := s.bsuCh c
  match ch.blk with
  | some b =>
    if !b.spent && ch.queue.isEmpty && s.flagOf b.slot (leAt b.block 16 2) != Flag.empty then
      let own := ch.run.filter (fun r => r.desc.host.isNone)
      let iters := match own with | some r => r.iter | none => b.last
      let s1 := s.each (List.range iters) (fun st k => match st.runOf b.slot b.index with
        | some q => if (q.outFlags[b.flagBase + k]?).any (fun i => st.flagOf b.slot i != Flag.ready) then st.bsuFlag b k Flag.ready else st
        | none => st)
      if own.isSome then s1
      else
        let s2 := s1.setBsu c { s1.bsuCh c with blk := some { b with spent := true } }
        (s2.bsuFlag b (leAt b.block 2 1) Flag.ready).bsuStageOver b.slot b.index
    else s
  | none => s

/-- Bring every channel up to now. -/
def State.bsuSync (s : State) : State :=
  s.each s.bsu.chs (fun st e => (st.bsuAdvance e.1 st.core 64).bsuDoneFlag e.1)

/-! ### Results (R247, R250, R251) -/

/-- STATUS of the result header: errors first, then warnings. `miss`: the deadline's DETAIL. -/
def BsuRun.status (r : BsuRun) (miss : Option Nat) : Nat × Nat :=
  match miss, r.stop with
  | some d, _ => (St.deadlineMiss, d)
  | none, st =>
    if r.range.isSome then (St.rangeExceeded, 0)
    else match st with
      | some (0, _) => (St.budgetExceeded, 0)
      | some (d, _) => (St.badParam, d)
      | none => if r.pivot.isSome then (St.pivotRegularised, 0) else if r.warmMismatch then (St.warmMismatch, 0) else (St.ok, 0)

/-- A problem ends: header, commit, registers, events, flags, and the host's completion. `miss`: DEADLINE_MISS's DETAIL;
`aborted`: the iteration of phase F it stopped in. -/
def State.bsuFinish (s : State) (c : Nat) (miss : Option Nat) : State :=
  let ch := s.bsuCh c
  match ch.run with
  | none => s
  | some r =>
    let h := r.hdr
    let blk := ch.blkOf r.desc
    let stage := blk.isSome
    let retained := miss == some 2 || r.stop == some (0, 1)
    let st := r.status miss
    let flags := b2n r.pivot.isSome + 2 * b2n r.warmMismatch + 4 * b2n r.range.isSome + 8 * b2n retained + 16 * b2n r.inputCut +
      32 * b2n r.sticky + 64 * b2n r.resMet
    let pcol := match r.pivot with | some p => p.1 | none => 0xFFFF
    let rcol := match r.range with | some p => p.1 | none => 0xFFFF
    let retCad := if retained then ch.solCad else 0
    let cad := if stage then r.cadence else 0
    let hdr := leBytes 1 st.1 ++ leBytes 1 st.2 ++ leBytes 1 flags ++ leBytes 1 r.iter ++ leBytes 2 pcol ++
      leBytes 2 (min 65535 r.pivots) ++ leBytes 4 r.sig ++ leBytes 2 rcol ++ leBytes 1 c ++ leBytes 1 (Bp.op h) ++ leBytes 8 cad ++
      leBytes 8 r.residual ++ leBytes 8 r.charged ++ leBytes 8 retCad ++ leBytes 4 (r.desc.host.getD 0 % 2 ^ 32) ++ zeros 12
    let values := Bp.values h
    let s0 := if miss = some 2 then s.bsuSt r.cadence (Bp.sol h + 64) stage (solBytes ((ch.sol ++ List.replicate values 0).take values))
      else if miss = some 1 && r.iter == 0 then s.bsuSt r.cadence (Bp.sol h + 64) stage (solBytes r.x) else s
    let mapped := (addrRow (Bp.sol h) 64).isSome && Bp.sol h % 64 == 0
    let s1 := if mapped then s0.bsuSt r.cadence (Bp.sol h) stage hdr else s0
    let commits := st.1 != St.deadlineMiss && st.1 != St.rangeExceeded && st.1 != St.badParam &&
      !(r.stop == some (0, 1))
    let ch1 : BsuCh := { ch with run := none }
    let ch2 : BsuCh := if commits then { ch1 with sol := r.x, solCad := cad, sig := some (r.sig, Bp.work h) }
      else if st.1 = St.rangeExceeded ∧ r.stop ≠ some (0, 1) then { ch1 with sig := some (r.sig, Bp.work h) } else ch1
    let s2 := s1.setBsu c ch2
    let s3 := (((s2.setFld (Reg.BSU_CH_STATUS c) 8 8 st.1).setRegN (Reg.BSU_CH_LAST c) (r.iter + 65536 * pcol)).setRegN
      (Reg.BSU_CH_SIG c) (match ch2.sig with | some g => g.1 | none => 0)).putBit (Reg.BSU_CH_STATUS c) 0 ch2.sig.isSome
    let mark := fun (y : State) (b : Bool) (bit_ cnt n : Nat) =>
      if b then (y.setBit (Reg.BSU_CH_STATUS c) bit_).countN 7 (bsuCnt c cnt) n else y
    let s4 := mark (mark (mark (mark s3 r.pivot.isSome 16 2 r.pivots) r.warmMismatch 17 3 1) miss.isSome 19 5 1) r.sticky 20 4 1
    let s5 := (if r.range.isSome then s4.setBit (Reg.BSU_CH_STATUS c) 18 else s4).count 7 (bsuCnt c 0)
    let src := match blk with
      | some b => match s.runOf b.slot b.index with
        | some q => stageSrc (s.runLayer q) (s.runOperator q)
        | none => c
      | none => c
    let s6 := match r.pivot with
      | some p => s5.event 7 0xFF05 St.pivotRegularised 0x03 src
          (result [(20, 1, c), (21, 1, p.2), (22, 2, p.1), (24, 2, min 65535 r.pivots)])
      | none => s5
    let s7 := match r.range with
      | some p => s6.event 7 0xFF05 St.rangeExceeded 0x04 src (result [(20, 1, c), (21, 1, p.2.2), (22, 2, p.1), (24, 1, p.2.1)])
      | none => s6
    let s8 := match miss with
      | some 2 => s7.event 7 0xFF05 St.deadlineMiss 0x02 src
          (result [(20, 1, c), (21, 1, r.iter + 1), (22, 1, Bp.op h), (24, 8, retCad)])
      | some d => s7.event 7 0xFF05 St.deadlineMiss d src (result [(20, 1, c), (21, 1, r.iter), (22, 1, Bp.op h), (24, 8, cad)])
      | none => s7
    let s9 := (chanLanes c (Bp.cluster h)).foldl (fun (y : State) l => y.bankEnd 7 l) s8
    let s10 := match r.desc.host with
      | some hs => s9.longDone hs st.1 st.2 (result [(20, 1, c), (21, 1, r.iter), (22, 2, pcol), (24, 4, r.sig)])
      | none => s9
    let s11 := match blk with
      | some b =>
        let b1 := { b with done := b.done + 1, last := r.iter, spent := b.spent || decide (leAt b.block 3 1 ≤ b.done + 1) }
        let y := (s10.setBsu c { s10.bsuCh c with blk := some b1 }).addItems b.slot b.index 1
        let y1 := if r.inputCut || st.1 == St.badParam then y.degrade b.slot b.index else y
        if b1.spent then (y1.bsuFlag b (leAt b.block 2 1) Flag.ready).bsuStageOver b.slot b.index else y1
      | none => s10
    (s11.monOffer 3 c 0 ((s.core : Int) - r.start)).bsuShow c

/-! ### Issue (R243, R245, R248) -/

/-- Charge `cyc` and `tok` to the lanes of a problem; true where a lane cannot pay, which then meets its wall (R52). A host problem
draws on the free pools, and waits where they are empty (R48). -/
def State.bsuCharge (s : State) (c : Nat) (cluster : Bool) (cyc tok : Nat) : State × Bool :=
  let ch := s.bsuCh c
  match ch.run.bind (fun r => r.desc.host), ch.blk with
  | some k, _ => (s.chargePool 3 (cyc * (chanLanes c cluster).length) tok (some k), false)
  | none, none => (s, true)
  | none, some b =>
    match s.runOf b.slot b.index with
    | none => (s, true)
    | some q =>
      let lanes := chanLanes c cluster
      let lead := lanes.headD 0
      let cost := fun (u : Nat) => (cyc, if u = lead then tok else 0)
      let spent := fun (i : Inst) => if i.ended then 4 else limitBits (s.runDesc q) i (cost i.unit).1 (cost i.unit).2
      let mine := q.insts.filter (fun i => lanes.contains i.unit)
      if mine.length < lanes.length || mine.any (fun i => spent i != 0) then
        (s.each (mine.filter (fun i => !i.ended && spent i != 0)) (fun y i => y.wall b.slot b.index i.unit (spent i)), true)
      else (lanes.foldl (fun (y : State) u => (y.chargeTo q u (cost u).1 (cost u).2).bankBusy 7 u (cost u).1) s, false)

/-- Take a packet that passed its check into the channel: compare, clear, enter (R243). -/
def BsuCh.accept (ch : BsuCh) (pkt : List Byte) (sig : Nat) (running : Bool) : BsuCh × Bool :=
  let h := pkt.take 64
  let st := (pkt.drop 64).take (Bp.structLen h)
  let body := pkt.drop (64 + Bp.structLen h)
  let compared := !Bp.full h || Bp.warm h
  let have_ := match ch.run, running with
    | some r, true => some (r.sig, Bp.work r.hdr)
    | _, _ => ch.sig
  let mismatch := compared && have_ != some (sig, Bp.work h)
  let clear := Bp.full h || mismatch
  let base : BsuCh := if clear then { ch with a := [], b := [], x0 := [] } else { ch with x0 := [] }
  let recs := if Bp.op h = 4 then
      let ws := obsWords h st pkt.length
      chunks16 (Bp.entries h - ws.length) (splitObs h ws body).2
    else chunks16 (Bp.entries h) body
  let pre : BsuCh := if Bp.op h = 4 then { base with a := [], b := [] } else base
  (pre.enter recs, mismatch)

/-- The structure signature (R243). -/
def bsuSig (pkt : List Byte) : Nat := let h := pkt.take 64; crc32 (pkt.take 8 ++ (pkt.drop 64).take (Bp.structLen h))

/-- The lanes of a problem are free. -/
def State.lanesFree (s : State) (lanes : List Nat) : Bool :=
  s.bsu.chs.all (fun e => match e.2.run with
    | some r => !(chanLanes e.1 (Bp.cluster r.hdr)).any lanes.contains
    | none => true)

/-- The channel may take descriptor `d` now: a host problem runs, one of a stage needs its block not over. -/
def State.bsuOpen (s : State) (c : Nat) (d : BsuDesc) : Bool :=
  d.host.isSome || (match (s.bsuCh c).blk with
    | some b => !b.spent && (match s.runOf b.slot b.index with | some r => !r.waiting | none => false)
    | none => false)

/-- A lower channel of the same stage has a problem queued that needs one of the lanes (R233: channel order within a stage). -/
def State.bsuBehind (s : State) (c : Nat) (lanes : List Nat) : Bool :=
  match (s.bsuCh c).blk with
  | none => false
  | some b => s.bsu.chs.any (fun e => decide (e.1 < c) && e.2.run.isNone && (match e.2.blk, e.2.queue with
      | some k, d :: _ => !k.spent && k.slot == b.slot && k.index == b.index &&
          (chanLanes e.1 (Bp.cluster ((s.bsuRead d).take 64))).any lanes.contains
      | _, _ => false))

/-- Descriptors of SOLVE_SUBMITs that waited move up (R240). -/
def State.bsuRefill (s : State) (c : Nat) : State :=
  let ch := s.bsuCh c
  let n := 8 - ch.queue.length
  (s.setBsu c { ch with queue := ch.queue ++ ch.waiting.take n, waiting := ch.waiting.drop n }).bsuShow c

/-- The values an accepted problem starts from: the packet's own, or the last solution where it asks for a warm start that its structure
allows (R244). `old`: the channel before, `acc`: once the packet is in; `mismatch`: WARM_MISMATCH. -/
def bsuFirst (h : List Byte) (old acc : BsuCh) (mismatch : Bool) : List Nat :=
  let values := Bp.values h
  let x0 := (List.range values).map (fun k =>
    if Bp.op h = 4 ∨ Bp.op h = 5 then SMap.get 0 acc.x0 k
    else SMap.get 0 acc.x0 (65536 * (k / max 1 (Bp.n h)) + k % max 1 (Bp.n h)))
  if Bp.warm h && !mismatch && !old.sol.isEmpty then (old.sol ++ List.replicate values 0).take values else x0

/-- A paid problem runs: the channel as `ch` but for its queue, and the banks of its lanes open under the stage's layer and operator. -/
def State.bsuBegin (s : State) (c : Nat) (ch : BsuCh) : State :=
  let s1 := (s.setBsu c { ch with queue := (s.bsuCh c).queue, waiting := (s.bsuCh c).waiting }).bsuShow c
  let blk := ch.run.bind (fun r => ch.blkOf r.desc)
  let src := match blk with | some b => (b.slot, 1) | none => (0xFF, 2)
  let lo := match blk with
    | some b => match s1.runOf b.slot b.index with
      | some q => (s1.runLayer q, s1.runOperator q)
      | none => (0, 0)
    | none => match s1.hif.longs.find? (fun (l : Long) => ch.run.any (fun (r : BsuRun) => r.desc.host == some l.key)) with
      | some l => (l.packet.layer, l.packet.operator)
      | none => (0, 0)
  let cluster := match ch.run with | some r => Bp.cluster r.hdr | none => false
  (chanLanes c cluster).foldl (fun (y : State) l => y.bankOpen 7 l lo.1 lo.2 src.2 src.1) s1

/-- PROBLEM_ISSUE: the next descriptor: check, charge, start; a packet that fails and a problem that cannot pay end at
once. -/
def bsuIssue (c : Nat) (s : State) : State :=
  let s0 := s.bsuSync
  let ch := s0.bsuCh c
  match ch.queue with
  | [] => s0
  | d :: rest =>
    let pkt := s0.bsuRead d
    let h := pkt.take 64
    let st := (pkt.drop 64).take (Bp.structLen h)
    let lanes := chanLanes c (Bp.cluster h)
    if 64 ≤ c || ch.run.isSome || !s0.bsuOpen c d || !s0.lanesFree lanes || s0.bsuBehind c lanes then s0
    else
      let sig := bsuSig pkt
      let r0 : BsuRun := ⟨d, h, st, pkt.drop (64 + Bp.structLen h), ch.cadOf d, s0.core, s0.core, 0, false, false, [], 0, 0, sig,
        false, false, false, false, none, 0, none, none⟩
      let s1 := (s0.setBsu c { ch with queue := rest }).bsuRefill c
      match bsuCheck c d.cfg d.host.isSome 1 pkt with
      | some e => (s1.setBsu c { s1.bsuCh c with run := some { r0 with ended := true, stop := some (e, 0) } }).bsuFinish c none
      | none =>
        let first := bsuCost h st d.len true
        let later := bsuCost h st d.len false
        let n := if Bp.chain h then 1 else d.cfg.count
        let cyc := first.total + (n - 1) * later.total
        let tok := n * bsuTok h st d.len
        let acc := (s1.bsuCh c).accept pkt sig false
        let s2 := s1.setBsu c { s1.bsuCh c with run := some r0 }
        let pay := s2.bsuCharge c (Bp.cluster h) cyc tok
        if pay.2 then
          (pay.1.setBsu c { pay.1.bsuCh c with run := some { r0 with ended := true, stop := some (0, 1) } }).bsuFinish c none
        else
          let cur := (pay.1.bsuCh c).run.getD r0
          pay.1.bsuBegin c { acc.1 with run := some { cur with x := bsuFirst h ch acc.1 acc.2, charged := cyc, warmMismatch := acc.2 } }

/-- A problem's wait for a packet ends: its CORE cycles count as FLAG_WAIT (R245). -/
def State.bsuWaited (s : State) (c : Nat) (r : BsuRun) : State :=
  if r.waiting then (chanLanes c (Bp.cluster r.hdr)).foldl (fun (y : State) l => y.bankStall 7 l 4 (s.core - r.at_)) s else s

/-- CHAINED_PACKET: the packet of the next iteration has arrived at the head of the queue (R245). -/
def bsuChained (c : Nat) (s : State) : State :=
  let s0 := s.bsuSync
  let ch := s0.bsuCh c
  match ch.run, ch.queue with
  | some r, d :: rest =>
    if !r.waiting then s0
    else
      let pkt := s0.bsuRead d
      let h := pkt.take 64
      let st := (pkt.drop 64).take (Bp.structLen h)
      let s1 := (s0.setBsu c { ch with queue := rest }).bsuRefill c
      let s2 := s1.bsuWaited c r
      let stop := fun (e : Nat × Nat) =>
        (s2.setBsu c { s2.bsuCh c with run := some { r with waiting := false, ended := true, stop := some e } }).bsuFinish c none
      match bsuCheck c r.desc.cfg d.host.isSome (r.iter + 1) pkt with
      | some e => stop (e, 0)
      | none =>
        let sig := bsuSig pkt
        let acc := (s2.bsuCh c).accept pkt sig true
        let cost := (bsuCost h st d.len true).total
        let pay := s2.bsuCharge c (Bp.cluster h) cost (bsuTok h st d.len)
        if pay.2 then
          (pay.1.setBsu c { pay.1.bsuCh c with run := some { r with waiting := false, ended := true, stop := some (0, 0) } }).bsuFinish c none
        else
          let values := Bp.values h
          let r1 : BsuRun := { r with
            desc := { r.desc with addr := d.addr, len := d.len }, hdr := h, struct := st, records := pkt.drop (64 + Bp.structLen h),
            at_ := s0.core, waiting := false, sig := sig, charged := r.charged + cost, warmMismatch := r.warmMismatch || acc.2,
            x := (r.x ++ List.replicate values 0).take values }
          pay.1.setBsu c { acc.1 with run := some r1, queue := (pay.1.bsuCh c).queue, waiting := (pay.1.bsuCh c).waiting }
  | _, _ => s0

/-- PROBLEM_COMPLETE: the problem has run all its iterations, or waits for a packet whose producer's done flag is CUT or
STALE (R245); the clock runs to its end, which no deadline precedes. -/
def bsuComplete (c : Nat) (s : State) : State :=
  let s0 := s.bsuSync
  let s1 := s0.bsuAdvance c (2 ^ 80) 64
  let ch := s1.bsuCh c
  match ch.run with
  | none => s0
  | some r =>
    let cut := match ch.blk with
      | some b => let f := s0.flagOf b.slot (leAt b.block 16 2); f == Flag.cut || f == Flag.stale
      | none => false
    let late := decide (r.desc.cfg.deadline ≠ 0) && decide (r.start + r.desc.cfg.deadline < r.at_)
    if late then s0
    else if r.waiting && cut && ch.queue.isEmpty then
      let s2 := (s1.runTo r.at_).bsuWaited c r
      (s2.setBsu c { s2.bsuCh c with run := some { r with waiting := false, ended := true, inputCut := true } }).bsuFinish c none
    else if !r.ended then s0
    else ((s1.runTo r.at_).bsuFinish c none).bsuSync

/-- A problem's deadline falls in CORE cycle `core` (R249). -/
def State.bsuMiss (s : State) (c core : Nat) : State :=
  let s0 := s.bsuAdvance c core 64
  match (s0.bsuCh c).run with
  | none => s0
  | some r =>
    if r.ended then s0.bsuFinish c none
    else
      let cost := bsuCost r.hdr r.struct r.desc.len (r.iter == 0 || Bp.chain r.hdr)
      let into := core - r.at_
      let inF := !r.waiting && decide (cost.build ≤ into) && decide (into < cost.build + cost.factor)
      (s0.bsuWaited c r).bsuFinish c (some (if inF then 2 else 1))

/-- SOLVER_DEADLINE: the channel deadline passes; the clock runs to it. -/
def bsuDeadlineRow (c : Nat) (s : State) : State :=
  let s0 := s.bsuSync
  match (s0.bsuCh c).run with
  | none => s0
  | some r =>
    if r.desc.cfg.deadline = 0 then s0
    else
      let t := r.start + r.desc.cfg.deadline
      let end_ := (s0.bsuAdvance c (2 ^ 80) 64).bsuCh c |>.run
      match end_ with
      | some e => if e.ended ∧ e.at_ ≤ t then s0 else (s0.runTo t).bsuMiss c t
      | none => s0

/-! ### Stages (R252, R253) -/

/-- Channel blocks of a stage: consecutive, one more than allowed is looked at; they end at a block that is not one. -/
def bsuBlocks (image d : List Byte) : List (List Byte) :=
  ((List.range 17).map (fun k => (image.drop (Sd.program d + 32 * k)).take 32)).takeWhile (fun b =>
    b.length == 32 && rng (leAt b 2 1) 1 64 && rng (leAt b 3 1) 1 64)

def blkCfg (b : List Byte) : BsuCfg := ⟨leAt b 1 1, leAt b 2 1, leAt b 8 8 % 2 ^ 36, leAt b 4 4⟩

/-- τ in range: E36, positive, exponent 67 to 126 (R239). -/
def tauOk (t : Nat) : Bool := decide (t < 2 ^ 35) && rng (bits t 27 8) 67 126

def bsuStages (image : List Byte) : List (List Byte) :=
  ((List.range (Img.stageCount image)).map (Img.desc image)).filter (fun d => Sd.cls d == 3)

def State.bsuStart (s : State) (r : Run) : State :=
  let image := s.img r.slot
  let d := s.runDesc r
  let place := fun (acc : State × Nat) (b : List Byte) =>
    let c := leAt b 0 1
    let x := acc.1.bsuCh c
    (acc.1.setBsu c { x with blk := some ⟨b, r.slot, r.index, r.cadence, acc.2, 0, 0, false⟩ }, acc.2 + leAt b 2 1 + 1)
  ((bsuBlocks image d).foldl place (s, 0)).1

/-- The deadline of a stage: running problems are aborted, their result flags READY (R249, R252). -/
def State.bsuStageDeadline (s : State) (r : Run) : State :=
  s.each s.bsu.chs (fun st e =>
    match (st.bsuCh e.1).blk with
    | some b =>
      if b.slot = r.slot ∧ b.index = r.index then
        let had := (st.bsuCh e.1).run.any (fun q => q.desc.host.isNone)
        let s1 := if had then st.bsuMiss e.1 st.core else st
        let s2 := s1.setBsu e.1 { s1.bsuCh e.1 with blk := some { b with spent := true } }
        if had && !b.spent then s2.bsuFlag b (leAt b.block 2 1) Flag.ready else s2
      else st
    | none => st)

/-- The stage has ended: its blocks are gone. -/
def State.bsuEnd (s : State) (r : Run) : State :=
  s.each s.bsu.chs (fun st e => match (st.bsuCh e.1).blk with
    | some b => if b.slot = r.slot ∧ b.index = r.index then st.setBsu e.1 { st.bsuCh e.1 with blk := none } else st
    | none => st)

/-- Channels whose lanes a mask holds. -/
def boundChans (mask : Nat) : List Nat :=
  (List.range 64).filter (fun c => (chanLanes c false).any mask.testBit)

/-- The Route enters STARTING: its blocks' values come into force, its lanes' channels are bound. -/
def State.bsuRouteStart (s : State) (slot : Nat) : State :=
  let image := s.img slot
  s.each (bsuStages image) (fun st d =>
    let s1 := st.each (boundChans (Sd.unitMask d)) (fun y c => y.setBit (Reg.BSU_CH_STATUS c) 1)
    s1.each (bsuBlocks image d) (fun y b => y.putForce (leAt b 0 1) (blkCfg b) true))

/-- The channel's lanes are those of a solver stage of another Route in STARTING, ON or DRAINING (R239). -/
def State.bsuBoundBy (s : State) (slot c : Nat) : Bool :=
  slotList.any (fun n => n != slot && (s.slot n).life.active && (bsuStages (s.img n)).any (fun d => (boundChans (Sd.unitMask d)).contains c))

def State.bsuRouteOff (s : State) (slot : Nat) : State :=
  let image := s.img slot
  s.each (bsuStages image) (fun st d =>
    let s1 := st.each (boundChans (Sd.unitMask d)) (fun y c => if s.bsuBoundBy slot c then y else y.clrBit (Reg.BSU_CH_STATUS c) 1)
    s1.each (bsuBlocks image d) (fun y b => y.putForce (leAt b 0 1) (y.bsuCh (leAt b 0 1)).base false))

/-- DETAIL of ROUTE_LOAD's solver checks (R253). -/
def bsuLoadRefusal (image : List Byte) : Option Nat :=
  let blkOk := fun (b : List Byte) => decide (leAt b 0 1 < 64) && decide (leAt b 1 1 ≤ 1) && rng (leAt b 2 1) 1 64 &&
    rng (leAt b 3 1) 1 64 && tauOk (leAt b 8 8) && zeroIn b 18 32
  let names := fun (d : List Byte) => (bsuBlocks image d).map (fun b => leAt b 0 1)
  if (bsuStages image).any (fun d => (bsuBlocks image d).isEmpty || decide (16 < (bsuBlocks image d).length) ||
      (bsuBlocks image d).any (fun b => !blkOk b) || (names d).length != (names d).eraseDups.length) then some 0x78
  else if (bsuStages image).any (fun d => (names d).any (fun c => (chanLanes c false).any (fun l => !(Sd.unitMask d).testBit l))) then
    some 0x79
  else none

/-- Channels an image's solver stages name. -/
def bsuNames (image : List Byte) : List Nat := (bsuStages image).flatMap (fun d => (bsuBlocks image d).map (fun b => leAt b 0 1))

/-! ### Commands (R239, R240) -/

/-- A problem of the channel is queued or running. -/
def State.bsuBusy (s : State) (c : Nat) : Bool :=
  let x := s.bsuCh c
  x.run.isSome || !x.queue.isEmpty || !x.waiting.isEmpty

/-- CHANNEL_CONFIG. -/
def bodyChannelConfig (p : CmdPacket) (s : State) : Reply × State :=
  let c := param p 16 1
  let v : BsuCfg := ⟨param p 17 1, param p 18 1, param p 24 8 % 2 ^ 36, param p 32 4⟩
  if decide (64 ≤ c) || decide (1 < v.mode) || !rng v.count 1 64 || !tauOk v.tau || !zeroIn p.params 3 8 || !zeroIn p.params 20 48
    then (Reply.bad 0x81, s)
  else if s.bitOf (Reg.BSU_CH_STATUS c) 1 then (Reply.busy 0x80, s)
  else if s.bsuBusy c then (Reply.busy 0xE6, s)
  else (Reply.ok [(20, 1, c)], (s.setBsu c { s.bsuCh c with base := v }).putForce c v false)

/-- CHANNEL_RESET. -/
def bodyChannelReset (p : CmdPacket) (s : State) : Reply × State :=
  let c := param p 16 1
  if decide (64 ≤ c) || !zeroIn p.params 1 48 then (Reply.bad 0x81, s)
  else if s.bitOf (Reg.BSU_CH_STATUS c) 1 then (Reply.busy 0x80, s)
  else if s.bsuBusy c then (Reply.busy 0xE6, s)
  else
    let x := s.bsuCh c
    (Reply.ok [(20, 1, c)],
      ((s.setBsu c { x with sig := none, a := [], b := [], x0 := [], sol := [], solCad := 0 }).setRegN (Reg.BSU_CH_SIG c) 0).clrBit
        (Reg.BSU_CH_STATUS c) 0)

/-- SOLVE_SUBMIT's acceptance: its descriptor is queued or waits for one that is free. -/
def bodySolveSubmit (p : CmdPacket) (s : State) : Reply × State :=
  let c := param p 16 1; let len := param p 32 4
  if 64 ≤ c then (Reply.bad 0x81, s)
  else if len < 64 ∨ 16777216 < len ∨ len % 8 ≠ 0 then (Reply.bad 0x82, s)
  else if s.bitOf (Reg.BSU_CH_STATUS c) 1 then (Reply.busy 0x80, s)
  else
    let x := s.bsuCh c
    let d : BsuDesc := ⟨param p 24 8, len, 1, some s.longKey, s.bsuForce c⟩
    (Reply.accepted, (s.setBsu c { x with waiting := x.waiting ++ [d] }).bsuRefill c)

/-! ### The rows -/

/-- PROBLEM_ISSUE (R248). -/
def execProblemIssue (channel : Nat) (s : State) : Out := .next (s.act (bsuIssue channel))
/-- CHAINED_PACKET (R245). -/
def execChainedPacket (channel : Nat) (s : State) : Out := .next (s.act (bsuChained channel))
/-- PROBLEM_COMPLETE (R250). -/
def execProblemComplete (channel : Nat) (s : State) : Out := .next (s.act (bsuComplete channel))
/-- SOLVER_DEADLINE (R249). -/
def execSolverDeadline (channel : Nat) (s : State) : Out := .next (s.act (bsuDeadlineRow channel))

end Sys2Proof.Machine
end

