-- ==== Sys2Proof/Machine/Link.lean ====
section
/-! DEFINITION. The Tandem link as the units use it: frames, acknowledgement, the replay buffer, loss (R352 to R358). -/

namespace Sys2Proof.Machine

/-- FUNC_ID of the Tandem link. -/
def tdmFunc : Nat := 0x084

namespace State

/-- TDM_STATUS.ROLE: 0 none, 1 primary, 2 secondary. -/
def role (s : State) : Nat := s.fld Reg.TDM_STATUS 0 2
def linkOn (s : State) : Bool := (s.func tdmFunc).life == Life.on
/-- LINK_STATE: 0 DOWN, 1 TRAINING, 2 UP, 3 PAIRED. -/
def linkState (s : State) : Nat := s.fld Reg.TDM_STATUS 2 2
/-- The twins run as a pair. -/
def paired (s : State) : Bool := s.linkOn && s.linkState == 3
def pairPrimary (s : State) : Bool := s.paired && s.role == 1
def pairSecondary (s : State) : Bool := s.paired && s.role == 2

/-- R356: the twin declares the link lost, for a reason of its list. -/
def linkLost (s : State) (reason : Nat) : State :=
  if s.linkState < 2 then s
  else
    let s1 := ((s.setFld Reg.TDM_STATUS 2 2 0).setBit Reg.TDM_STATUS 5)
    let s2 : State := { s1 with tdm := { s1.tdm with comparing := none, replay := [] } }
    s2.event 13 0xFF08 St.tandemDiverged 0xA9 tdmFunc
      (leBytes 8 (s.pair Reg.TDM_CMP_CAD_LO Reg.TDM_CMP_CAD_HI) ++ leBytes 1 reason ++ zeros 3)

/-- A frame on the wire: the header of Table 16.1, payload, CRC-32. -/
def linkBytes (s : State) (type flags tag seq : Nat) (payload : List Byte) : List Byte :=
  let b := leBytes 1 type ++ leBytes 1 flags ++ leBytes 2 payload.length ++ leBytes 2 seq ++ leBytes 2 s.tdm.recvSeq ++
    leBytes 8 tag ++ payload
  b ++ leBytes 4 (crc32 b)

/-- Frames that do not advance SEQ: IDLE and NAK (Table 16.1). -/
def unsequenced (type : Nat) : Bool := type == 0x00 || type == 0x02

/-- Send a link frame (R355); it stays in the replay buffer until it is acknowledged. -/
def linkSend (s : State) (type flags tag : Nat) (payload : List Byte) : State :=
  if s.linkState < 2 then s
  else
    let seq := if unsequenced type then s.tdm.sentSeq else (s.tdm.sentSeq + 1) % 65536
    let b := s.linkBytes type flags tag seq payload
    let held := if unsequenced type then s.tdm.replay else s.tdm.replay ++ [⟨seq, b⟩]
    let s1 := ({ s with tdm := { s.tdm with sentSeq := seq, wire := b :: s.tdm.wire, replay := held, lastTx := s.core } }).count 13 54
    if 2 ^ 20 < (held.map (fun f => f.bytes.length)).sum then s1.linkLost 3 else s1

/-- The primary forwards an item to its twin (R357, R358), tagged with its cadence counter. -/
def forwardItem (s : State) (type : Nat) (payload : List Byte) : State :=
  if s.pairPrimary then s.linkSend type 0 s.ccu.cadence payload else s

/-- An item that may span frames: 4,096 bytes each, LAST on the last one (Table 16.1). An item of exactly 4,096 bytes carries LAST too,
so that its receiver sees its end: DESIGN CHOICE (assumption log 34). -/
def forwardLong (s : State) (type : Nat) (payload : List Byte) : State :=
  if s.pairPrimary then
    let n := max 1 (ceilDiv payload.length 4096)
    (List.range n).foldl (fun (st : State) k =>
      st.linkSend type (b2n (decide (4096 ≤ payload.length) && k + 1 == n)) st.ccu.cadence ((payload.drop (4096 * k)).take 4096)) s
  else s

/-- The own pins feed no unit: the device is the secondary of a link that is ON (R357, R364). -/
def noPins (s : State) : Bool := s.linkOn && s.role == 2

/-- An event of the own pins: on a secondary it reaches no unit. -/
def ownPins (s : State) (f : State → State) : State := if s.noPins then s else f s

end State

end Sys2Proof.Machine
end

