-- ==== Sys2Proof/Machine/Trig.lean ====
section
/-! DEFINITION. sin and cos of R119: sin(2πa ÷ 65,536) and cos(2πa ÷ 65,536), each rounded to SQ1.30, from the Taylor
series in integers with 120 fraction bits. -/

namespace Sys2Proof.Machine

/-- π × 2^120, truncated. -/
def pi120 : Int := 0x3243f6a8885a308d313198a2e037073

/-- The Taylor sum of sin from a term on: `t` the term, `x2` the square of the angle, `k` its order. -/
def sinTerms : Nat → Int → Int → Int → Int
  | 0, _, _, _ => 0
  | f + 1, t, x2, k => t + sinTerms f (-(t * x2 / 2 ^ 120) / ((k + 1) * (k + 2))) x2 (k + 2)

/-- sin of `a` ÷ 65,536 of a turn for `a` in the first quadrant, SQ1.30. -/
def sinQuad (a : Nat) : Int :=
  if a = 0 then 0 else if a = 16384 then 2 ^ 30
  else
    let x := pi120 * a / 32768
    rneShr (sinTerms 22 x (x * x / 2 ^ 120) 1) 90

/-- sin(2πa ÷ 65,536) rounded to SQ1.30 (R119). -/
def sin30 (a : Nat) : Int :=
  let r := a % 16384
  match a / 16384 % 4 with
  | 0 => sinQuad r
  | 1 => sinQuad (16384 - r)
  | 2 => -(sinQuad r)
  | _ => -(sinQuad (16384 - r))

/-- cos(2πa ÷ 65,536) rounded to SQ1.30 (R119). -/
def cos30 (a : Nat) : Int := sin30 (a + 16384)

/-- The sum of the cosine series: 1 at 2^120, then the terms. -/
def cosSeries (x : Int) : Int := sinTerms 24 (2 ^ 120) (x * x / 2 ^ 120) 0

/-- Whether the angle from the x axis to (x, y), y ≥ 0, is at least `t` ÷ 2^120, for t from 0 to π. -/
def angleReaches (x y t : Int) : Bool :=
  decide (t ≤ 0) ||
  (if pi120 < t then false
   else if t ≤ pi120 / 2 then decide (0 ≤ cosSeries t * y - sinTerms 24 t (t * t / 2 ^ 120) 1 * x)
   else
     let u := pi120 - t
     decide (0 ≤ -(cosSeries u) * y - sinTerms 24 u (u * u / 2 ^ 120) 1 * x))

/-- Greatest n below 2^k whose half-step below, (2n − 1) ÷ 2^29, the angle of (x, y) reaches. -/
def atanSearch (x y : Int) : Nat → Nat → Nat
  | 0, n => n
  | k + 1, n =>
    let c := n + 2 ^ k
    atanSearch x y k (if angleReaches x y ((2 * (c : Int) - 1) * 2 ^ 91) then c else n)

/-- atan2(y, x) for y ≥ 0 in SQ3.28, to nearest (R197). -/
def atan28 (y x : Int) : Int := if y = 0 ∧ 0 ≤ x then 0 else (atanSearch x y 30 0 : Nat)

end Sys2Proof.Machine
end

