-- ==== Sys2Proof/Machine/Ing.lean ====
section
/-! DEFINITION. Sensor ingress (ch. 5): camera packets, frames and windows, sigma-delta and PDM inputs, encoders,
lidar packets, and the sensor descriptors of SENSOR_CONFIG and LIDAR_TEMPLATE. -/

namespace Sys2Proof.Machine

def State.cam (s : State) (i : Nat) : Cam := SMap.get Cam.reset s.ing.cams i
def State.setCam (s : State) (i : Nat) (c : Cam) : State :=
  { s with ing := { s.ing with cams := SMap.set s.ing.cams i c } }
def State.bitIn (s : State) (c : Nat) : BitIn := SMap.get BitIn.reset s.ing.bitIns c
def State.setBitIn (s : State) (c : Nat) (b : BitIn) : State :=
  { s with ing := { s.ing with bitIns := SMap.set s.ing.bitIns c b } }
def State.enc (s : State) (n : Nat) : Enc := SMap.get Enc.reset s.ing.encs n
def State.setEnc (s : State) (n : Nat) (e : Enc) : State :=
  { s with ing := { s.ing with encs := SMap.set s.ing.encs n e } }
def State.lidar (s : State) (j : Nat) : LidarTpl := SMap.get LidarTpl.reset s.ing.lidars j
def State.setLidar (s : State) (j : Nat) (l : LidarTpl) : State :=
  { s with ing := { s.ing with lidars := SMap.set s.ing.lidars j l } }

/-! ### Camera streams -/

namespace Cam
/-- Fields of the camera stream descriptor (Table 5.3). -/
def port (c : Cam) : Nat := leAt c.desc 1 1
def vc (c : Cam) : Nat := leAt c.desc 2 1
def dataType (c : Cam) : Nat := leAt c.desc 3 1
def width (c : Cam) : Nat := leAt c.desc 4 2
def height (c : Cam) : Nat := leAt c.desc 6 2
def trigger (c : Cam) : Nat := leAt c.desc 8 1
def dest (c : Cam) : Nat := leAt c.desc 9 1
def pattern (c : Cam) : Nat := leAt c.desc 10 1
def captureDepth (c : Cam) : Nat := leAt c.desc 11 1
def fsWindow (c : Cam) : Nat := leAt c.desc 12 4
def captureBase (c : Cam) : Nat := leAt c.desc 16 8
end Cam

/-- FUNC_ID of a camera stream. -/
def camFunc (i : Nat) : Nat := 0x010 + i

/-- Index of a stream's k-th OBS counter (Table 18.4): FRAMES, ECC_CORRECTED, HDR_LOST, CRC_ERR, LINE_LEN_ERR,
SHORT_FRAME, LINE_OVERFLOW, EXTRA_DROPPED, LATE_LINE. -/
def camCnt (i k : Nat) : Nat := 34 + 9 * i + k
/-- A CSI-2 port's counters: VCX_DROP, PKT_DROP, SOT_ERR, ECC_MULTI. -/
def portCnt (p k : Nat) : Nat := 2 + 4 * p + k

/-- The configured stream of a port and VC (R106). -/
def State.streamAt (s : State) (port vc : Nat) : Option Nat :=
  (List.range 16).find? (fun i => (s.func (camFunc i)).configured && (s.cam i).port == port && (s.cam i).vc == vc)

/-- Bytes of one captured line before padding (R107). -/
def captureLineBytes (c : Cam) : Nat :=
  if c.dataType = 0x2A then c.width else 2 * c.width

def pad64 (n : Nat) : Nat := ceilDiv n 64 * 64

/-- Bytes of a capture slot (R107). -/
def captureSlotBytes (c : Cam) : Nat := 64 + c.height * pad64 (captureLineBytes c)

/-- The bytes of a captured line: RAW8 one byte, RAW10 and RAW12 two bytes a pixel, YUV422 as received (R107). -/
def captureLine (c : Cam) (px : List Nat) (rawBytes : List Byte) : List Byte :=
  let b := if c.dataType = 0x1E then rawBytes.take (2 * c.width)
    else px.flatMap (fun v => leBytes (if c.dataType = 0x2A then 1 else 2) v)
  b ++ zeros (pad64 (captureLineBytes c) - b.length)

/-- The frame record (Table 5.5). -/
def frameRecord (i : Nat) (c : Cam) (f : Frame) : List Byte :=
  leBytes 2 (camFunc i) ++ leBytes 1 c.pattern ++ leBytes 1 f.flags ++ leBytes 2 f.number ++ leBytes 2 f.received ++
    leBytes 8 f.cadence ++ leBytes 8 f.fsTime ++ leBytes 8 f.trigTime

/-- Write a frame record to the frame queue, and with its lines to the capture slot of DEST[1] (R107, R110). The
capture beats are charged to class VIS. -/
def State.putFrame (s : State) (i : Nat) (f : Frame) : State :=
  let c := s.cam i
  let f1 := if c.extra then { f with flags := f.flags ||| 0x80 } else f
  let rec1 := frameRecord i c f1
  let c1 := { c with frame := some f1, extra := false, queue := rec1 :: c.queue }
  let s1 := s.setCam i c1
  if c.dest.testBit 1 then
    let base := c.captureBase + (c.seq % max 1 c.captureDepth) * captureSlotBytes c
    let body := if f1.absent then []
      else (List.zip f1.lines f1.raw).flatMap (fun e => captureLine c e.1 e.2)
    let bs := rec1 ++ zeros 32 ++ body
    (s1.stB base bs).useTok 0 (ceilDiv bs.length 64)
  else s1

/-- Close the open frame of a stream (R106, R110): missing lines are zero-filled and SHORT_FRAME set. -/
def State.closeFrame (s : State) (i : Nat) : State :=
  let c := s.cam i
  match c.frame with
  | none => s
  | some f =>
    if f.closed || f.absent then s
    else
      let missing := c.height - f.lines.length
      let short := decide (0 < missing)
      let f1 := { f with
        lines := f.lines ++ List.replicate missing (List.replicate c.width 0),
        raw := f.raw ++ List.replicate missing (zeros (2 * c.width)),
        fill := f.fill ++ List.replicate missing true,
        flags := if short then f.flags ||| 0x20 else f.flags,
        closed := true }
      let s1 := if short then s.count 1 (camCnt i 5) else s
      let s2 := (s1.putFrame i f1).count 1 (camCnt i 0)
      s2.setCam i { s2.cam i with seq := (s2.cam i).seq + 1 }

/-- Open a stream's Frame Start window (R109): from `opened` for FS_WINDOW or to the end of the Route's cadence, which the
boundary of cadence `ends` brings, planned for the instant `cadEnd`. -/
def State.openWindow (s : State) (i opened cadEnd cadence trigTime ends : Nat) : State :=
  let c := s.cam i
  s.setCam i { c with window := some ⟨opened, min (opened + usTime c.fsWindow) cadEnd, cadence, trigTime, false, ends⟩ }

/-- Count the counters of a stream for the flags of Table 5.2. -/
def State.countFlags (s : State) (i flags : Nat) : State :=
  s.each [1, 2, 3, 4, 6] (fun st b => if flags.testBit b then st.count 1 (camCnt i b) else st)

/-- Flags of Table 5.2: their counters count, and the record of the frame in reception keeps them. -/
def State.frameFlags (s : State) (i flags : Nat) : State :=
  let c := s.cam i
  let s1 := match c.frame with
    | some f => if f.closed || f.absent then s else s.setCam i { c with frame := some { f with flags := f.flags ||| flags } }
    | none => s
  s1.countFlags i flags

/-- Flags of the stream on a port and VC, where one is configured. -/
def State.flagStream (s : State) (port vc flags : Nat) : State :=
  match s.streamAt port vc with
  | some i => s.frameFlags i flags
  | none => s

/-- A packet's header (R105, R106): its burst gives the lane rate; VCX other than 0 drops the packet; a header that cannot be corrected
drops it, and `lost` is what is missing for it; `used` is the packet, its header good or corrected. -/
def ingHeader (port vc vcx ecc rate : Nat) (lost used : State → State) (s : State) : State :=
  let s0 := s.setRegN (Reg.ING_CSI_RATE port) rate
  if vcx ≠ 0 then s0.count 1 (portCnt port 0)
  else if ecc = 2 then
    lost ((((s0.count 1 (portCnt port 3)).setBit (Reg.ING_CSI_STATUS port) 4)).flagStream port vc 0x04)
  else used s0

/-- ECC_CORRECTED of a corrected header. -/
def State.eccFlag (s : State) (port vc ecc : Nat) : State := if ecc = 1 then s.flagStream port vc 0x02 else s

/-- The Frame Start packet (R109): VC_SEEN and the start condition; a frame in reception closes; the first Frame Start inside
the window opens the frame, any other drops its frame. -/
def startFrame (port vc number : Nat) (s : State) : State :=
  let s0 := { s with ing := { s.ing with vcNow := SMap.upd 0 s.ing.vcNow port (· ||| 2 ^ vc) } }
  match s0.streamAt port vc with
  | none => s0
  | some i =>
    let s1 := (s0.setCam i { s0.cam i with fsSeen := true }).closeFrame i
    let c := s1.cam i
    let stamp := s1.now
    if (s1.func (camFunc i)).life != Life.on then s1
    else
      match c.window with
      | some w =>
        if !w.taken && decide (w.opened ≤ stamp) && decide (stamp < w.closes) then
          (s1.setCam i { c with
            window := some { w with taken := true },
            frame := some ⟨number, stamp, w.cadence, w.trigTime, 0, 0, [], [], [], false, false, w.ends⟩ }).monStamp (camFunc i) stamp
        else (s1.setCam i { c with extra := true }).count 1 (camCnt i 7)
      | none => (s1.setCam i { c with extra := true }).count 1 (camCnt i 7)

/-- A Frame Start packet (R106, R109). -/
def ingFrameStart (port vc vcx number ecc rate : Nat) (s : State) : State :=
  ingHeader port vc vcx ecc rate (fun x => x) (fun x => (startFrame port vc number x).eccFlag port vc ecc) s

/-- Pixel `k` of a RAW10 group: its byte, and its two bits of the group's last byte. -/
def raw10Px (b l : Byte) (k : Nat) : Nat := 4 * b.toNat + bits l.toNat (2 * k) 2

/-- The last two pixels of a line of 4m + 2: a group of two bytes and the byte of their low bits. -/
def raw10Tail (n : Nat) (b0 b1 l : Byte) : List Nat := if n = 2 then [raw10Px b0 l 0, raw10Px b1 l 1] else []

/-- Unpack `n` RAW10 pixels (R107; the CSI-2 byte order, assumption log 10). -/
def unpackRaw10 : Nat → List Byte → List Nat
  | n, b0 :: b1 :: b2 :: b3 :: l :: r =>
    if n < 4 then raw10Tail n b0 b1 b2
    else raw10Px b0 l 0 :: raw10Px b1 l 1 :: raw10Px b2 l 2 :: raw10Px b3 l 3 :: unpackRaw10 (n - 4) r
  | n, b0 :: b1 :: b2 :: _ => if n < 4 then raw10Tail n b0 b1 b2 else []
  | _, _ => []
def unpackRaw12 : List Byte → List Nat
  | b0 :: b1 :: l :: r => (16 * b0.toNat + l.toNat % 16) :: (16 * b1.toNat + l.toNat / 16) :: unpackRaw12 r
  | _ => []
def unpackYuv : List Byte → List Nat
  | _ :: y :: r => y.toNat :: unpackYuv r
  | _ => []
/-- Unpack the payload of a line of `w` pixels by its data type (R107; the CSI-2 byte orders, assumption log 10). -/
def unpackLine (dataType w : Nat) (bs : List Byte) : List Nat :=
  if dataType = 0x2A then bs.map BitVec.toNat
  else if dataType = 0x2B then unpackRaw10 w bs
  else if dataType = 0x2C then unpackRaw12 bs
  else unpackYuv bs

/-- Payload bytes of a line of `w` pixels. -/
def lineBytes (dataType w : Nat) : Nat :=
  if dataType = 0x2A then w
  else if dataType = 0x2B then ceilDiv (5 * w) 4
  else if dataType = 0x2C then ceilDiv (3 * w) 2
  else 2 * w

/-- Deliver one line into the open frame, or the zero line that stands in for a lost one. -/
def Frame.addLine (f : Frame) (c : Cam) (px : List Nat) (rawBytes : List Byte) (got : Bool) (flags : Nat) : Frame :=
  { f with lines := f.lines ++ [(px ++ List.replicate c.width 0).take c.width],
           raw := f.raw ++ [(rawBytes ++ zeros (2 * c.width)).take (2 * c.width)],
           fill := f.fill ++ [!got],
           received := f.received + b2n got, flags := f.flags ||| flags }

/-- The line a lost header or a discarded burst carried is zero-filled (Table 5.2). -/
def lostLine (port vc : Nat) (s : State) : State :=
  match s.streamAt port vc with
  | none => s
  | some i =>
    let c := s.cam i
    match c.frame with
    | some f =>
      if f.closed || f.absent || decide (c.height ≤ f.lines.length) then s
      else s.setCam i { c with frame := some (f.addLine c [] [] false 0) }
    | none => s

/-- VIS has a line buffer for the next line of a stream's frame (R145): fewer than LB_LINES of the frame's lines are held, those at or
below the first unreleased line that were not zero-filled. A stream that does not go to VIS, that no stage serves, or whose stage has
ended with the frame takes none. -/
def State.lineRoom (s : State) (i : Nat) (f : Frame) : Bool :=
  let x := SMap.get VisCtx.reset s.vis.ctxs i
  let mine := x.cadence == f.cadence
  let first := if mine then x.released else 0
  !(s.cam i).dest.testBit 0 || s.fld (Reg.VIS_STRM_STATUS i) 8 4 == 0xF || (mine && !x.active) ||
    decide (((f.fill.drop first).filter (fun z => !z)).length < leAt x.block 26 2)

/-- An image line (R105 to R107, Table 5.2): Line Start, Line End, Null and Blanking packets pass without effect. -/
def imageLine (port vc dataType ecc : Nat) (crcOk : Bool) (payload : List Byte) (s : State) : State :=
  let s := s.eccFlag port vc ecc
  if [0x02, 0x03, 0x10, 0x11].contains dataType then s
  else
    match s.streamAt port vc with
    | none => s.count 1 (portCnt port 1)
    | some i =>
      let c := s.cam i
      if dataType ≠ c.dataType then s.count 1 (portCnt port 1)
      else
        match c.frame with
        | none => s.count 1 (camCnt i 8)
        | some f =>
          if f.closed || f.absent then s.count 1 (camCnt i 8)
          else
            let flags := (if crcOk then 0 else 0x08) ||| (if payload.length = lineBytes dataType c.width then 0 else 0x10)
            let s1 := if crcOk then s else s.setBit (Reg.ING_CSI_STATUS port) 5
            if c.height ≤ f.lines.length then s1.frameFlags i (flags ||| 0x10)
            else if s1.lineRoom i f then
              (s1.setCam i { c with frame := some (f.addLine c (unpackLine dataType c.width payload) payload true 0) }).frameFlags i flags
            else (s1.setCam i { c with frame := some (f.addLine c [] [] false 0) }).frameFlags i (flags ||| 0x40)

/-- A line's packet (R105, R106). -/
def ingLinePacket (port vc vcx dataType ecc rate : Nat) (crcOk : Bool) (payload : List Byte) (s : State) : State :=
  ingHeader port vc vcx ecc rate (lostLine port vc) (imageLine port vc dataType ecc crcOk payload) s

/-- A Frame End closes the frame (R106). -/
def ingFrameEnd (port vc vcx ecc rate : Nat) (s : State) : State :=
  ingHeader port vc vcx ecc rate (fun x => x) (fun x =>
    let x1 := x.eccFlag port vc ecc
    match x1.streamAt port vc with
    | none => x1
    | some i => x1.closeFrame i) s

/-- Vote state of a FUNC_ID (Table 9.13 STATE). -/
def State.voteState (s : State) (func : Nat) : Nat := s.fld (Reg.FUS_VOTE (func - 0x010)) 0 2

/-- A stream's window closes (R109): without a Frame Start the stream writes an ABSENT record and raises SENSOR_ABSENT, DETAIL 0x41. -/
def State.closeWindow (s : State) (i : Nat) (w : FsWindow) : State :=
  let s2 := s.setCam i { s.cam i with window := none }
  if w.taken then s2
  else
    let s3 := s2.putFrame i ⟨0, 0, w.cadence, w.trigTime, 0x01, 0, [], [], [], true, true, w.ends⟩
    s3.event 1 0xFF03 St.sensorAbsent 0x41 (camFunc i)
      (result [(20, 2, camFunc i), (22, 1, s3.voteState (camFunc i)), (24, 8, w.cadence)])

/-- The Frame Start window closes at its end (R109). -/
def ingWindowClose (i : Nat) (s : State) : State :=
  match (s.cam i).window with
  | none => s
  | some w => (s.runToTime w.closes).closeWindow i w

/-- A D-PHY start-of-transmission error: the burst is discarded; the line it carried is zero-filled (Table 5.2). -/
def ingSotError (port vc : Nat) (s : State) : State :=
  lostLine port vc ((((s.count 1 (portCnt port 2)).setBit (Reg.ING_CSI_STATUS port) 6)).flagStream port vc 0x04)

/-- The initial deskew sequence (R105, Table 5.14); the receiver detects the lane rate. -/
def ingInitialDeskew (port rate : Nat) (s : State) : State :=
  (s.setBit (Reg.ING_CSI_STATUS port) 2).setRegN (Reg.ING_CSI_RATE port) rate

/-! ### Sigma-delta and PDM inputs: channels 0 to 23 inertial, 24 to 55 audio -/

/-- FUNC_ID of a DEC channel. -/
def decFunc (c : Nat) : Nat := 0x020 + c

/-- Divisor in effect and a CORE cycle in which the clock rises, of the SDM or the PDM clock: an accepted divisor acts from the next
alignment point on (R432). -/
def State.clockNow (s : State) (pdm : Bool) : Nat × Nat :=
  if pdm then (if s.core < s.crb.pdmPhase then s.crb.pdmWas else (s.fld Reg.CRB_PDM_DIV 0 13, s.crb.pdmPhase))
  else if s.core < s.crb.sdmPhase then s.crb.sdmWas
  else (s.fld Reg.CRB_SDM_DIV 0 12, s.crb.sdmPhase)

/-- CORE cycles of one clock period of a channel (R112). -/
def State.clockPeriod (s : State) (c : Nat) : Nat := (s.clockNow (decide (24 ≤ c))).1 / 4

/-- Level of clock output `n`, 0 to 3 SDM_CLKn, 4 and 5 PDM_CLK0 and PDM_CLK1: it runs while enabled, high for the first half of each
period, and is low otherwise and on a stopped die (R111, R432, Table 18.14). -/
def State.clockPin (s : State) (n : Nat) : Bool :=
  let c := s.clockNow (decide (4 ≤ n))
  s.bitOf Reg.ING_CLK_CTRL n && !s.obs.stopped && decide ((s.core - c.2) % (c.1 / 4) < c.1 / 8)

/-- The clock a channel uses is enabled (R111). -/
def State.clockOn (s : State) (c : Nat) : Bool :=
  if c < 24 then s.bitOf Reg.ING_CLK_CTRL (leAt (s.bitIn c).desc 1 1)
  else s.bitOf Reg.ING_CLK_CTRL (4 + (c - 24) / 16)

/-- SAMPLE_POINT mod C of a channel (R112). -/
def State.samplePoint (s : State) (c : Nat) : Nat := leAt (s.bitIn c).desc 2 2 % max 1 (s.clockPeriod c)

/-- The first CORE cycle from `core` on that lies a whole number of periods after `phase`. -/
def nextPhase (phase period core : Nat) : Nat := core + (phase + (core + 1) * period - core) % max 1 period

/-- A CORE cycle in which the channel's clock rises (R432). -/
def State.clockPhase (s : State) (c : Nat) : Nat := (s.clockNow (decide (24 ≤ c))).2

/-- The first CORE cycle from `core` on in which the channel samples its pin while its clock runs: SAMPLE_POINT mod C after a rising
edge (R112, R432). -/
def State.sampleFrom (s : State) (c core : Nat) : Nat :=
  nextPhase (s.clockPhase c + s.samplePoint c) (s.clockPeriod c) core

/-- The first sample behind the first rising edge from `core` on: the clock's output is enabled there (R111, R112). -/
def State.sampleFromEdge (s : State) (c core : Nat) : Nat :=
  nextPhase (s.clockPhase c) (s.clockPeriod c) core + s.samplePoint c

/-- The bit a sampled level enters DEC as: true for +1 (R112). -/
def BitIn.invert (b : BitIn) (level : Bool) : Bool := if leAt b.desc 4 1 = 1 then !level else level

/-- STUCK bit of a channel. -/
def State.putStuck (s : State) (c : Nat) (v : Bool) : State :=
  (s.setBitIn c { s.bitIn c with stuck := v }).putBit
    (if c < 24 then Reg.ING_SDM_STUCK else Reg.ING_PDM_STUCK) (if c < 24 then c else c - 24) v

/-- STUCK is set, with its event (R113). -/
def State.raiseStuck (s : State) (c : Nat) : State :=
  (s.putStuck c true).event 1 0xFF03 St.sensorAbsent 0x42 (decFunc c)
    (result [(20, 2, decFunc c), (24, 8, s.now)])

/-- Sample one level: the run counts, a transition clears STUCK, an ON channel whose run reaches 4,096 becomes STUCK
(R113). -/
def State.sampleBit (s : State) (c : Nat) (level : Bool) : State :=
  let b := s.bitIn c
  let same := b.last == some level
  let run := if same then b.run + 1 else 1
  let s1 := s.setBitIn c { b with last := some level, run := run, flipped := b.flipped || (b.last == some (!level)) }
  let s2 := if same || !b.stuck then s1 else s1.putStuck c false
  if run = 4096 ∧ (s2.func (decFunc c)).life = Life.on ∧ !(s2.bitIn c).stuck then s2.raiseStuck c else s2

/-- The STUCK_RUN step: an ON channel whose run has 4,096 bits and whose STUCK is not set yet, as at the step 2 at
which it enters ON (R113). -/
def ingStuckRun (c : Nat) (s : State) : State :=
  let b := s.bitIn c
  if decide (4096 ≤ b.run) && (s.func (decFunc c)).life == Life.on && !b.stuck then s.raiseStuck c else s

/-! ### Encoders -/

namespace Enc
/-- Fields of the encoder descriptor (Table 5.7). -/
def mode (e : Enc) : Nat := leAt e.desc 1 1
/-- CORE cycles a level holds to qualify (R114). -/
def qualify (e : Enc) : Nat := 8 * leAt e.desc 2 1 + 2
def indexMode (e : Enc) : Nat := leAt e.desc 3 1
def invertDir (e : Enc) : Bool := leAt e.desc 4 1 == 1
def indexLevel (e : Enc) : Bool := leAt e.desc 5 1 == 1
def recordPeriod (e : Enc) : Nat := leAt e.desc 6 2
end Enc

def encFunc (n : Nat) : Nat := 0x058 + n
/-- An encoder's counters: EDGES, ILLEGAL. -/
def encCnt (n k : Nat) : Nat := 178 + 2 * n + k

/-- The A/B part of a change of qualified levels (R114): illegal when both differ; otherwise counted by MODE, up when A
leads B unless INVERT_DIR. -/
def Enc.ab (e : Enc) (a b : Bool) (stamp : Nat) : Enc × Bool × Bool :=
  let chA := a != e.a
  let chB := b != e.b
  if chA && chB then ({ e with a := a, b := b, moved := true, illegal := true, seenA := true, seenB := true }, false, true)
  else if !chA && !chB then (e, false, false)
  else
    let counted := if chA then (e.mode != 1) || a else e.mode == 4
    let up0 := if chA then a != b else a == b
    let up := up0 != e.invertDir
    let e1 := { e with a := a, b := b, moved := true, seenA := e.seenA || chA, seenB := e.seenB || chB }
    if counted then
      ({ e1 with count := (if up then e.count + 1 else e.count + 2 ^ 32 - 1) % 2 ^ 32,
                 edges := min (e.edges + 1) 65535, edgeTime := stamp }, true, false)
    else (e1, false, false)

/-- The index part (R115): the qualified edge into INDEX_LEVEL latches the count, after any A/B update of the same
cycle; INDEX_MODE 2 then sets it to 0. -/
def Enc.zEdge (e : Enc) (z : Bool) (stamp : Nat) : Enc :=
  if z == e.z then e
  else
    let e1 := { e with z := z, seenZ := true }
    if z == e.indexLevel && decide (1 ≤ e.indexMode) then
      { e1 with index := true, indexCount := e.count, indexTime := stamp,
                count := if e.indexMode = 2 then 0 else e.count }
    else e1

/-- Inputs of an encoder change in one CORE cycle (R114, R115): levels that hold for FILTER × 8 + 2 CORE cycles qualify when these have
passed, with the stamp of the CORE cycle in which the change was first sampled. -/
def ingEncoderEdge (n : Nat) (a b z : Bool) (sampled held : Nat) (s : State) : State :=
  if (s.func (encFunc n)).life == Life.off || decide (held < (s.enc n).qualify) then s
  else
    let stamp := s.disc (rawOf sampled)
    let s0 := s.runTo (sampled + (s.enc n).qualify)
    let r := (s0.enc n).ab a b stamp
    let e := r.1.zEdge z stamp
    let s1 := (s0.setEnc n e).setRegN (Reg.ING_ENC_COUNT n) e.count
    let s2 := if r.2.1 then s1.count 1 (encCnt n 0) else s1
    if r.2.2 then s2.count 1 (encCnt n 1) else s2

/-- The encoder record (Table 5.8). -/
def Enc.record (e : Enc) (n : Nat) : List Byte :=
  leBytes 1 n ++ leBytes 1 (b2n (!e.moved) + 2 * b2n e.illegal + 4 * b2n e.index) ++ leBytes 2 e.edges ++
    leBytes 4 e.count ++ leBytes 8 e.edgeTime ++ leBytes 4 e.indexCount ++ leBytes 8 e.indexTime ++ zeros 4

/-- Hand a record to FUS (Table 1.3); its traffic is charged to class FUS, and the primary forwards it (R357). -/
def State.toFus (s : State) (func stamp : Nat) (bs : List Byte) : State :=
  (({ s with ing := { s.ing with toFus := s.ing.toFus ++ [(⟨func, stamp, bs⟩ : FusRec)] } }).useTok 2 (ceilDiv bs.length 64)).forwardItem
    (if rng func 0x060 0x067 then 0x15 else 0x14) bs

/-- The record instant boundary + m × RECORD_PERIOD (R116): the record, then EDGES and the flags start anew. -/
def ingEncoderRecord (n : Nat) (s : State) : State :=
  if (s.func (encFunc n)).life != Life.on then s
  else
    let e0 := s.enc n
    let at_ := e0.base + e0.records * usTime e0.recordPeriod
    let s1 := s.runToTime at_
    let e := s1.enc n
    let s2 := (s1.toFus (encFunc n) at_ (e.record n)).monStamp (encFunc n) at_
    s2.setEnc n { e with edges := 0, moved := false, illegal := false, index := false, records := e.records + 1 }

/-! ### Lidar -/

namespace LidarTpl
/-- Fields of the lidar UDP template (Table 5.9). -/
def udpPort (l : LidarTpl) : Nat := leAt l.desc 0 2
def ports (l : LidarTpl) : Nat := leAt l.desc 2 1
def geometry (l : LidarTpl) : Nat := leAt l.desc 3 1
def srcIpv4 (l : LidarTpl) : Nat := leAt l.desc 4 4
def payloadLen (l : LidarTpl) : Nat := leAt l.desc 8 2
def timeOfs (l : LidarTpl) : Nat := leAt l.desc 10 2
def timeFormat (l : LidarTpl) : Nat := leAt l.desc 12 1
def blockCount (l : LidarTpl) : Nat := leAt l.desc 13 1
def blockOfs (l : LidarTpl) : Nat := leAt l.desc 14 2
def blockStride (l : LidarTpl) : Nat := leAt l.desc 16 2
def points (l : LidarTpl) : Nat := leAt l.desc 18 1
def pointStride (l : LidarTpl) : Nat := leAt l.desc 19 1
def blockAzOfs (l : LidarTpl) : Nat := leAt l.desc 20 2
def fieldR (l : LidarTpl) : Nat := leAt l.desc 22 1
def fieldY (l : LidarTpl) : Nat := leAt l.desc 23 1
def fieldZe (l : LidarTpl) : Nat := leAt l.desc 24 1
def fieldAz (l : LidarTpl) : Nat := leAt l.desc 25 1
def fieldInt (l : LidarTpl) : Nat := leAt l.desc 26 1
def width (l : LidarTpl) : Nat := leAt l.desc 27 1
def distScale (l : LidarTpl) : Nat := leAt l.desc 28 2
def angleScale (l : LidarTpl) : Nat := leAt l.desc 30 2
def baseOfs (l : LidarTpl) : Int := sleAt l.desc 32 4
def blockDt (l : LidarTpl) : Nat := leAt l.desc 36 4
def pointDt (l : LidarTpl) : Nat := leAt l.desc 40 4
def absentMs (l : LidarTpl) : Nat := leAt l.desc 44 2
def pointOfs (l : LidarTpl) : Nat := leAt l.desc 46 2
def elTable (l : LidarTpl) (p : Nat) : Int := sleAt l.desc (64 + 2 * p) 2
end LidarTpl

def lidarFunc (j : Nat) : Nat := 0x060 + j
/-- A template's counters: PACKETS, POINTS, NON_RETURN, BAD_LENGTH. -/
def lidarCnt (j k : Nat) : Nat := 194 + 4 * j + k

/-- A distance field in 2^−16 m: round(raw × DIST_SCALE × 65,536 ÷ 10^6) (R119). -/
def lidarDist (l : LidarTpl) (raw : Int) : Int := rneDiv (raw * l.distScale * 65536) 1000000

/-- An angle field in 2^−16 turn (R119). -/
def lidarAngle (l : LidarTpl) (raw : Int) : Nat := (rneDiv (raw * 65536) (max 1 l.angleScale) % 65536).toNat

/-- One point of a packet (R119): none for a non-return. -/
def lidarPoint (l : LidarTpl) (j port seq : Nat) (payload : List Byte) (stamp b p : Nat) : Option (Nat × List Byte) :=
  let blk := l.blockOfs + b * l.blockStride
  let pt := blk + l.pointOfs + p * l.pointStride
  let w := if l.width = 1 then 4 else 2
  let rawS (f : Nat) : Int := sleAt payload (pt + f) w
  let rawR : Int := leAt payload (pt + l.fieldR) w
  let none_ := if l.geometry = 0 then rawS l.fieldR == 0 && rawS l.fieldY == 0 && rawS l.fieldZe == 0 else rawR == 0
  if none_ then none
  else
    let rawAz := if l.blockAzOfs = 0xFFFF then leAt payload (pt + l.fieldAz) 2 else leAt payload (blk + l.blockAzOfs) 2
    let az := lidarAngle l rawAz
    let el : Nat := if l.geometry = 1 then lidarAngle l (sleAt payload (pt + l.fieldZe) 2)
      else (l.elTable p % 65536).toNat
    let r0 := lidarDist l rawR
    let r := satS 32 r0
    let t := rneShr (r * cos30 el) 30
    let xyz : Int × Int × Int :=
      if l.geometry = 0 then (lidarDist l (rawS l.fieldR), lidarDist l (rawS l.fieldY), lidarDist l (rawS l.fieldZe))
      else (rneShr (t * cos30 az) 30, rneShr (t * sin30 az) 30, rneShr (r * sin30 el) 30)
    let sat := (l.geometry != 0 && r != r0) || satS 32 xyz.1 != xyz.1 || satS 32 xyz.2.1 != xyz.2.1 ||
      satS 32 xyz.2.2 != xyz.2.2
    let offs : Int := l.baseOfs + (b : Int) * l.blockDt + (p : Int) * l.pointDt
    -- four times the time in nanoseconds; a stamp counts 1.25 ns
    let q : Int := if l.timeFormat = 1 then 4 * ((leAt payload l.timeOfs 8 : Nat) + offs) else 5 * (stamp : Int) + 4 * offs
    let time := unsgn 64 (rneDiv q 5)
    let inten := if l.fieldInt = 0xFF then 0 else leAt payload (pt + l.fieldInt) 1
    some (time,
      sleBytes 4 (satS 32 xyz.1) ++ sleBytes 4 (satS 32 xyz.2.1) ++ sleBytes 4 (satS 32 xyz.2.2) ++ leBytes 1 inten ++
        leBytes 1 p ++ leBytes 1 (j + 8 * port) ++ leBytes 1 (b2n sat + 2 * b2n (l.timeFormat == 1)) ++ leBytes 8 time ++
        leBytes 4 seq ++ leBytes 2 b ++ zeros 2)

/-- All points of a packet, block by block; non-returns counted. PACKET_SEQ is the number of matched packets before this one since ON: 0
in the first (DESIGN CHOICE, assumption log 61). -/
def State.emitPoints (s : State) (j port : Nat) (payload : List Byte) (stamp : Nat) : State :=
  let l := s.lidar j
  let idx := (List.range l.blockCount).flatMap (fun b => (List.range l.points).map (fun p => (b, p)))
  s.each idx (fun st bp =>
    match lidarPoint l j port (l.seq % 2 ^ 32) payload stamp bp.1 bp.2 with
    | some (t, bs) => (st.toFus (lidarFunc j) t bs).count 1 (lidarCnt j 1)
    | none => st.count 1 (lidarCnt j 2))

/-- Whether a UDP packet matches template `j` but for its payload length (R117). -/
def State.lidarPortMatch (s : State) (port src udp j : Nat) : Bool :=
  let l := s.lidar j
  let life := (s.func (lidarFunc j)).life
  (life == Life.starting || life == Life.on) && l.ports.testBit port && l.udpPort == udp &&
    (l.srcIpv4 == 0 || l.srcIpv4 == src)

/-- A packet at the lidar parser (R117, R119): the first template that matches takes it; a packet for a template's
port with another payload length is dropped and counted; in STARTING it only satisfies the start condition. -/
def ingLidarPacket (port src udp : Nat) (payload : List Byte) (stamp : Nat) (s : State) : State :=
  match (List.range 8).find? (fun j => s.lidarPortMatch port src udp j && (s.lidar j).payloadLen == payload.length) with
  | some j =>
    let l := s.lidar j
    let s1 := (s.setLidar j { l with lastSeen := s.now, silentFrom := s.now }).count 1 (lidarCnt j 0)
    if (s.func (lidarFunc j)).life == Life.on then
      let s2 := s1.emitPoints j port payload stamp
      s2.setLidar j { s2.lidar j with seq := (s2.lidar j).seq + 1 }
    else s1.setReady (lidarFunc j)
  | none =>
    match (List.range 8).find? (fun j => s.lidarPortMatch port src udp j) with
    | some j => s.count 1 (lidarCnt j 3)
    | none => s

/-- ABSENT_MS of silence (R120). -/
def ingLidarSilence (j : Nat) (s : State) : State :=
  if (s.func (lidarFunc j)).life != Life.on then s
  else
    let l := s.lidar j
    let due := l.silentFrom + 800000 * l.absentMs
    let s1 := s.runToTime due
    (s1.setLidar j { l with silentFrom := due }).event 1 0xFF03 St.sensorAbsent 0x43 (lidarFunc j)
      (result [(20, 2, lidarFunc j), (24, 8, l.lastSeen)])

/-! ### Descriptors (R108, R118) -/

/-- KIND a sensor's FUNC_ID takes (R108); 0 for a FUNC_ID SENSOR_CONFIG does not configure. -/
def kindOf (id : Nat) : Nat :=
  if 0x010 ≤ id ∧ id ≤ 0x01F then 1
  else if 0x020 ≤ id ∧ id ≤ 0x037 then 2
  else if 0x038 ≤ id ∧ id ≤ 0x057 then 3
  else if 0x058 ≤ id ∧ id ≤ 0x05F then 4
  else 0

/-- Field ranges of the descriptors (Tables 5.3, 5.6, 5.7). -/
def sensorDescOk (d : List Byte) : Bool :=
  let f := leAt d
  match f 0 1 with
  | 1 => rng (f 1 1) 0 7 && rng (f 2 1) 0 3 && [0x1E, 0x2A, 0x2B, 0x2C].contains (f 3 1) && rng (f 4 2) 16 4096 &&
      f 4 2 % 2 == 0 && rng (f 6 2) 16 4096 && (rng (f 8 1) 0 7 || f 8 1 == 0xFF) && rng (f 9 1) 1 3 &&
      rng (f 10 1) 0 4 && rng (f 11 1) 1 8 && rng (f 12 4) 100 256000 && zeroIn d 24 64
  | 2 => rng (f 1 1) 0 3 && rng (f 4 1) 0 1 && zeroIn d 5 64
  | 3 => rng (f 4 1) 0 1 && zeroIn d 5 64
  | 4 => [1, 2, 4].contains (f 1 1) && rng (f 3 1) 0 2 && rng (f 4 1) 0 1 && rng (f 5 1) 0 1 &&
      rng (f 6 2) 100 10000 && zeroIn d 8 64
  | _ => false

/-- The refusal of SENSOR_CONFIG, in the order R108 gives; none: the descriptor is taken. -/
def State.sensorRefusal (s : State) (id : Nat) (d : List Byte) : Option Reply :=
  let c : Cam := { Cam.reset with desc := d }
  if leAt d 0 1 ≠ kindOf id ∨ kindOf id = 0 then some (Reply.bad 0x41)
  else if (s.func id).life != Life.off then some (Reply.busy 0x24)
  else if !sensorDescOk d then some (Reply.bad 0x42)
  else if kindOf id = 1 ∧ (List.range 16).any (fun i => decide (camFunc i ≠ id) && (s.func (camFunc i)).configured &&
      (s.cam i).port == c.port && (s.cam i).vc == c.vc) then some (Reply.bad 0x43)
  else if kindOf id = 1 ∧ c.dest.testBit 1 ∧
      (c.captureBase % 64 ≠ 0 ∨ !inDram c.captureBase (captureSlotBytes c * c.captureDepth)) then some (Reply.bad 0x44)
  else none

/-- Take a sensor descriptor (R108): it replaces the previous one of the function. -/
def State.takeSensor (s : State) (id : Nat) (d : List Byte) : State :=
  let s1 := s.updFunc id (fun f => { f with configured := true })
  if kindOf id = 1 then s1.setCam (id - 0x010) { s1.cam (id - 0x010) with desc := d }
  else if kindOf id = 4 then s1.setEnc (id - 0x058) { s1.enc (id - 0x058) with desc := d }
  else s1.setBitIn (id - 0x020) { s1.bitIn (id - 0x020) with desc := d }

/-- Field ranges of a lidar template, and every block and point field inside PAYLOAD_LEN (R118, Table 5.9). -/
def lidarDescOk (d : List Byte) : Bool :=
  let l : LidarTpl := { LidarTpl.reset with desc := d }
  let w := if l.width = 1 then 4 else 2
  let lastBlk := l.blockOfs + (l.blockCount - 1) * l.blockStride
  let lastPt := lastBlk + l.pointOfs + (l.points - 1) * l.pointStride
  let fits (a n : Nat) : Bool := decide (a + n ≤ l.payloadLen)
  rng l.udpPort 1 65535 && rng l.ports 1 3 && rng l.geometry 0 2 && rng l.payloadLen 16 9170 &&
    decide (l.timeOfs + 8 ≤ l.payloadLen) && rng l.timeFormat 0 1 && rng l.blockCount 1 64 && rng l.blockStride 1 9170 &&
    rng l.points 1 128 && rng l.pointStride 1 64 && rng l.width 0 1 && rng l.distScale 1 65535 &&
    rng l.angleScale 1 65535 && rng l.blockDt 0 100000000 && rng l.pointDt 0 100000000 && rng l.absentMs 1 65535 &&
    rng l.pointOfs 0 (l.blockStride - 1) && zeroIn d 48 64 &&
    (l.blockAzOfs == 0xFFFF || fits (lastBlk + l.blockAzOfs) 2) && fits (lastPt + l.fieldR) w &&
    (l.geometry != 0 || (fits (lastPt + l.fieldY) w && fits (lastPt + l.fieldZe) w)) &&
    (l.geometry != 1 || fits (lastPt + l.fieldZe) 2) &&
    (l.geometry == 0 || l.blockAzOfs != 0xFFFF || fits (lastPt + l.fieldAz) 2) &&
    (l.fieldInt == 0xFF || fits (lastPt + l.fieldInt) 1)

/-! ### Forwarding to the twin (R357) -/

/-- Bits a pixel takes in a LINE frame. -/
def lineBits (dataType : Nat) : Nat :=
  if dataType = 0x2A then 8 else if dataType = 0x2B then 10 else if dataType = 0x2C then 12 else 16

/-- Pixels packed LSB first. -/
def packPixels (b : Nat) : List Nat → Nat
  | [] => 0
  | v :: r => v % 2 ^ b + 2 ^ b * packPixels b r

/-- A LINE item: one frame, or up to three with LAST on the last one (R355). -/
def State.sendLine (s : State) (i : Nat) (c : Cam) (f : Frame) (k : Nat) : State :=
  let b := lineBits c.dataType
  let px := if b = 16 then (f.raw.getD k []).take (2 * c.width)
    else leBytes (ceilDiv (c.width * b) 8) (packPixels b (f.lines.getD k []))
  let head := leBytes 2 (camFunc i) ++ leBytes 2 k ++ leBytes 1 (b2n (f.fill.getD k false)) ++ leBytes 1 b
  if px.length ≤ 4090 then s.forwardItem 0x10 (head ++ px)
  else
    let rest := px.drop 4090
    let n := ceilDiv rest.length 4096
    (List.range n).foldl (fun (st : State) j =>
      if st.pairPrimary then st.linkSend 0x10 (b2n (j + 1 == n)) st.ccu.cadence ((rest.drop (4096 * j)).take 4096) else st)
      (s.forwardItem 0x10 (head ++ px.take 4090))

/-- A camera event of the own pins; the primary forwards the lines and frame records it brought. -/
def State.camEvent (s : State) (f : State → State) : State :=
  s.ownPins (fun s0 =>
    let t := f s0
    if !t.pairPrimary then t
    else (List.range 16).foldl (fun (st : State) i =>
      let old := s0.cam i
      let new := t.cam i
      let had := match old.frame with
        | some g => if g.closed || g.absent then 0 else g.lines.length
        | none => 0
      let s1 := match new.frame with
        | some g => if new.frame == old.frame then st
            else (List.range (g.lines.length - had)).foldl (fun (x : State) k => x.sendLine i new g (had + k)) st
        | none => st
      if old.queue.length < new.queue.length then s1.forwardItem 0x11 (new.queue.headD []) else s1) t)

/-! ### Meanings -/

/-- FRAME_START (R109). -/
def execFrameStart (port : Nat) (head : CsiHead) (number : Nat) (s : State) : Out :=
  .next (s.act (fun t => t.camEvent (ingFrameStart port head.vc head.vcx number head.ecc head.rate)))
/-- LINE_PACKET (R106). -/
def execLinePacket (port vc vcx dataType ecc rate : Nat) (crcOk : Bool) (payload : List Byte) (s : State) : Out :=
  .next (s.act (fun t => t.camEvent (ingLinePacket port vc vcx dataType ecc rate crcOk payload)))
/-- FRAME_END (R106); the frame number of the packet closes no other frame. -/
def execFrameEnd (port : Nat) (head : CsiHead) (_number : Nat) (s : State) : Out :=
  .next (s.act (fun t => t.camEvent (ingFrameEnd port head.vc head.vcx head.ecc head.rate)))
/-- STUCK_RUN (R113). -/
def execStuckRun (channel : Nat) (s : State) : Out := .next (s.act (fun t => t.ownPins (ingStuckRun channel)))
/-- ENCODER_EDGE (R114). -/
def execEncoderEdge (channel : Nat) (a b z : Bool) (time : EdgeTime) (s : State) : Out :=
  .next (s.act (fun t => t.ownPins (ingEncoderEdge channel a b z time.sampled time.held)))
/-- ENCODER_RECORD (R116). -/
def execEncoderRecord (channel : Nat) (s : State) : Out := .next (s.act (fun t => t.ownPins (ingEncoderRecord channel)))
/-- LIDAR_PACKET (R119). -/
def execLidarPacket (port srcIpv4 udpPort : Nat) (payload : List Byte) (stamp : Nat) (s : State) : Out :=
  .next (s.act (fun t => t.ownPins (ingLidarPacket port srcIpv4 udpPort payload stamp)))
/-- LIDAR_SILENCE (R120). -/
def execLidarSilence (template : Nat) (s : State) : Out := .next (s.act (fun t => t.ownPins (ingLidarSilence template)))
/-- INITIAL_DESKEW (R121). -/
def execInitialDeskew (port rate : Nat) (s : State) : Out := .next (s.act (ingInitialDeskew port rate))
/-- SOT_ERROR (R106). -/
def execSotError (port vc : Nat) (s : State) : Out := .next (s.act (fun t => t.camEvent (ingSotError port vc)))

end Sys2Proof.Machine
end

