-- ==== Sys2Proof/Machine/Dec.lean ====
section
/-! DEFINITION. The decimation chain (ch. 6): half-band cascade, fractional resampler, group delay and stamps, priming,
filter settings, audio blocks. -/

namespace Sys2Proof.Machine

def State.ch (s : State) (c : Nat) : DecCh := SMap.get DecCh.reset s.dec.chans c
def State.setCh (s : State) (c : Nat) (d : DecCh) : State := { s with dec := { s.dec with chans := SMap.set s.dec.chans c d } }

/-! ### Settings (Table 6.3) -/

/-- The default setting of a channel's kind. -/
def defaultSetting (c : Nat) : List Byte :=
  if c < 24 then
    leBytes 1 8 ++ leBytes 1 1 ++ leBytes 2 0xE500 ++ [2, 2, 2, 2, 6, 6, 10, 16].map (BitVec.ofNat 8) ++ leBytes 1 16 ++
      zeros 3 ++ leBytes 2 125 ++ leBytes 2 8 ++ zeros 44
  else
    leBytes 1 6 ++ leBytes 1 1 ++ leBytes 2 0x0E40 ++ [2, 2, 2, 5, 8, 13, 0, 0].map (BitVec.ofNat 8) ++ leBytes 1 16 ++
      zeros 3 ++ leBytes 2 3125 ++ leBytes 2 3072 ++ leBytes 2 240 ++ leBytes 1 8 ++ zeros 41

/-- The setting in force. -/
def State.setting (s : State) (c : Nat) : List Byte :=
  let d := (s.ch c).setting
  if d.isEmpty then defaultSetting c else d

namespace Fs
/-- Fields of a filter setting. -/
def stages (d : List Byte) : Nat := leAt d 0 1
def rsEn (d : List Byte) : Bool := leAt d 1 1 == 1
/-- The coefficient set of stage `k` (1 to 8). -/
def set (d : List Byte) (k : Nat) : Nat := bits (leAt d 2 2) (2 * (k - 1)) 2
def shift (d : List Byte) (k : Nat) : Nat := leAt d (3 + k) 1
def rsShift (d : List Byte) : Nat := leAt d 12 1
def rsBank (d : List Byte) : Nat := leAt d 13 1
def rsNum (d : List Byte) : Nat := leAt d 16 2
def rsDen (d : List Byte) : Nat := leAt d 18 2
def blockSamples (d : List Byte) : Nat := leAt d 20 2
def blocks (d : List Byte) : Nat := leAt d 22 1
def audioBase (d : List Byte) : Nat := leAt d 24 8
end Fs

/-- The half-band sets (Table 6.2). -/
def hbSet : Nat → List Int
  | 0 => [-1, 0, 9, 16, 9, 0, -1]
  | 1 => [3, 0, -25, 0, 150, 256, 150, 0, -25, 0, 3]
  | 2 => [-5, 0, 49, 0, -245, 0, 1225, 2048, 1225, 0, -245, 0, 49, 0, -5]
  | _ => [35, 0, -405, 0, 2268, 0, -8820, 0, 39690, 65536, 39690, 0, -8820, 0, 2268, 0, -405, 0, 35]

/-- Σ h[i] × x[i], `x` newest first; missing inputs are 0. -/
def dot : List Int → List Int → Int
  | h :: hs, x :: xs => h * x + dot hs xs
  | _, _ => 0

/-- Shift with rounding, ties toward +∞, and saturation to 24 bits (R125): the value and whether it saturated. -/
def shiftSat (acc : Int) (shift : Nat) : Int × Bool :=
  let v := if shift = 0 then acc else (acc + 2 ^ (shift - 1)) / 2 ^ shift
  (satS 24 v, decide (satS 24 v ≠ v))

/-- One input of a half-band stage (R125): output m when input 2m + 1 arrives. -/
def FirState.push (f : FirState) (set shift : Nat) (x : Int) : FirState × Option (Int × Bool) :=
  let h := hbSet set
  let hist := (x :: f.hist).take h.length
  let f1 : FirState := ⟨hist, f.count + 1⟩
  if f.count % 2 = 1 then (f1, some (shiftSat (dot h hist) shift)) else (f1, none)

/-- A value through stages `k`, `k + 1`, … to the cascade's end: the new stage states, the cascade output if one
falls due, and how many stages saturated. -/
def cascade (d : List Byte) : Nat → List FirState → Int → List FirState × Option Int × Nat
  | _, [], x => ([], some x, 0)
  | k, f :: rest, x =>
    match f.push (Fs.set d k) (Fs.shift d k) x with
    | (f1, none) => (f1 :: rest, none, 0)
    | (f1, some (y, sat)) =>
      let r := cascade d (k + 1) rest y
      (f1 :: r.1, r.2.1, b2n sat + r.2.2)

/-- Coefficient c[p][t] of a bank, signed 18 bits (R127). -/
def State.coef (s : State) (bank p t : Nat) : Int := sgn 18 (s.fld (Reg.DEC_COEF bank (16 * p + t)) 0 18)

/-- CENTRE of a bank. -/
def State.centre (s : State) (bank : Nat) : Nat := s.fld (Reg.DEC_BANK_CENTRE bank) 0 11

/-- b_n and p_n of output n (R126). -/
def rsPos (d : List Byte) (n : Nat) : Nat := n * Fs.rsNum d / max 1 (Fs.rsDen d)
def rsPhase (d : List Byte) (n : Nat) : Nat := 64 * (n * Fs.rsNum d % max 1 (Fs.rsDen d)) / max 1 (Fs.rsDen d)

/-- Σ over stages of (N_k − 1) ÷ 2 × 2^(k − 1), bits (R131). -/
def ghb (d : List Byte) : Nat :=
  ((List.range (Fs.stages d)).map (fun i => ((hbSet (Fs.set d (i + 1))).length - 1) / 2 * 2 ^ i)).sum

/-- The divisor of a channel's clock. -/
def State.divisor (s : State) (c : Nat) : Nat := 4 * s.clockPeriod c

/-- round((g_hb + g_rs(p)) × div ÷ 6), TIME cycles (R131). -/
def State.filterDelay (s : State) (c p : Nat) : Int :=
  let d := s.setting c
  let g : Int := 128 * ghb d + (if Fs.rsEn d then ((s.centre (Fs.rsBank d) : Int) - 2 * p) * 2 ^ (Fs.stages d) else 0)
  rneDiv (g * s.divisor c) 768

/-- GD_n at phase p (R131), and GD_0 (R128). -/
def State.groupDelay (s : State) (c p : Nat) : Int := s.filterDelay c p + 32

/-- W of R134. -/
def fullSupport (d : List Byte) : Nat := 1 + 2 * ghb d + (if Fs.rsEn d then 15 * 2 ^ (Fs.stages d) else 0)

/-- OBS counters of a channel: OUTPUTS, SAT, DRAIN_OVERRUN. -/
def decCnt (c k : Nat) : Nat := 2 + 3 * c + k

/-- An output the channel forms: its value, phase, last bit B_n and the raw capture of it. -/
structure DecOut where
  value : Int
  phase : Nat
  lastBit : Nat
  raw : Nat
  deriving DecidableEq, Repr

/-- Note `n` saturations (R125, R126); each counts. -/
def State.noteSat (s : State) (c n : Nat) : State :=
  if n = 0 then s
  else ((s.setCh c { s.ch c with sat := true }).setBit (Reg.DEC_CH_STATUS c) 3).countN 2 (decCnt c 1) n

/-- The start condition of a channel (Table 5.11): its clock enabled, a transition within the last 4,096 samples,
the cascade primed. -/
def State.decReady (s : State) (c : Nat) : Bool :=
  let b := s.bitIn c
  s.clockOn c && b.flipped && decide (b.run ≤ 4096) && s.bitOf (Reg.DEC_CH_STATUS c) 2

/-- The start condition, once it has held in a cadence, stays noted for its end (R121). -/
def State.noteReady (s : State) (c : Nat) : State := if s.decReady c then s.setReady (decFunc c) else s

/-- One bit into the channel (R125, R126): the output that falls due, if any. PRIMED is set with the first output
that has full support (R134). -/
def State.pushBit (s : State) (c : Nat) (level : Bool) (core : Nat) : State × Option DecOut :=
  let d := s.setting c
  let s0 := s.sampleBit c level
  let x : Int := if (s0.bitIn c).invert level then 1 else -1
  let ch := s0.ch c
  let stages := if ch.stages.isEmpty then List.replicate (Fs.stages d) (⟨[], 0⟩ : FirState) else ch.stages
  let r := cascade d 1 stages x
  let ch1 := { ch with stages := r.1, bits := ch.bits + 1 }
  let s1 := (s0.setCh c ch1).noteSat c r.2.2
  match r.2.1 with
  | none => (s1, none)
  | some y =>
    let ch2 := s1.ch c
    if Fs.rsEn d then
      let hist := (y :: ch2.resamp.hist).take 16
      let idx := ch2.resamp.count
      let s2 := s1.setCh c { ch2 with resamp := ⟨hist, idx + 1⟩ }
      if rsPos d ch2.n = idx then
        let p := rsPhase d ch2.n
        let cs := (List.range 16).map (fun t => s.coef (Fs.rsBank d) p t)
        let v := shiftSat (dot cs hist) (Fs.rsShift d)
        let s3 := (s2.setCh c { s2.ch c with n := ch2.n + 1 }).noteSat c (b2n v.2)
        let s4 := if fullSupport d ≤ ch.bits + 1 then s3.setBit (Reg.DEC_CH_STATUS c) 2 else s3
        (s4, some ⟨v.1, p, ch.bits, rawOf core⟩)
      else (s2, none)
    else
      let s2 := s1.setCh c { ch2 with n := ch2.n + 1 }
      let s3 := if fullSupport d ≤ ch.bits + 1 then s2.setBit (Reg.DEC_CH_STATUS c) 2 else s2
      (s3, some ⟨y, 0, ch.bits, rawOf core⟩)

/-- The stamp of an output (R131). -/
def State.decStamp (s : State) (c : Nat) (o : DecOut) : Nat :=
  unsgn 64 ((s.disc o.raw : Int) - s.filterDelay c o.phase)

/-- The inertial sample record (Table 6.8). -/
def imuRecord (c flags phase : Nat) (value : Int) (stamp : Nat) : List Byte :=
  leBytes 1 c ++ leBytes 1 flags ++ leBytes 1 phase ++ zeros 1 ++ sleBytes 4 value ++ leBytes 8 stamp

/-! ### Audio blocks (R137) -/

/-- Bytes of one audio block. -/
def audioBlockBytes (d : List Byte) : Nat := pad64 (32 + 4 * Fs.blockSamples d)

/-- The block header (Table 6.9). -/
def audioHeader (c flag : Nat) (b : AudioBlock) : List Byte :=
  leBytes 1 c ++ leBytes 1 (flag + 4 * b2n b.sat + 8 * b2n b.first) ++ leBytes 2 b.samples ++ leBytes 4 b.seq ++
    leBytes 8 b.stampFirst ++ leBytes 8 b.stampLast ++ leBytes 1 b.phaseFirst ++ zeros 7

/-- Write one delivered audio sample: the block's flag is EMPTY from its first sample and READY after its last. -/
def State.audioSample (s : State) (c : Nat) (value : Int) (stamp phase : Nat) (sat first : Bool) : State :=
  let d := s.setting c
  let b0 := (s.ch c).block
  let b : AudioBlock := if b0.samples = 0 then ⟨b0.seq, 1, sat, first, stamp, stamp, phase⟩
    else { b0 with samples := b0.samples + 1, sat := b0.sat || sat, stampLast := stamp }
  let base := Fs.audioBase d + (b.seq % max 1 (Fs.blocks d)) * audioBlockBytes d
  let full := decide (Fs.blockSamples d ≤ b.samples)
  let s1 := (s.stB base (audioHeader c (if full then 1 else 0) b)).stB (base + 32 + 4 * (b.samples - 1)) (sleBytes 4 value)
  let s2 := s1.useTok 6 (if inDram base 64 then 1 else 0)
  s2.setCh c { s2.ch c with
    block := if full then ⟨b.seq + 1, 0, false, false, 0, 0, 0⟩ else b }

/-- Close the block in progress at a drain (R135). -/
def State.audioClose (s : State) (c : Nat) : State :=
  let d := s.setting c
  let b := (s.ch c).block
  if c < 24 ∨ b.samples = 0 then s
  else s.stB (Fs.audioBase d + (b.seq % max 1 (Fs.blocks d)) * audioBlockBytes d) (audioHeader c 1 b)

/-! ### Delivery (R134 to R136) -/

/-- Whether an output with this stamp is delivered: while ON from the ON boundary on, while DRAINING before the
DRAINING boundary (and from the ON boundary of this run on). -/
def State.decDelivers (s : State) (c stamp : Nat) : Bool :=
  let ch := s.ch c
  match (s.func (decFunc c)).life, ch.onInstant with
  | .on, some t => decide (t ≤ stamp)
  | .draining, some t => decide (t ≤ stamp) && decide (stamp < ch.drainInstant)
  | _, _ => false

/-- Note an output that lies at or after the boundary at which the channel entered DRAINING (R135). -/
def State.noteFlush (s : State) (c stamp : Nat) : State :=
  let ch := s.ch c
  if (s.func (decFunc c)).life = .draining ∧ ch.drainInstant ≤ stamp then s.setCh c { ch with flushed := true } else s

/-- What a DEC channel delivers before its DRAINING boundary is delivered (R135); one that has sampled no bit has nothing to flush. -/
def State.decDrained (s : State) (c : Nat) : Bool := (s.ch c).flushed || (s.ch c).bits == 0

/-- Form and deliver an output: `fpp` takes an inertial record. -/
def State.decDeliver (s : State) (c : Nat) (o : DecOut) (fpp : List Byte → State → State) : State :=
  let stamp := s.decStamp c o
  if s.decDelivers c stamp then
    let ch := s.ch c
    let s1 := (s.setCh c { ch with sat := false, first := false }).count 2 (decCnt c 0)
    if c < 24 then
      let r := imuRecord c (b2n ch.sat + 2 * b2n ch.first) o.phase o.value stamp
      fpp r (s1.forwardItem 0x12 (r ++ leBytes 8 s1.now))
    else
      let s2 := s1.audioSample c o.value stamp o.phase ch.sat ch.first
      s2.forwardItem 0x13 (leBytes 1 c ++ zeros 3 ++ leBytes 4 (s2.ch c).n ++ sleBytes 4 o.value ++ leBytes 8 stamp)
  else s.noteFlush c stamp

/-- Sample one level in the channel's next sampling cycle (R112); an output is valid 48 CORE cycles after its last bit (R130). -/
def State.decBit (c : Nat) (fpp : List Byte → State → State) (level : Bool) (s : State) : State :=
  let at_ := (s.bitIn c).next
  let s0 := s.runTo at_
  let r := (s0.setBitIn c { s0.bitIn c with next := at_ + s0.clockPeriod c }).pushBit c level at_
  let s1 := r.1.noteReady c
  match r.2 with
  | some o => (s1.runTo (at_ + 48)).decDeliver c o fpp
  | none => s1

/-- The DEC part of DEC_OUTPUT: a channel in STARTING, ON or DRAINING whose clock runs samples the levels, a clock period apart. -/
def decOutput (c : Nat) (levels : List Bool) (fpp : List Byte → State → State) (s : State) : State :=
  if (s.func (decFunc c)).life.active && s.clockOn c then s.each levels (fun st level => State.decBit c fpp level st) else s

/-- Clear a channel's stage and resampler state; its next sample is the first from this CORE cycle on (R134, R135). -/
def State.decClear (s : State) (c : Nat) : State :=
  let s1 := s.setCh c { DecCh.reset with setting := (s.ch c).setting }
  let s2 := s1.setBitIn c { s1.bitIn c with last := none, run := 0, flipped := false, stuck := false, next := s1.sampleFrom c s1.core }
  (s2.putStuck c false).clrBit (Reg.DEC_CH_STATUS c) 2

/-- The clocks whose enable bits rise from `old` to `new` (R111): the channels that run on them sample from the first rising edge on. -/
def State.armSamples (s : State) (old new : Nat) : State :=
  s.each (List.range 56) (fun st c =>
    let k := if c < 24 then leAt (st.bitIn c).desc 1 1 else 4 + (c - 24) / 16
    if !old.testBit k && new.testBit k && (st.func (decFunc c)).life.active then
      st.setBitIn c { st.bitIn c with next := st.sampleFromEdge c st.core }
    else st)

/-- Bank `b` is locked (R127): a channel with RS_EN 1 that selects it is not OFF. -/
def State.bankLocked (s : State) (b : Nat) : Bool :=
  (List.range 56).any (fun c =>
    (s.func (decFunc c)).life.active && Fs.rsEn (s.setting c) && Fs.rsBank (s.setting c) == b)

/-! ### DEC_CONFIG and FUNC_ENABLE checks (R128, R129) -/

/-- The output rate at a divisor lies in the range of R129. -/
def rateOk (c div : Nat) (d : List Byte) : Bool :=
  let num := 4800000000 * (if Fs.rsEn d then Fs.rsDen d else 1)
  let den := div * 2 ^ (Fs.stages d) * (if Fs.rsEn d then Fs.rsNum d else 1)
  let lo := if c < 24 then 1000 else 8000
  let hi := if c < 24 then 8000 else 96000
  decide (lo * den ≤ num) && decide (num ≤ hi * den)

/-- The field ranges of Table 6.3. -/
def settingOk (c : Nat) (d : List Byte) : Bool :=
  rng (Fs.stages d) 0 8 && rng (leAt d 1 1) 0 1 && (List.range 8).all (fun k => rng (Fs.shift d (k + 1)) 0 31) &&
    rng (Fs.rsShift d) 0 31 && rng (Fs.rsBank d) 0 15 && zeroIn d 14 16 && rng (Fs.rsNum d) 1 65535 &&
    rng (Fs.rsDen d) 1 (Fs.rsNum d) && zeroIn d 23 24 && zeroIn d 32 64 &&
    (if c < 24 then zeroIn d 20 32
     else rng (Fs.blockSamples d) 16 960 && Fs.blockSamples d % 16 == 0 && rng (Fs.blocks d) 2 64)

/-- AUDIO_BASE is unset, or aligned with its ring wholly in shared tile memory or DRAM. -/
def audioBaseOk (d : List Byte) : Bool :=
  let a := Fs.audioBase d
  let n := Fs.blocks d * audioBlockBytes d
  a == 0 || (a % 64 == 0 && (inTile a n || inDram a n))

/-- The refusal of DEC_CONFIG. -/
def State.decRefusal (s : State) (c : Nat) (d : List Byte) : Option Reply :=
  if 55 < c then some (Reply.bad 0x50)
  else if (s.func (decFunc c)).life != Life.off then some (Reply.busy 0x24)
  else if !settingOk c d then some (Reply.bad 0x51)
  else if !rateOk c (s.divisor c) d then some (Reply.bad 0x52)
  else if 24 ≤ c ∧ !audioBaseOk d then some (Reply.bad 0x53)
  else none

/-- Take a filter setting (R128). -/
def State.takeSetting (s : State) (c : Nat) (d : List Byte) : State := s.setCh c { s.ch c with setting := d }

/-- FUNC_ENABLE's recheck of a DEC channel (R129). -/
def State.decEnableRefusal (s : State) (c : Nat) : Option Reply :=
  let d := s.setting c
  if !rateOk c (s.divisor c) d then some (Reply.bad 0x52)
  else if 24 ≤ c ∧ Fs.audioBase d = 0 then some (Reply.bad 0x53)
  else none

end Sys2Proof.Machine
end

