-- ==== Sys2Proof/Machine/Tim.lean ====
section
/-! DEFINITION. The time unit (ch. 4): segments of disciplined time, steps, rates and slews, their spacing, TIME_READ
and TIME_ADJUST, the synchronisation states. -/

namespace Sys2Proof.Machine

/-- TIM_RATE, signed. -/
def State.timRate (s : State) : Int := sgn 32 (s.regN Reg.TIM_RATE)

/-- The slew rate in force: the sign of the slew times the rate it started with (R88, R89). -/
def Slew.signedRate (w : Slew) : Int := if w.delta < 0 then -(w.rate : Int) else w.rate

/-- Slew accumulated from its start up to raw count `r`, in 2^−40 TIME cycles. -/
def Slew.done (w : Slew) (r : Nat) : Int := ((r : Int) - w.r) * w.signedRate

/-- TIME cycles after its start at which the accumulated slew has reached its offset (R88). -/
def Slew.length (w : Slew) : Nat := ceilDiv (w.delta.natAbs * 2 ^ 40) (max 1 w.rate)

/-- The part of the slew still to be applied, truncated toward zero (R88). -/
def Slew.remain (w : Slew) (r : Nat) : Int := (w.delta * 2 ^ 40 - w.done r).tdiv (2 ^ 40)

/-- Open a segment at raw count `r` with `shift` (2^−40 TIME cycles) added to disciplined time and effective rate `e`;
the eight most recent are kept (R86). -/
def State.openSeg (s : State) (r : Nat) (shift e : Int) : State :=
  let g := segOf s.tim.segs r
  let num := ((r : Int) - g.r) * g.e + g.f + shift
  let g' : Seg := ⟨r, g.d + ((r : Int) - g.r) + num / 2 ^ 40, (num % 2 ^ 40).toNat, e⟩
  { s with tim := { s.tim with segs := (g' :: s.tim.segs).take 8 } }

def State.setSlew (s : State) (w : Option Slew) : State :=
  ({ s with tim := { s.tim with slew := w } }).putBit Reg.TIM_STATUS 3 w.isSome

/-- The effective rate with a slew in force or none. -/
def State.effRate (s : State) (w : Option Slew) : Int :=
  s.timRate + (match w with | some x => x.signedRate | none => 0)

/-- The least instant of the boundary grid A + m·P greater than `t` (R32, R449). -/
def State.gridAfter (s : State) (t : Nat) : Nat :=
  let p := max 1 (s.regN Reg.CCU_CADENCE_PERIOD)
  let a := s.pair Reg.CCU_CADENCE_ANCHOR_LO Reg.CCU_CADENCE_ANCHOR_HI
  if t < a then t + 1 + (a - t - 1) % p else a + ((t - a) / p + 1) * p

/-- The instant at which the next boundary is due; none while the grid does not run. -/
def State.nextInstant (s : State) : Option Nat := s.ccu.lastInstant.map s.gridAfter

/-- What a step of disciplined time from `before` to `after` means for the next boundary (R35). -/
def State.noteStep (s : State) (before after : Nat) : State :=
  match s.nextInstant with
  | none => s
  | some n =>
    if after < before then { s with ccu := { s.ccu with stepped := 2 } }
    else if before < n ∧ n ≤ after then { s with ccu := { s.ccu with stepped := 1 } }
    else s

/-- Apply a change in raw cycle `r` (R86, R88). DESIGN CHOICE (assumption log 61): a rate command opens a segment and is spaced whatever
its value, also the one TIM_RATE already holds. -/
def State.applyChange (s : State) (r : Nat) : Change → State
  | .slew delta rate =>
    if delta = 0 then
      match s.tim.slew with
      | none => s
      | some _ =>
        let s1 := (s.openSeg r 0 (s.effRate none)).setSlew none
        { s1 with tim := { s1.tim with lastChange := some r } }
    else
      let w : Slew := ⟨delta, rate, r⟩
      let s1 := ((s.openSeg r 0 (s.effRate (some w))).setSlew (some w)).count 12 3
      { s1 with tim := { s1.tim with lastChange := some r } }
  | .step offset =>
    if offset = 0 then s
    else
      let before := s.disc r
      let s1 := (((s.openSeg r (offset * 2 ^ 40) (s.effRate none)).setSlew none).setBit Reg.TIM_STATUS 2).count 12 2
      let s2 := (s1.noteStep before (s1.disc r)).emitSync
      { s2 with tim := { s2.tim with lastChange := some r } }
  | .rate rate =>
    let s0 := s.setRegN Reg.TIM_RATE (unsgn 32 rate)
    let s1 := s0.openSeg r 0 (s0.effRate s0.tim.slew)
    { s1 with tim := { s1.tim with lastChange := some r } }

/-- A change that R86 does not space: a step of 0, and a slew of 0 with no slew running or waiting to start. -/
def State.changeFree (s : State) : Change → Bool
  | .step o => o == 0
  | .slew d _ => d == 0 && s.tim.slew.isNone && s.tim.held.all (fun c => match c with | .slew _ _ => false | _ => true)
  | .rate _ => false

/-- The raw count before which the next spaced change is held. -/
def State.changeDue (s : State) : Nat :=
  match s.tim.lastChange with
  | none => 0
  | some r => r + 1024

/-- Take a change: it applies in the next TIME cycle, or is held (R86, R88). True: held. -/
def State.takeChange (s : State) (c : Change) : State × Bool :=
  if s.changeFree c then (s, false)
  else if s.tim.held.isEmpty && decide (s.changeDue ≤ s.raw + 1) then (s.applyChange (s.raw + 1) c, false)
  else ({ s with tim := { s.tim with held := s.tim.held ++ [c] } }, true)

/-- HELD_TIME_CHANGE: the oldest held change applies 1,024 TIME cycles after the previous one (R86). -/
def timHeld (s : State) : State :=
  match s.tim.held with
  | [] => s
  | c :: rest =>
    let r := max s.changeDue s.raw
    let s1 := s.runTo (coreOfRaw r)
    ({ s1 with tim := { s1.tim with held := rest } }).applyChange r c

/-- SLEW_END: the accumulated slew equals its offset exactly, the last cycle adding only the remainder (R88). -/
def timSlewEnd (s : State) : State :=
  match s.tim.slew with
  | none => s
  | some w =>
    let r := w.r + w.length
    let s1 := s.runTo (coreOfRaw r)
    ((s1.openSeg r (w.delta * 2 ^ 40 - w.done r) (s1.effRate none)).setSlew none)

/-! ### Synchronisation states (Table 4.7) -/

def State.syncState (s : State) : Nat := s.fld Reg.TIM_STATUS 0 2

/-- Enter a synchronisation state: TIM_STATUS and the 0xFF07 event (R99). -/
def State.setSync (s : State) (port new : Nat) : State :=
  if s.syncState = new then s
  else
    let log := (s.now, s.syncState) :: s.tim.syncLog.filter (fun e => decide (s.now ≤ e.1 + usTime 50))
    let s : State := { s with tim := { s.tim with syncLog := log } }
    ((s.setFld Reg.TIM_STATUS 0 2 new).count 12 4).event 12 0xFF07 St.ok new port (leBytes 4 (s.regN Reg.TIM_OFFSET_EST))

/-- SYNC_STATE as it was at disciplined time `t`, not more than 50 µs ago. -/
def State.syncAt (s : State) (t : Nat) : Nat :=
  match (s.tim.syncLog.filter (fun e => decide (t < e.1))).getLast? with
  | some e => e.2
  | none => s.syncState

/-- PTP port state. -/
def State.ptpPort (s : State) (p : Nat) : PtpPort := SMap.get (PtpPort.reset p) s.net.ptp p
def State.setPtp (s : State) (p : Nat) (x : PtpPort) : State := { s with net := { s.net with ptp := SMap.set s.net.ptp p x } }

/-- The port follows a master. -/
def PtpPort.follows (x : PtpPort) : Bool := x.state == PtpState.slave || x.state == PtpState.uncalibrated

/-- The firmware servo owns the adjustment modes (R90). -/
def State.servoOwns (s : State) : Bool :=
  s.bitOf Reg.TIM_CTRL 0 && (List.range 4).any (fun p => (s.ptpPort p).follows)

/-- Put a port into a PTP state; SLAVE_PORT follows. -/
def State.putPtpState (s : State) (p : Nat) (st : PtpState) : State :=
  let s1 := s.setPtp p { s.ptpPort p with state := st }
  let cur := s1.fld Reg.TIM_STATUS 8 3
  if st = PtpState.slave then s1.setFld Reg.TIM_STATUS 8 3 p
  else if cur = p then s1.setFld Reg.TIM_STATUS 8 3 7
  else s1

/-- No port follows a master with SERVO_EN 1, for a reason that is no cause of HOLDOVER (Table 4.7): FREE_RUN. -/
def State.freeRun (s : State) (p : Nat) : State :=
  if s.servoOwns then s else s.setSync p 0

/-- Table 4.7 when a port that followed a master leaves SLAVE or UNCALIBRATED by a cause of HOLDOVER: LOCKED to HOLDOVER, ACQUIRING to
FREE_RUN unless another port still follows (R98). -/
def State.leaveSlave (s : State) (p : Nat) : State :=
  if s.syncState = 2 then s.setSync p 3
  else if s.syncState = 1 ∧ !(List.range 4).any (fun q => (s.ptpPort q).follows) then s.setSync p 0
  else s

/-! ### TIME_READ and TIME_ADJUST -/

/-- TIM_STATUS as read. -/
def State.timStatus (s : State) : Nat := s.regN Reg.TIM_STATUS

/-- TIME_READ (Table 3.9): disciplined time and TIM status. -/
def bodyTimeRead (_p : CmdPacket) (s : State) : Reply × State :=
  (Reply.ok [(20, 8, s.now), (28, 4, s.timStatus)], s)

/-- The refusal of a TIME_ADJUST (Table 4.1, R88, R90). DESIGN CHOICE (assumption log 61): a bad mode or range is found before the servo's
ownership, BUSY 0x31. -/
def State.adjustRefusal (s : State) (mode : Nat) (offset rate : Int) : Option Reply :=
  if 2 < mode then some (Reply.bad 0x34)
  else if mode = 0 ∧ 800000000 < offset.natAbs then some (Reply.bad 0x32)
  else if mode = 2 ∧ 549755814 < rate.natAbs then some (Reply.bad 0x33)
  else if s.servoOwns then some (Reply.busy 0x31)
  else none

/-- The change TIME_ADJUST asks for; a slew takes TIM_SLEW_RATE as it stands (R89). -/
def State.changeOf (s : State) (mode : Nat) (offset rate : Int) : Change :=
  match mode with
  | 0 => .slew offset (s.regN Reg.TIM_SLEW_RATE)
  | 1 => .step offset
  | _ => .rate rate

/-- TIME_ADJUST (R88). -/
def bodyTimeAdjust (p : CmdPacket) (s : State) : Reply × State :=
  let mode := param p 16 1
  let offset := sparam p 24 8
  let rate := sparam p 32 4
  match s.adjustRefusal mode offset rate with
  | some r => (r, s)
  | none =>
    let sh := s.takeChange (s.changeOf mode offset rate)
    (⟨St.ok, b2n sh.2, result [(20, 1, mode)]⟩, sh.1)

/-! ### The rows -/

/-- HELD_TIME_CHANGE (R86). -/
def execHeldTimeChange (s : State) : Out := .next (s.act timHeld)

/-- SLEW_END (R88). -/
def execSlewEnd (s : State) : Out := .next (s.act timSlewEnd)

end Sys2Proof.Machine
end

