-- ==== Sys2Proof/Machine/Fpp.lean ====
section
/-! DEFINITION. The Fast Pose Path (ch. 10): sample sets, propagation, pose records, the pose ring and port, search-window
poses, corrections and replay. -/

namespace Sys2Proof.Machine

/-- FUNC_IDs of FPP and the pose port. -/
def fppFunc : Nat := 0x073
def posePort : Nat := 0x085

def State.setFpp (s : State) (f : Fpp → Fpp) : State := { s with fpp := f s.fpp }

/-- Cycles of the live path (engine 0) or the replay engine (1): its bank, and the exempt class's own pool (R50, R403). -/
def State.fppCycles (s : State) (e n : Nat) : State :=
  ({ s with ccu := { s.ccu with poolCyc := SMap.upd 0 s.ccu.poolCyc 11 (· - n) } }).bankBusy 6 e n

/-! ### Propagation (R213, R214) -/

/-- A saturated value and whether it was beyond its format. -/
def satFlag (w : Nat) (x : Int) : Int × Bool := (satS w x, satS w x != x)

/-- Element `i` of a vector. -/
def vec (l : List Int) (i : Nat) : Int := l.getD i 0

/-- The Hamilton product. -/
def hamilton (a b : List Int) : List Int :=
  let w1 := vec a 0; let x1 := vec a 1; let y1 := vec a 2; let z1 := vec a 3
  let w2 := vec b 0; let x2 := vec b 1; let y2 := vec b 2; let z2 := vec b 3
  [w1 * w2 - x1 * x2 - y1 * y2 - z1 * z2, w1 * x2 + x1 * w2 + y1 * z2 - z1 * y2,
   w1 * y2 - x1 * z2 + y1 * w2 + z1 * x2, w1 * z2 + x1 * y2 - y1 * x2 + z1 * w2]

/-- The rotation matrix, row-major, before saturation: each entry rounded once to SQ1.46. -/
def rotation (q : List Int) : List Int :=
  let w := vec q 0; let x := vec q 1; let y := vec q 2; let z := vec q 3
  let one : Int := 2 ^ 92
  [one - 2 * (y * y + z * z), 2 * (x * y - w * z), 2 * (x * z + w * y),
   2 * (x * y + w * z), one - 2 * (x * x + z * z), 2 * (y * z - w * x),
   2 * (x * z - w * y), 2 * (y * z + w * x), one - 2 * (x * x + y * y)].map (fun e => rneShr e 46)

/-- What a set's propagation needs of the registers: scales, negations, gravity, the largest dt. -/
structure ImuCfg where
  scale : List Int
  negate : List Bool
  gravity : Int
  gapMax : Nat
  deriving DecidableEq, Repr

def State.imuCfg (s : State) : ImuCfg :=
  ⟨(List.range 6).map (fun a => sgn 32 (s.regN (Reg.FPP_SCALE a))), (List.range 6).map (fun a => s.bitOf (Reg.FPP_AXIS a) 5),
    sgn 32 (s.regN Reg.FPP_GRAVITY_Z), s.regN Reg.FPP_GAP_MAX⟩

/-- The outcome of a propagation. -/
structure Propagated where
  state : Pose
  speed : Int
  yaw : Int
  gap : Bool
  sat : Bool
  deriving DecidableEq, Repr

/-- u of R214. -/
def imuScaled (cfg : ImuCfg) (values : List Int) (a : Nat) : Int :=
  let x := vec values a * vec cfg.scale a
  if cfg.negate.getD a false then -x else x

/-- SPEED and YAW_RATE of a state and a gyro z value (R214). -/
def speedYaw (cfg : ImuCfg) (st : Pose) (r : List Int) (values : List Int) : Int × Int :=
  (rneShr (vec r 0 * vec st.v 0 + vec r 3 * vec st.v 1 + vec r 6 * vec st.v 2) 62,
   rneShr (imuScaled cfg values 2 - vec st.bg 2 * 256) 24)

/-- One set (R214). -/
def propagate (cfg : ImuCfg) (st : Pose) (values : List Int) (stamp : Nat) : Propagated :=
  let d : Nat := 800000000
  let w := (List.range 3).map (fun i => imuScaled cfg values i - vec st.bg i * 256)
  let f := (List.range 3).map (fun i => imuScaled cfg values (3 + i) - vec st.ba i * 256)
  let raw : Int := (stamp : Int) - st.stamp
  let gap := decide (raw < 1) || decide ((cfg.gapMax : Int) < raw)
  let dt := clampI 1 cfg.gapMax raw
  let th := w.map (fun x => rneDiv (x * dt * 256) d)
  let ss := (th.map (fun t => t * t)).sum
  let dq := (2 ^ 46 - rneShr ss 53) :: th.map (fun t => rneDiv t 8)
  let qn := (hamilton st.q dq).map (fun c => satFlag 48 (rneShr c 46))
  let qnv := qn.map (fun e => e.1)
  let n := (qnv.map (fun c => c * c)).sum
  let q := qnv.map (fun c => satFlag 48 (rneShr (c * (3 * 2 ^ 92 - n)) 93))
  let qv := q.map (fun e => e.1)
  let rs := (rotation qv).map (satFlag 48)
  let r := rs.map (fun e => e.1)
  let a := (List.range 3).map (fun i =>
    rneShr (vec r (3 * i) * vec f 0 + vec r (3 * i + 1) * vec f 1 + vec r (3 * i + 2) * vec f 2) 46 +
      (if i = 2 then cfg.gravity * 65536 else 0))
  let p := (List.range 3).map (fun i =>
    satFlag 56 (vec st.p i + rneDiv (vec st.v i * dt * d * 512 + vec a i * dt * dt) (d * d * 512)))
  let v := (List.range 3).map (fun i => satFlag 48 (vec st.v i + rneDiv (vec a i * dt) (d * 256)))
  let new : Pose := ⟨p.map (fun e => e.1), v.map (fun e => e.1), qv, st.bg, st.ba, stamp⟩
  let sy := speedYaw cfg new r values
  let sp := satFlag 32 sy.1
  let yw := satFlag 32 sy.2
  ⟨new, sp.1, yw.1, gap, (qn ++ q ++ rs ++ p ++ v ++ [sp, yw]).any (fun e => e.2)⟩

/-- A seeded set (R212): the seed's state at the set's stamp, its matrix, SPEED and YAW_RATE saturated as a propagated set's are. -/
def seeded (cfg : ImuCfg) (sd : Pose) (values : List Int) (stamp : Nat) : Propagated :=
  let new := { sd with stamp := stamp }
  let rs := (rotation new.q).map (satFlag 48)
  let sy := speedYaw cfg new (rs.map (fun e => e.1)) values
  let sp := satFlag 32 sy.1
  let yw := satFlag 32 sy.2
  ⟨new, sp.1, yw.1, false, (rs ++ [sp, yw]).any (fun e => e.2)⟩

/-- The state of a correction or seed record (Table 10.7); bits above a format's width are ignored (R5). -/
def poseOf (rec_ : List Byte) : Pose :=
  let f := fun (o n w k : Nat) => (List.range k).map (fun i => sgn w (leAt rec_ (o + n * i) n))
  ⟨f 24 8 56 3, f 80 8 48 3, f 48 8 48 4, f 104 4 32 3, f 116 4 32 3, leAt rec_ 8 8⟩

/-- |Q|² within 2^80 of 2^92 (R223). -/
def quatOk (q : List Int) : Bool := decide ((((q.map (fun c => c * c)).sum) - 2 ^ 92).natAbs ≤ 2 ^ 80)

/-! ### Pose records (R216, Table 10.3) -/

/-- P rounded to SQ23.16, V to SQ15.16, Q to SQ1.30. -/
def outP (st : Pose) : List Int := st.p.map (fun c => satS 40 (rneShr c 16))
def outV (st : Pose) : List Int := st.v.map (fun c => satS 32 (rneShr c 16))
def outQ (st : Pose) : List Int := st.q.map (fun c => satS 32 (rneShr c 16))

/-- An output field saturated. -/
def outSat (st : Pose) : Bool :=
  st.p.any (fun c => satS 40 (rneShr c 16) != rneShr c 16) || (st.v ++ st.q).any (fun c => satS 32 (rneShr c 16) != rneShr c 16)

def poseRecord (st : Pose) (type flags gen epoch stamp seq : Nat) (speed yaw : Int) (cadence : Nat) : List Byte :=
  let body := leBytes 1 type ++ leBytes 1 (flags ||| (8 * b2n (outSat st))) ++ leBytes 2 gen ++ leBytes 4 epoch ++ leBytes 8 stamp ++
    leBytes 8 seq ++ (outP st).flatMap (sleBytes 8) ++ (outQ st).flatMap (sleBytes 4) ++ (outV st).flatMap (sleBytes 4) ++
    sleBytes 4 speed ++ sleBytes 4 yaw ++ leBytes 4 cadence ++ zeros 4
  body ++ leBytes 4 (crc32 body)

/-- DEGRADED (R216): the latest state record of an active fusion block carried it. -/
def State.fusDegraded (s : State) : Bool := s.fus.ctxs.any (fun e => e.2.on && e.2.degraded)

/-! ### Pose ring (R218) -/

/-- A posted write of the ring failed (Table 10.14). -/
def State.fppRingError (s : State) : State :=
  ((s.setBit Reg.FPP_RING_STATUS 1).clrBit Reg.FPP_RING_CTRL 0).signal 13

/-- Write records to the pose ring: full slots overrun, tail, shadow and vector 1 after the writes (R57 to R59). -/
def State.poseRing (s : State) (recs : List (List Byte)) (fault : Bool) : State :=
  if !s.bitOf Reg.FPP_RING_CTRL 0 || recs.isEmpty then s
  else if fault then s.fppRingError
  else
    let size := 2 ^ s.fld Reg.FPP_RING_SIZE 0 5
    let base := s.pair Reg.FPP_RING_BASE_LO Reg.FPP_RING_BASE_HI
    let t0 := s.regN Reg.FPP_RING_TAIL
    let s1 := s.each recs (fun st r =>
      let tail := st.regN Reg.FPP_RING_TAIL
      if size ≤ (tail + 2 ^ 32 - st.regN Reg.FPP_RING_HEAD) % 2 ^ 32 ∨ !st.bitOf Reg.HIF_PCIE_STATUS 10 then (st.setBit Reg.FPP_RING_STATUS 0).count 6 7
      else (st.hostSt (base + 128 * (tail % size)) (r ++ zeros 32)).setRegN Reg.FPP_RING_TAIL ((tail + 1) % 2 ^ 32))
    if s1.regN Reg.FPP_RING_TAIL = t0 then s1
    else
      let s2 := if s1.bitOf Reg.FPP_RING_CTRL 1 then
          s1.hostSt (s1.pair Reg.FPP_RING_SHADOW_LO Reg.FPP_RING_SHADOW_HI) (leBytes 4 (s1.regN Reg.FPP_RING_TAIL))
        else s1
      s2.signal 1

/-! ### Sample sets (R211) -/

/-- FPP's OBS counters: 2 SETS, 3 AXIS_SKIP, 4 SKEW, 5 GAP, 6 REPLAYED, 7 RING_OVERRUN, 8 REPLAY_LATE, 9 REJECTED. -/
def State.fppOn (s : State) : Bool := (s.func fppFunc).life == Life.on

def State.axisChannel (s : State) (a : Nat) : Nat := s.fld (Reg.FPP_AXIS a) 0 5
def State.axisChannels (s : State) : List Nat := (List.range 6).map s.axisChannel

/-- The STAMP of a pending record. -/
def recStamp (r : List Byte) : Nat := leAt r 8 8

/-- All six axes hold a record: a set forms, or the oldest record is discarded for skew. -/
def State.formSet (s : State) : State :=
  let recs := (List.range 6).map (fun a => SMap.get [] s.fpp.pend a)
  if recs.any (fun r => r.isEmpty) then s
  else
    let stamps := recs.map recStamp
    let hi := stamps.foldl max 0
    let lo := stamps.foldl min hi
    if s.fld Reg.FPP_SKEW_MAX 0 16 < hi - lo then
      let a := ((List.range 6).find? (fun a => recStamp (SMap.get [] s.fpp.pend a) == lo)).getD 0
      ((s.setFpp (fun f => { f with pend := SMap.erase f.pend a })).setBit Reg.FPP_STATUS 3).count 6 4
    else
      let tag := s.tdm.tag.getD (s.now, s.ccu.cadence)
      let set : SampleSet := ⟨recs.map (fun r => sleAt r 4 4), hi, s.core, tag.1, recs.any (fun r => (leAt r 1 1).testBit 0), tag.2⟩
      ((s.monStamp fppFunc hi).bankOpen 6 0 0 0 3 0xFF).setFpp (fun f => { f with pend := [], set := some set, lastStamp := hi, waitFrom := s.core })

/-! ### Corrections (R223) and replay (R224) -/

/-- The commit lag in force (R20): the largest k of the estimator Routes that are ON; none without one. -/
def State.commitLag (s : State) : Option Nat :=
  let ks := slotList.filterMap (fun n =>
    if (s.slot n).life == Life.on && Img.estimator (s.img n) then some (Img.commitLag (s.img n)) else none)
  match ks with
  | [] => none
  | k :: r => some (r.foldl max k)

/-- The full cadence number of a 32-bit epoch number, at most the one open. -/
def State.epochCadence (s : State) (e : Nat) : Nat := s.ccu.cadence - (s.ccu.cadence + 2 ^ 32 - e) % 2 ^ 32

/-- The instant of the boundary that would force the resolution of epoch `e` (R20), on the grid of R35. -/
def State.forceInstant (s : State) (e : Nat) : Nat :=
  let k := s.commitLag.getD 0
  let ahead := k + 1 - (s.ccu.cadence - s.epochCadence e)
  s.nextInstant.getD s.ccu.boundaryTime + (ahead - 1) * s.regN Reg.CCU_CADENCE_PERIOD

/-- Epoch number `e` is unresolved: no SQUASH of it is decided, and its resolution is not issued; a COMMIT that waits leaves it so
(R222). -/
def State.unresolved (s : State) (e : Nat) : Bool :=
  s.ccu.epochs.any (fun x => x.1 % 2 ^ 32 == e && x.2 != some false &&
    (match s.ccu.resolving with | some r => r.1 != x.1 | none => true))

/-- Why a posted correction is rejected: 1 epoch, 2 T_C, 3 APPLY_TIME, 4 format, in that order; 0 accepted. -/
def State.correctionFault (s : State) (c : Correction) : Nat :=
  let open_ := s.unresolved c.epoch
  let known := s.fpp.ring.any (fun x => x.stamp == c.tc && (x.epoch == c.epoch || x.epoch == (c.epoch + 2 ^ 32 - 1) % 2 ^ 32) &&
    (match s.fpp.seedStamp with | some t => decide (t ≤ c.tc) | none => true))
  if !open_ then 1
  else if !known then 2
  else if c.apply ≤ s.now ∨ s.forceInstant c.epoch ≤ c.apply then 3
  else if leAt c.record 0 1 ≠ 1 ∨ !zeroIn c.record 1 4 ∨ !quatOk (poseOf c.record).q then 4
  else 0

/-- A rejected correction (Table 10.8). -/
def State.rejectCorrection (s : State) (e reason : Nat) : State :=
  ((s.setBit Reg.FPP_STATUS 7).count 6 9).event 6 0xFF02 St.internalFault 0x06 0x73 (result [(20, 4, e), (24, 1, reason)])

/-- Corrections in epoch order. -/
def insertCorr (c : Correction) : List Correction → List Correction
  | [] => [c]
  | d :: r => if c.epoch < d.epoch then c :: d :: r else d :: insertCorr c r

/-- Post a correction (R223): it enters the queue and the CCU is to commit its epoch; false where the queue of four is
full. -/
def State.postCorrection (s : State) (rec_ : List Byte) : State × Bool :=
  if 4 ≤ s.fpp.queue.length then (s, false)
  else
    let c : Correction := ⟨(rec_ ++ zeros 128).take 128, false, none⟩
    let why := s.correctionFault c
    if why ≠ 0 then (s.rejectCorrection c.epoch why, true)
    else
      let s1 := s.setFpp (fun f => { f with queue := insertCorr c f.queue })
      ({ s1 with ccu := { s1.ccu with epochs := s1.ccu.epochs.map (fun x =>
          if x.1 % 2 ^ 32 = c.epoch then (x.1, some true) else x) } }, true)

/-- Corrections dropped from the queue before their COMMIT was issued leave their epochs undecided: R20 resolves them (R223). -/
def State.undecide (s : State) (gone : List Correction) : State :=
  let free := fun (e : Nat) => gone.any (fun c => !c.committed && c.epoch == e % 2 ^ 32) && !s.fpp.queue.any (fun c => c.epoch == e % 2 ^ 32)
  { s with ccu := { s.ccu with epochs := s.ccu.epochs.map (fun x => if x.2 = some true ∧ s.unresolved (x.1 % 2 ^ 32) ∧ free x.1 then (x.1, none) else x) } }

/-- Start the replay of the oldest committed correction when none is in progress (R224). -/
def State.startReplay (s : State) : State :=
  match s.fpp.replay, s.fpp.queue with
  | none, c :: _ =>
    if !c.committed then s
    else
      let st := { poseOf c.record with stamp := c.tc }
      let next := match s.fpp.ring.find? (fun x => decide (c.tc < x.stamp)) with
        | some x => x.seq
        | none => s.fpp.seq
      let anchor := match s.fpp.ring.find? (fun x => x.stamp == c.tc && x.epoch == c.epoch) with
        | some x => some (st, x, x.speed, x.yaw)
        | none => none
      ((s.bankOpen 6 1 0 0 3 0xFF).setFpp (fun f => { f with replay := some ⟨c, st, s.core, next, 0, anchor, [st]⟩ })).setBit
        Reg.FPP_STATUS 5
  | _, _ => s

/-- Replay the entries the engine completes by CORE cycle `by_`: 96 cycles each, chasing the live path. An entry whose stamp is not after
T_C is no entry of the replay. -/
def replaySteps (cfg : ImuCfg) (by_ : Nat) : List ImuEntry → Replay → Replay
  | [], r => r
  | x :: rest, r =>
    if x.seq < r.nextSeq then replaySteps cfg by_ rest r
    else if x.stamp ≤ r.corr.tc then replaySteps cfg by_ rest { r with nextSeq := x.seq + 1 }
    else
      let fin := max r.free x.avail + 96
      if by_ < fin then r
      else
        let o := propagate cfg r.state x.values x.stamp
        replaySteps cfg by_ rest { r with
          state := o.state, free := fin, nextSeq := x.seq + 1, done := r.done + 1, states := o.state :: r.states,
          anchor := if x.epoch = r.corr.epoch then some (o.state, x, o.speed, o.yaw) else r.anchor }

def State.runReplay (s : State) (by_ : Nat) : State :=
  match s.fpp.replay with
  | none => s
  | some r =>
    let r' := replaySteps s.imuCfg by_ s.fpp.ring r
    ((s.setFpp (fun f => { f with replay := some r' })).countN 6 6 (r'.done - r.done)).fppCycles 1 (96 * (r'.done - r.done))

/-- CORE cycle at which the replay has every ring entry. -/
def replayEnd : List ImuEntry → Replay → Nat → Nat
  | [], _, t => t
  | x :: rest, r, t => replayEnd rest r (if x.seq < r.nextSeq ∨ x.stamp ≤ r.corr.tc then t else max t x.avail + 96)

/-- REPLAY_COMPLETE: the replay engine has propagated every ring entry (R224). -/
def fppReplayComplete (s : State) : State :=
  match s.fpp.replay with
  | none => s
  | some r =>
    let t := replayEnd s.fpp.ring r r.free
    (s.runTo t).runReplay t

/-! ### Search-window poses (R220) -/

/-- Position interpolated in stamp between two states, and the nearer orientation, the earlier on a tie. -/
def winBetween (a b : Pose) (t : Nat) : List Int × List Int :=
  let span : Nat := b.stamp - a.stamp
  let p := (List.range 3).map (fun i =>
    if span = 0 then satS 40 (rneShr (vec b.p i) 16)
    else satS 40 (rneDiv (vec a.p i * ((b.stamp : Int) - t) + vec b.p i * ((t : Int) - a.stamp)) (span * 65536)))
  (p, if (t : Int) - a.stamp ≤ (b.stamp : Int) - t then outQ a else outQ b)

/-- The 64 bytes of Table 10.6. -/
def WinPose.bytes (w : WinPose) : List Byte :=
  leBytes 2 w.stream ++ leBytes 1 w.flags ++ [0] ++ leBytes 4 (w.cadence % 2 ^ 32) ++ leBytes 8 w.t ++ w.p.flatMap (sleBytes 8) ++
    w.q.flatMap (sleBytes 4) ++ leBytes 2 w.gen ++ zeros 6

def State.putWin (s : State) (w : WinPose) : State :=
  let i := w.stream - 0x010
  ((s.stB (s.regN Reg.FPP_WIN_ADDR + 512 * i + 64 * (w.cadence % 8)) w.bytes).digest 4 w.cadence (s.fpp.seq + 2 ^ 62)
    w.bytes).setFpp
    (fun f => { f with wins := SMap.set f.wins (8 * i + w.cadence % 8) w })

/-- Write the windows that this set makes due. -/
def State.dueWins (s : State) (prev : Option Pose) (cur : Pose) (flags : Nat) : State :=
  let due := s.fpp.winDue.filter (fun d => decide (d.2.1 ≤ cur.stamp))
  let s1 := s.setFpp (fun f => { f with winDue := f.winDue.filter (fun d => decide (cur.stamp < d.2.1)) })
  s1.each due (fun st d =>
    let b := winBetween (prev.getD cur) cur d.2.1
    st.putWin ⟨d.1, flags, d.2.2, d.2.1, b.1, b.2, st.fpp.gen % 65536⟩)

/-- The two replayed states around `t`; `l` newest first. -/
def around (t : Nat) : List Pose → Option (Pose × Pose)
  | b :: a :: r => if a.stamp < t ∧ t ≤ b.stamp then some (a, b) else around t (a :: r)
  | _ => none

/-- Rewrite the windows after T_C from the replayed states (R224). -/
def State.rewriteWins (s : State) (r : Replay) : State :=
  s.each (s.fpp.wins.map (fun e => e.2)) (fun st w =>
    if w.t ≤ r.corr.tc then st
    else
      match around w.t r.states with
      | none => st
      | some ab =>
        let b := winBetween ab.1 ab.2 w.t
        let committed := decide (w.cadence ≤ st.epochCadence r.corr.epoch)
        st.putWin { w with p := b.1, q := b.2, gen := st.fpp.gen % 65536, flags := w.flags ||| 2 ||| b2n committed })

/-! ### The live path (R215) -/

/-- An anchor record (R226, R227). -/
def anchorRecord (gen : Nat) (st : Pose) (x : ImuEntry) (epoch flags : Nat) (speed yaw : Int) : List Byte :=
  poseRecord st 3 flags (gen % 65536) epoch x.stamp x.seq speed yaw (x.cadence % 2 ^ 32)

/-! ### The pose port (R217, Table 10.4) -/

/-- A record's 192 nibbles, low nibble of each byte first. -/
def poseNibbles (rec_ : List Byte) : List Nat := rec_.flatMap (fun b => [b.toNat % 16, b.toNat / 16])

/-- Levels of the pose port's pins. -/
structure PosePins where
  clk : Bool
  frm : Bool
  d : Nat
  deriving DecidableEq, Repr

/-- POSE_CLK, POSE_FRM and POSE_D at this CORE cycle: a nibble every 4 cycles, a clock edge 2 cycles after each change, the last nibble held.
POSE_D before the first frame: DESIGN CHOICE 0 (assumption log 18). All are low from cycle S of a Brake (Table 18.14). -/
def State.posePins (s : State) : PosePins :=
  match s.fpp.frame with
  | none => ⟨false, false, 0⟩
  | some (at_, ns) =>
    let k := s.core - at_
    if s.obs.stopped then ⟨false, false, 0⟩
    else ⟨decide (k < 768) && (k + 2) / 4 % 2 == 1, decide (k < 768), ns.getD (min 191 (k / 4)) 0⟩

/-- Both the pose port and FPP run, or FPP drains: a frame of 192 nibbles goes out from cycle 720 of the set. -/
def State.poseSend (s : State) (core : Nat) (rec_ : List Byte) : State :=
  if (s.func posePort).life == Life.on && (s.fppOn || (s.func fppFunc).life == Life.draining) then
    s.setFpp (fun f => { f with port := rec_ :: f.port, frame := some (core, poseNibbles rec_) })
  else s

/-- CORE cycle in which the latest frame ends (R217, Table 3.14). -/
def State.poseEnd (s : State) : Nat :=
  match s.fpp.frame with
  | some (at_, _) => at_ + 768
  | none => 0

/-- The pose of a set whose state is `o`: the record of its SEQ, the ring entry, the windows due, the records before it to the pose
ring, the port frame. `prev`: the state before, none in the first set of a run; `recs`: anchors that go before the record. -/
def State.livePose (st : State) (set : SampleSet) (fault : Bool) (prev : Option Pose) (recs : List (List Byte)) (o : Propagated)
    (flags : Nat) : State :=
  let epoch := set.cadence % 2 ^ 32
  let seq := st.fpp.seq
  let fl := flags ||| (4 * b2n st.fusDegraded) ||| (8 * b2n (set.sat || o.sat)) ||| (32 * b2n o.gap)
  let rec_ := poseRecord o.state 1 fl (st.fpp.gen % 65536) epoch set.stamp seq o.speed o.yaw (set.cadence % 2 ^ 32)
  let x : ImuEntry := ⟨set.stamp, epoch, b2n (set.sat || o.sat) + 2 * b2n o.gap + 4 * b2n (flags.testBit 4), set.values, o.speed,
    o.yaw, set.valid, seq, set.cadence, set.core0 + 468, o.state⟩
  let ring := st.fpp.ring ++ [x]
  let st1 := st.setFpp (fun f => { f with
    state := some o.state, seq := seq + 1, ring := ring.drop (ring.length - 2048) })
  let st2 := ((st1.setPair Reg.FPP_SEQ_LO Reg.FPP_SEQ_HI seq).setRegN Reg.FPP_COMMIT_GEN (st1.fpp.gen % 65536)).count 6 2
  let st3 := if o.gap then st2.count 6 5 else st2
  let st4 := st3.dueWins prev o.state (flags &&& 2)
  let d := max 1 (st4.fld Reg.FPP_RING_CTRL 2 6)
  let toRing := decide (seq % d = 0) || decide (fl &&& 0x70 ≠ 0)
  let st4 := recs.foldl (fun (y : State) a => y.digest 4 set.cadence (leAt a 16 8 + 2 ^ 63) a) (st4.digest 4 set.cadence seq rec_)
  let st5 := (st4.runTo (set.core0 + 720)).poseRing (recs ++ (if toRing then [rec_] else [])) fault
  st5.poseSend (set.core0 + 720) rec_

/-- The replay of a correction is not complete at cycle 13 of a set at or after its APPLY_TIME: reported once (R225). `but`: the correction
that switches over at this set. -/
def State.lateCorrections (s : State) (set : SampleSet) (but : Option Nat) : State :=
  let is_ := fun (c : Correction) => c.late.isNone && decide (c.apply ≤ set.valid) && but != some c.epoch
  let due := s.fpp.queue.filter is_
  (s.setFpp (fun f => { f with queue := f.queue.map (fun c => if is_ c then { c with late := some (set.core0 + 13) } else c) })).each due (fun st c =>
    ((st.setBit Reg.FPP_STATUS 6).count 6 8).event 6 0xFF02 St.deadlineMiss 0x05 0x73 (result [(20, 4, c.epoch), (24, 8, c.apply)]))

/-- The set in the live path reaches cycle 720: state source, propagation, ring entry, windows, pose ring, port frame.
`fault`: a posted write of the pose ring fails. -/
def fppLive (fault : Bool) (s : State) : State :=
  match s.fpp.set with
  | none => s
  | some set =>
    let cfg := s.imuCfg
    -- anchors of forced resolutions come before the set (R227)
    let anch := s.fpp.forced.filterMap (fun e =>
      ((s.fpp.ring.filter (fun x => x.epoch == e.1 % 2 ^ 32)).getLast?).map (fun x =>
        anchorRecord e.2 x.state x (e.1 % 2 ^ 32) 0x81 x.speed x.yaw))
    let s1 := ((s.setFpp (fun f => { f with forced := [], set := none })).fppCycles 0 720).bankEnd 6 0
    let prev := s1.fpp.state
    match s1.fpp.seed with
    | some sd =>
      -- the seed state, without propagation (R212)
      let s2 := s1.setFpp (fun f => { f with seed := none, seedStamp := some set.stamp })
      let old := s2.fpp.queue.filter (fun c => decide (c.tc < set.stamp))
      let s3 := ((s2.setFpp (fun f => { f with
        queue := f.queue.filter (fun c => !decide (c.tc < set.stamp)),
        replay := match f.replay with | some r => if r.corr.tc < set.stamp then none else some r | none => none })).undecide old).each old
          (fun st c => st.rejectCorrection c.epoch 2)
      let s4 := ((s3.putBit Reg.FPP_STATUS 5 s3.fpp.replay.isSome).startReplay).lateCorrections set none
      s4.livePose set fault prev anch (seeded cfg sd set.values set.stamp) 0x10
    | none =>
      let draft := propagate cfg (prev.getD Pose.reset) set.values set.stamp
      let s2 := match s1.fpp.replay with
        | some r => if r.corr.apply ≤ set.valid then s1.runReplay (set.core0 + 13) else s1
        | none => s1
      match s2.fpp.replay with
      | none => (s2.lateCorrections set none).livePose set fault prev anch draft 0
      | some r =>
        if r.corr.apply ≤ set.valid ∧ s2.fpp.seq ≤ r.nextSeq then
          -- switch-over (R224, R226)
          let s3 := ((s2.lateCorrections set (some r.corr.epoch)).setFpp (fun f => { f with
            gen := f.gen + 1, replay := none, queue := f.queue.tail })).bankEnd 6 1
          let an := match r.anchor with
            | some a => [anchorRecord s3.fpp.gen a.1 a.2.1 r.corr.epoch 0x03 a.2.2.1 a.2.2.2]
            | none => []
          let s4 := (s3.clrBit Reg.FPP_STATUS 5).rewriteWins r
          let s5 := s4.livePose set fault (some r.state) (anch ++ an) (propagate cfg r.state set.values set.stamp) 0x42
          let due := ((s2.fpp.queue.find? (fun c => c.epoch == r.corr.epoch)).bind Correction.late).getD (set.core0 + 13)
          ((s5.monOffer 10 0 0 ((due : Int) - r.free)).event 6 0xFF02 St.ok 0x07 0x73 (result [(20, 4, r.corr.epoch), (24, 2, s5.fpp.gen % 65536), (28, 4, r.done)])).startReplay
        else (s2.lateCorrections set none).livePose set fault prev anch draft 0

/-- DEC delivers an inertial record (R211): the axis's pending record, and the set that it may complete. A set still in
the live path is brought to its cycle 720 before the next one forms. -/
def fppRecord (r : List Byte) (s : State) : State :=
  let c := leAt r 0 1
  if !s.fppOn then s
  else
    match (List.range 6).find? (fun a => s.axisChannel a == c) with
    | none => s
    | some a =>
      let s1 := if (SMap.find s.fpp.pend a).isSome then s.count 6 3 else s
      let s2 := s1.setFpp (fun f => { f with pend := SMap.set f.pend a r })
      if (List.range 6).all (fun k => (SMap.find s2.fpp.pend k).isSome) then (fppLive false s2).formSet else s2

/-- The nominal output period of a channel, CORE cycles, rounded up. -/
def State.outputPeriod (s : State) (c : Nat) : Nat :=
  let d := s.setting c
  let bits := s.clockPeriod c * 2 ^ (Fs.stages d)
  if Fs.rsEn d then ceilDiv (bits * Fs.rsNum d) (max 1 (Fs.rsDen d)) else bits

/-- The lowest axis channel without a record in the set, axis 0's where each has one. -/
def State.lateChannel (s : State) : Nat :=
  match s.axisChannels.filter (fun c => !s.fpp.pend.any (fun e => leAt e.2 0 1 == c)) with
  | [] => s.axisChannel 0
  | x :: r => r.foldl min x

/-- NO_SAMPLE_SET (R211): 16 nominal output periods without a set. -/
def fppNoSet (s : State) : State :=
  if !s.fppOn then s
  else
    let due := s.fpp.waitFrom + 16 * s.outputPeriod (s.axisChannel 0)
    let s1 := s.runTo due
    let c := s1.lateChannel
    (s1.setFpp (fun f => { f with waitFrom := due })).event 6 0xFF03 St.sensorAbsent 0x4C (decFunc c)
      (result [(20, 2, decFunc c), (24, 8, s1.fpp.lastStamp)])

/-! ### Lifecycle (R210, R212) -/

/-- FUNC_ENABLE's refusals of FPP. -/
def State.fppEnableRefusal (s : State) : Option Reply :=
  let ch := s.axisChannels
  let key := fun (c : Nat) => (Fs.stages (s.setting c), Fs.rsEn (s.setting c), Fs.rsNum (s.setting c), Fs.rsDen (s.setting c))
  if ch.eraseDups.length < 6 then some (Reply.bad 0x25)
  else if ch.any (fun c => key c != key (ch.headD 0)) then some (Reply.bad 0x26)
  else none

/-- AXIS_PHASE (R212): the axis channels, those of them that run, entered STARTING at different boundaries. -/
def State.axisPhase (s : State) : Bool :=
  let started := (s.axisChannels.filter (fun c => (s.func (decFunc c)).life != Life.off)).map (fun c => (s.func (decFunc c)).startedAt)
  started.any (fun n => n != started.headD 0)

def State.fppReady (s : State) : Bool :=
  s.axisChannels.all (fun c => (s.func (decFunc c)).life == Life.on) && !s.axisPhase && s.bitOf Reg.FPP_CTRL 0

/-- Load the seed record at FPP_SEED (R212). -/
def State.loadSeed (s : State) : State :=
  (s.setFpp (fun f => { f with seed := some (poseOf (s.ldB (s.pair Reg.FPP_SEED_LO Reg.FPP_SEED_HI) 128)) })).clrBit Reg.FPP_CTRL 0

/-- FPP enters ON: a fresh run. -/
def State.fppEnterOn (s : State) : State :=
  (({ s with fpp := { Fpp.reset with port := s.fpp.port, frame := s.fpp.frame, waitFrom := s.core } }).setRegN Reg.FPP_COMMIT_GEN 0).setPair
    Reg.FPP_SEQ_LO Reg.FPP_SEQ_HI 0

/-- A boundary: a SEED_REQ written before it is taken while FPP is ON (R212). -/
def State.fppBoundary (s : State) : State := if s.fppOn && s.bitOf Reg.FPP_CTRL 0 then s.loadSeed else s

/-- FPP enters DRAINING: queued corrections are discarded. The anchors that forced resolutions owe still go before the set in progress. -/
def State.fppDrain (s : State) : State :=
  (s.setFpp (fun f => { f with queue := [], replay := none, pend := [] })).clrBit Reg.FPP_STATUS 5

/-- The drain completes: the set in progress and its frame. -/
def State.fppOff (s : State) : State :=
  let s0 := fppLive false s
  let s1 := s0.runTo s0.poseEnd
  { s1 with fpp := { Fpp.reset with port := s1.fpp.port, frame := s1.fpp.frame } }

/-- SEED_REQ is written 1 (R212). -/
def fppSeedReq (s : State) : State := s.setBit Reg.FPP_CTRL 0

/-! ### Resolutions (R222, R227) -/

/-- FPP receives a resolution; true when it has no state for the epoch and acknowledges at once. -/
def State.fppResolve (s : State) (cad : Nat) (commit : Bool) : State × Bool :=
  let e := cad % 2 ^ 32
  let live := (s.func fppFunc).life == Life.on || (s.func fppFunc).life == Life.draining
  let has := live && (s.fpp.ring.any (fun x => x.epoch == e) || s.fpp.queue.any (fun c => c.epoch == e))
  let s00 := s.setRegN Reg.FPP_COMMIT_EPOCH e
  -- a forced resolution counts while FPP runs (R227)
  let s0 := if live && !commit then
      let g := s00.setFpp (fun f => { f with gen := f.gen + 1 })
      g.setRegN Reg.FPP_COMMIT_GEN (g.fpp.gen % 65536)
    else s00
  if !has then (s0, true)
  else if commit then
    ((s0.setFpp (fun f => { f with queue := f.queue.map (fun c => if c.epoch = e then { c with committed := true } else c) })).startReplay,
      false)
  else
    let s1 := s0.setFpp (fun f => { f with
      queue := f.queue.filter (fun c => c.epoch != e),
      replay := match f.replay with | some r => if r.corr.epoch = e then none else some r | none => none,
      forced := f.forced ++ [(cad, f.gen)] })
    let s2 := s1.each ((s1.fpp.wins.map (fun x => x.2)).filter (fun w => w.cadence % 2 ^ 32 == e)) (fun st w =>
      st.putWin { w with flags := w.flags ||| 1 })
    ((s2.putBit Reg.FPP_STATUS 5 s2.fpp.replay.isSome).startReplay, false)

/-- The IMU prediction at T (R203, R219): SPEED and YAW_RATE of the latest entry with STAMP at or before T among those
valid no more than 10 ms before T. -/
def State.imuPrediction (s : State) (t : Nat) : Option (Int × Int) :=
  if !s.fppOn then none
  else
    let c := s.fpp.ring.filter (fun x => decide (x.stamp ≤ t) && decide (t ≤ x.validTime + 8000000))
    match c with
    | [] => none
    | x :: r =>
      let b := r.foldl (fun (m : ImuEntry) y => if m.stamp ≤ y.stamp then y else m) x
      some (b.speed, b.yaw)

/-! ### The rows -/

/-- DEC_OUTPUT (R130, R211). -/
def execDecOutput (channel : Nat) (before : List Bool) (last : Bool) (s : State) : Out :=
  .next (s.act (fun t => t.ownPins (decOutput channel (before ++ [last]) fppRecord)))
/-- NO_SAMPLE_SET (R211). -/
def execNoSampleSet (s : State) : Out := .next (s.act fppNoSet)
/-- LIVE_PATH (R215). -/
def execLivePath (ringFault : Bool) (s : State) : Out := .next (s.act (fppLive ringFault))
/-- REPLAY_COMPLETE (R224). -/
def execReplayComplete (s : State) : Out := .next (s.act fppReplayComplete)

end Sys2Proof.Machine
end

