-- ==== Sys2Proof/Machine/Net.lean ====
section
/-! DEFINITION. The Ethernet ports (R93 to R96): link, PAUSE, receive dispatch, forwarding, the transparent clock
(R101, R102), ARP, and the send operation the other units use. -/

namespace Sys2Proof.Machine

/-- FUNC_ID of an Ethernet port. -/
def netFunc (p : Nat) : Nat := 0x080 + p
/-- Counter index of port `p` (Table 18.4, No. 13): 0 RX_FRAMES, 1 TX_FRAMES, 2 FCS_DROP, 3 DISPATCH_DROP,
4 TX_LINK_DROP, 5 FWD_FRAMES, 6 FWD_DROP, 7 LINK_LOSS, 8 PAUSE_RX, 9 PTP_RX, 10 PTP_TX, 11 MGMT_DROP, 12 TC_OVERFLOW. -/
def netCnt (p k : Nat) : Nat := 2 + 13 * p + k

def State.netPort (s : State) (p : Nat) : NetPort := SMap.get NetPort.reset s.net.ports p
def State.setNetPort (s : State) (p : Nat) (x : NetPort) : State :=
  { s with net := { s.net with ports := SMap.set s.net.ports p x } }

/-- A port that is ON or DRAINING moves frames. -/
def State.portLive (s : State) (p : Nat) : Bool :=
  let l := (s.func (netFunc p)).life
  l == Life.on || l == Life.draining

def State.portLink (s : State) (p : Nat) : Bool := s.bitOf (Reg.NET_PORT_STATUS p) 0

/-- CHAIN of both fabric ports (R96). -/
def State.chained (s : State) : Bool := s.bitOf (Reg.NET_PORT_CTRL 0) 5 && s.bitOf (Reg.NET_PORT_CTRL 1) 5

/-- Start condition of a port (R94): LINK_UP, and for the fabric ports equal CHAIN values (R96). -/
def State.netReady (s : State) (p : Nat) : Bool :=
  s.portLink p && (decide (2 ≤ p) || (s.bitOf (Reg.NET_PORT_CTRL 0) 5 == s.bitOf (Reg.NET_PORT_CTRL 1) 5))

/-- The port's MAC address as the six bytes on the wire. -/
def State.macOf (s : State) (p : Nat) : List Byte :=
  leBytes 4 (s.regN (Reg.NET_PORT_MAC_LO p)) ++ leBytes 2 (s.fld (Reg.NET_PORT_MAC_HI p) 0 16)

/-- MAX_FRAME of a port (R93). -/
def State.maxFrame (s : State) (p : Nat) : Nat := s.fld (Reg.NET_PORT_CTRL p) 8 14

/-- A frame of the device's own goes on the wire: its 64-byte beats are charged to FABRIC on a fabric port (R96, Table 2.4); while the
link is down it is dropped and counted (R94). -/
def State.netWire (s : State) (p : Nat) (frame : List Byte) : State :=
  if !s.portLink p then s.count 13 (netCnt p 4)
  else
    let x := s.netPort p
    let s1 := (s.setNetPort p { x with sent := frame :: x.sent }).count 13 (netCnt p 1)
    if p < 2 then s1.chargePool 8 (ceilDiv frame.length 64) 0 none else s1

/-- The device's own frames that a PAUSE held back leave once it has passed (R93). -/
def State.netFlush (s : State) (p : Nat) : State :=
  let x := s.netPort p
  if x.hold.isEmpty || decide (s.core < x.pausedUntil) then s
  else x.hold.foldl (fun (st : State) f => st.netWire p f) (s.setNetPort p { x with hold := [] })

/-! ### Frame fields (IEEE 802.3, 802.1Q; assumption log 11) -/

/-- Offset of the EtherType: behind an IEEE 802.1Q tag where there is one. -/
def etherAt (f : List Byte) : Nat := if beAt f 12 2 = 0x8100 then 16 else 12
def etherType (f : List Byte) : Nat := beAt f (etherAt f) 2
def etherBody (f : List Byte) : List Byte := f.drop (etherAt f + 2)
def destMac (f : List Byte) : List Byte := f.take 6
def sourceMac (f : List Byte) : List Byte := (f.drop 6).take 6
/-- A broadcast or multicast destination. -/
def groupDest (f : List Byte) : Bool := bit (beAt f 0 1) 0
/-- Destinations 01-80-C2-00-00-00 to 01-80-C2-00-00-0F. -/
def reservedDest (f : List Byte) : Bool := rng (beAt f 0 6) 0x0180C2000000 0x0180C200000F

/-- A UDP datagram over IPv4: source address, destination address, destination port, offset of its payload. -/
structure Udp where
  src : Nat
  dst : Nat
  dport : Nat
  ofs : Nat
  len : Nat
  deriving DecidableEq, Repr

def udpOf (f : List Byte) : Option Udp :=
  let ip := etherAt f + 2
  if etherType f = 0x0800 ∧ beAt f (ip + 9) 1 = 17 then
    let u := ip + 4 * (beAt f ip 1 % 16)
    some ⟨beAt f (ip + 12) 4, beAt f (ip + 16) 4, beAt f (u + 2) 2, u + 8, beAt f (u + 4) 2 - 8⟩
  else none

/-- PTP multicast groups of UDP/IPv4. -/
def ptpGroup (a : Nat) : Bool := rng a 0xE0000181 0xE0000184 || a == 0xE000006B

/-- Offset of the PTP message a frame carries, to whatever node. -/
def ptpCarried (f : List Byte) : Option Nat :=
  if etherType f = 0x88F7 then some (etherAt f + 2)
  else (udpOf f).bind (fun u => if u.dport = 319 ∨ u.dport = 320 then some u.ofs else none)

/-- A PTP event message: Sync, Delay_Req, Pdelay_Req, Pdelay_Resp. -/
def ptpEvent (f : List Byte) : Bool := (ptpCarried f).any (fun o => decide (leAt f o 1 % 16 < 4))

/-- The frame goes to the head of the transmit queue: a PTP event message, or a Peloton control frame of types 1 to 4 (R96, R367). -/
def State.urgent (s : State) (f : List Byte) : Bool :=
  ptpEvent f || (etherType f == s.fld Reg.PEL_CTRL 0 16 && rng (leAt (etherBody f) 1 1) 1 4)

/-- Send a frame of the device's own: a received PAUSE holds it back (R93), event and control frames ahead of the others. One longer
than MAX_FRAME is dropped and counted as lost for transmission: DESIGN CHOICE (assumption log 13). -/
def State.netSend (s : State) (p : Nat) (frame : List Byte) : State :=
  if !s.portLive p then s
  else if s.maxFrame p < frame.length then s.count 13 (netCnt p 4)
  else
    let s1 := s.netFlush p
    let x := s1.netPort p
    if s1.core < x.pausedUntil then
      s1.setNetPort p { x with hold := if s1.urgent frame then x.hold.takeWhile s1.urgent ++ [frame] ++ x.hold.dropWhile s1.urgent
        else x.hold ++ [frame] }
    else s1.netWire p frame

/-- Offset of the PTP message in a frame that the first row of Table 4.4 takes. -/
def State.ptpOffset (s : State) (p : Nat) (f : List Byte) : Option Nat :=
  if etherType f = 0x88F7 then some (etherAt f + 2)
  else
    match udpOf f with
    | some u =>
      if (u.dport = 319 ∨ u.dport = 320) ∧ (u.dst = s.regN (Reg.NET_PORT_IPV4 p) ∨ ptpGroup u.dst = true)
      then some u.ofs else none
    | none => none

/-! ### Forwarding (R96) and the transparent clock (R101, R102) -/

/-- Row of Table 4.8 for the mode a port runs in. -/
def State.tscMode (s : State) (p : Nat) : Nat :=
  match s.fld (Reg.NET_PORT_CTRL p) 0 2, s.fld (Reg.NET_PORT_CTRL p) 2 2 with
  | 0, 0 => 0
  | 0, 1 => 1
  | 0, _ => 2
  | 1, 1 => 4
  | 1, _ => 3
  | _, _ => 5

def State.txCorr (s : State) (p : Nat) : Int := sgn 32 (s.regN (Reg.TIM_TSC_TX p (s.tscMode p)))
def State.rxCorr (s : State) (p : Nat) : Int := sgn 32 (s.regN (Reg.TIM_TSC_RX p (s.tscMode p)))

/-- A disciplined capture on reception, in 2^−16 ns (R100). -/
def State.rxTime (s : State) (p capture : Nat) : Int := (s.disc capture : Int) * 81920 - s.rxCorr p
/-- A transmit timestamp, in 2^−16 ns (R100): of the frame that leaves now, or when the PAUSE that holds it has passed. -/
def State.txTime (s : State) (p : Nat) : Int :=
  (s.disc (rawOf (max s.core (s.netPort p).pausedUntil)) : Int) * 81920 + s.txCorr p

/-- The transparent clock runs (R101). -/
def State.tcOn (s : State) : Bool :=
  [0, 1].all (fun p => s.bitOf (Reg.NET_PORT_CTRL p) 5 && leAt (s.ptpPort p).desc 0 1 == 1 &&
    (leAt (s.ptpPort p).desc 11 1).testBit 0 && (s.func (netFunc p)).life == Life.on)

/-- Residence time in 2^−16 ns (R102). -/
def residence (re ri : Nat) (rate tx rx : Int) : Int :=
  rneDiv (((re : Int) - ri) * 81920 * (2 ^ 40 + rate)) (2 ^ 40) + tx + rx

/-- Enter a frame into the forwarding FIFO toward port `q`: 64 KiB, PTP event and Peloton control frames ahead of the others; a frame that finds it full, or
is longer than the port's MAX_FRAME (R93), is dropped and counted (R96). -/
def State.forward (s : State) (q : Nat) (frame : List Byte) (ingress : Nat) : State :=
  let x := s.netPort q
  let held := (x.fwd.map (fun w => w.bytes.length)).sum
  if 65536 < held + frame.length || s.maxFrame q < frame.length then s.count 13 (netCnt q 6)
  else
    let w : FwdFrame := ⟨frame, ingress, s.urgent frame⟩
    let fwd := if w.event then x.fwd.takeWhile (fun y => y.event) ++ [w] ++ x.fwd.dropWhile (fun y => y.event)
      else x.fwd ++ [w]
    s.setNetPort q { x with fwd := fwd }

/-- Add the residence time to a Sync or Delay_Req at its egress (R102). -/
def State.addResidence (s : State) (q : Nat) (w : FwdFrame) : State × List Byte :=
  match ptpCarried w.bytes with
  | none => (s, w.bytes)
  | some o =>
    if decide (leAt w.bytes o 1 % 16 < 2) && s.tcOn then
      let old := sgn 64 (beAt w.bytes (o + 8) 8)
      let sum := old + residence s.raw w.ingress s.timRate (s.txCorr q) (s.rxCorr (1 - q))
      let spent := decide (2 ^ 63 ≤ sum ∨ sum < -2 ^ 63)
      let new := if spent then 2 ^ 63 - 1 else sum
      let f1 := w.bytes.take (o + 8) ++ beBytes 8 (unsgn 64 new) ++ w.bytes.drop (o + 16)
      let f2 := if etherType f1 = 0x0800 then f1.take (o - 2) ++ zeros 2 ++ f1.drop o else f1
      (if spent then s.count 13 (netCnt q 12) else s, f2)
    else (s, w.bytes)

/-- FORWARD_EGRESS: the frame at the head of the FIFO leaves port `q` (R96, R102), behind the device's own frames that waited; a received
PAUSE holds them back. -/
def netForwardEgress (q : Nat) (s : State) : State :=
  let x := s.netPort q
  if !s.portLive q || (x.fwd.isEmpty && x.hold.isEmpty) then s
  else
    let s0 := (s.runTo x.pausedUntil).netFlush q
    match x.fwd with
    | [] => s0
    | w :: rest =>
      let s1 := s0.setNetPort q { s0.netPort q with fwd := rest }
      if !s1.portLink q then s1.count 13 (netCnt q 4)
      else
        let so := s1.addResidence q w
        let y := so.1.netPort q
        ((so.1.setNetPort q { y with sent := so.2 :: y.sent }).count 13 (netCnt q 5)).count 13 (netCnt q 1)

/-! ### Link and PAUSE -/

/-- The configured FEC runs: on a fabric port, and Clause 108 at 25G only (Table 4.3). -/
def State.fecRuns (s : State) (p : Nat) : Bool :=
  let fec := s.fld (Reg.NET_PORT_CTRL p) 2 2
  decide (p < 2) && (fec == 1 || (fec == 2 && s.fld (Reg.NET_PORT_CTRL p) 0 2 == 0))

/-- Block lock or synchronisation, with auto-negotiation complete when AN_EN is 1 (R94). -/
def netLinkUp (p : Nat) (s : State) : State :=
  if !s.bitOf Reg.CRB_CLK_STATUS 2 then s else
  let st := Reg.NET_PORT_STATUS p
  let s1 := (s.setBit st 0).setBit st 1
  let s2 := s1.putBit st 2 (s.bitOf (Reg.NET_PORT_CTRL p) 4)
  s2.putBit st 3 (s.fecRuns p)

/-- A link is lost; an ON port stays ON, sets LINK_LOST and counts it (R94). -/
def netLinkLoss (p : Nat) (s : State) : State :=
  let st := Reg.NET_PORT_STATUS p
  let s1 := s.setFld st 0 4 0
  if (s.func (netFunc p)).life == Life.on then (s1.setBit st 5).count 13 (netCnt p 7) else s1

/-- CORE cycles of `quanta` PAUSE quanta of 512 bit times, rounded up. -/
def State.pauseCycles (s : State) (p quanta : Nat) : Nat :=
  let mbps := match s.fld (Reg.NET_PORT_CTRL p) 0 2 with
    | 0 => 25000
    | 1 => 10000
    | _ => 1000
  ceilDiv (quanta * 512 * 1200) mbps

/-- A received PAUSE frame (R93). -/
def netPause (p quanta : Nat) (s : State) : State :=
  if !s.portLive p then s
  else
    let s1 := s.count 13 (netCnt p 8)
    if s.bitOf (Reg.NET_PORT_CTRL p) 6 then
      (s1.setNetPort p { s1.netPort p with pausedUntil := s1.core + s1.pauseCycles p quanta }).netFlush p
    else s1

/-- A PAUSE frame asking for `quanta` (Annex 31B). -/
def State.pauseFrame (s : State) (p quanta : Nat) : List Byte :=
  beBytes 6 0x0180C2000001 ++ s.macOf p ++ beBytes 2 0x8808 ++ beBytes 2 1 ++ beBytes 2 quanta ++ zeros 42

/-! ### ARP -/

/-- An ARP request for the IPv4 address of sensor port `p`. -/
def State.arpFor (s : State) (p : Nat) (f : List Byte) : Bool :=
  let b := etherBody f
  decide (2 ≤ p) && etherType f == 0x0806 && beAt b 6 2 == 1 && s.regN (Reg.NET_PORT_IPV4 p) != 0 &&
    beAt b 24 4 == s.regN (Reg.NET_PORT_IPV4 p)

/-- The answer to an ARP request (R95). -/
def netArp (p : Nat) (f : List Byte) (s : State) : State :=
  if !s.arpFor p f then s
  else
    let b := etherBody f
    let reply := sourceMac f ++ s.macOf p ++ beBytes 2 0x0806 ++ b.take 6 ++ beBytes 2 2 ++ s.macOf p ++
      beBytes 4 (s.regN (Reg.NET_PORT_IPV4 p)) ++ (b.drop 8).take 10 ++ zeros 18
    s.netSend p reply

/-! ### Receive dispatch (R95, Table 4.4) -/

/-- The UDP packet of a frame that an enabled lidar template of this port may take. -/
def State.lidarUdp (s : State) (p : Nat) (f : List Byte) : Option Udp :=
  if p < 2 then none
  else
    match udpOf f with
    | some u => if (List.range 8).any (fun j => s.lidarPortMatch (p - 2) u.src u.dport j) then some u else none
    | none => none

/-- Dispatch a frame whose FCS is good. `pel`: Peloton services, for a frame they identify as theirs; `ptp`: TIM. -/
def State.dispatch (s : State) (p : Nat) (f : List Byte) (capture : Nat) (isPel : Bool)
    (pel ptp : State → State) : State :=
  if (s.ptpOffset p f).isSome then ptp s
  else
    match s.lidarUdp p f with
    | some u =>
      ingLidarPacket (p - 2) u.src u.dport ((f.drop u.ofs).take u.len)
        (unsgn 64 ((s.disc capture : Int) - rneDiv (s.rxCorr p) 81920)) s
    | none =>
      if s.arpFor p f then netArp p f s
      else if p < 2 ∧ isPel = true then
        -- broadcast and multicast frames are delivered and forwarded alike (R96)
        let s1 := pel s
        if s1.chained && groupDest f && !reservedDest f then s1.forward (1 - p) f capture else s1
      else if p < 2 ∧ s.chained = true ∧ destMac f ≠ s.macOf p then
        if reservedDest f then s.count 13 (netCnt p 3) else s.forward (1 - p) f capture
      else s.count 13 (netCnt p 3)

/-- A received frame (R93, R95): `fifo` is the fill of the receive FIFO behind it, of 64 KiB. DESIGN CHOICE (assumption log 13): MAX_FRAME
bounds the frame without its FCS, and a longer frame counts as dropped at dispatch. A PAUSE frame of the device's own is not held by a
received one. -/
def netReceive (p : Nat) (fcsOk : Bool) (f : List Byte) (capture fifo : Nat) (isPel : Bool) (pel ptp : State → State)
    (s : State) : State :=
  if !s.portLive p then s
  else if !fcsOk then s.count 13 (netCnt p 2)
  else if s.maxFrame p < f.length then s.count 13 (netCnt p 3)
  else
    let s1 := s.count 13 (netCnt p 0)
    if etherType f = 0x8808 then
      if beAt f 14 2 = 1 then netPause p (beAt f 16 2) s1 else s1.count 13 (netCnt p 3)
    else if 2 ≤ p ∧ 65536 < fifo then s1.count 1 (226 + (p - 2))
    else
      let s2 := if s1.bitOf (Reg.NET_PORT_CTRL p) 7 && decide (49152 ≤ fifo) then s1.netWire p (s1.pauseFrame p 0xFFFF)
        else s1
      s2.dispatch p f capture isPel pel ptp

/-! ### The rows -/

/-- ARP_REQUEST (R95). -/
def execArpRequest (port : Nat) (frame : List Byte) (s : State) : Out := .next (s.act (netArp port frame))
/-- PAUSE_FRAME (R93). -/
def execPauseFrame (port quanta : Nat) (s : State) : Out := .next (s.act (netPause port quanta))
/-- FORWARD_EGRESS (R96, R102). -/
def execForwardEgress (port : Nat) (s : State) : Out := .next (s.act (netForwardEgress port))
/-- ETHERNET_LINK_UP (R94). -/
def execEthernetLinkUp (port : Nat) (s : State) : Out := .next (s.act (netLinkUp port))
/-- ETHERNET_LINK_LOSS (R94). -/
def execEthernetLinkLoss (port : Nat) (s : State) : Out := .next (s.act (netLinkLoss port))

end Sys2Proof.Machine
end

