-- ==== Sys2Proof/Machine/PelLink.lean ====
section
/-! DEFINITION. Peloton frames and distribution trees as the units use them (R367, R368). -/

namespace Sys2Proof.Machine.State

def joined (s : State) : Bool := !s.pel.members.isEmpty

/-- Member `m` is in the last released bitmap. -/
def present (s : State) (m : Nat) : Bool := s.bitOf (Reg.PEL_PRESENT (m / 32)) (m % 32)

/-- The member list entry of member `m`. -/
def memberOf (s : State) (m : Nat) : List Byte := s.pel.members.getD m []
def memberSecondary (s : State) (m : Nat) : Bool := (leAt (s.memberOf m) 6 1).testBit 1

/-- The members of a tree in order (R368). -/
def treeOrder (s : State) : List Nat :=
  (List.range s.pel.members.length).filter (fun m => s.present m && !s.memberSecondary m)

/-- Position of member `m` in the tree of root `r`; none where either is not part of it. -/
def treePos (s : State) (r m : Nat) : Option Nat :=
  let l := s.treeOrder
  match l.idxOf? m, l.idxOf? r with
  | some i, some j => some ((i + l.length - j) % l.length)
  | _, _ => none

/-- The member at position `p` of the tree of root `r`. -/
def treeAt (s : State) (r p : Nat) : Option Nat :=
  let l := s.treeOrder
  match l.idxOf? r with
  | some j => if p < l.length then l[(p + j) % l.length]? else none
  | none => none

/-- The device's children in the tree of root `r`. -/
def treeChildren (s : State) (r : Nat) : List Nat :=
  match s.treePos r s.pel.me with
  | some p => (List.range 8).filterMap (fun k => s.treeAt r (8 * p + 1 + k))
  | none => []

def treeParent (s : State) (r : Nat) : Option Nat :=
  match s.treePos r s.pel.me with
  | some (p + 1) => s.treeAt r (p / 8)
  | _ => none

/-- The depth of position `p`. -/
def posDepth : Nat → Nat → Nat
  | 0, _ => 0
  | _, 0 => 0
  | n + 1, p + 1 => 1 + posDepth n (p / 8)

/-- d = ceil(log8 N) (R368). -/
def treeDepth (s : State) : Nat :=
  let n := s.pel.members.length
  if n ≤ 1 then 0 else if n ≤ 8 then 1 else if n ≤ 64 then 2 else 3

/-- H in µs (R368). -/
def hop (s : State) : Nat := s.fld Reg.PEL_HOP 0 8

/-- CRC-32 of the member list. -/
def listCrc (s : State) : Nat := crc32 s.pel.members.flatten

/-- Send a Peloton frame (Table 16.5) on the first fabric port that is up; `dst` 0xFFFF broadcasts. A secondary twin sends
none (R366). -/
def pelSend (s : State) (type dst root instant : Nat) (payload : List Byte) : State :=
  if !s.joined || s.role == 2 then s
  else
    let p := if s.portLive 0 && s.portLink 0 then 0 else 1
    let dest := if dst = 0xFFFF then beBytes 6 0xFFFFFFFFFFFF else (s.memberOf dst).take 6
    let body := leBytes 1 1 ++ leBytes 1 type ++ leBytes 2 s.pel.domain ++ leBytes 2 s.pel.me ++ leBytes 2 dst ++
      leBytes 2 root ++ leBytes 2 payload.length ++ leBytes 4 s.pel.seq ++ leBytes 8 instant ++ leBytes 4 s.listCrc ++
      zeros 4 ++ payload
    let s1 : State := { s with pel := { s.pel with seq := (s.pel.seq + 1) % 2 ^ 32 } }
    (s1.netSend p (dest ++ s.macOf p ++ beBytes 2 (s.fld Reg.PEL_CTRL 0 16) ++ body)).count 13 59

/-- Publish a tile of 16,448 bytes as its 16 fragments down the tree rooted at this member (R370). -/
def publishTile (s : State) (tile : List Byte) : State :=
  if !s.joined || !s.bitOf Reg.PEL_CTRL 16 then s
  else s.each (List.range 16) (fun s1 k =>
    s1.each (s1.treeChildren s1.pel.me) (fun s2 c =>
      s2.pelSend 5 c s2.pel.me 0 ((tile.drop 8).take 8 ++ leBytes 1 k ++ zeros 3 ++ (tile.drop (1028 * k)).take 1028)))

end Sys2Proof.Machine.State
end

