-- ==== Sys2Proof/Machine/Map.lean ====
section
/-! DEFINITION. The Map Engine (ch. 12): record operations, draft shadows and views, commits, activation, reads, host
commands. -/

namespace Sys2Proof.Machine

/-! ### Keys, stores, directory (R255 to R262) -/

/-- FUNC_ID of MAP. -/
def mapFunc : Nat := 0x075

/-- The key's bits [63:61] are 0 (R255). -/
def keyOk (k : Nat) : Bool := decide (k < 2 ^ 61)

/-- The tile of coordinates TX, TY, TZ (R255). -/
def tileKey (tx ty tz : Int) : Nat := unsgn 20 tx + 2 ^ 20 * unsgn 20 ty + 2 ^ 40 * unsgn 21 tz

/-- The tile of a world position in SQ23.16 (R255). -/
def tileOf (x y z : Int) : Nat := tileKey (x / 2 ^ 20) (y / 2 ^ 20) (z / 2 ^ 19)

/-- Bytes of a tile: header and payload. -/
def tileLen : Nat := 16448

/-- The map bases in force (R260). -/
structure MapBases where
  store : Nat
  dir : Nat
  kf : Nat
  desc : Nat
  edge : Nat

def State.mapBases (s : State) : MapBases :=
  ⟨s.pair Reg.MAP_STORE_BASE_LO Reg.MAP_STORE_BASE_HI, s.pair Reg.MAP_DIR_BASE_LO Reg.MAP_DIR_BASE_HI,
    s.pair Reg.MAP_KF_BASE_LO Reg.MAP_KF_BASE_HI, s.pair Reg.MAP_DESC_BASE_LO Reg.MAP_DESC_BASE_HI,
    s.pair Reg.MAP_EDGE_BASE_LO Reg.MAP_EDGE_BASE_HI⟩

/-- Every DRAM base is non-zero (R263). -/
def MapBases.set (b : MapBases) : Bool := b.store != 0 && b.dir != 0 && b.kf != 0 && b.desc != 0 && b.edge != 0

/-- The map as a record's check or a commit sees it: memory, the rest, the cadence in which shadows are applied, the
Peloton member, and what the applications did. -/
structure Mv where
  mem : Memory
  d : MapData
  b : MapBases
  cadence : Nat
  member : Option Nat
  /-- Ranges written. -/
  writes : List (Nat × Nat)
  /-- Dropped: inserts, orphans, keyframe inserts, loop edges. -/
  drops : List Nat
  /-- Loop edges committed. -/
  loops : List (Nat × Nat)

def Mv.ld (v : Mv) (a n : Nat) : Nat := leNat (v.mem.readBytes a n)
def Mv.st (v : Mv) (a : Nat) (bs : List Byte) : Mv :=
  { v with mem := v.mem.writeBytes a bs, writes := v.writes ++ [(a, bs.length)] }

/-- The least of the `n` numbers from `k` that passes. -/
def leastFrom (p : Nat → Bool) : Nat → Nat → Option Nat
  | 0, _ => none
  | n + 1, k => if p k then some k else leastFrom p n (k + 1)

/-- The least number below `n` that passes. -/
def leastBelow (n : Nat) (p : Nat → Bool) : Option Nat := leastFrom p n 0

/-- Bucket of a key (R262). -/
def dirBucket (b : MapBases) (key : Nat) : Nat := b.dir + 64 * (crc32 (leBytes 8 key) % 2 ^ 18)

/-- The directory entry of a key: its address and LOC. -/
def dirFind (mem : Memory) (b : MapBases) (key : Nat) : Option (Nat × Nat) :=
  let e := (List.range 4).map (fun w => let a := dirBucket b key + 16 * w; (a, leNat (mem.readBytes (a + 8) 4)))
  e.find? (fun x => decide (2 ^ 30 ≤ x.2) && leNat (mem.readBytes x.1 8) == key)

/-- The lowest empty way of a key's bucket. -/
def dirFree (mem : Memory) (b : MapBases) (key : Nat) : Option Nat :=
  ((List.range 4).map (fun w => dirBucket b key + 16 * w)).find? (fun a => decide (leNat (mem.readBytes (a + 8) 4) < 2 ^ 30))

def locTier (loc : Nat) : Nat := loc / 2 ^ 30
def locPlace (loc : Nat) : Nat := bits loc 0 20
def dirEntry (key place tier : Nat) : List Byte := leBytes 8 key ++ leBytes 4 (place + 2 ^ 30 * tier) ++ zeros 4

/-- The landmark table frame that holds a store frame's tile. -/
def MapData.tabOf (d : MapData) (f : Nat) : Option (Nat × TabFrame) := d.frames.find? (fun e => e.2.store == f)

/-- Where a tile's payload stands: its table frame while it is resident, its store frame otherwise. -/
def payloadAt (d : MapData) (b : MapBases) (f : Nat) : Nat :=
  match d.tabOf f with
  | some e => 0x5000000 + 16384 * e.1
  | none => b.store + tileLen * f + 64

/-- A tile's header. -/
def headerOf (mem : Memory) (d : MapData) (b : MapBases) (f : Nat) : List Byte :=
  match d.tabOf f with
  | some e => e.2.header
  | none => mem.readBytes (b.store + tileLen * f) 64

/-- Header with its CRC32 (R256), then the payload. -/
def sealTile (header payload : List Byte) : List Byte :=
  header.take 60 ++ leBytes 4 (crc32 (header.take 60 ++ payload)) ++ payload

/-- The tile of a store frame as it is written to a store or a buffer. -/
def tileBytes (mem : Memory) (d : MapData) (b : MapBases) (f : Nat) : List Byte :=
  sealTile (headerOf mem d b f) (mem.readBytes (payloadAt d b f) 16384)

/-- Header of a tile created empty. -/
def emptyHeader (key : Nat) : List Byte :=
  leBytes 4 0xC1E97A01 ++ zeros 4 ++ leBytes 8 key ++ zeros 16 ++ leBytes 2 0xFFFF ++ zeros 30

/-! ### Objects and handles (R258, R259) -/

def Mv.lm (v : Mv) (f i : Nat) : List Byte := v.mem.readBytes (payloadAt v.d v.b f + 64 * i) 64
def Mv.setLm (v : Mv) (f i : Nat) (e : List Byte) : Mv := v.st (payloadAt v.d v.b f + 64 * i) e
def entState (e : List Byte) : Nat := leAt e 0 1 % 4
def Mv.kf (v : Mv) (n : Nat) : List Byte := v.mem.readBytes (v.b.kf + 128 * n) 128
def Mv.setKf (v : Mv) (n : Nat) (e : List Byte) : Mv := v.st (v.b.kf + 128 * n) e
def kfState (e : List Byte) : Nat := leAt e 4 1 % 4

/-- The shadow handle of a record (R259). -/
def shadowHandle (epoch queue pos : Nat) : Nat := 2 ^ 31 + 2 ^ 28 * (epoch % 4) + 2 ^ 22 * queue + 2 ^ 8 * pos

/-- Reserved bits of a shadow handle are 0. -/
def handleOk (h : Nat) : Bool := !h.testBit 30 && h % 256 == 0

/-- The key under which the object of a shadow handle is kept, for a record of epoch `ref`: the inserting epoch is the last one up to
`ref` that the handle's two bits allow. It does not depend on when a commit arrives (R259, R275; assumption log 24). -/
def boundKey (ref h : Nat) : Nat := (ref - (ref + 4 - bits h 28 2) % 4) * 2 ^ 32 + h

/-- The LIVE landmark a handle in a record of epoch `ref` resolves to: store frame and index. -/
def Mv.liveLm (v : Mv) (ref h : Nat) : Option (Nat × Nat) :=
  let o := if h < 2 ^ 31 then
      (if h < 2 ^ 25 ∧ (SMap.find v.d.stored (h / 256)).isSome then some (h / 256, h % 256) else none)
    else if handleOk h then
      match SMap.find v.d.bound (boundKey ref h) with
      | some (.landmark f i) => some (f, i)
      | _ => none
    else none
  match o with
  | some (f, i) => if entState (v.lm f i) = 1 then some (f, i) else none
  | none => none

/-- The LIVE keyframe a handle in a record of epoch `ref` resolves to. -/
def Mv.liveKf (v : Mv) (ref h : Nat) : Option Nat :=
  let o := if h < 2 ^ 31 then (if h < 2 ^ 20 then some h else none)
    else if handleOk h then
      match SMap.find v.d.bound (boundKey ref h) with
      | some (.keyframe n) => some n
      | _ => none
    else none
  match o with
  | some n => if kfState (v.kf n) = 1 then some n else none
  | none => none

/-! ### Commit of a shadow (Table 12.10, R276) -/

/-- A number retired with `epoch`, or free, may be taken at commit of epoch `e` (R276). -/
def takeable (st epoch e : Nat) : Bool :=
  st == 0 || (st == 2 && decide (4 ≤ (e + 2 ^ 32 - epoch) % 2 ^ 32) && decide ((e + 2 ^ 32 - epoch) % 2 ^ 32 < 2 ^ 31))

/-- Count a drop. -/
def Mv.drop (v : Mv) (k : Nat) : Mv := { v with drops := modifyAt (· + 1) v.drops k }

/-- Change a tile's header: VERSION, LAST_CADENCE, ORIGIN while joined (R271, R370), COUNT and RETIRED by the differences. -/
def Mv.touchTile (v : Mv) (f : Nat) (count retired : Int) : Mv :=
  let h := headerOf v.mem v.d v.b f
  let add := fun (o : Nat) (x : Int) => leBytes 2 (unsgn 16 ((leAt h o 2 : Int) + x))
  let h1 := patch (patch (patch (patch h 4 (add 4 count)) 6 (add 6 retired)) 16 (leBytes 8 (leAt h 16 8 + 1))) 24
    (leBytes 8 v.cadence)
  let h2 := match v.member with
    | some m => patch h1 32 (leBytes 2 m)
    | none => h1
  match v.d.tabOf f with
  | some e => { v with d := { v.d with frames := SMap.set v.d.frames e.1 { e.2 with header := h2, dirty := true } } }
  | none => v.st (v.b.store + tileLen * f) ((sealTile h2 (v.mem.readBytes (payloadAt v.d v.b f) 16384)).take 64)

/-- OUTSIDE of a local position (R257). -/
def outside (x y z : Int) : Bool :=
  !(decide (0 ≤ x) && decide (x < 2 ^ 20) && decide (0 ≤ y) && decide (y < 2 ^ 20) && decide (0 ≤ z) && decide (z < 2 ^ 19))

def recPos (r : List Byte) : Int × Int × Int := (sleAt r 16 4, sleAt r 20 4, sleAt r 24 4)

/-- Bytes 0 to 31 of a LIVE landmark entry, with a record's SIGMA, LEVEL and position. -/
def lmHead (r : List Byte) (obs miss host seen epoch : Nat) : List Byte :=
  let p := recPos r
  leBytes 1 (1 + 4 * b2n (outside p.1 p.2.1 p.2.2)) ++ (r.drop 3).take 1 ++ leBytes 2 (min obs 65535) ++ (r.drop 16).take 12 ++
    leBytes 1 miss ++ (r.drop 2).take 1 ++ zeros 2 ++ leBytes 4 host ++ leBytes 4 seen ++ leBytes 4 epoch

def Mv.retireLm (v : Mv) (f i e : Nat) : Mv :=
  let x := v.lm f i
  (v.setLm f i (patch (patch x 0 (leBytes 1 (leAt x 0 1 / 4 * 4 + 2))) 28 (leBytes 4 e))).touchTile f (-1) 1

/-- The pose of a record, from byte 16: three SQ23.16 positions in 64-bit fields, their bits above 39 ignored and written as the sign
(R5), and the quaternion. -/
def poseField (r : List Byte) : List Byte :=
  (List.range 3).flatMap (fun k => sleBytes 8 (sgn 40 (leAt r (16 + 8 * k) 8))) ++ (r.drop 40).take 16

/-- The bytes a keyframe record takes from a pose: position, rotation, KEY. -/
def kfPose (x r : List Byte) : List Byte :=
  let p := fun (k : Nat) => sgn 40 (leAt r (16 + 8 * k) 8)
  patch (patch x 24 (poseField r)) 64 (leBytes 8 (tileOf (p 0) (p 1) (p 2)))

/-- Add edge `k` to a keyframe. -/
def kfAddEdge (x : List Byte) (k : Nat) : List Byte :=
  match leastBelow 4 (fun j => leAt x (72 + 4 * j) 4 == 0xFFFFFFFF) with
  | some j => patch (patch x (72 + 4 * j) (leBytes 4 k)) 6 (leBytes 1 (leAt x 6 1 + 1))
  | none => x

/-- Remove edge `k` from a keyframe. -/
def kfDropEdge (x : List Byte) (k : Nat) : List Byte :=
  match leastBelow 4 (fun j => leAt x (72 + 4 * j) 4 == k) with
  | some j => patch (patch x (72 + 4 * j) (leBytes 4 0xFFFFFFFF)) 6 (leBytes 1 (leAt x 6 1 - 1))
  | none => x

def Mv.bind (v : Mv) (sh : Shadow) (o : MapObj) : Mv :=
  { v with d := { v.d with bound := SMap.set v.d.bound (boundKey sh.epoch sh.handle) o } }

/-- Apply one shadow by Table 12.10. -/
def Mv.apply (v : Mv) (sh : Shadow) : Mv :=
  let r := v.mem.readBytes sh.addr 64
  let e := sh.epoch % 2 ^ 32
  let h := leAt r 4 4
  match leAt r 0 1 with
  | 1 =>
    match dirFind v.mem v.b (leAt r 8 8) with
    | none => v.drop 0
    | some (_, loc) =>
      let f := locPlace loc
      let free := if locTier loc = 1 then
          leastBelow 256 (fun i => let x := v.lm f i; takeable (entState x) (leAt x 28 4) e)
        else none
      match free with
      | none => v.drop 0
      | some i =>
        let was := entState (v.lm f i)
        let host := if h = 0xFFFFFFFF then 2 ^ 20 else (v.liveKf sh.epoch h).getD (2 ^ 20)
        ((v.setLm f i (lmHead r 1 0 host v.cadence e ++ (r.drop 32).take 32)).touchTile f 1
          (if was = 2 then -1 else 0)).bind sh (.landmark f i)
  | 2 =>
    match v.liveLm sh.epoch h with
    | none => v.drop 1
    | some (f, i) =>
      let x := v.lm f i
      let desc := if (leAt r 1 1).testBit 0 then (r.drop 32).take 32 else x.drop 32
      (v.setLm f i (lmHead r (leAt x 2 2 + leAt r 8 2) 0 (leAt x 20 4) v.cadence (leAt x 28 4) ++ desc)).touchTile f 0 0
  | 3 =>
    match v.liveLm sh.epoch h with
    | none => v.drop 1
    | some (f, i) =>
      let x := v.lm f i
      let m := min 255 (leAt x 16 1 + 1)
      let v1 := v.setLm f i (patch x 16 (leBytes 1 m))
      if sh.missRetire ≤ m then v1.retireLm f i e else v1.touchTile f 0 0
  | 4 =>
    match v.liveLm sh.epoch h with
    | none => v.drop 1
    | some (f, i) => v.retireLm f i e
  | 5 =>
    match leastBelow (2 ^ 20) (fun n => let x := v.kf n; takeable (kfState x) (leAt x 16 4) e) with
    | none => v.drop 2
    | some n =>
      let prev := if h = 0xFFFFFFFF then h else (v.liveKf sh.epoch h).getD 0xFFFFFFFF
      let x := leBytes 4 n ++ leBytes 1 1 ++ (r.drop 1).take 1 ++ zeros 2 ++ (r.drop 8).take 8 ++ leBytes 4 e ++ leBytes 4 prev ++
        zeros 48 ++ leBytes 16 (2 ^ 128 - 1) ++ leBytes 4 v.cadence ++ zeros 36
      ((v.setKf n (kfPose x r)).st (v.b.desc + 512 * n) (v.mem.readBytes (leAt r 56 8) 512)).bind sh (.keyframe n)
  | 6 =>
    match v.liveKf sh.epoch h with
    | none => v.drop 1
    | some n => v.setKf n (kfPose (v.kf n) r)
  | 7 =>
    match v.liveKf sh.epoch h, v.liveKf sh.epoch (leAt r 8 4) with
    | some a, some b =>
      let room := fun (n : Nat) => decide (leAt (v.kf n) 6 1 < 4)
      match leastBelow 65536 (fun k => v.ld (v.b.edge + 64 * k + 56) 1 == 0) with
      | none => v.drop 3
      | some k =>
        if !room a || !room b then v.drop 3
        else
          let x := leBytes 4 a ++ leBytes 4 b ++ poseField r ++ (r.drop 12).take 4 ++ leBytes 4 e ++ leBytes 1 1 ++ zeros 7
          let v1 := v.st (v.b.edge + 64 * k) x
          let v2 := v1.setKf a (kfAddEdge (v1.kf a) k)
          let v3 := v2.setKf b (kfAddEdge (v2.kf b) k)
          { v3 with loops := v3.loops ++ [(a, b)] }
    | _, _ => v.drop 1
  | 8 =>
    match v.liveKf sh.epoch h with
    | none => v.drop 1
    | some n =>
      let x := v.kf n
      let es := ((List.range 4).map (fun j => leAt x (72 + 4 * j) 4)).filter (· != 0xFFFFFFFF)
      let v1 := es.foldl (fun (y : Mv) k =>
        let a := y.ld (y.b.edge + 64 * k) 4
        let b := y.ld (y.b.edge + 64 * k + 4) 4
        let y1 := y.setKf a (kfDropEdge (y.kf a) k)
        let y2 := y1.setKf b (kfDropEdge (y1.kf b) k)
        y2.st (y2.b.edge + 64 * k) (zeros 64)) v
      let x1 := v1.kf n
      (v1.setKf n (patch (patch x1 4 (leBytes 1 2)) 16 (leBytes 4 e))).st (v1.b.desc + 512 * n) (zeros 512)
  | _ => v

/-- Canonical order of an epoch's shadows (R265). -/
def Shadow.key (sh : Shadow) : Nat :=
  (((sh.epoch * 65536 + sh.layer) * 4096 + sh.stage) * 16 + sh.entry) * 16384 + sh.pos

def insertShadow (sh : Shadow) : List Shadow → List Shadow
  | [] => [sh]
  | x :: r => if sh.key < x.key then sh :: x :: r else x :: insertShadow sh r

/-- Apply the shadows not yet applied of the epochs that pass, in canonical order. -/
def Mv.applyAll (v : Mv) (p : Nat → Bool) : Mv :=
  let due := v.d.shadows.filter (fun sh => p sh.epoch && !sh.applied && !v.d.squashed.contains sh.epoch)
  due.foldl Mv.apply v

/-- The committed map. -/
def State.mapNow (s : State) : Mv :=
  ⟨s.mem, s.map.data, s.mapBases, s.ccu.cadence, if s.joined then some s.pel.me else none, [], [0, 0, 0, 0], []⟩

/-- The view of the running epoch (R275). -/
def State.mapView (s : State) : Mv :=
  let n := s.ccu.cadence
  let v0 := s.mapNow
  let v1 := match s.map.frozen with
    | some (m, d) => { v0 with mem := m, d := d }
    | none => v0
  v1.applyAll (fun e => decide (e < n) && decide (n ≤ e + 3))

/-! ### Displays -/

def State.setMap (s : State) (m : Map) : State := { s with map := m }

/-- The used counts of Table 12.13 follow the map's data. -/
def State.mapShow (s : State) : State :=
  ((s.setRegN Reg.MAP_STORE_USED s.map.data.stored.length).setRegN Reg.MAP_ARC_USED s.map.data.archive.length).setRegN
    Reg.MAP_FRAMES_USED s.map.data.frames.length

/-- Take a map view's data and memory into the state; its writes touch and digest as the writer's. -/
def State.takeMv (s : State) (v : Mv) : State :=
  let s1 : State := { s with mem := v.mem, map := { s.map with data := v.d } }
  (s1.each v.writes (fun st w => (st.touch w.1 w.2).digestBeats w.1 w.2)).mapShow

/-! ### Residency (R277, R279, R342) -/

/-- Keys of the activation sets in effect. -/
def Map.named (m : Map) : List Nat := (m.sets.flatMap (fun e => e.2)).eraseDups

/-- A shadow not yet applied and not squashed lies on the tile of store frame `f`: by its key or the object it names. -/
def State.shadowPins (s : State) (f key : Nat) : Bool :=
  let v := s.mapView
  s.map.data.shadows.any (fun sh => !sh.applied && !s.map.data.squashed.contains sh.epoch &&
    (let r := s.mem.readBytes sh.addr 64
     match leAt r 0 1 with
     | 1 => leAt r 8 8 == key
     | 2 | 3 | 4 =>
       let h := leAt r 4 4
       if h < 2 ^ 31 then h / 256 == f
       else match SMap.find v.d.bound (boundKey sh.epoch h) with
         | some (.landmark g _) => g == f
         | _ => s.map.data.shadows.any (fun x => boundKey x.epoch x.handle == boundKey sh.epoch h && leNat (s.mem.readBytes (x.addr + 8) 8) == key)
     | _ => false))

/-- The traffic of one tile of MAP, charged to its free pool (R279); `step2`: begun at step 2 of a boundary, so that it draws on the
pools that step 3 refills. -/
def State.chargeMapTile (s : State) (step2 : Bool) : State :=
  if step2 then { s with ccu := { s.ccu with poolWaits := s.ccu.poolWaits ++ [⟨4, 0, 257, none, s.core⟩] } }
  else s.chargePool 4 0 257 none

/-- Store the tile of a table frame in its store frame. -/
def State.writeBackTile (s : State) (t : Nat) (step2 : Bool) : State :=
  match SMap.find s.map.data.frames t with
  | none => s
  | some fr =>
    let b := tileBytes s.mem s.map.data s.mapBases fr.store
    let s1 : State := { s with mem := s.mem.writeBytes (s.mapBases.store + tileLen * fr.store) b }
    ((s1.chargeMapTile step2).count 8 8).publishTile b

/-- Promote the tile of store frame `f` into the lowest free table frame; false where none is free. -/
def State.promoteTile (s : State) (f : Nat) (step2 : Bool) : State × Bool :=
  if (s.map.data.tabOf f).isSome then (s, true)
  else
    match leastBelow 1024 (fun t => (SMap.find s.map.data.frames t).isNone) with
    | none => (s, false)
    | some t =>
      let a := s.mapBases.store + tileLen * f
      let fr : TabFrame := ⟨f, s.mem.readBytes a 64, false⟩
      let s1 : State := { s with mem := s.mem.writeBytes (0x5000000 + 16384 * t) (s.mem.readBytes (a + 64) 16384),
                                 map := { s.map with data := { s.map.data with frames := SMap.set s.map.data.frames t fr } } }
      (((s1.chargeMapTile step2).count 8 7).mapShow, true)

/-- Home address of a stored map tile (R345). -/
def State.tileHome (s : State) (f : Nat) : Nat := s.mapBases.store + tileLen * f

/-- Physical release of the tiles that nothing names or pins (R277, R279); a deferred eviction carried out raises DETAIL
0xDD (R342). -/
def State.mapRelease (s : State) (step2 : Bool) : State :=
  let s1 := s.each s.map.data.frames (fun st e =>
    let f := e.2.store
    let key := SMap.get 0 st.map.data.stored f
    if st.map.named.contains key || st.map.hostPins.contains f || st.map.promoting.contains f || st.shadowPins f key then st
    else
      let st1 := if e.2.dirty then st.writeBackTile e.1 step2 else st
      let st2 : State := { st1 with map := { st1.map with
        data := { st1.map.data with frames := SMap.erase st1.map.data.frames e.1 },
        deferred := st1.map.deferred.filter (· != f) } }
      let st3 := st2.mapShow
      if st.map.deferred.contains f then
        (st3.event 15 0xFF06 St.ok 0xDD 0 (leBytes 8 (st3.tileHome f) ++ leBytes 2 (b2n e.2.dirty) ++ zeros 2))
      else st3)
  -- a tile that waits takes the frame released
  s1.each s1.map.waiting (fun st key =>
    match dirFind st.mem st.mapBases key with
    | some (_, loc) =>
      if locTier loc = 1 then
        let p := st.promoteTile (locPlace loc) step2
        if p.2 then { p.1 with map := { p.1.map with waiting := p.1.map.waiting.filter (· != key) } } else st
      else st
    | none => st)

/-- A tile is not activated (R279). -/
def State.actFail (s : State) (key detail : Nat) : State :=
  (s.setBit Reg.MAP_STATUS 6).event 8 0xFF04 St.degraded detail mapFunc (leBytes 8 key ++ leBytes 4 s.ccu.cadence)

/-- Promote a stored tile that a set names, or let it wait for a frame. -/
def State.actPromote (s : State) (key f : Nat) : State :=
  let p := s.promoteTile f true
  if p.2 then p.1 else { s with map := { s.map with waiting := insertOnce key s.map.waiting } }

/-- A tile enters a set in effect (R279). -/
def State.activate (s : State) (key : Nat) : State :=
  let b := s.mapBases
  match dirFind s.mem b key with
  | some (_, loc) => if locTier loc = 1 then s.actPromote key (locPlace loc) else s.actFail key 0x92
  | none =>
    match leastBelow 131072 (fun f => (SMap.find s.map.data.stored f).isNone), dirFree s.mem b key with
    | some f, some way =>
      let m1 := s.mem.writeBytes way (dirEntry key f 1)
      let m2 := m1.writeBytes (b.store + tileLen * f) (sealTile (emptyHeader key) (zeros 16384))
      let s1 : State := { s with mem := m2, map := { s.map with data := { s.map.data with stored := SMap.set s.map.data.stored f key } } }
      s1.mapShow.actPromote key f
    | _, _ => s.actFail key 0x93

/-- Insert a key by its place in the order of activation. -/
def insertRank (k : Nat) : List Nat → List Nat
  | [] => [k]
  | x :: r => if Config.activationRank k ≤ Config.activationRank x then k :: x :: r else x :: insertRank k r

/-- A queue entry (Table 12.4). -/
structure MapEnt where
  queue : Nat
  depth : Nat
  done : Nat
  shadow : Nat
  result : Nat
  base : Nat

def mapHeader (image d : List Byte) : List Byte := (image.drop (Sd.program d)).take 16
def mapEntBytes (image d : List Byte) (k : Nat) : List Byte := (image.drop (Sd.program d + 16 + 32 * k)).take 32
def mapEnts (image d : List Byte) : List MapEnt :=
  (List.range (min 8 (leAt (mapHeader image d) 0 1))).map (fun k =>
    let b := mapEntBytes image d k
    ⟨leAt b 0 1, leAt b 2 2, leAt b 4 2, leAt b 8 8, leAt b 16 8, leAt b 24 8⟩)
def mapStages (image : List Byte) : List (List Byte) :=
  ((List.range (Img.stageCount image)).map (Img.desc image)).filter (fun d => Sd.cls d == 4)
def mapQueues (image : List Byte) : List MapEnt := (mapStages image).flatMap (mapEnts image)
def mapFrames (image : List Byte) : Nat := ((mapStages image).map (fun d => leAt (mapHeader image d) 2 2)).sum

/-- At this boundary a Route opens a cadence: its queues start afresh (R264). A strided Route's keep their records between its cadences. -/
def State.opensCadence (s : State) (slot : Nat) : Bool :=
  s.ccu.cadence % max 1 (Img.stride (s.img slot)) == Img.phase (s.img slot)

/-- The slot of the active Route that names a queue. -/
def State.queueSlot (s : State) (q : Nat) : Option Nat :=
  slotList.find? (fun n => (s.slot n).life.active && (mapQueues (s.img n)).any (fun e => e.queue == q))

/-- A queue keeps its records over this boundary: its Route is strided and in the middle of its cadence (assumption log 24). -/
def State.queueKept (s : State) (q : Nat) : Bool :=
  match s.queueSlot q with
  | some n => !s.opensCadence n
  | none => false

/-- Step 2 of a boundary: the queues start afresh, the oldest epoch's slot is reused, the sets built come into effect
(R264, R273, R278, R279). -/
def State.mapBoundary (s : State) : State :=
  let n := s.ccu.cadence
  let s1 := s.each (List.range 64) (fun st q =>
    if st.queueKept q then st else st.setFld (Reg.MAP_Q_STATE q) 0 15 (SMap.get 0 st.map.run q))
  let m := s1.map
  let old := m.named
  let d := { m.data with
    shadows := m.data.shadows.filter (fun sh => decide (n < sh.epoch + 4)),
    squashed := m.data.squashed.filter (fun e => decide (n < e + 4)),
    bound := m.data.bound.keep (fun k => decide (n < k / 2 ^ 32 + 8)) }
  let s2 := s1.setMap { m with
    data := d, frozen := none, received := m.received.keep s.queueKept, run := m.run.keep s.queueKept,
    stages := m.stages.keep (fun k => !s.opensCadence (k / 65536)), sets := m.built, waiting := [] }
  let new := s2.map.named
  let s3 := s2.each (new.foldr insertRank []) (fun st key =>
    if old.contains key then
      match dirFind st.mem st.mapBases key with
      | some (_, loc) => if locTier loc = 1 then st.actPromote key (locPlace loc) else st
      | none => st
    else st.activate key)
  s3.mapRelease true

/-- The Route enters STARTING: its stages' sets are empty (R278). -/
def State.mapRouteStart (s : State) (slot : Nat) : State :=
  s.setMap { s.map with built := s.map.built.keep (fun k => k / 65536 != slot), sets := s.map.sets.keep (fun k => k / 65536 != slot) }
def State.mapRouteOff (s : State) (slot : Nat) : State := (s.mapRouteStart slot).mapRelease false

/-! ### Stages and queues (R264 to R267) -/

def State.mapStage (s : State) (r : Run) : MapStage := SMap.get MapStage.reset s.map.stages (flagKey r.slot r.index)
def State.setMapStage (s : State) (r : Run) (x : MapStage) : State :=
  s.setMap { s.map with stages := SMap.set s.map.stages (flagKey r.slot r.index) x }

/-- The owner of a queue among the Routes that are active: its entry. -/
def State.queueEnt (s : State) (q : Nat) : Option MapEnt :=
  (slotList.filter (fun n => (s.slot n).life.active)).findSome? (fun n => (mapQueues (s.img n)).find? (fun e => e.queue == q))

/-- Post a record to a queue: its position, or none beyond DEPTH (R265). -/
def State.mapPut (s : State) (e : MapEnt) (rec : List Byte) : State × Bool :=
  let n := SMap.get 0 s.map.received e.queue
  if e.depth ≤ n then (s.count 8 (11 + 2 * e.queue), false)
  else
    let s1 := (s.stB (e.base + 64 * n) rec).count 8 (10 + 2 * e.queue)
    (s1.setMap { s1.map with received := SMap.set s1.map.received e.queue (n + 1) }, true)

/-- The pipe of a stage. -/
def mapPipe (d : List Byte) : Nat := if (Sd.unitMask d).testBit 0 then 0 else 1

/-- Write the result area of queue entry `k` and set its flag READY (R266, R267). -/
def State.mapResult (s : State) (r : Run) (k : Nat) (e : MapEnt) (codes : List Nat) (cut inputCut : Bool) : State :=
  let got := SMap.get 0 s.map.received e.queue
  let hdr := leBytes 2 codes.length ++ leBytes 2 got ++ leBytes 1 (b2n cut + 2 * b2n inputCut) ++ zeros 3 ++ leBytes 8 r.cadence ++
    zeros 48
  let body := codes.map (BitVec.ofNat 8) ++ List.replicate (got - codes.length) 0xFE ++ List.replicate (e.depth - got) 0xFF
  (s.writing 6 r.cadence (fun t => t.stB e.result (hdr ++ body))).runFlag r k Flag.ready

/-- What the pipe has waited since it was free: for a tile's promotion under MEM_LATENCY, else for a record or a flag under FLAG_WAIT
(R265, R279). -/
def State.mapWaited (s : State) (r : Run) : State :=
  let x := s.mapStage r
  let pipe := mapPipe (s.runDesc r)
  let wait := s.core - x.free
  let mem := match x.held with
    | some h => min wait (s.core - h)
    | none => 0
  let s1 := s.setMapStage r { x with free := max s.core x.free, held := none }
  ((s1.bankStall 8 pipe 4 (wait - mem)).bankStall 8 pipe 2 mem).updRun r.slot r.index (fun q => { q with insts := q.insts.map (fun i =>
    if i.unit = pipe then { i with wait := i.wait + (wait - mem) } else i) })

/-- The stage is cut: the entries not closed get their result areas (R266). -/
def State.mapCut (s0 : State) (r : Run) : State :=
  let s := s0.mapWaited r
  let es := mapEnts (s.img r.slot) (s.runDesc r)
  let x := s.mapStage r
  ((List.range es.length).zip es).foldl (fun st ke =>
    if ke.1 < x.entry then st
    else
      let f := st.flagOf r.slot ke.2.done
      st.mapResult r ke.1 ke.2 (if ke.1 = x.entry then x.codes else []) true (f == Flag.cut || f == Flag.stale)) s

/-- OP values of Table 12.5. -/
def mapOpOk (op : Nat) : Bool := rng op 1 13

/-- The record a stage takes next: its entry and its bytes. -/
def State.mapNext (s : State) (r : Run) : Option (MapEnt × List Byte) :=
  let x := s.mapStage r
  match (mapEnts (s.img r.slot) (s.runDesc r))[x.entry]? with
  | none => none
  | some e =>
    if x.codes.length < SMap.get 0 s.map.received e.queue then some (e, s.ldB (e.base + 64 * x.codes.length) 64) else none

/-- A record has run with a code: counts, ITEMS_DONE, the pipe's cycles (R266). -/
def State.mapRan (s0 : State) (r : Run) (e : MapEnt) (code cost : Nat) : State :=
  let s := s0.mapWaited r
  let x := s.mapStage r
  let s1 := (s.setMapStage r { x with codes := x.codes ++ [code], free := x.free + cost }).addItems r.slot r.index 1
  (s1.setMap { s1.map with run := SMap.upd 0 s1.map.run e.queue (· + 1) }).bankBusy 8 (mapPipe (s.runDesc r)) cost

/-- Take the records of an undefined OP that stand next: BAD_RECORD (R268). R269 charges their cost and Table 12.5 gives none, so the
cost is a free value (assumption log 24). -/
def State.mapSkip (s : State) (slot index : Nat) : Nat → State
  | 0 => s
  | n + 1 =>
    match s.runOf slot index with
    | none => s
    | some r =>
      match s.mapNext r with
      | none => s
      | some (e, rec) =>
        let pipe := mapPipe (s.runDesc r)
        let cost := Config.mapUndefinedCost (leAt rec 0 1)
        match r.insts.find? (fun i => i.unit == pipe) with
        | none => s
        | some i =>
          if mapOpOk (leAt rec 0 1) || i.ended then s
          else
            let spent := limitBits (s.runDesc r) i cost 0
            if spent ≠ 0 then (s.mapCut r).wall slot index pipe spent
            else ((s.chargeTo r pipe cost 0).mapRan r e 0x05 cost).mapSkip slot index n

/-- Close the queue entries that are done (R265): every record received has been taken and DONE_FLAG is not EMPTY. -/
def State.mapClose (s : State) (slot index : Nat) : Nat → State
  | 0 => s
  | n + 1 =>
    match s.runOf slot index with
    | none => s
    | some r0 =>
      let pipe := mapPipe (s.runDesc r0)
      if r0.waiting || r0.insts.all (fun i => i.ended) then s
      else
        let s1 := s.mapSkip slot index 16384
        match s1.runOf slot index with
        | none => s1
        | some r =>
          let x := s1.mapStage r
          match (mapEnts (s1.img slot) (s1.runDesc r))[x.entry]? with
          | none => s1.endInst slot index pipe
          | some e =>
            let f := s1.flagOf slot e.done
            if (s1.mapNext r).isSome || f == Flag.empty then s1
            else
              let ic := f == Flag.cut || f == Flag.stale
              let s2 := (s1.mapWaited r).mapResult r x.entry e x.codes false ic
              let s3 := if ic then s2.degrade slot index else s2
              (s3.setMapStage r { s3.mapStage r with entry := x.entry + 1, codes := [] }).mapClose slot index n

/-- Let every MAP stage close what is done. -/
def State.mapSync (s : State) : State :=
  s.each s.ccu.runs (fun st r => if Sd.cls (st.runDesc r) = 4 then st.mapClose r.slot r.index 10 else st)

/-- Post from a core (MAP_POST): ACCEPTED or DISCARDED; the poster's Route names the queue. -/
def State.mapPost (s : State) (q : Nat) (rec : List Byte) : State × Bool :=
  match s.queueEnt q with
  | none => (s, false)
  | some e => s.mapPut e ((rec ++ zeros 64).take 64)

/-- A MAP stage starts. -/
def State.mapStart (s : State) (r : Run) : State :=
  let d := s.runDesc r
  ((s.setMapStage r { MapStage.reset with free := s.core }).bankOpen 8 (mapPipe d) (s.runLayer r) (s.runOperator r) 1 r.slot).mapClose
    r.slot r.index 10

/-- The deadline of a MAP stage (R266). -/
def State.mapDeadline (s : State) (r : Run) : State := s.mapCut r

def State.mapEnd (s : State) (r : Run) : State := s.bankEnd 8 (mapPipe (s.runDesc r))

/-! ### Record checks (R268, R269) -/

/-- Reserved bytes of a record are 0 and its FLAGS defined. -/
def mapReservedOk (r : List Byte) : Bool :=
  let z := fun (a b : Nat) => zeroIn r a b
  match leAt r 0 1 with
  | 1 => z 1 2 && z 28 32
  | 2 => decide (leAt r 1 1 ≤ 1) && z 10 16 && z 28 32
  | 3 => z 1 4 && z 8 64
  | 4 => z 1 4 && z 8 64
  | 5 => z 2 4
  | 6 => z 1 4 && z 8 16 && z 56 64
  | 7 => z 1 4 && z 56 64
  | 8 => z 1 4 && z 8 64
  | 9 => decide (leAt r 2 1 ≤ 1) && z 3 8 && z 56 64
  | 10 => decide (leAt r 1 1 ≤ 1) && z 4 8 && z 24 64
  | 11 => z 40 64
  | 12 => z 1 24 && z 32 64
  | 13 => z 1 4 && z 12 16 && z 24 64
  | _ => false

def keysOf (r : List Byte) : List Nat := (List.range (min 6 (leAt r 1 1))).map (fun k => leAt r (8 + 8 * k) 8)

def posOk (r : List Byte) : Bool :=
  let p := recPos r
  decide (-(2 ^ 20) ≤ p.1) && decide (p.1 < 2 ^ 21) && decide (-(2 ^ 20) ≤ p.2.1) && decide (p.2.1 < 2 ^ 21) &&
    decide (-(2 ^ 19) ≤ p.2.2) && decide (p.2.2 < 2 ^ 20)

/-- Nodes of a GRAPH record, 0 where its range is out of bounds. -/
def graphNodes (r : List Byte) : Nat :=
  let a := leAt r 4 4; let b := leAt r 8 4
  if a ≤ b ∧ b < 2 ^ 20 ∧ b - a < 4096 then b - a + 1 else 0

/-- No RANGE condition holds (Table 12.8). -/
def mapRangeOk (s : State) (r : List Byte) : Bool :=
  match leAt r 0 1 with
  | 1 => posOk r && decide (leAt r 2 1 ≤ 4) && keyOk (leAt r 8 8)
  | 2 => posOk r && decide (leAt r 2 1 ≤ 4)
  | 5 => decide (leAt r 1 1 ≤ 15)
  | 7 => leAt r 4 4 != leAt r 8 4
  | 9 => rng (leAt r 1 1) 1 6 && (keysOf r).all keyOk
  | 10 => rng (leAt r 2 2) 1 256 && keyOk (leAt r 8 8) && inTile (leAt r 16 8) (64 + 68 * leAt r 2 2)
  | 11 => rng (leAt r 1 1) 1 64 && decide (leAt r 4 4 ≤ 255) && decide (1 ≤ leAt r 8 4) && decide (leAt r 4 4 + leAt r 8 4 ≤ 256) &&
      (addrRow (leAt r 16 8) 512).isSome && inTile (leAt r 24 8) (1024 + 16384 * leAt r 8 4) &&
      (addrRow (leAt r 32 8) (64 + 8 * leAt r 1 1)).isSome
  | 12 => inTile (leAt r 24 8) 64 && s.ld (leAt r 24 8) 4 == 0xC1E97A02
  | 13 => decide (0 < graphNodes r) && (addrRow (leAt r 16 8) (64 + 64 * graphNodes r)).isSome
  | _ => true

/-- A landmark or keyframe handle against the view (R259, R269, R273): what it names; or the code it fails with. `kf`: a
keyframe handle. An own insertion is named by its key. -/
inductive MapTarget where
  | code (c : Nat)
  | committed (f : Nat)
  | own (key : Nat)
  | keyframe

def State.mapHandle (s : State) (v : Mv) (r : Run) (x : MapStage) (h : Nat) (kf : Bool) : MapTarget :=
  let n := r.cadence
  if h < 2 ^ 31 then
    if kf then (if (v.liveKf n h).isSome then .keyframe else .code 0x02)
    else match v.liveLm n h with
      | some (f, _) => .committed f
      | none => .code 0x02
  else if !handleOk h then .code 0x02
  else
    let back := (n + 4 - bits h 28 2) % 4
    if back = 0 then
      -- an earlier record of the same stage
      let es := mapEnts (s.img r.slot) (s.runDesc r)
      let q := bits h 22 6; let pos := bits h 8 14
      match es.findIdx? (fun e => e.queue == q) with
      | none => .code 0x03
      | some k =>
        let before := decide (k < x.entry ∧ pos < SMap.get 0 s.map.received q) || (k == x.entry && decide (pos < x.codes.length))
        if !before then .code 0x03
        else if !x.inserted.contains h then .code 0x02
        else
          match s.map.data.shadows.find? (fun sh => sh.handle == h && sh.epoch == n) with
          | none => .code 0x02
          | some sh =>
            let rb := s.ldB sh.addr 64
            if kf then (if leAt rb 0 1 = 5 then .keyframe else .code 0x02)
            else if leAt rb 0 1 = 1 then .own (leAt rb 8 8) else .code 0x02
    else if n < back || s.map.data.squashed.contains (n - back) then .code 0x03
    else if kf then (if (v.liveKf n h).isSome then .keyframe else .code 0x02)
    else match v.liveLm n h with
      | some (f, _) => .committed f
      | none => .code 0x02

/-- The keys of a Route's activation sets in effect. -/
def State.routeTiles (s : State) (slot : Nat) : List Nat :=
  (s.map.sets.filter (fun e => e.1 / 65536 == slot)).flatMap (fun e => e.2)

/-- The result of a tile's activation check: none while its promotion waits for a frame. -/
def State.tileCheck (s : State) (slot key : Nat) : Option Nat :=
  if !(s.routeTiles slot).contains key then some 0x01
  else if s.map.waiting.contains key then none
  else
    match dirFind s.mem s.mapBases key with
    | some (_, loc) => if locTier loc = 1 ∧ (s.map.data.tabOf (locPlace loc)).isSome then some 0x00 else some 0x01
    | none => some 0x01

/-- The result code of a record; none where it has to wait (R269, R279). -/
def State.mapCheck (s : State) (v : Mv) (r : Run) (x : MapStage) (rec : List Byte) : Option Nat :=
  let op := leAt rec 0 1
  let land := fun (t : MapTarget) => match t with
    | .code c => some c
    | .committed f => s.tileCheck r.slot (SMap.get 0 v.d.stored f)
    | .own key => s.tileCheck r.slot key
    | .keyframe => some 0x02
  let frame := fun (t : MapTarget) => match t with
    | .code c => c
    | _ => 0
  if !mapReservedOk rec then some 0x05
  else if !mapRangeOk s rec then some 0x04
  else if op = 1 ∨ op = 10 then s.tileCheck r.slot (leAt rec 8 8)
  else if op = 2 ∨ op = 3 ∨ op = 4 then land (s.mapHandle v r x (leAt rec 4 4) false)
  else if op = 6 ∨ op = 8 then some (frame (s.mapHandle v r x (leAt rec 4 4) true))
  else if op = 7 then
    let a := frame (s.mapHandle v r x (leAt rec 4 4) true)
    some (if a = 0 then frame (s.mapHandle v r x (leAt rec 8 4) true) else a)
  else some 0x00

/-! ### What records do (R270, R278, R280 to R283) -/

/-- Write a draft shadow. -/
def State.mapShadow (s : State) (r : Run) (k : Nat) (e : MapEnt) (pos : Nat) (rec : List Byte) : State :=
  let n := r.cadence
  let a := e.shadow + 64 * (e.depth * (n % 4) + pos)
  let h := shadowHandle n e.queue pos
  let d := s.runDesc r
  let sh : Shadow := ⟨n, Sd.layer d, 256 * r.slot + r.index, k, pos, h, a, leAt (mapHeader (s.img r.slot) d) 1 1, false⟩
  let s1 := s.stB a rec
  let s2 := s1.setMap { s1.map with data := { s1.map.data with shadows := insertShadow sh s1.map.data.shadows } }
  s2.setMapStage r { s2.mapStage r with inserted := h :: (s2.mapStage r).inserted }

/-- ACTIVATE (R278). -/
def State.mapActivate (s : State) (r : Run) (rec : List Byte) : State :=
  let key := flagKey r.slot r.index
  let cap := leAt (mapHeader (s.img r.slot) (s.runDesc r)) 2 2
  let start := if (leAt rec 2 1).testBit 0 then [] else SMap.get [] s.map.built key
  let out := (keysOf rec).foldl (fun (acc : List Nat × Nat) k =>
    if acc.1.contains k then acc else if acc.1.length < cap then (acc.1 ++ [k], acc.2) else (acc.1, acc.2 + 1)) (start, 0)
  (s.setMap { s.map with built := SMap.set s.map.built key out.1 }).countN 8 6 out.2

/-- READ (R280). -/
def State.mapRead (s : State) (v : Mv) (r : Run) (rec : List Byte) : State :=
  let key := leAt rec 8 8
  match dirFind v.mem v.b key with
  | none => s
  | some (_, loc) =>
    let f := locPlace loc
    let n := r.cadence
    let recent := (v.d.shadows.filter (fun sh => decide (sh.epoch < n))).filterMap (fun sh =>
      match SMap.find v.d.bound (boundKey sh.epoch sh.handle) with
      | some (.landmark g i) => if g = f ∧ entState (v.lm f i) = 1 then some (i, sh.handle) else none
      | _ => none)
    let live := (List.range 256).filter (fun i => entState (v.lm f i) == 1)
    let old := (live.filter (fun i => !recent.any (fun p => p.1 == i))).map (fun i => (i, 256 * f + i))
    let all := old ++ recent
    let out := all.take (leAt rec 2 2)
    let desc := (leAt rec 1 1).testBit 0
    let ent := fun (i : Nat) => let x := v.lm f i; if desc then x else x.take 32 ++ zeros 32
    let hdr := leBytes 8 key ++ leBytes 2 out.length ++ leBytes 2 live.length ++ zeros 4 ++ leBytes 8 n ++ zeros 40
    s.stB (leAt rec 16 8) (hdr ++ out.flatMap (fun p => ent p.1) ++ out.flatMap (fun p => leBytes 4 p.2))

/-- SEARCH (R281). -/
def State.mapSearch (s : State) (r : Run) (rec : List Byte) : State :=
  let job := leBytes 4 0xC1E97A02 ++ (rec.drop 1).take 1 ++ zeros 1 ++ (rec.drop 2).take 2 ++ (rec.drop 4).take 12 ++ zeros 4 ++
    leBytes 8 (s.mapBases.desc + 2 ^ 21 * leAt rec 4 4) ++ (rec.drop 32).take 8 ++ leBytes 8 r.cadence ++ zeros 16
  s.stB (leAt rec 24 8) (job ++ s.ldB (leAt rec 16 8) 512)

/-- Score flags of the Route's search stage for a job, none before the stage has started. -/
def State.scoreFlags (s : State) (slot job : Nat) : Option (List Nat) :=
  (s.mxa.searches.find? (fun e => e.1 == slot && e.2.1 == job)).map (fun e => e.2.2)

/-- The search stage has finished with every score flag SELECT reads. -/
def State.selectReady (s : State) (r : Run) (rec : List Byte) : Bool :=
  let job := leAt rec 24 8
  match s.scoreFlags r.slot job with
  | none => false
  | some fl => (fl.take (s.ld (job + 12) 4)).all (fun i => s.flagOf r.slot i != Flag.empty)

/-- Higher score first, the lower number first on equal scores. -/
def insertScore (p : Int × Nat) : List (Int × Nat) → List (Int × Nat)
  | [] => [p]
  | q :: r => if q.1 < p.1 ∨ (q.1 = p.1 ∧ p.2 < q.2) then p :: q :: r else q :: insertScore p r

/-- SELECT (R282). -/
def State.mapSelect (s : State) (v : Mv) (r : Run) (rec : List Byte) : State :=
  let job := leAt rec 24 8
  let topk := s.ld (job + 4) 1; let excl := s.ld (job + 6) 2; let first := s.ld (job + 8) 4
  let slabs := min 256 (s.ld (job + 12) 4); let minS := sgn 32 (s.ld (job + 16) 4); let cad := s.ld (job + 40) 8
  let fl := (s.scoreFlags r.slot job).getD []
  let good := fun (t : Nat) => match fl[t]? with
    | some i => s.flagOf r.slot i == Flag.ready
    | none => false
  let ts := (List.range slabs).filter good
  let kept := ts.flatMap (fun t => (List.range 4096).filterMap (fun k =>
    let num := 4096 * (first + t) + k
    let x := v.kf num
    let sc := sgn 32 (s.ld (job + 1024 + 16384 * t + 4 * k) 4)
    let age := (cad + 2 ^ 32 - leAt x 88 4) % 2 ^ 32
    if kfState x = 1 ∧ excl < age ∧ age < 2 ^ 31 ∧ minS ≤ sc then some (sc, num) else none))
  let best := (kept.foldr insertScore []).take topk
  let cut := decide (ts.length < slabs)
  let hdr := leBytes 2 best.length ++ leBytes 1 (b2n cut) ++ zeros 1 ++ leBytes 4 (4096 * ts.length) ++ leBytes 8 r.cadence ++ zeros 48
  let body := best.flatMap (fun p => leBytes 4 p.2 ++ sleBytes 4 p.1)
  let s1 := s.stB (s.ld (job + 32) 8) (hdr ++ body ++ zeros (8 * topk - body.length))
  if cut then s1.degrade r.slot r.index else s1

/-- GRAPH (R283). -/
def State.mapGraph (s : State) (v : Mv) (r : Run) (rec : List Byte) : State :=
  let first := leAt rec 4 4
  let nodes := ((List.range (graphNodes rec)).map (first + ·)).filter (fun n => kfState (v.kf n) == 1)
  let node := fun (n : Nat) => leBytes 4 n ++ zeros 4 ++ ((v.kf n).drop 24).take 40 ++ zeros 16
  let odo := nodes.filterMap (fun n => let p := leAt (v.kf n) 20 4; if nodes.contains p then some (leBytes 4 n ++ leBytes 4 p ++ zeros 56) else none)
  let idx := (nodes.flatMap (fun n => ((List.range 4).map (fun j => leAt (v.kf n) (72 + 4 * j) 4)).filter (· != 0xFFFFFFFF))).eraseDups
  let loop := (List.range 65536).filterMap (fun k =>
    if idx.contains k then
      let e := v.mem.readBytes (v.b.edge + 64 * k) 64
      if nodes.contains (leAt e 0 4) && nodes.contains (leAt e 4 4) then some e else none
    else none)
  let hdr := leBytes 4 nodes.length ++ leBytes 4 odo.length ++ leBytes 4 loop.length ++ zeros 4 ++ leBytes 8 r.cadence ++ zeros 40
  s.stB (leAt rec 16 8) (hdr ++ nodes.flatMap node ++ odo.flatten ++ loop.flatten)

/-- Cost and tokens of a record (Table 12.5). -/
def mapCost (s : State) (rec : List Byte) : Nat × Nat :=
  match leAt rec 0 1 with
  | 1 => (24, 0) | 2 => (24, 0) | 3 => (12, 0) | 4 => (12, 0) | 5 => (32, 0) | 6 => (24, 0) | 7 => (24, 0) | 8 => (12, 0)
  | 9 => (16 + 4 * leAt rec 1 1, 0)
  | 10 => (32 + 4 * leAt rec 2 2, 0)
  | 11 => (80, 0)
  | 12 => (32 + 1024 * s.ld (leAt rec 24 8 + 12) 4, 0)
  | 13 => let n := leAt rec 8 4 + 1 - leAt rec 4 4; (64 + 24 * n, 6 * n)
  | _ => (0, 0)

/-- What a record with code 0x00 does. -/
def State.mapDo (s : State) (v : Mv) (r : Run) (k : Nat) (e : MapEnt) (pos : Nat) (rec : List Byte) : State :=
  match leAt rec 0 1 with
  | 9 => s.mapActivate r rec
  | 10 => s.mapRead v r rec
  | 11 => s.mapSearch r rec
  | 12 => s.mapSelect v r rec
  | 13 => s.mapGraph v r rec
  | _ => s.mapShadow r k e pos rec

/-- The record of an operation that stands next in a pipe's queue is issued (R265, R266, R269). -/
def mapRow (op pipe : Nat) (s : State) : State :=
  match s.runOn 4 pipe with
  | none => s
  | some r0 =>
    let s0 := s.mapClose r0.slot r0.index 10
    match s0.runOf r0.slot r0.index with
    | none => s0
    | some r =>
      match s0.mapNext r, r.insts.find? (fun i => i.unit == pipe) with
      | some (e, rec), some inst =>
        let x := s0.mapStage r
        let pos := x.codes.length
        if leAt rec 0 1 ≠ op ∨ inst.ended ∨ r.waiting then s0
        else
          let cost := mapCost s0 rec
          let spent := limitBits (s0.runDesc r) inst cost.1 cost.2
          if spent ≠ 0 then (s0.mapCut r).wall r.slot r.index pipe spent
          else
            let v := s0.mapView
            match s0.mapCheck v r x rec with
            | none => s0.setMapStage r { x with held := some (x.held.getD (max s0.core x.free)) }
            | some code =>
              if op = 12 ∧ code = 0 ∧ !s0.selectReady r rec then s0
              else
                let s1 := s0.chargeTo r pipe cost.1 cost.2
                let s2 := if code = 0 then s1.mapDo v r x.entry e pos rec else s1
                (s2.mapRan r e code cost.1).mapClose r.slot r.index 10
      | _, _ => s0

/-! ### Commit, squash, initialisation -/

/-- MAP holds draft state of an epoch. -/
def State.mapHolds (s : State) (e : Nat) : Bool := s.map.data.shadows.any (fun sh => sh.epoch == e && !sh.applied)

/-- LIVE keyframes and live edges by what a commit did. -/
def State.mapLive (s : State) (v : Mv) (ops : List Nat) (edges : Int) : State :=
  let kf : Int := ((ops.filter (· == 5)).length : Int) - (v.drops.getD 2 0 : Nat)
  ((s.setRegN Reg.MAP_KF_LIVE (unsgn 21 ((s.fld Reg.MAP_KF_LIVE 0 21 : Int) + kf))).setRegN Reg.MAP_EDGES_LIVE
    (unsgn 17 ((s.fld Reg.MAP_EDGES_LIVE 0 17 : Int) + edges)))

/-- A commit of epoch `e` resolved at cadence `cad` (R271): the map's freeze for it, each shadow applied in order, the charged
cycles, the link and drop records, and the release of what nothing names. -/
def State.mapCommitted (s : State) (e cad : Nat) : State :=
  let n := s.ccu.cadence
  let s0 := if e = n ∧ s.map.frozen.isNone then s.setMap { s.map with frozen := some (s.mem, s.map.data) } else s
  let due := s0.map.data.shadows.filter (fun sh => sh.epoch == e && !sh.applied)
  let ops := due.map (fun sh => s0.ld sh.addr 1)
  let v0 := s0.mapNow
  -- keyframes retired and edges freed are counted shadow by shadow
  let acc := due.foldl (fun (a : Mv × Int × Int) sh =>
    let v := a.1
    let r := v.mem.readBytes sh.addr 64
    let gone : Int × Int := if leAt r 0 1 = 8 then
        match v.liveKf sh.epoch (leAt r 4 4) with
        | some k => (1, (leAt (v.kf k) 6 1 : Nat))
        | none => (0, 0)
      else (0, 0)
    (v.apply sh, a.2.1 + gone.1, a.2.2 + gone.2)) (v0, 0, 0)
  let v := acc.1
  let mark := { v.d with shadows := v.d.shadows.map (fun sh => if sh.epoch = e then { sh with applied := true } else sh) }
  let cyc := 8 * (ops.filter (fun o => decide (o ≤ 4))).length + 64 * (ops.filter (fun o => decide (5 ≤ o))).length
  let s1 := s0.bankOpen 8 2 0 0 3 0xFF
  let s2 := s1.writing 6 cad (fun t => t.takeMv { v with d := mark })
  let s3 := (s2.mapLive v ops ((v.loops.length : Nat) - acc.2.2))
  let s4 := s3.setRegN Reg.MAP_KF_LIVE (s3.fld Reg.MAP_KF_LIVE 0 21 - acc.2.1.toNat)
  let s5 := s4.each v.loops (fun st ab => st.event 8 0xFF04 St.ok 0x91 mapFunc (leBytes 4 e ++ leBytes 4 ab.1 ++ leBytes 4 ab.2))
  let s6 := ((s5.bankBusy 8 2 cyc).bankEnd 8 2).countN 8 9 cyc
  let s7 := (s6.setRegN Reg.MAP_LAST_COMMIT (e % 2 ^ 32)).ackEpoch 1
  let d := fun (k : Nat) => v.drops.getD k 0
  let s8 := (((s7.countN 8 2 (d 0)).countN 8 3 (d 1)).countN 8 4 (d 2)).countN 8 5 (d 3)
  let s9 := if v.drops.all (· == 0) then s8
    else (s8.setBit Reg.MAP_STATUS 5).event 8 0xFF04 St.degraded 0x90 mapFunc
      (leBytes 4 e ++ leBytes 2 (d 0) ++ leBytes 2 (d 1) ++ leBytes 2 (d 2) ++ leBytes 2 (d 3))
  s9.mapRelease false

/-- MAP_COMMIT: the shadows of the epoch being committed are applied in canonical order, MAP acknowledges, dropped shadows
are reported (R271). -/
def mapCommit (s : State) : State :=
  match s.ccu.resolving with
  | some (e, true, hs, cad, _) => if hs.contains 1 then s.mapCommitted e cad else s
  | _ => s

/-- MAP_SQUASH: the shadows of the epoch are void, MAP acknowledges (R272). -/
def mapSquash (s : State) : State :=
  match s.ccu.resolving with
  | some (e, false, hs, _, _) =>
    if !hs.contains 1 then s
    else
      let s1 := s.setMap { s.map with data := { s.map.data with squashed := insertOnce e s.map.data.squashed } }
      ((s1.setRegN Reg.MAP_LAST_SQUASH (e % 2 ^ 32)).ackEpoch 1).mapRelease false
  | _ => s

/-- A write of MAP_CTRL.INIT (R263). -/
def mapInit (s : State) : State :=
  if (s.func mapFunc).life = Life.off ∧ s.mapBases.set = true ∧ s.bitOf Reg.MAP_STATUS 3 = false then s.setBit Reg.MAP_STATUS 3
  else s.setBit Reg.MAP_STATUS 4

/-- Initialisation completes (R263). -/
def mapInitComplete (s : State) : State :=
  if !s.bitOf Reg.MAP_STATUS 3 then s
  else
    let b := s.mapBases
    let m := (((s.mem.clear b.dir (2 ^ 24)).clear b.kf (2 ^ 27)).clear b.desc (2 ^ 29)).clear b.edge (2 ^ 22)
    let m1 := m.clear 0x5000000 (2 ^ 24)
    let s1 : State := { s with mem := m1, map := { s.map with data := MapData.reset, frozen := none, waiting := [], hostPins := [], deferred := [] } }
    let s2 := ((s1.setRegN Reg.MAP_KF_LIVE 0).setRegN Reg.MAP_EDGES_LIVE 0).mapShow
    (((s2.clrBit Reg.MAP_STATUS 3).setBit Reg.MAP_STATUS 2).setReady mapFunc).event 8 0xFF04 St.ok 0x94 mapFunc (zeros 12)

/-! ### Route checks (R264) -/

def mapLoadRefusal (image : List Byte) : Option Nat :=
  let entOk := fun (d : List Byte) (k : Nat) =>
    let b := mapEntBytes image d k
    let dep := leAt b 2 2
    b.length == 32 && decide (leAt b 0 1 < 64) && zeroIn b 1 2 && rng dep 1 16384 && zeroIn b 6 8 &&
      leAt b 8 8 % 64 == 0 && inTile (leAt b 8 8) (256 * dep) && leAt b 16 8 % 64 == 0 && inTile (leAt b 16 8) (64 + dep) &&
      leAt b 24 8 % 64 == 0 && inTile (leAt b 24 8) (64 * dep)
  let bad := (mapStages image).any (fun d =>
    let h := mapHeader image d
    h.length != 16 || !rng (leAt h 0 1) 1 8 || leAt h 1 1 == 0 || !rng (leAt h 2 2) 1 1024 || !zeroIn h 4 16 ||
      !(Sd.unitMask d == 1 || Sd.unitMask d == 2) || (List.range (leAt h 0 1)).any (fun k => !entOk d k))
  let qs := (mapQueues image).map (fun e => e.queue)
  if bad then some 0x9B else if qs.length != qs.eraseDups.length then some 0x9C else none

/-- The three ranges of a queue entry. -/
def MapEnt.ranges (e : MapEnt) : List (Nat × Nat) :=
  [(e.base, e.base + 64 * e.depth), (e.shadow, e.shadow + 256 * e.depth), (e.result, e.result + 64 + e.depth)]

/-- Two ranges share a byte. -/
def overlap (a b : Nat × Nat) : Bool := decide (a.1 < b.2) && decide (b.1 < a.2)

/-- Some pair of different entries overlaps. -/
def anyOverlap : List MapEnt → Bool
  | [] => false
  | e :: r => r.any (fun f => e.ranges.any (fun a => f.ranges.any (overlap a))) || anyOverlap r

def mapEnableRefusal (image : List Byte) (others : List (List Byte)) : Option Nat :=
  let mine := mapQueues image
  let theirs := others.flatMap mapQueues
  if mine.any (fun e => theirs.any (fun f => f.queue == e.queue)) then some 0x0D
  else if !(mapStages image).isEmpty && decide (1024 < mapFrames image + (others.map mapFrames).sum) then some 0x0E
  else if mine.any (fun e => theirs.any (fun f => e.ranges.any (fun a => f.ranges.any (overlap a)))) || anyOverlap mine then some 0x15
  else none

/-! ### Host commands (R284 to R286) -/

/-- MAP has not been initialised. -/
def State.mapNotReady (s : State) : Bool := !s.bitOf Reg.MAP_STATUS 2

/-- The key with TX increased by `k`. -/
def keyPlus (key k : Nat) : Nat := key / 2 ^ 20 * 2 ^ 20 + (key + k) % 2 ^ 20

/-- Flash address of an archive slot (R260). -/
def State.arcAddr (s : State) (slot : Nat) : Nat := 0x4000000000 + s.pair Reg.MAP_ARC_BASE_LO Reg.MAP_ARC_BASE_HI + 32768 * slot

/-- One tile as MAP_READ and TILE_EXPORT give it (R285). A tile in transit is given from where it was. -/
def State.readTile (s : State) (key : Nat) : List Byte :=
  match dirFind s.mem s.mapBases key with
  | none => zeros 8 ++ leBytes 8 key ++ zeros (tileLen - 16)
  | some (_, loc) =>
    let arch := s.map.data.archive.find? (fun e => e.2 == key)
    if locTier loc = 1 then tileBytes s.mem s.map.data s.mapBases (locPlace loc)
    else match s.map.data.stored.find? (fun e => e.2 == key), arch with
      | some e, _ => tileBytes s.mem s.map.data s.mapBases e.1
      | none, some e => s.ldB (s.arcAddr e.1) tileLen
      | none, none => zeros 8 ++ leBytes 8 key ++ zeros (tileLen - 16)

/-- One entry of MAP_READ. -/
def State.mapEntry (s : State) (kind first k : Nat) : List Byte :=
  let v := s.mapNow
  if kind = 0 then
    let lid := first + k
    if (SMap.find v.d.stored (lid / 256)).isSome then v.lm (lid / 256) (lid % 256) else zeros 64
  else if kind = 1 then (if first + k < 2 ^ 20 then v.kf (first + k) else zeros 128)
  else s.readTile (keyPlus first k)

/-- MAP_READ (R285). -/
def bodyMapRead (p : CmdPacket) (s : State) : Reply × State :=
  let kind := param p 16 1; let first := param p 20 8; let count := param p 28 4
  if s.mapNotReady then (Reply.busy 0x9D, s)
  else if decide (2 < kind) || count == 0 || decide ((if kind = 2 then 256 else 65536) < count) ||
      (kind == 0 && decide (2 ^ 25 ≤ first)) || (kind == 1 && decide (2 ^ 20 ≤ first)) ||
      (kind == 2 && (!keyOk first || decide (524287 < sgn 20 (first % 2 ^ 20) + (count : Int) - 1))) then (Reply.bad 0x95, s)
  else
    let bs := (List.range count).flatMap (s.mapEntry kind first)
    let s1 := s.chargePool 7 (ceilDiv bs.length 64) (ceilDiv bs.length 64) (some s.longKey)
    (Reply.accepted, (s1.hostSt (param p 32 8) bs).longDone s.longKey St.ok 0 (result [(20, 4, count)]))

/-- TILE_EXPORT (R285). -/
def bodyTileExport (p : CmdPacket) (s : State) : Reply × State :=
  let key := param p 16 8
  if s.mapNotReady then (Reply.busy 0x9D, s)
  else if !keyOk key || (dirFind s.mem s.mapBases key).isNone then (Reply.bad 0x96, s)
  else
    let t := s.readTile key
    let s1 := s.chargePool 7 257 257 (some s.longKey)
    (Reply.accepted, (s1.hostSt (param p 24 8) t).longDone s.longKey St.ok 0 (result [(20, 8, key), (28, 4, leAt t 60 4)]))

/-- A landmark entry of a tile is within its fields' ranges. -/
def lmOk (e : List Byte) : Bool :=
  let x := sleAt e 4 4; let y := sleAt e 8 4; let z := sleAt e 12 4
  decide (leAt e 0 1 < 8) && decide (entState e ≤ 2) && decide (-(2 ^ 20) ≤ x) && decide (x < 2 ^ 21) && decide (-(2 ^ 20) ≤ y) &&
    decide (y < 2 ^ 21) && decide (-(2 ^ 19) ≤ z) && decide (z < 2 ^ 20) && decide (leAt e 17 1 ≤ 4) && zeroIn e 18 20 &&
    decide (leAt e 20 4 < 2 ^ 21)

/-- A tile of 16,448 bytes is well formed for a key (Table 12.11, 0x97). -/
def tileOk (key : Nat) (t : List Byte) : Bool :=
  let pay := t.drop 64
  let ents := (List.range 256).map (fun i => (pay.drop (64 * i)).take 64)
  leAt t 0 4 == 0xC1E97A01 && leAt t 8 8 == key && keyOk key && zeroIn t 34 60 && leAt t 60 4 == crc32 (t.take 60 ++ pay) &&
    leAt t 4 2 == (ents.filter (fun e => entState e == 1)).length && ents.all lmOk

/-- A tile is in an activation set in effect or taking effect, pinned, or in transit. -/
def State.tileBusy (s : State) (key : Nat) : Bool :=
  let hit := match dirFind s.mem s.mapBases key with
    | some (_, loc) => locTier loc == 3 || (locTier loc == 1 &&
        (s.map.hostPins.contains (locPlace loc) || s.map.promoting.contains (locPlace loc) || s.shadowPins (locPlace loc) key))
    | none => s.shadowPins (2 ^ 20) key
  s.map.named.contains key || s.map.built.any (fun e => e.2.contains key) || hit

/-- Write a tile to the Erg store, replacing any stored or archived copy (R286); none where there is no room. -/
def State.importTile (s : State) (key : Nat) (t : List Byte) : Option State :=
  let b := s.mapBases
  let place : Option (Nat × Nat) := match dirFind s.mem b key with
    | some (a, loc) => if locTier loc = 1 then some (a, locPlace loc)
      else (leastBelow 131072 (fun f => (SMap.find s.map.data.stored f).isNone)).map (fun f => (a, f))
    | none =>
      match dirFree s.mem b key, leastBelow 131072 (fun f => (SMap.find s.map.data.stored f).isNone) with
      | some a, some f => some (a, f)
      | _, _ => none
  place.map (fun af =>
    let m := (s.mem.writeBytes af.1 (dirEntry key af.2 1)).writeBytes (b.store + tileLen * af.2) t
    -- a copy still in the landmark table goes
    let d := { s.map.data with stored := SMap.set s.map.data.stored af.2 key,
                               archive := s.map.data.archive.filter (fun e => e.2 != key),
                               frames := s.map.data.frames.filter (fun e => e.2.store != af.2) }
    ({ s with mem := m, map := { s.map with data := d } } : State).mapShow)

/-- TILE_IMPORT (R286). -/
def bodyTileImport (p : CmdPacket) (s : State) : Reply × State :=
  let key := param p 16 8
  let t := s.hostLd (param p 24 8) tileLen
  if s.mapNotReady then (Reply.busy 0x9D, s)
  else if !tileOk key t then (Reply.bad 0x97, s)
  else if s.tileBusy key then (Reply.busy 0x98, s)
  else
    match s.importTile key t with
    | none => (Reply.bad 0x99, s)
    | some s1 => (Reply.accepted, (s1.chargePool 7 257 257 (some s.longKey)).longDone s.longKey St.ok 0 (result [(20, 8, key)]))

/-! ### The rows -/

/-- INSERT (R270). -/
def execInsert (pipe : Nat) (s : State) : Out := .next (s.act (mapRow 1 pipe))
/-- UPDATE (R270). -/
def execUpdate (pipe : Nat) (s : State) : Out := .next (s.act (mapRow 2 pipe))
/-- MISS (R270). -/
def execMiss (pipe : Nat) (s : State) : Out := .next (s.act (mapRow 3 pipe))
/-- RETIRE (R270). -/
def execRetire (pipe : Nat) (s : State) : Out := .next (s.act (mapRow 4 pipe))
/-- KF_INSERT (R270). -/
def execKfInsert (pipe : Nat) (s : State) : Out := .next (s.act (mapRow 5 pipe))
/-- KF_UPDATE (R270). -/
def execKfUpdate (pipe : Nat) (s : State) : Out := .next (s.act (mapRow 6 pipe))
/-- LOOP (R270). -/
def execLoop (pipe : Nat) (s : State) : Out := .next (s.act (mapRow 7 pipe))
/-- KF_RETIRE (R270). -/
def execKfRetire (pipe : Nat) (s : State) : Out := .next (s.act (mapRow 8 pipe))
/-- ACTIVATE (R278). -/
def execActivate (pipe : Nat) (s : State) : Out := .next (s.act (mapRow 9 pipe))
/-- READ (R280). -/
def execRead (pipe : Nat) (s : State) : Out := .next (s.act (mapRow 10 pipe))
/-- SEARCH (R281). -/
def execSearch (pipe : Nat) (s : State) : Out := .next (s.act (mapRow 11 pipe))
/-- SELECT (R282). -/
def execSelect (pipe : Nat) (s : State) : Out := .next (s.act (mapRow 12 pipe))
/-- GRAPH (R283). -/
def execGraph (pipe : Nat) (s : State) : Out := .next (s.act (mapRow 13 pipe))
/-- MAP_COMMIT (R271). -/
def execMapCommit (s : State) : Out := .next (s.act mapCommit)
/-- MAP_SQUASH (R272). -/
def execMapSquash (s : State) : Out := .next (s.act mapSquash)
/-- INIT_COMPLETE (R263). -/
def execInitComplete (s : State) : Out := .next (s.act mapInitComplete)

end Sys2Proof.Machine
end

