-- ==== Sys2Proof/Machine/Crypto.lean ====
section
/-! DEFINITION. SHA-384 (FIPS 180-4) and ECDSA verification on P-384 (FIPS 186-5), which the boot ROM and ROUTE_LOAD use
(R442, R445). -/

namespace Sys2Proof.Machine

/-! ### SHA-384 -/

/-- The first 80 primes. -/
def primes80 : List Nat :=
  (List.range 410).filter (fun n => decide (2 ≤ n) && (List.range n).all (fun d => decide (d < 2) || n % d != 0))

/-- The greatest r below 2^k + `r` whose cube does not exceed n. -/
def icbrtAux : Nat → Nat → Nat → Nat
  | 0, _, r => r
  | k + 1, n, r => let c := r + 2 ^ k; icbrtAux k n (if c * c * c ≤ n then c else r)

/-- Round constants: 64 fraction bits of the cube roots of the first 80 primes. -/
def shaK : List Nat := primes80.map (fun p => icbrtAux 68 (p * 2 ^ 192) 0 % 2 ^ 64)

/-- Initial hash of SHA-384: 64 fraction bits of the square roots of the ninth to sixteenth primes. -/
def shaInit : List Nat := ((primes80.drop 8).take 8).map (fun p => isqrt (p * 2 ^ 128) % 2 ^ 64)

def w64 (x : Nat) : Nat := x % 2 ^ 64
def rotr64 (x n : Nat) : Nat := w64 (x / 2 ^ n + x * 2 ^ (64 - n))
def not64 (x : Nat) : Nat := 2 ^ 64 - 1 - w64 x

/-- The message schedule, newest word first. -/
def shaSchedule : Nat → List Nat → List Nat
  | 0, w => w
  | n + 1, w =>
    let g := fun (k : Nat) => w.getD (k - 1) 0
    let s0 := (rotr64 (g 15) 1 ^^^ rotr64 (g 15) 8) ^^^ (g 15 / 2 ^ 7)
    let s1 := (rotr64 (g 2) 19 ^^^ rotr64 (g 2) 61) ^^^ (g 2 / 2 ^ 6)
    shaSchedule n (w64 (s1 + g 7 + s0 + g 16) :: w)

/-- One round on the working variables a to h. -/
def shaRound (v : List Nat) (kw : Nat × Nat) : List Nat :=
  match v with
  | [a, b, c, d, e, f, g, h] =>
    let s1 := (rotr64 e 14 ^^^ rotr64 e 18) ^^^ rotr64 e 41
    let ch := (e &&& f) ^^^ (not64 e &&& g)
    let t1 := h + s1 + ch + kw.1 + kw.2
    let s0 := (rotr64 a 28 ^^^ rotr64 a 34) ^^^ rotr64 a 39
    let mj := ((a &&& b) ^^^ (a &&& c)) ^^^ (b &&& c)
    [w64 (t1 + s0 + mj), a, b, c, w64 (d + t1), e, f, g]
  | v => v

/-- One 128-byte block. -/
def shaBlock (ks : List Nat) (h : List Nat) (block : List Byte) : List Nat :=
  let w := (List.range 16).map (fun i => beAt block (8 * i) 8)
  let sched := (shaSchedule 64 w.reverse).reverse
  ((ks.zip sched).foldl shaRound h).zipWith (fun a b => w64 (a + b)) h

def shaBlocks (ks : List Nat) : Nat → List Nat → List Byte → List Nat
  | 0, h, _ => h
  | n + 1, h, bs => shaBlocks ks n (shaBlock ks h (bs.take 128)) (bs.drop 128)

/-- SHA-384 of a byte string: 48 bytes. -/
def sha384 (bs : List Byte) : List Byte :=
  let n := bs.length
  let pad := (128 - (n + 17) % 128) % 128
  let m := bs ++ (0x80 : Byte) :: zeros pad ++ beBytes 16 (8 * n)
  ((shaBlocks shaK (m.length / 128) shaInit m).take 6).flatMap (beBytes 8)

/-! ### P-384 -/

namespace P384
def p : Nat := 2 ^ 384 - 2 ^ 128 - 2 ^ 96 + 2 ^ 32 - 1
def n : Nat := 0xffffffffffffffffffffffffffffffffffffffffffffffffc7634d81f4372ddf581a0db248b0a77aecec196accc52973
def b : Nat := 0xb3312fa7e23ee7e4988e056be3f82d19181d9c6efe8141120314088f5013875ac656398d8a2ed19d2a85c8edd3ec2aef
def gx : Nat := 0xaa87ca22be8b05378eb1c71ef320ad746e1d3b628ba79b9859f741e082542a385502f25dbf55296c3a545e3872760ab7
def gy : Nat := 0x3617de4a96262c6f5d9e98bf9292dc29f8f41dbd289a147ce9da3113b5f0b8c00a60b1ce1d7e819d7a431d7c90ea0e5f

/-- a^e mod m over the `k` low bits of e. -/
def pow (m a : Nat) : Nat → Nat → Nat
  | 0, _ => 1 % m
  | k + 1, e =>
    let h := pow m a k (e / 2)
    let q := h * h % m
    if e % 2 = 1 then q * a % m else q

/-- Inverse modulo a prime of at most 384 bits. -/
def inv (m a : Nat) : Nat := pow m (a % m) 384 (m - 2)

def sub (a c : Nat) : Nat := (a + p - c % p) % p

/-- A point in Jacobian coordinates; Z of 0 is the point at infinity. -/
structure Pt where
  x : Nat
  y : Nat
  z : Nat

def Pt.inf : Pt := ⟨1, 1, 0⟩

def double (q : Pt) : Pt :=
  let yy := q.y * q.y % p
  let s := 4 * q.x * yy % p
  let zz := q.z * q.z % p
  let m := 3 * (sub q.x zz) * (q.x + zz) % p
  let x := sub (m * m % p) (2 * s)
  ⟨x, sub (m * sub s x % p) (8 * (yy * yy % p)), 2 * q.y * q.z % p⟩

def add (q r : Pt) : Pt :=
  if q.z = 0 then r else if r.z = 0 then q
  else
    let z1 := q.z * q.z % p; let z2 := r.z * r.z % p
    let u1 := q.x * z2 % p; let u2 := r.x * z1 % p
    let s1 := q.y * z2 * r.z % p; let s2 := r.y * z1 * q.z % p
    let h := sub u2 u1; let d := sub s2 s1
    if h = 0 then (if d = 0 then double q else Pt.inf)
    else
      let hh := h * h % p; let hhh := h * hh % p; let v := u1 * hh % p
      let x := sub (sub (d * d % p) hhh) (2 * v)
      ⟨x, sub (d * sub v x % p) (s1 * hhh % p), h * q.z * r.z % p⟩

/-- k · q over the `i` low bits of k. -/
def mul (q : Pt) : Nat → Nat → Pt
  | 0, _ => Pt.inf
  | i + 1, k =>
    let h := double (mul q i (k / 2))
    if k % 2 = 1 then add h q else h

def onCurve (x y : Nat) : Bool := decide (x < p) && decide (y < p) && y * y % p == (sub (x * x * x % p) (3 * x) + b) % p

/-- The affine x coordinate of a point. -/
def affX (q : Pt) : Nat := let i := inv p q.z; q.x * (i * i % p) % p

/-- ECDSA verification: key and signature as 96 bytes, x then y and r then s, each most significant byte first. -/
def verify (key digest sig : List Byte) : Bool :=
  let x := beAt key 0 48; let y := beAt key 48 48
  let r := beAt sig 0 48; let s := beAt sig 48 48
  if !onCurve x y || r == 0 || s == 0 || decide (n ≤ r) || decide (n ≤ s) then false
  else
    let w := inv n s
    let u1 := beNat digest * w % n; let u2 := r * w % n
    let q := add (mul ⟨gx, gy, 1⟩ 384 u1) (mul ⟨x, y, 1⟩ 384 u2)
    q.z != 0 && affX q % n == r
end P384

end Sys2Proof.Machine
end

