-- ==== Sys2Proof/Machine/Vis.lean ====
section
/-! DEFINITION. The Vision Front engines (ch. 7): RECT, PYR, CRN and DSC units in canonical order, the feature block,
stream sub-buckets, alternative grids. -/

namespace Sys2Proof.Machine

def State.visCtx (s : State) (i : Nat) : VisCtx := SMap.get VisCtx.reset s.vis.ctxs i
def State.setVis (s : State) (i : Nat) (c : VisCtx) : State := { s with vis := { s.vis with ctxs := SMap.set s.vis.ctxs i c } }

/-! ### Stream block fields (Table 7.1) -/
namespace Vb
def stream (b : List Byte) : Nat := leAt b 0 2
def levelsOut (b : List Byte) : Nat := leAt b 2 1
def cornerLevels (b : List Byte) : Nat := leAt b 3 1
def rectW (b : List Byte) : Nat := leAt b 4 2
def rectH (b : List Byte) : Nat := leAt b 6 2
def fastT (b : List Byte) : Nat := leAt b 8 2
def arc (b : List Byte) : Nat := leAt b 10 1
def bucketLog2 (b : List Byte) : Nat := leAt b 11 1
def bucketMax (b : List Byte) : Nat := leAt b 12 1
def border (b : List Byte) : Nat := leAt b 13 1
def directArray (b : List Byte) : Nat := leAt b 14 1
def gridMode (b : List Byte) : Nat := leAt b 15 1
def maxCorners (b : List Byte) (l : Nat) : Nat := leAt b (16 + 2 * l) 2
def lbLines (b : List Byte) : Nat := leAt b 26 2
def scoreMin (b : List Byte) : Nat := leAt b 28 4
def gridOfs (b : List Byte) : Nat := leAt b 32 4
def patternOfs (b : List Byte) : Nat := leAt b 36 4
def outBase (b : List Byte) : Nat := leAt b 40 8
def shareCyc (b : List Byte) : Nat := leAt b 48 4
def shareTok (b : List Byte) : Nat := leAt b 52 4
def ctx (b : List Byte) : Nat := stream b - 0x010
/-- Width and height of level `l`. -/
def width (b : List Byte) : Nat → Nat
  | 0 => rectW b
  | l + 1 => (width b l + 1) / 2
def height (b : List Byte) : Nat → Nat
  | 0 => rectH b
  | l + 1 => (height b l + 1) / 2
/-- Bands of level `l`. -/
def bands (b : List Byte) (l : Nat) : Nat := ceilDiv (height b l) 16
/-- The highest computed level (R141). -/
def top (b : List Byte) : Nat := (levelsOut b ||| cornerLevels b ||| 1).log2
/-- Cell rows of level `l` (R153). -/
def cellRows (b : List Byte) (l : Nat) : Nat := ceilDiv (height b l) (2 ^ bucketLog2 b)
/-- The last band of cell row `r`. -/
def rowBand (b : List Byte) (l r : Nat) : Nat := min (((r + 1) * 2 ^ bucketLog2 b - 1) / 16) (bands b l - 1)
def outLevels (b : List Byte) : List Nat := (List.range 5).filter (fun l => (levelsOut b).testBit l)
def cornLevels (b : List Byte) : List Nat := (List.range 5).filter (fun l => (cornerLevels b).testBit l)
/-- Flags of the stream: bands of the levels out, lists, header (R148). -/
def flagCount (b : List Byte) : Nat := ((outLevels b).map (bands b)).sum + (cornLevels b).length + 1
def bandFlag (b : List Byte) (l k : Nat) : Nat := (((outLevels b).filter (· < l)).map (bands b)).sum + k
def listFlag (b : List Byte) (l : Nat) : Nat := ((outLevels b).map (bands b)).sum + ((cornLevels b).filter (· < l)).length
def headerFlag (b : List Byte) : Nat := flagCount b - 1
/-- Address of level `l`'s image, and of the feature block (R148). -/
def levelAddr (b : List Byte) (l : Nat) : Nat :=
  outBase b + (((outLevels b).filter (· < l)).map (fun k => height b k * pad64 (2 * width b k))).sum
def featureAddr (b : List Byte) : Nat := levelAddr b 5
def totalCorners (b : List Byte) : Nat := ((List.range 5).map (maxCorners b)).sum
def cornersBefore (b : List Byte) (l : Nat) : Nat := ((List.range l).map (maxCorners b)).sum
end Vb

/-! ### Canonical order (R158, R159): (key, engine, level, band or row); engines 0 RECT, 1 PYR, 2 CRN, 3 DSC -/

/-- The level-0 band that makes level `l` band `k` triggerable. -/
def visKey (b : List Byte) : Nat → Nat → Nat
  | 0, k => k
  | l + 1, k => visKey b l (min (2 * k + 2) (Vb.bands b l - 1))

/-- A unit of a stream. -/
structure VisUnit where
  key : Nat
  engine : Nat
  level : Nat
  band : Nat
  deriving DecidableEq, Repr

def VisUnit.rank (u : VisUnit) : Nat := ((u.key * 4 + u.engine) * 8 + u.level) * 4096 + u.band

def insertUnit (u : VisUnit) : List VisUnit → List VisUnit
  | [] => [u]
  | v :: r => if u.rank ≤ v.rank then u :: v :: r else v :: insertUnit u r

def visUnits (b : List Byte) : List VisUnit :=
  let rect := (List.range (Vb.bands b 0)).map (fun k => (⟨k, 0, 0, k⟩ : VisUnit))
  let pyr := ((List.range (Vb.top b)).map (· + 1)).flatMap
    (fun l => (List.range (Vb.bands b l)).map (fun k => (⟨visKey b l k, 1, l, k⟩ : VisUnit)))
  let crnKey := fun l k => visKey b l (min (k + 1) (Vb.bands b l - 1))
  let crn := (Vb.cornLevels b).flatMap (fun l => (List.range (Vb.bands b l)).map (fun k => (⟨crnKey l k, 2, l, k⟩ : VisUnit)))
  let dsc := (Vb.cornLevels b).flatMap
    (fun l => (List.range (Vb.cellRows b l)).map (fun r => (⟨crnKey l (Vb.rowBand b l r), 3, l, r⟩ : VisUnit)))
  (rect ++ pyr ++ crn ++ dsc).foldr insertUnit []

/-! ### Grid objects (R143 to R145) -/
namespace Grid
def inW (g : List Byte) : Nat := leAt g 4 2
def inH (g : List Byte) : Nat := leAt g 6 2
def nodesX (g : List Byte) : Nat := leAt g 12 2
def nodesY (g : List Byte) : Nat := leAt g 14 2
def span (g : List Byte) : Nat := leAt g 16 2
def crc (g : List Byte) : Nat := leAt g 20 4
def nx (g : List Byte) (i j : Nat) : Int := sleAt g (64 + 8 * (j * nodesX g + i)) 4
def ny (g : List Byte) (i j : Nat) : Int := sleAt g (68 + 8 * (j * nodesX g + i)) 4
/-- Bytes of the object. -/
def size (g : List Byte) : Nat := 64 + 8 * (nodesX g * nodesY g)
end Grid

/-- The checks of R143 against a stream's WIDTH and HEIGHT and its block. -/
def gridOk (g b : List Byte) (w h : Nat) : Bool :=
  leAt g 0 4 == 0xC1E97601 && Grid.inW g == w && Grid.inH g == h && leAt g 8 2 == Vb.rectW b && leAt g 10 2 == Vb.rectH b &&
    Grid.nodesX g == ceilDiv (Vb.rectW b) 32 + 1 && Grid.nodesY g == ceilDiv (Vb.rectH b) 32 + 1 &&
    decide (Grid.span g + 32 ≤ Vb.lbLines b) &&
    decide (g.length = Grid.size g) && Grid.crc g == crc32Without g 20

/-- The grid object at a device address. -/
def State.gridAt (s : State) (a : Nat) : List Byte := s.ldB a (Grid.size (s.ldB a 64))

/-- The Route's own grid object of a stream block. -/
def routeGrid (image b : List Byte) : List Byte :=
  let g := image.drop (Vb.gridOfs b)
  g.take (Grid.size g)

/-- The grid in effect. -/
def State.visGrid (s : State) (c : VisCtx) : List Byte :=
  match c.gridAlt with
  | some a => s.gridAt a
  | none => routeGrid (s.img c.slot) c.block

/-- SPAN (R145). -/
def VisCtx.span (c : VisCtx) (g : List Byte) : Nat := if Vb.gridMode c.block = 0 then 16 else Grid.span g

/-- Trigger line T_b (R145). -/
def visTrigger (b g : List Byte) (band inH : Nat) : Nat :=
  if Vb.gridMode b = 0 then min (inH - 1) (16 * band + 15)
  else
    let ys := [band / 2, band / 2 + 1].flatMap (fun j => (List.range (Grid.nodesX g)).map (fun i => Grid.ny g i j))
    let ymax := ys.foldl max (ys.headD 0)
    min (inH - 1) (max 0 (ymax / 65536 + 1)).toNat

/-! ### Pixels -/

/-- VALID bit of a pixel word. -/
def pxValid (w : Nat) : Bool := w.testBit 15
def pxOf (v : Nat) (valid : Bool) : Nat := v % 4096 + 32768 * b2n valid

/-- The word at (x, y) of a level; 0 outside. -/
def pxAt (img : List (List Nat)) (x y : Nat) : Nat := (img.getD y []).getD x 0

/-- 12-bit input value by data type (R142). -/
def px12 (dataType v : Nat) : Nat :=
  if dataType = 0x2B then v * 4 else if dataType = 0x2C then v else v * 16

/-- The input frame as RECT sees it: sizes, data type, lines, filled lines, the first unreleased line. -/
structure VisIn where
  w : Nat
  h : Nat
  dataType : Nat
  lines : List (List Nat)
  fill : List Bool
  released : Nat

/-- A source pixel: value, VALID, and whether its line was zero-filled or released. -/
def VisIn.at (v : VisIn) (x y : Nat) : Nat × Bool × Bool × Bool :=
  let filled := v.fill.getD y false
  let gone := decide (y < v.released)
  (if filled then 0 else px12 v.dataType ((v.lines.getD y []).getD x 0) % 4096, !filled && !gone, filled, gone)

/-- An output pixel: its word, and whether it used a filled or a released line. -/
abbrev RectPx := Nat × Bool × Bool

/-- Bilinear output pixel (x, y) of level 0 (R144). -/
def rectPixel (g : List Byte) (v : VisIn) (x y : Nat) : RectPx :=
  let i := x / 32; let j := y / 32; let u : Int := (x % 32 : Nat); let w : Int := (y % 32 : Nat)
  let sum := fun (n : Nat → Nat → Int) => (32 - u) * (32 - w) * n i j + u * (32 - w) * n (i + 1) j +
    (32 - u) * w * n i (j + 1) + u * w * n (i + 1) (j + 1)
  let px := rneShr (sum (Grid.nx g)) 20
  let py := rneShr (sum (Grid.ny g)) 20
  if px < 0 ∨ 64 * ((v.w : Int) - 1) < px ∨ py < 0 ∨ 64 * ((v.h : Int) - 1) < py then (0, false, false)
  else
    let xi := (px / 64).toNat; let yi := (py / 64).toNat
    let fx := (px % 64).toNat; let fy := (py % 64).toNat
    let taps := [((64 - fx) * (64 - fy), xi, yi), (fx * (64 - fy), xi + 1, yi), ((64 - fx) * fy, xi, yi + 1),
      (fx * fy, xi + 1, yi + 1)].filter (fun t => t.1 != 0)
    let got := taps.map (fun t => (t.1, v.at t.2.1 t.2.2))
    let ok := got.all (fun t => t.2.2.1)
    let acc := (got.map (fun t => t.1 * t.2.1)).sum
    (if ok then pxOf ((acc + 2048) / 4096) true else 0, got.any (fun t => t.2.2.2.1), got.any (fun t => t.2.2.2.2))

/-- An output pixel of level 0 in either GRID_MODE. -/
def visPixel (b g : List Byte) (v : VisIn) (x y : Nat) : RectPx :=
  if Vb.gridMode b = 0 then
    let p := v.at x y
    (if p.2.1 then pxOf p.1 true else 0, p.2.2.1, p.2.2.2)
  else rectPixel g v x y

/-- The kernel (1, 4, 6, 4, 1). -/
def k5 (i : Nat) : Nat := [1, 4, 6, 4, 1].getD i 0

/-- Smoothing by the kernel around (x, y), coordinates clamped into the image; value and VALID (R147). -/
def smooth (img : List (List Nat)) (w h : Nat) (x y : Int) : Nat × Bool :=
  let taps := (List.range 5).flatMap (fun j => (List.range 5).map (fun i =>
    (k5 i * k5 j, pxAt img (clampI 0 ((w : Int) - 1) (x + i - 2)).toNat (clampI 0 ((h : Int) - 1) (y + j - 2)).toNat)))
  (((taps.map (fun t => t.1 * (t.2 % 4096))).sum + 128) / 256, taps.all (fun t => pxValid t.2))

/-- A pyramid pixel (R147); one that is not VALID is stored as 0. -/
def pyrPixel (img : List (List Nat)) (w h x y : Nat) : Nat :=
  let r := smooth img w h (2 * x : Nat) (2 * y : Nat)
  if r.2 then pxOf r.1 true else 0

/-! ### Corners (R149 to R154) -/

/-- The (2r + 1)-square window around (x, y) lies in the image and is wholly VALID. -/
def windowOk (img : List (List Nat)) (w h x y r : Nat) : Bool :=
  decide (r ≤ x) && decide (x + r < w) && decide (r ≤ y) && decide (y + r < h) &&
    (List.range (2 * r + 1)).all (fun j => (List.range (2 * r + 1)).all (fun i => pxValid (pxAt img (x - r + i) (y - r + j))))

/-- Table 7.3. -/
def circle : List (Int × Int) := [(0, -3), (1, -3), (2, -2), (3, -1), (3, 0), (3, 1), (2, 2), (1, 3), (0, 3), (-1, 3),
  (-2, 2), (-3, 1), (-3, 0), (-3, -1), (-2, -2), (-1, -3)]

/-- Value at signed coordinates. -/
def pxI (img : List (List Nat)) (x y : Int) : Int := if x < 0 ∨ y < 0 then 0 else ((pxAt img x.toNat y.toNat) % 4096 : Nat)

/-- The longest run of `true` in a list. -/
def longestRun : List Bool → Nat → Nat → Nat
  | [], _, best => best
  | true :: r, cur, best => longestRun r (cur + 1) (max best (cur + 1))
  | false :: r, _, best => longestRun r 0 best

/-- The segment test (R149). -/
def segmentTest (img : List (List Nat)) (b : List Byte) (x y : Nat) : Bool :=
  let c := pxI img x y
  let t : Int := Vb.fastT b
  let pts := circle.map (fun d => pxI img ((x : Int) + d.1) ((y : Int) + d.2))
  let run := fun (l : List Bool) => min 16 (longestRun (l ++ l) 0 0)
  decide (Vb.arc b ≤ run (pts.map (fun p => decide (c + t < p)))) || decide (Vb.arc b ≤ run (pts.map (fun p => decide (p < c - t))))

/-- The score of a pixel whose 9 × 9 neighbourhood is in the image and VALID (R150). -/
def cornerScore (img : List (List Nat)) (x y : Nat) : Nat :=
  let grads := (List.range 7).flatMap (fun (j : Nat) => (List.range 7).map (fun (i : Nat) =>
    let cx : Int := (x : Int) + i - 3
    let cy : Int := (y : Int) + j - 3
    (pxI img (cx + 1) cy - pxI img (cx - 1) cy, pxI img cx (cy + 1) - pxI img cx (cy - 1))))
  let sxx := (grads.map (fun g => g.1 * g.1)).sum
  let syy := (grads.map (fun g => g.2 * g.2)).sum
  let sxy := (grads.map (fun g => g.1 * g.2)).sum
  ((sxx + syy - (isqrt ((sxx - syy) * (sxx - syy) + 4 * sxy * sxy).toNat : Nat)) / 2).toNat

/-- The score where it is defined. -/
def scoreAt (img : List (List Nat)) (w h : Nat) (x y : Int) : Option Nat :=
  if x < 0 ∨ y < 0 then none
  else if windowOk img w h x.toNat y.toNat 4 then some (cornerScore img x.toNat y.toNat) else none

/-- The score of a candidate at or above SCORE_MIN (R149, R150). -/
def candidate (img : List (List Nat)) (b : List Byte) (w h : Nat) (x y : Int) : Option Nat :=
  match scoreAt img w h x y with
  | some sc => if segmentTest img b x.toNat y.toNat && decide (Vb.scoreMin b ≤ sc) then some sc else none
  | none => none

/-- No candidate of the 5 × 5 window suppresses this one (R151). -/
def survives (img : List (List Nat)) (b : List Byte) (w h x y sc : Nat) : Bool :=
  (List.range 5).all (fun j => (List.range 5).all (fun i =>
    if i = 2 ∧ j = 2 then true
    else
      match candidate img b w h ((x : Int) + i - 2) ((y : Int) + j - 2) with
      | some o => !(decide (sc < o) || (o == sc && (decide (j < 2) || (decide (j = 2) && decide (i < 2)))))
      | none => true))

/-- Sub-pixel offset of one axis; the flag says that there is no fit (R152). -/
def subPixel (sm : Option Nat) (s0 : Nat) (sp : Option Nat) : Int × Bool :=
  match sm, sp with
  | some m, some p =>
    let den : Int := 2 * ((m : Int) - 2 * s0 + p)
    if den < 0 then (clampI (-32) 32 (rneDiv (-(64 * ((m : Int) - p))) (-den).toNat), false) else (0, true)
  | _, _ => (0, true)

/-- The survivors of one line of a level in raster order (R149 to R154). -/
def lineCorners (img : List (List Nat)) (b : List Byte) (l y : Nat) : List Kp :=
  let w := Vb.width b l; let h := Vb.height b l
  (List.range w).filterMap (fun (x : Nat) =>
    match candidate img b w h x y with
    | none => none
    | some sc =>
      if !survives img b w h x y sc then none
      else
        let win := windowOk img w h x y 16
        if !win && Vb.border b == 0 then none
        else
          let fx := subPixel (scoreAt img w h ((x : Int) - 1) y) sc (scoreAt img w h ((x : Int) + 1) y)
          let fy := subPixel (scoreAt img w h x ((y : Int) - 1)) sc (scoreAt img w h x ((y : Int) + 1))
          some ⟨x, y, sc, fx.1, fy.1, b2n (!win) + 2 * b2n fx.2 + 4 * b2n fy.2⟩)

/-- Descending score, then raster order. -/
def insertKp (k : Kp) : List Kp → List Kp
  | [] => [k]
  | o :: r => if o.score < k.score ∨ (o.score = k.score ∧ (k.y < o.y ∨ (k.y = o.y ∧ k.x ≤ o.x))) then k :: o :: r
    else o :: insertKp k r

/-- The keypoints a cell row enters into the list, before the cap (R153). -/
def bucketRow (b : List Byte) (l r : Nat) (kps : List Kp) : List Kp :=
  let lg := Vb.bucketLog2 b
  (List.range (ceilDiv (Vb.width b l) (2 ^ lg))).flatMap (fun c =>
    ((kps.filter (fun k => k.y / 2 ^ lg == r && k.x / 2 ^ lg == c)).foldr insertKp []).take (Vb.bucketMax b))

/-! ### Orientation and descriptor (R155, R156) -/

/-- cross((cos, sin) of `a` units, m). -/
def crossDir (a : Nat) (mx my : Int) : Int := cos30 (a % 65536) * my - sin30 (a % 65536) * mx

def orientBin (mx my : Int) : Nat :=
  if mx = 0 ∧ my = 0 then 0
  else ((List.range 32).find? (fun q => decide (0 ≤ crossDir (65536 + 2048 * q - 1024) mx my) &&
    decide (crossDir (2048 * q + 1024) mx my < 0))).getD 0

/-- Offsets with dx² + dy² ≤ 225. -/
def disc15 : List (Int × Int) :=
  (List.range 31).flatMap (fun (j : Nat) => (List.range 31).filterMap (fun (i : Nat) =>
    let dx : Int := (i : Int) - 15; let dy : Int := (j : Int) - 15
    if dx * dx + dy * dy ≤ 225 then some (dx, dy) else none))

def orientation (img : List (List Nat)) (k : Kp) : Nat :=
  let v := disc15.map (fun d => (d, pxI img ((k.x : Int) + d.1) ((k.y : Int) + d.2)))
  orientBin (v.map (fun t => t.1.1 * t.2)).sum (v.map (fun t => t.1.2 * t.2)).sum

def rotOffset (q : Nat) (dx dy : Int) : Int × Int :=
  let c := cos30 (2048 * q); let sn := sin30 (2048 * q)
  (rneShr (dx * c - dy * sn) 30, rneShr (dx * sn + dy * c) 30)

/-- Bit `i` of the descriptor. -/
def descBit (img : List (List Nat)) (w h : Nat) (pattern : List Byte) (k : Kp) (q i : Nat) : Bool :=
  let at_ := fun (o : Nat) =>
    let r := rotOffset q (sleAt pattern (4 * i + o) 1) (sleAt pattern (4 * i + o + 1) 1)
    (smooth img w h ((k.x : Int) + r.1) ((k.y : Int) + r.2)).1
  decide (at_ 0 < at_ 2)

/-- Bits packed into bytes, bit i in bit i mod 8 of byte i ÷ 8. -/
def packBits (n : Nat) (f : Nat → Bool) : List Byte :=
  (List.range n).map (fun j => BitVec.ofNat 8 ((List.range 8).foldl (fun a i => a + 2 ^ i * b2n (f (8 * j + i))) 0))

/-- The 16-byte keypoint record (Table 7.5) and the 32-byte descriptor. -/
def kpRecord (b : List Byte) (l : Nat) (k : Kp) (q : Nat) : List Byte :=
  let co := fun (v : Nat) (o : Int) => (satU 18 ((64 * (v : Int) + o) * 2 ^ l)).toNat
  leBytes 4 (co k.x k.offX) ++ leBytes 4 (co k.y k.offY) ++ leBytes 4 k.score ++
    leBytes 1 l ++ leBytes 1 q ++ leBytes 1 k.flags ++ leBytes 1 (Vb.ctx b)

def kpDesc (img : List (List Nat)) (b pattern : List Byte) (l : Nat) (k : Kp) (q : Nat) : List Byte :=
  if k.flags.testBit 0 then zeros 32
  else packBits 32 (descBit img (Vb.width b l) (Vb.height b l) pattern k q)

/-! ### The stream's run -/

/-- Counter of context `i` (Table 18.4, No. 3): 0 BANDS, 1 UNITS, 2 CUTS, 3 SPAN, 4 CAP, 5 GRID_REJECT. -/
def visCnt (i k : Nat) : Nat := 2 + 6 * i + k

def VisCtx.flag (c : VisCtx) (s : State) (k : Nat) (f : Flag) : State :=
  match s.runOf c.slot c.index with
  | some r => s.runFlag r (c.flagBase + k) f
  | none => s

/-- The stream's own flags in the run's list. -/
def VisCtx.flags (c : VisCtx) (r : Run) : List Nat := (r.outFlags.drop c.flagBase).take (Vb.flagCount c.block)

/-- The feature header (Table 7.4). -/
def State.visHeader (s : State) (i : Nat) : List Byte :=
  let c := s.visCtx i
  let f := match (s.cam i).frame with
    | some f => if f.cadence = c.cadence then f.fsTime else 0
    | none => 0
  leBytes 2 (camFunc i) ++ leBytes 1 c.hdr ++ leBytes 1 c.complete ++ leBytes 4 (c.cadence % 2 ^ 32) ++ leBytes 8 c.cadence ++
    leBytes 8 f ++ leBytes 2 (Vb.rectW c.block) ++ leBytes 2 (Vb.rectH c.block) ++
    (List.range 5).flatMap (fun l => leBytes 2 (SMap.get 0 c.count l)) ++
    (List.range 5).flatMap (fun l => leBytes 2 (min 65535 (SMap.get 0 c.dropped l))) ++
    leBytes 4 (if Vb.gridMode c.block = 0 then 0 else Grid.crc (s.visGrid c)) ++ leBytes 2 c.bands ++ zeros 10

/-- Set bit `k` of the header FLAGS. -/
def State.visMark (s : State) (i k : Nat) : State :=
  let c := s.visCtx i
  s.setVis i { c with hdr := c.hdr ||| 2 ^ k }

/-- Write the header and set its flag READY; the stream's work is over, and the instance ends with the last stream of
its stage (R157, R160, R161). -/
def State.visFinish (s : State) (i : Nat) : State :=
  let c := s.visCtx i
  let s1 := c.flag (s.stB (Vb.featureAddr c.block) (s.visHeader i)) (Vb.headerFlag c.block) Flag.ready
  let total := ((List.range 5).map (fun l => SMap.get 0 c.count l)).sum
  let s2 := (s1.setPair (Reg.VIS_STRM_LAST_CAD_LO i) (Reg.VIS_STRM_LAST_CAD_HI i) c.cadence).setRegN
    (Reg.VIS_STRM_LAST_COUNT i) (total + 65536 * c.bands)
  let s3 := s2.setVis i { c with active := false }
  let left := s3.vis.ctxs.any (fun e => e.2.active && e.2.slot == c.slot && e.2.index == c.index)
  if left then s3 else s3.endInst c.slot c.index c.pipe

/-- Every flag of the stream not READY but the header's becomes CUT, and the bands not delivered go to the array as CUT markers
(R160 to R162). -/
def State.visCutFlags (s : State) (i : Nat) : State :=
  let c := s.visCtx i
  let s1 := match s.runOf c.slot c.index with
    | some r => s.cutFlags r ((c.flags r).take (Vb.headerFlag c.block))
    | none => s
  if Vb.directArray c.block = 0xFF then s1
  else
    let rest := List.replicate (Vb.bands c.block 0 - c.bands) ([] : List (List Nat))
    { s1 with vis := { s1.vis with direct := SMap.upd [] s1.vis.direct (Vb.directArray c.block) (· ++ rest) } }

/-- No unit issues: the stream is absent, or its geometry does not match (R161). -/
def State.visAbsent (s : State) (i : Nat) : State :=
  let c := s.visCtx i
  ((s.visMark i 0).visCutFlags i |>.degrade c.slot c.index).visFinish i

/-- The stream is cut at the next unit (R160). -/
def State.visCut (s : State) (i limit : Nat) : State :=
  let s1 := ((s.visMark i 2).visCutFlags i).setBit (Reg.VIS_STRM_STATUS i) 3
  let c := s1.visCtx i
  let s2 := (s1.setVis i { c with cut := true }).count 3 (visCnt i 2)
  let s3 := s2.updRun c.slot c.index (fun r => { r with insts := r.insts.map (fun x =>
    if x.unit = c.pipe then { x with cut := true, limit := x.limit ||| limit } else x) })
  s3.visFinish i

/-- The frame the stream processes: the one of the Route's cadence (R161). -/
def State.frameNow (s : State) (i : Nat) : Option Frame :=
  match (s.cam i).frame with
  | some f => if f.cadence = (s.visCtx i).cadence then some f else none
  | none => none

/-- The frame whose lines VIS receives: a stream without DEST[0] delivers none (R107, Table 5.3). -/
def State.visFrame (s : State) (i : Nat) : Option Frame :=
  if (s.cam i).dest.testBit 0 then s.frameNow i else none

/-- A frame record has been written: where it says ABSENT, the stage that processes it ends the stream (R161). -/
def State.visRecord (s : State) (i : Nat) : State :=
  match s.frameNow i with
  | some f => if (s.visCtx i).active && f.absent then s.writing 1 (s.visCtx i).cadence (fun t => t.visAbsent i) else s
  | none => s

/-- Pipe `p` has a unit in progress: an engine of it still has cycles of its last unit, or its latency, to run (Table 7.6, 7.9). -/
def State.pipeBusy (s : State) (p : Nat) : Bool := decide (s.heldCore < SMap.get 0 s.vis.busy p)

/-- Cost of a unit in VIS cycles (Table 7.6). -/
def visCost (c : VisCtx) (u : VisUnit) : Nat :=
  match u.engine with
  | 0 => 16 * (ceilDiv (Vb.width c.block 0) 2 + 8)
  | 1 => 16 * (Vb.width c.block u.level + 8)
  | 2 => 16 * (ceilDiv (Vb.width c.block u.level) 2 + 8)
  | _ => 32 + 64 * (SMap.get [] c.rows (65536 * u.level + u.band)).length

/-- Lines of band `k` of level `l`. -/
def bandLines (b : List Byte) (l k : Nat) : List Nat :=
  (List.range 16).filterMap (fun i => if 16 * k + i < Vb.height b l then some (16 * k + i) else none)

/-- DRAM tokens of a unit: the 64-byte beats it writes to DRAM (assumption log 14). -/
def visTok (c : VisCtx) (u : VisUnit) : Nat :=
  let b := c.block
  if u.engine ≤ 1 then
    if (Vb.levelsOut b).testBit u.level then
      let pitch := pad64 (2 * Vb.width b u.level)
      memTok (Vb.levelAddr b u.level + 16 * u.band * pitch) ((bandLines b u.level u.band).length * pitch)
    else 0
  else if u.engine = 2 then 0
  else
    let n := (SMap.get [] c.rows (65536 * u.level + u.band)).length
    memTok (Vb.featureAddr b) (16 * n) + memTok (Vb.featureAddr b) (32 * n)

/-- Write a finished band of a level to memory and set its flag (R148). -/
def State.visBandOut (s : State) (i l k : Nat) (rows : List (List Nat)) : State :=
  let c := s.visCtx i
  if (Vb.levelsOut c.block).testBit l then
    let pitch := pad64 (2 * Vb.width c.block l)
    let bs := rows.flatMap (fun row => row.flatMap (leBytes 2) ++ zeros (pitch - 2 * row.length))
    c.flag (s.stB (Vb.levelAddr c.block l + 16 * k * pitch) bs) (Vb.bandFlag c.block l k) Flag.ready
  else s

/-- A RECT unit (R144, R145, R162). -/
def visRect (i : Nat) (f : Frame) (k : Nat) (s : State) : State :=
  let c := s.visCtx i
  let g := s.visGrid c
  let cam := s.cam i
  let v : VisIn := ⟨cam.width, cam.height, cam.dataType, f.lines, f.fill, c.released⟩
  let px := (bandLines c.block 0 k).map (fun y => (List.range (Vb.rectW c.block)).map (fun x => visPixel c.block g v x y))
  let rows := px.map (fun r => r.map (fun p => p.1))
  let filled := px.any (fun r => r.any (fun p => p.2.1))
  let gone := px.any (fun r => r.any (fun p => p.2.2))
  let t := visTrigger c.block g k cam.height
  let s1 := s.setVis i { c with
    levels := SMap.upd [] c.levels 0 (· ++ rows), bands := c.bands + 1,
    released := max c.released (t + 1 - c.span g),
    hdr := c.hdr ||| (2 * b2n filled) ||| (8 * b2n gone) }
  let s2 := if filled then s1.degrade c.slot c.index else s1
  let s3 := if gone then (s2.setBit (Reg.VIS_STRM_STATUS i) 1).count 3 (visCnt i 3) else s2
  let s4 := ((s3.visBandOut i 0 k rows).addItems c.slot c.index 1).count 3 (visCnt i 0)
  if Vb.directArray c.block = 0xFF then s4
  else { s4 with vis := { s4.vis with direct := SMap.upd [] s4.vis.direct (Vb.directArray c.block) (· ++ [rows]) } }

/-- A PYR unit (R147). -/
def visPyr (i l k : Nat) (s : State) : State :=
  let c := s.visCtx i
  let img := SMap.get [] c.levels (l - 1)
  let rows := (bandLines c.block l k).map (fun y => (List.range (Vb.width c.block l)).map (fun x =>
    pyrPixel img (Vb.width c.block (l - 1)) (Vb.height c.block (l - 1)) x y))
  (s.setVis i { c with levels := SMap.upd [] c.levels l (· ++ rows) }).visBandOut i l k rows

/-- Enter a complete cell row into the level's list, up to the cap (R153). -/
def State.visEnterRow (s : State) (i l r : Nat) : State :=
  let c := s.visCtx i
  let all := (List.range (Vb.bands c.block l)).flatMap (fun k => SMap.get [] c.surv (65536 * l + k))
  let kps := bucketRow c.block l r all
  let have_ := SMap.get 0 c.entered l
  let keep := kps.take (Vb.maxCorners c.block l - have_)
  let drop := kps.length - keep.length
  let s1 := s.setVis i { c with
    rows := SMap.set c.rows (65536 * l + r) keep, entered := SMap.set c.entered l (have_ + keep.length),
    dropped := SMap.upd 0 c.dropped l (· + drop), hdr := if drop = 0 then c.hdr else c.hdr ||| 16 }
  if drop = 0 then s1 else (s1.setBit (Reg.VIS_STRM_STATUS i) 2).countN 3 (visCnt i 4) drop

/-- A CRN unit (R149 to R154). -/
def visCrn (i l k : Nat) (s : State) : State :=
  let c := s.visCtx i
  let img := SMap.get [] c.levels l
  let kps := (bandLines c.block l k).flatMap (fun y => lineCorners img c.block l y)
  let s1 := s.setVis i { c with surv := SMap.set c.surv (65536 * l + k) kps }
  s1.each ((List.range (Vb.cellRows c.block l)).filter (fun r => Vb.rowBand c.block l r == k)) (fun st r => st.visEnterRow i l r)

/-- A DSC unit: orientation, descriptors, records; the last row completes the list, whose free slots become zeros
(R155 to R157). -/
def visDsc (i l r : Nat) (s : State) : State :=
  let c := s.visCtx i
  let b := c.block
  let img := SMap.get [] c.levels l
  let pattern := ((s.img c.slot).drop (Vb.patternOfs b)).take 1024
  let n0 := SMap.get 0 c.count l
  let before := Vb.cornersBefore b l
  let kpAddr := fun (k : Nat) => Vb.featureAddr b + 64 + 16 * (before + k)
  let dsAddr := fun (k : Nat) => Vb.featureAddr b + 64 + 16 * Vb.totalCorners b + 32 * (before + k)
  let kps := SMap.get [] c.rows (65536 * l + r)
  let s1 := s.each (kps.zip (List.range kps.length)) (fun st e =>
    let q := if e.1.flags.testBit 0 then 0 else orientation img e.1
    (st.stB (kpAddr (n0 + e.2)) (kpRecord b l e.1 q)).stB (dsAddr (n0 + e.2)) (kpDesc img b pattern l e.1 q))
  let n := n0 + kps.length
  let s2 := s1.setVis i { s1.visCtx i with count := SMap.set c.count l n }
  if r + 1 < Vb.cellRows b l then s2
  else
    let free := Vb.maxCorners b l - n
    let s3 := (s2.stB (kpAddr n) (zeros (16 * free))).stB (dsAddr n) (zeros (32 * free))
    let c3 := s3.visCtx i
    let s4 := s3.setVis i { c3 with complete := c3.complete ||| 2 ^ l }
    c3.flag s4 (Vb.listFlag b l) Flag.ready

/-- A unit of a pipe is in progress for `n` VIS cycles from now on, two CORE cycles each. -/
def State.visOccupy (s : State) (p n : Nat) : State :=
  { s with vis := { s.vis with busy := SMap.set s.vis.busy p (max (SMap.get 0 s.vis.busy p) (s.core + 2 * n)) } }

/-- What a unit that its sub-bucket has paid for does: its engine's work, and the end of the stream behind the last unit. -/
def visWork (i : Nat) (f : Frame) (c : VisCtx) (engine l k cost tok : Nat) (st : State) : State :=
  let st1 := (st.setVis i { c with cursor := c.cursor + 1, cyc := c.cyc + cost, tok := c.tok + tok }).count 3
    (visCnt i 1) |>.bankBusy 3 (4 * c.pipe + engine) cost |>.visOccupy c.pipe (cost + ([48, 32, 64].getD engine 96))
  let st2 := match engine with
    | 0 => visRect i f k st1
    | 1 => visPyr i l k st1
    | 2 => visCrn i l k st1
    | _ => visDsc i l k st1
  if (visUnits c.block).length ≤ c.cursor + 1 then st2.visFinish i else st2

/-- A unit of a stream: it comes about when it is the next in canonical order and its trigger line is in; the
sub-bucket pays for it or the stream is cut there (R159, R160). Without `room` in the input stage of the stream's array RECT waits, and
counts OUTPUT_BLOCK (R162). -/
def visUnit (i engine l k : Nat) (room : Bool) (s : State) : State :=
  let c := s.visCtx i
  if !c.active then s
  else
    match s.visFrame i with
    | none => s
    | some f =>
      if f.absent then s.visAbsent i
      else
        match (visUnits c.block)[c.cursor]? with
        | none => s
        | some u =>
          if u.engine ≠ engine ∨ u.level ≠ l ∨ u.band ≠ k then s
          else if engine = 0 ∧ f.lines.length ≤ visTrigger c.block (s.visGrid c) k (s.cam i).height then s
          else
            let cost := visCost c u
            let tok := visTok c u
            let spent := b2n (decide (Vb.shareCyc c.block < c.cyc + cost)) + 2 * b2n (decide (Vb.shareTok c.block < c.tok + tok))
            if spent ≠ 0 then s.visCut i spent
            else if !room then s.waitOn c.slot c.index c.pipe (4 * c.pipe + engine) 1
            else
              (s.waitOver c.slot c.index c.pipe (4 * c.pipe + engine)).unitWork c.slot c.index c.pipe cost tok
                (fun _ st => visWork i f c engine l k cost tok st)

/-! ### Grids on request (R146) -/

/-- REQUEST or REVERT is written. -/
def visGridAsk (i which : Nat) (s : State) : State :=
  ((s.setVis i { s.visCtx i with gridReq := which }).setFld (Reg.VIS_STRM_GRID_CTRL i) 0 2 which).setBit (Reg.VIS_STRM_STATUS i) 6

/-- At a boundary the requests written before it are taken. -/
def State.visBoundary (s : State) : State :=
  s.each (List.range 16) (fun st i =>
    let c := st.visCtx i
    if c.gridReq = 0 then st
    else
      let a := st.pair (Reg.VIS_STRM_GRID_LO i) (Reg.VIS_STRM_GRID_HI i)
      ((st.setVis i { c with gridReq := 0, gridDue := some (if c.gridReq = 1 then some a else none) }).setFld
        (Reg.VIS_STRM_GRID_CTRL i) 0 2 0).clrBit (Reg.VIS_STRM_STATUS i) 6)

/-- Before the stream's first RECT band the taken grid is checked (R146). -/
def State.visTakeGrid (s : State) (i : Nat) : State :=
  let c := s.visCtx i
  match c.gridDue with
  | none => s
  | some none => (s.setVis i { c with gridDue := none, gridAlt := none }).clrBit (Reg.VIS_STRM_STATUS i) 5
  | some (some a) =>
    if gridOk (s.gridAt a) c.block (s.cam i).width (s.cam i).height then
      (s.setVis i { c with gridDue := none, gridAlt := some a }).setBit (Reg.VIS_STRM_STATUS i) 5
    else ((s.setVis i { c with gridDue := none }).setBit (Reg.VIS_STRM_STATUS i) 0).count 3 (visCnt i 5)

/-- A range overlaps an alternative grid in effect or pending (R146). -/
def State.gridBusy (s : State) (a n : Nat) : Bool :=
  (List.range 16).any (fun i =>
    let c := s.visCtx i
    let hit := fun (g : Nat) => decide (a < g + Grid.size (s.ldB g 64)) && decide (g < a + n)
    (match c.gridAlt with | some g => hit g | none => false) ||
    (match c.gridDue with | some (some g) => hit g | _ => false) ||
    (c.gridReq == 1 && hit (s.pair (Reg.VIS_STRM_GRID_LO i) (Reg.VIS_STRM_GRID_HI i))))

/-! ### Stage programs (R139, R140) -/

/-- The stream blocks from image offset `ofs` on. The spec gives no block count: they follow one another up to the first
64 bytes whose STREAM is no camera stream, to `stop`, or to a grid or pattern of an earlier block (assumption log 15). -/
def visBlocksFrom (image : List Byte) (stop : Nat) : Nat → Nat → List Nat → List (List Byte)
  | 0, _, _ => []
  | n + 1, ofs, seen =>
    let b := (image.drop ofs).take 64
    if stop < ofs + 64 ∨ seen.contains ofs ∨ !rng (Vb.stream b) 0x010 0x01F then []
    else b :: visBlocksFrom image stop n (ofs + 64) (Vb.gridOfs b :: Vb.patternOfs b :: seen)

/-- The stream blocks of a VIS stage program: at most five are looked at (four are allowed). -/
def visBlocks (image d : List Byte) : List (List Byte) := visBlocksFrom image (Img.imageLen image) 5 (Sd.program d) []

/-- Field ranges of a stream block against its stream's WIDTH and HEIGHT when it is configured (Table 7.1). -/
def visBlockOk (image b d : List Byte) : Bool :=
  let area := Vb.featureAddr b + 64 + 48 * Vb.totalCorners b - Vb.outBase b
  rng (Vb.stream b) 0x010 0x01F && decide (Vb.levelsOut b ≤ 0x1F) && decide (Vb.cornerLevels b ≤ 0x1F) &&
    rng (Vb.rectW b) 64 4096 && Vb.rectW b % 2 == 0 && rng (Vb.rectH b) 64 4096 && rng (Vb.fastT b) 1 4095 &&
    rng (Vb.arc b) 9 12 && rng (Vb.bucketLog2 b) 4 8 && rng (Vb.bucketMax b) 1 64 && decide (Vb.border b ≤ 1) &&
    (decide (Vb.directArray b ≤ 7) || Vb.directArray b == 0xFF) && decide (Vb.gridMode b ≤ 1) &&
    (List.range 5).all (fun l => decide (Vb.maxCorners b l ≤ 2048) && ((Vb.cornerLevels b).testBit l || Vb.maxCorners b l == 0)) &&
    decide (Vb.totalCorners b ≤ 2048) && rng (Vb.lbLines b) 32 1024 && decide (Vb.scoreMin b < 2 ^ 31) &&
    decide (Vb.patternOfs b + 1024 ≤ image.length) && Vb.outBase b % 64 == 0 && (addrRow (Vb.outBase b) area).isSome &&
    rng (Vb.shareCyc b) 1 (Sd.cycLimit d) && decide (Vb.shareTok b ≤ Sd.tokLimit d) && zeroIn b 56 64

/-- Every pattern entry within radius 13 (R156). -/
def patternOk (pattern : List Byte) : Bool :=
  (List.range 512).all (fun k =>
    let x := sleAt pattern (2 * k) 1; let y := sleAt pattern (2 * k + 1) 1
    decide (x * x + y * y ≤ 169))

/-- ROUTE_LOAD's checks of the VIS stages (R139): DETAIL 0x60 to 0x63. The grid's check against the stream's sizes uses
the sizes SENSOR_CONFIG gave it. -/
def State.visLoadRefusal (s : State) (image : List Byte) : Option Nat :=
  let ds := ((List.range (Img.stageCount image)).map (Img.desc image)).filter (fun d => Sd.cls d == 0)
  let all := ds.flatMap (fun d => visBlocks image d)
  let streams := all.map Vb.stream
  if ds.any (fun d => (maskBits (Sd.unitMask d)).length != 1 || (visBlocks image d).length == 0 ||
      decide (4 < (visBlocks image d).length)) then some 0x60
  else if ds.any (fun d => (visBlocks image d).any (fun b => !visBlockOk image b d) ||
      decide (Sd.cycLimit d < ((visBlocks image d).map Vb.shareCyc).sum) ||
      decide (Sd.tokLimit d < ((visBlocks image d).map Vb.shareTok).sum)) || streams.length != streams.eraseDups.length then some 0x61
  else if all.any (fun b => !patternOk ((image.drop (Vb.patternOfs b)).take 1024)) then some 0x62
  else if all.any (fun b => Vb.gridMode b == 1 &&
      !gridOk (routeGrid image b) b (s.cam (Vb.ctx b)).width (s.cam (Vb.ctx b)).height) then some 0x63
  else none

/-- The state of the `k`-th flag of a stream's VIS output; EMPTY where it has none. -/
def State.visFlag (s : State) (i k : Nat) : Flag :=
  let c := s.visCtx i
  match c.outFlags[k]? with
  | some f => s.flagOf c.slot f
  | none => Flag.empty

/-- The stream block of a camera stream in an image. -/
def visBlockOf (image : List Byte) (stream : Nat) : Option (List Byte) :=
  ((((List.range (Img.stageCount image)).map (Img.desc image)).filter (fun d => Sd.cls d == 0)).flatMap
    (fun d => visBlocks image d)).find? (fun b => Vb.stream b == stream)

/-- The camera streams the VIS stages of an image use. -/
def visStreams (image : List Byte) : List Nat :=
  (((List.range (Img.stageCount image)).map (Img.desc image)).filter (fun d => Sd.cls d == 0)).flatMap
    (fun d => (visBlocks image d).map Vb.stream)

/-- The Route enters STARTING: its contexts return to the Route's grids (R146) and name their pipes. -/
def State.visRouteStart (s : State) (slot : Nat) : State :=
  let image := s.img slot
  let ds := ((List.range (Img.stageCount image)).map (Img.desc image)).filter (fun d => Sd.cls d == 0)
  s.each ds (fun st d =>
    let pipe := (maskBits (Sd.unitMask d)).headD 0
    st.each (visBlocks image d) (fun st2 b =>
      let i := Vb.ctx b
      let s1 := st2.setVis i { st2.visCtx i with gridAlt := none, gridDue := none, block := b, slot := slot, pipe := pipe }
      ((s1.clrBit (Reg.VIS_STRM_STATUS i) 5).setFld (Reg.VIS_STRM_STATUS i) 8 4 pipe).setRegN (Reg.VIS_STRM_GRID_CRC i)
        (if Vb.gridMode b = 0 then 0 else Grid.crc (routeGrid image b))))

/-- The Route is OFF: no pipe serves its streams. -/
def State.visRouteOff (s : State) (slot : Nat) : State :=
  s.each (visStreams (s.img slot)) (fun st f =>
    ((st.setFld (Reg.VIS_STRM_STATUS (f - 0x010)) 8 4 0xF).setRegN (Reg.VIS_STRM_GRID_CRC (f - 0x010)) 0).setVis (f - 0x010)
      { st.visCtx (f - 0x010) with active := false })

/-- A VIS stage starts: one context per block, the due grids are taken, a stream without a camera that is ON and one
whose geometry does not match is absent (R146, R161). -/
def State.visStart (s : State) (r : Run) : State :=
  let image := s.img r.slot
  let d := s.runDesc r
  let pipe := (maskBits (Sd.unitMask d)).headD 0
  let place := fun (acc : State × Nat) (b : List Byte) =>
    let i := Vb.ctx b
    let old := acc.1.visCtx i
    let c : VisCtx := { VisCtx.reset with
      block := b, slot := r.slot, index := r.index, pipe := pipe, flagBase := acc.2,
      outFlags := (r.outFlags.drop acc.2).take (Vb.flagCount b), cadence := r.cadence, active := true,
      gridAlt := old.gridAlt, gridReq := old.gridReq, gridDue := old.gridDue }
    let s1 := acc.1.setVis i c
    let s2 : State := if Vb.directArray b = 0xFF then s1
      else { s1 with vis := { s1.vis with direct := SMap.set s1.vis.direct (Vb.directArray b) [] } }
    (s2, acc.2 + Vb.flagCount b)
  let check := fun (st : State) (b : List Byte) =>
    let i := Vb.ctx b
    let s1 := st.visTakeGrid i
    let c1 := s1.visCtx i
    let g := s1.visGrid c1
    let s2 := (s1.setVis i { c1 with hdr := 64 * b2n c1.gridAlt.isSome }).setRegN (Reg.VIS_STRM_GRID_CRC i)
      (if Vb.gridMode b = 0 then 0 else Grid.crc g)
    let cam := s2.cam i
    let bad := if Vb.gridMode b = 0 then cam.width != Vb.rectW b || cam.height != Vb.rectH b
      else cam.width != Grid.inW g || cam.height != Grid.inH g
    let absent := match s2.frameNow i with
      | some f => f.absent
      | none => false
    if (s2.func (camFunc i)).life != Life.on || absent then s2.visAbsent i
    else if bad then ((s2.visMark i 5).setBit (Reg.VIS_STRM_STATUS i) 4).visAbsent i
    else s2
  ((visBlocks image d).foldl place (s, 0)).1.each (visBlocks image d) check

/-- The stage's deadline: each stream still at work writes its header with CUT (R161). -/
def State.visDeadline (s : State) (r : Run) : State :=
  s.each (List.range 16) (fun st i =>
    let c := st.visCtx i
    if c.active && c.slot == r.slot && c.index == r.index then
      ((((st.visMark i 2).visCutFlags i).degrade r.slot r.index).visFinish i)
    else st)

/-! ### The rows -/

/-- FS_WINDOW_CLOSE (R109, R161). -/
def execFsWindowClose (stream : Nat) (s : State) : Out :=
  .next (s.act (fun t => t.camEvent (fun x => (ingWindowClose stream x).visRecord stream)))
/-- PYR_BAND (R158). -/
def execPyrBand (stream level band : Nat) (s : State) : Out := .next (s.act (fun t => t.writing 1 (t.visCtx stream).cadence (visUnit stream 1 level band true)))
/-- CRN_BAND (R158). -/
def execCrnBand (stream level band : Nat) (s : State) : Out := .next (s.act (fun t => t.writing 1 (t.visCtx stream).cadence (visUnit stream 2 level band true)))
/-- DSC_ROW (R158). -/
def execDscRow (stream level row : Nat) (s : State) : Out := .next (s.act (fun t => t.writing 1 (t.visCtx stream).cadence (visUnit stream 3 level row true)))

end Sys2Proof.Machine
end

