-- ==== Sys2Proof/Machine/Fst.lean ====
section
/-! DEFINITION. Flow and stereo (ch. 8): the units of Table 8.7 in canonical order, census and semi-global matching,
pyramidal Lucas–Kanade, reference halves, headers. -/

namespace Sys2Proof.Machine

def State.flowCtx (s : State) (i : Nat) : FstCtx := SMap.get FstCtx.reset s.fst.flows i
def State.setFlow (s : State) (i : Nat) (c : FstCtx) : State := { s with fst := { s.fst with flows := SMap.set s.fst.flows i c } }
def State.pairCtx (s : State) (q : Nat) : FstCtx := SMap.get FstCtx.reset s.fst.pairs q
def State.setPairCtx (s : State) (q : Nat) (c : FstCtx) : State := { s with fst := { s.fst with pairs := SMap.set s.fst.pairs q c } }

/-! ### Pair blocks (Table 8.1) and flow blocks (Table 8.4) -/
namespace Pb
def left (b : List Byte) : Nat := leAt b 0 2
def right (b : List Byte) : Nat := leAt b 2 2
def pair (b : List Byte) : Nat := leAt b 4 1
def top (b : List Byte) : Nat := leAt b 5 1
def bot (b : List Byte) : Nat := leAt b 6 1
def lrT (b : List Byte) : Nat := leAt b 7 1
def p1 (b : List Byte) : Nat := leAt b 8 1
def p2 (b : List Byte) : Nat := leAt b 9 1
def texT (b : List Byte) : Nat := leAt b 10 2
def outBase (b : List Byte) : Nat := leAt b 16 8
def workBase (b : List Byte) : Nat := leAt b 24 8
def shareCyc (b : List Byte) : Nat := leAt b 32 4
def shareTok (b : List Byte) : Nat := leAt b 36 4
/-- Levels from TOP down to BOT. -/
def levels (b : List Byte) : List Nat := (List.range (top b + 1 - bot b)).map (fun k => top b - k)
end Pb

namespace Fb
def stream (b : List Byte) : Nat := leAt b 0 2
def source (b : List Byte) : Nat := leAt b 2 1
def top (b : List Byte) : Nat := leAt b 3 1
def bot (b : List Byte) : Nat := leAt b 4 1
def iter (b : List Byte) (l : Nat) : Nat := leAt b (5 + l) 1
def carry (b : List Byte) : Nat := leAt b 10 1
def maxTracks (b : List Byte) : Nat := leAt b 12 2
def occT (b : List Byte) : Nat := leAt b 14 2
def eigMin (b : List Byte) : Nat := leAt b 16 4
def listBase (b : List Byte) : Nat := leAt b 24 8
def refBase (b : List Byte) : Nat := leAt b 32 8
def outBase (b : List Byte) : Nat := leAt b 40 8
def shareCyc (b : List Byte) : Nat := leAt b 48 4
def shareTok (b : List Byte) : Nat := leAt b 52 4
def ctx (b : List Byte) : Nat := stream b - 0x010
/-- Levels from BOT up to TOP. -/
def levels (b : List Byte) : List Nat := (List.range (top b + 1 - bot b)).map (fun k => bot b + k)
def carried (b : List Byte) : List Nat := (List.range 5).filter (fun l => (carry b).testBit l)
end Fb

/-! ### Images in memory (R148, R167) -/

/-- Rows of 16-bit words at an address. -/
def State.rows16 (s : State) (a w h pitch : Nat) : List (List Nat) :=
  (List.range h).map (fun y =>
    let bs := s.ldB (a + y * pitch) (2 * w)
    (List.range w).map (fun x => leAt bs (2 * x) 2))

/-- Level `l` of a stream's VIS output area. -/
def State.visLevel (s : State) (vb : List Byte) (l : Nat) : List (List Nat) :=
  s.rows16 (Vb.levelAddr vb l) (Vb.width vb l) (Vb.height vb l) (pad64 (2 * Vb.width vb l))

/-! ### Stereo (R168 to R174) -/

/-- The census of a pixel, where its 9 × 7 window is in the image and VALID (R168). -/
def census (img : List (List Nat)) (w h : Nat) (x y : Int) : Option Nat :=
  if x < 4 ∨ y < 3 ∨ (w : Int) ≤ x + 4 ∨ (h : Int) ≤ y + 3 then none
  else
    let offs := (List.range 7).flatMap (fun (j : Nat) => (List.range 9).filterMap (fun (i : Nat) =>
      if i = 4 ∧ j = 3 then none else some (x.toNat - 4 + i, y.toNat - 3 + j)))
    let px := offs.map (fun o => pxAt img o.1 o.2)
    let c := pxAt img x.toNat y.toNat
    if px.all pxValid && pxValid c then
      some ((px.zip (List.range 62)).foldl (fun a e => a + 2 ^ e.2 * b2n (decide (e.1 % 4096 < c % 4096))) 0)
    else none

/-- Bits that are 1. -/
def popcount (n v : Nat) : Nat := ((List.range n).filter (fun i => v.testBit i)).length

/-- Dmax of a level. -/
def dmax (l : Nat) : Nat := 255 / 2 ^ l

/-- The aggregation state of a pixel with a valid left census (R169, R170): window, then for each candidate the four
path costs, and the path minima. -/
structure SgmPx where
  lo : Nat
  hi : Nat
  cost : List (List Nat)
  mins : List Nat

/-- Path `r`'s cost of candidate `d` at a pixel; none outside its window. -/
def SgmPx.at (p : SgmPx) (r d : Nat) : Option Nat := if d < p.lo ∨ p.hi < d then none else some (((p.cost.getD (d - p.lo) []).getD r 0))

/-- The least of a list of terms. -/
def leastOf (l : List Nat) : Nat := l.foldl min (l.headD 0)

/-- L_r(p, d) from the predecessor on the path (R170). -/
def sgmPath (b : List Byte) (c d r : Nat) (q : Option SgmPx) : Nat :=
  match q with
  | none => c
  | some q =>
    let m := q.mins.getD r 0
    let terms := (match q.at r d with | some v => [v] | none => []) ++
      (if d = 0 then [] else match q.at r (d - 1) with | some v => [v + Pb.p1 b] | none => []) ++
      (match q.at r (d + 1) with | some v => [v + Pb.p1 b] | none => []) ++ [m + Pb.p2 b]
    c + leastOf terms - m

/-- The window of a pixel (R169): whole at TOP, around the upper level's result below it. -/
def sgmWindow (b : List Byte) (l : Nat) (up : List (List Nat)) (x y : Nat) : Nat × Nat :=
  if l = Pb.top b then (0, dmax l)
  else
    let v := pxAt up (x / 2) (y / 2) % 8192
    let d := (2 * v + 16) / 32
    (d - 32, min (dmax l) (d + 32))

/-- Matching cost (R168). -/
def sgmCost (cl : Nat) (cr : Option Nat) : Nat :=
  match cr with
  | some c => popcount 62 (cl ^^^ c)
  | none => 62

/-- One pixel: predecessors left, upper right, above, upper left. -/
def sgmPixel (b : List Byte) (l : Nat) (up : List (List Nat)) (cl : Option Nat) (crow : List (Option Nat)) (x y : Nat)
    (left ur above ul : Option SgmPx) : Option SgmPx :=
  match cl with
  | none => none
  | some c =>
    let w := sgmWindow b l up x y
    let cost := (List.range (w.2 + 1 - w.1)).map (fun k =>
      let d := w.1 + k
      let m := sgmCost c (if d ≤ x then crow.getD (x - d) none else none)
      [sgmPath b m d 0 left, sgmPath b m d 1 ur, sgmPath b m d 2 above, sgmPath b m d 3 ul])
    some ⟨w.1, w.2, cost, (List.range 4).map (fun r => leastOf (cost.map (fun t => t.getD r 0)))⟩

/-- A row of pixels from the row above it. -/
def sgmRow (b : List Byte) (l : Nat) (up : List (List Nat)) (cl cr : List (Option Nat)) (y : Nat) (above : List (Option SgmPx)) :
    List (Option SgmPx) :=
  ((List.range cl.length).foldl (fun (acc : List (Option SgmPx)) x =>
    -- `acc` holds the pixels so far, newest first
    sgmPixel b l up (cl.getD x none) cr x y (acc.headD none) (above.getD (x + 1) none) (above.getD x none)
      (if x = 0 then none else above.getD (x - 1) none) :: acc) []).reverse

/-- s(p, d). -/
def SgmPx.sum (p : SgmPx) (d : Nat) : Nat := (p.cost.getD (d - p.lo) []).sum
def SgmPx.has (p : SgmPx) (d : Nat) : Bool := rng d p.lo p.hi
def SgmPx.cands (p : SgmPx) : List Nat := (List.range (p.hi + 1 - p.lo)).map (p.lo + ·)

/-- The smallest candidate of least sum (R171). -/
def SgmPx.winner (p : SgmPx) : Nat :=
  p.cands.foldl (fun best d => if p.sum d < p.sum best then d else best) p.lo

/-- Value of R171. -/
def SgmPx.value (p : SgmPx) : Nat :=
  let d := p.winner
  if d ≤ p.lo ∨ p.hi ≤ d then 32 * d
  else
    let sm : Int := p.sum (d - 1); let s0 : Int := p.sum d; let sp : Int := p.sum (d + 1)
    let den := 2 * (sm - 2 * s0 + sp)
    let off := if 0 < den then clampI (-16) 16 (rneDiv (32 * (sm - sp)) den.toNat) else 0
    (32 * (d : Int) + off).toNat

/-- Right disparity of column `xr` (R172). -/
def rightDisp (row : List (Option SgmPx)) (l xr : Nat) : Option Nat :=
  let c := (List.range (dmax l + 1)).filterMap (fun d =>
    match row.getD (xr + d) none with
    | some p => if p.has d then some (d, p.sum d) else none
    | none => none)
  match c with
  | [] => none
  | e :: r => some ((r.foldl (fun (best : Nat × Nat) x => if x.2 < best.2 then x else best) e).1)

/-- Disparity word and confidence of a pixel (R173, R174). -/
def stereoPixel (b : List Byte) (l w h : Nat) (img : List (List Nat)) (cr : List (Option Nat)) (row : List (Option SgmPx))
    (x y : Nat) : Nat × Nat :=
  match row.getD x none with
  | none => (4 * 8192, 0)
  | some p =>
    let d := p.winner
    let v := p.value
    let win := (List.range 7).flatMap (fun (j : Nat) => (List.range 9).map (fun (i : Nat) => pxAt img (x - 4 + i) (y - 3 + j) % 4096))
    let tex := win.foldl max 0 - leastOf win
    let rightOk := decide (d ≤ x) && (cr.getD (x - d) none).isSome
    let lr := if d ≤ x then
        match rightDisp row l (x - d) with
        | some e => decide ((d : Int) - e ≤ Pb.lrT b) && decide ((e : Int) - d ≤ Pb.lrT b)
        | none => false
      else false
    let code :=
      if tex < Pb.texT b then 1
      else if ((d = p.lo ∨ d = p.hi) ∧ d ≠ 0) ∨ rightOk = false then 3
      else if l = Pb.bot b ∧ lr = false then 2
      else 0
    let far := p.cands.filter (fun k => decide (k + 2 ≤ d) || decide (d + 2 ≤ k))
    let conf := if code ≠ 0 then 0
      else
        match far with
        | [] => 255
        | k :: r =>
          let s2 := r.foldl (fun m e => min m (p.sum e)) (p.sum k)
          255 * (s2 - p.sum d) / max s2 1
    (8192 * code + v, if w = 0 ∨ h = 0 then 0 else conf)

/-- Words and confidences of the lines of band `k` of level `l`. -/
def stereoBand (b : List Byte) (l w h k : Nat) (li ri up : List (List Nat)) : List (List (Nat × Nat)) :=
  let lines := min h (16 * k + 16)
  let step := fun (acc : List (Option SgmPx) × List (List (Nat × Nat))) (y : Nat) =>
    let cl := (List.range w).map (fun (x : Nat) => census li w h x y)
    let cr := (List.range w).map (fun (x : Nat) => census ri w h x y)
    let row := sgmRow b l up cl cr y acc.1
    let out := if y < 16 * k then [] else [(List.range w).map (fun x => stereoPixel b l w h li cr row x y)]
    (row, acc.2 ++ out)
  ((List.range lines).foldl step ([], [])).2

/-- A stereo unit with its key (R182): key, level, band. -/
structure FstUnit where
  key : Nat
  level : Nat
  band : Nat
  deriving DecidableEq, Repr

/-- Key of a stereo unit: VIS keys of the two bands it waits for and the key of the upper unit; `n` levels above. -/
def stereoKey (lv rv b : List Byte) : Nat → Nat → Nat → Nat
  | 0, _, _ => 0
  | n + 1, l, k =>
    let need := min (k + 1) (Vb.bands lv l - 1)
    let base := max (visKey lv l need) (visKey rv l (min (k + 1) (Vb.bands rv l - 1)))
    if l < Pb.top b then max base (stereoKey lv rv b n (l + 1) (k / 2)) else base

def insertFst (rank : FstUnit → Nat) (u : FstUnit) : List FstUnit → List FstUnit
  | [] => [u]
  | v :: r => if rank u ≤ rank v then u :: v :: r else v :: insertFst rank u r

/-- Stereo units in canonical order: key, level from coarse to fine, band. -/
def stereoUnits (lv rv b : List Byte) : List FstUnit :=
  ((Pb.levels b).flatMap (fun l => (List.range (Vb.bands lv l)).map (fun k =>
    (⟨stereoKey lv rv b 5 l k, l, k⟩ : FstUnit)))).foldr (insertFst (fun u => (u.key * 8 + (7 - u.level)) * 4096 + u.band)) []

/-- Copy units in canonical order: VIS key, level, band. -/
def copyUnits (vb b : List Byte) : List FstUnit :=
  ((Fb.levels b).flatMap (fun l => (List.range (Vb.bands vb l)).map (fun k => (⟨visKey vb l k, l, k⟩ : FstUnit)))).foldr
    (insertFst (fun u => (u.key * 8 + u.level) * 4096 + u.band)) []

/-! ### Bookkeeping shared by both engines -/

/-- Engine 0 flow, 1 stereo. -/
def State.fstCtx (s : State) (e i : Nat) : FstCtx := if e = 0 then s.flowCtx i else s.pairCtx i
def State.setFst (s : State) (e i : Nat) (c : FstCtx) : State := if e = 0 then s.setFlow i c else s.setPairCtx i c
/-- Counters (Table 18.4, No. 4): flow 0 TRACKS, 1 CUTS, 2 + code; pair 0 BANDS, 1 CUTS, 2 + code. -/
def fstCnt (e i k : Nat) : Nat := (if e = 0 then 2 + 7 * i else 114 + 7 * i) + k
def fstStatus (e i : Nat) : Nat := if e = 0 then Reg.FST_FLOW_STATUS i else Reg.FST_PAIR_STATUS i
def fstShareCyc (e : Nat) (b : List Byte) : Nat := if e = 0 then Fb.shareCyc b else Pb.shareCyc b
def fstShareTok (e : Nat) (b : List Byte) : Nat := if e = 0 then Fb.shareTok b else Pb.shareTok b

/-- Flags of a block: flow the records and the header; stereo one per level-BOT band and the header. -/
def State.fstFlagCount (s : State) (e slot : Nat) (b : List Byte) : Nat :=
  if e = 0 then 2
  else
    match visBlockOf (s.img slot) (Pb.left b) with
    | some vb => Vb.bands vb (Pb.bot b) + 1
    | none => 1

def FstCtx.flag (c : FstCtx) (s : State) (k : Nat) (f : Flag) : State :=
  match s.runOf c.slot c.index with
  | some r => s.runFlag r (c.flagBase + k) f
  | none => s

/-- No further unit of the block issues: its flags not READY become CUT but for the header's, which the close unit sets
(R182, R183). -/
def State.fstStop (s : State) (e i hdrBit : Nat) : State :=
  let c := s.fstCtx e i
  let s1 := s.setFst e i { c with stopped := true, hdr := c.hdr ||| 2 ^ hdrBit }
  match s1.runOf c.slot c.index with
  | some r => s1.cutFlags r ((r.outFlags.drop c.flagBase).take (s.fstFlagCount e c.slot c.block - 1))
  | none => s1

/-- The block is cut: its sub-bucket cannot pay for the unit (R182). -/
def State.fstCut (s : State) (e i limit : Nat) : State :=
  let c := s.fstCtx e i
  let s1 := (s.fstStop e i (if e = 0 then 2 else 1)).setBit (fstStatus e i) (if e = 0 then 1 else 0)
  (s1.count 4 (fstCnt e i 1)).updRun c.slot c.index (fun r => { r with insts := r.insts.map (fun x =>
    if x.unit = e then { x with cut := true, limit := x.limit ||| limit } else x) })

/-- Limits a charge would exceed (R181, R182): 1 cycles, 2 tokens, of the block's sub-bucket or of its stage's bucket, which prefetch may
have charged before. -/
def State.fstLimits (s : State) (e i cyc tok : Nat) : Nat :=
  let c := s.fstCtx e i
  let stage := match s.runOf c.slot c.index, s.instOf c.slot c.index e with
    | some r, some x => limitBits (s.runDesc r) x cyc tok
    | _, _ => 0
  (b2n (decide (fstShareCyc e c.block < c.cyc + cyc)) + 2 * b2n (decide (fstShareTok e c.block < c.tok + tok))) ||| stage

/-- A unit of a block waits for an EMPTY flag of its input, counting FLAG_WAIT (R17). -/
def State.fstWait (s : State) (e i : Nat) : State :=
  let c := s.fstCtx e i
  s.waitOn c.slot c.index e e 4

/-- A unit of a block: charged to its sub-bucket, or the block is cut there. -/
def State.fstPay (s0 : State) (e i cyc tok : Nat) (f : State → State) : State :=
  let c := s0.fstCtx e i
  let s := s0.waitOver c.slot c.index e e
  match s.runOf c.slot c.index, s.instOf c.slot c.index e with
  | some r, some x =>
    if x.ended || r.waiting then s
    else
      let spent := s.fstLimits e i cyc tok
      if spent ≠ 0 then s.fstCut e i spent
      else f (((s.chargeTo r e cyc tok).setFst e i { c with cursor := c.cursor + 1, cyc := c.cyc + cyc, tok := c.tok + tok }).bankBusy 4 e cyc)
  | _, _ => s

/-! ### Stereo units -/

/-- Layout of the output area (R175). -/
def dispPitch (w : Nat) : Nat := pad64 (2 * w)
def dispAddr (b : List Byte) : Nat := Pb.outBase b + 64
def confAddr (b : List Byte) (w h : Nat) : Nat := dispAddr b + h * dispPitch w
/-- Map of level `l` above BOT in WORK_BASE. -/
def workAddr (lv b : List Byte) (l : Nat) : Nat :=
  Pb.workBase b + (((List.range (l - Pb.bot b - 1)).map (fun k =>
    Vb.height lv (Pb.bot b + 1 + k) * dispPitch (Vb.width lv (Pb.bot b + 1 + k)))).sum)

/-- A stereo band: the level's disparities by R168 to R174, written to the work area or, at BOT, with confidence and codes to the output. -/
def fstStereoWork (q l k w h : Nat) (lv rv b : List Byte) (c : FstCtx) (st : State) : State :=
  let c1 := st.pairCtx q
  let px := stereoBand b l w h k (st.visLevel lv l) (st.visLevel rv l) (SMap.get [] c1.maps (l + 1))
  let words := px.map (fun r => r.map (fun e => e.1))
  let c2 := { c1 with maps := SMap.upd [] c1.maps l (· ++ words) }
  let lineBytes := words.flatMap (fun r => r.flatMap (leBytes 2) ++ zeros (dispPitch w - 2 * w))
  if l = Pb.bot b then
    let conf := px.flatMap (fun r => r.flatMap (fun e => leBytes 1 e.2) ++ zeros (pad64 w - w))
    let codes := words.flatten.map (fun v => v / 8192)
    let cnt := fun (n : Nat) => (codes.filter (· == n)).length
    let c3 := { c2 with done := c2.done + 1,
                        codes := (List.range 5).foldl (fun m n => SMap.upd 0 m n (· + cnt n)) c2.codes }
    let s1 := (((st.setPairCtx q c3).stB (dispAddr b + 16 * k * dispPitch w) lineBytes).stB
      (confAddr b w h + 16 * k * pad64 w) conf).addItems c.slot c.index 1
    let s2 := ((List.range 5).foldl (fun x n => x.countN 4 (fstCnt 1 q (2 + n)) (cnt n)) s1).count 4 (fstCnt 1 q 0)
    c3.flag s2 k Flag.ready
  else (st.setPairCtx q c2).stB (workAddr lv b l + 16 * k * dispPitch w) lineBytes

/-- STEREO_BAND (R168 to R175, R181, R183). -/
def fstStereoBand (q l k : Nat) (s : State) : State :=
  let c := s.pairCtx q
  let b := c.block
  match visBlockOf (s.img c.slot) (Pb.left b), visBlockOf (s.img c.slot) (Pb.right b) with
  | some lv, some rv =>
    match (stereoUnits lv rv b)[c.cursor]? with
    | none => s
    | some u =>
      if !c.active || c.stopped || u.level != l || u.band != k then s
      else
        let need := min (k + 1) (Vb.bands lv l - 1)
        let fl := [s.visFlag (Vb.ctx lv) (Vb.bandFlag lv l need), s.visFlag (Vb.ctx rv) (Vb.bandFlag rv l need)]
        if fl.contains Flag.empty then s.fstWait 1 q
        else if fl.contains Flag.cut || fl.contains Flag.stale then
          ((s.fstStop 1 q 0).setBit (Reg.FST_PAIR_STATUS q) 1).degrade c.slot c.index
        else
          let w := Vb.width lv l; let h := Vb.height lv l
          let cyc := 16 * (w * (if l = Pb.top b then ceilDiv (dmax l + 1) 65 else 1) + 24)
          let tok := 48 * ceilDiv (2 * w) 64 + (if l = Pb.bot b then 16 * ceilDiv w 64 else 0) +
            (if l < Pb.top b then 8 * ceilDiv (2 * Vb.width lv (l + 1)) 64 else 0)
          s.fstPay 1 q cyc tok (fstStereoWork q l k w h lv rv b c)
  | _, _ => s

/-! ### Flow units (R177 to R180) -/

/-- Bytes of a reference half and the parts of it (R177). -/
def halfLevel (vb b : List Byte) (l : Nat) : Nat :=
  64 + (((Fb.levels b).filter (· < l)).map (fun k => Vb.height vb k * pad64 (2 * Vb.width vb k))).sum
def halfSlots (vb b : List Byte) : Nat := halfLevel vb b 5
def halfSize (vb b : List Byte) : Nat := pad64 (halfSlots vb b + 16 * Fb.maxTracks b)
def halfAddr (vb b : List Byte) (n : Nat) : Nat := Fb.refBase b + (n % 2) * halfSize vb b

/-- n′ of a cadence. -/
def State.strided (s : State) (slot cadence : Nat) : Nat := cadence / max 1 (Img.stride (s.img slot))

/-- A copied band: its lines into the half of this cadence; the last unit of source 1 marks the half whole. -/
def fstCopyWork (l k pitch : Nat) (vb b : List Byte) (c : FstCtx) (st : State) : State :=
  let half := halfAddr vb b (st.strided c.slot c.cadence)
  let s1 := if c.cursor = 0 then st.stB half (leBytes 8 c.cadence ++ zeros 56) else st
  let n := (bandLines vb l k).length * pitch
  let s2 := s1.stB (half + halfLevel vb b l + 16 * k * pitch) (s1.ldB (Vb.levelAddr vb l + 16 * k * pitch) n)
  if c.cursor + 1 = (copyUnits vb b).length ∧ Fb.source b = 1 then s2.stB (half + 8) [1] else s2

/-- FLOW_COPY (R177, R181, R183). -/
def fstFlowCopy (i l k : Nat) (s : State) : State :=
  let c := s.flowCtx i
  let b := c.block
  match visBlockOf (s.img c.slot) (Fb.stream b) with
  | none => s
  | some vb =>
    match (copyUnits vb b)[c.cursor]? with
    | none => s
    | some u =>
      if !c.active || c.stopped || u.level != l || u.band != k then s
      else
        match s.visFlag i (Vb.bandFlag vb l k) with
        | .empty => s.fstWait 0 i
        | .ready =>
          let w := Vb.width vb l
          let pitch := pad64 (2 * w)
          s.fstPay 0 i (16 * ceilDiv w 32) (32 * ceilDiv (2 * w) 64) (fstCopyWork l k pitch vb b c)
        | _ => ((s.fstStop 0 i 0).setBit (Reg.FST_FLOW_STATUS i) 2).degrade c.slot c.index

/-- The carried levels' keypoint slots and counts into the half of this cadence, which is whole with them. -/
def fstCarryWork (i : Nat) (vb b : List Byte) (c : FstCtx) (st : State) : State :=
  let half := halfAddr vb b (st.strided c.slot c.cadence)
  let arr := (Fb.carried b).flatMap (fun l =>
    st.ldB (Vb.featureAddr vb + 64 + 16 * Vb.cornersBefore vb l) (16 * Vb.maxCorners vb l))
  let counts := (List.range 5).flatMap (fun l =>
    leBytes 2 (if (Fb.carry b).testBit l then SMap.get 0 (st.visCtx i).count l else 0))
  ((st.stB (half + halfSlots vb b) arr).stB (half + 10) counts).stB (half + 8) [1]

/-- FLOW_CARRY (R177): the keypoint arrays of the carried levels, MAX_CORNERS slots each, and their COUNT values. -/
def fstFlowCarry (i : Nat) (s : State) : State :=
  let c := s.flowCtx i
  let b := c.block
  match visBlockOf (s.img c.slot) (Fb.stream b) with
  | none => s
  | some vb =>
    if !c.active || c.stopped || Fb.source b != 0 || c.cursor != (copyUnits vb b).length then s
    else
      let fl := (Fb.carried b).map (fun l => s.visFlag i (Vb.listFlag vb l))
      if fl.contains Flag.empty then s.fstWait 0 i
      else if fl.contains Flag.cut || fl.contains Flag.stale then
        (s.fstStop 0 i 4).degrade c.slot c.index
      else
        s.fstPay 0 i (16 + Fb.maxTracks b / 4) (Fb.maxTracks b / 2) (fstCarryWork i vb b c)

/-- A track: position, guess, ID. -/
structure Track where
  x : Nat
  y : Nat
  gx : Int
  gy : Int
  id : Nat
  deriving DecidableEq, Repr

/-- The tracks of this cadence (R178), and whether the list was truncated. SQ9.5 has 15 bits (R5). -/
def State.flowTracks (s : State) (vb b : List Byte) (half : Nat) : List Track × Bool :=
  if Fb.source b = 1 then
    let n := s.ld (Fb.listBase b) 2
    let m := min n (Fb.maxTracks b)
    ((List.range m).map (fun k =>
      let e := s.ldB (Fb.listBase b + 64 + 16 * k) 16
      ⟨leAt e 0 4 % 2 ^ 18, leAt e 8 4 % 2 ^ 18, sgn 15 (leAt e 4 2), sgn 15 (leAt e 6 2), leAt e 12 4⟩), decide (m < n))
  else
    let before := fun (l : Nat) => (((Fb.carried b).filter (· < l)).map (Vb.maxCorners vb)).sum
    ((Fb.carried b).flatMap (fun l =>
      (List.range (s.ld (half + 10 + 2 * l) 2)).map (fun k =>
        let e := s.ldB (half + halfSlots vb b + 16 * (before l + k)) 8
        (⟨leAt e 0 4, leAt e 4 4, 0, 0, 65536 * l + k⟩ : Track))), false)

/-- The read half of this cadence where it is usable (R177); not in the first cadence since STARTING (R183). -/
def State.refHalf (s : State) (c : FstCtx) (vb : List Byte) : Option Nat :=
  let b := c.block
  let n := s.strided c.slot c.cadence
  let half := halfAddr vb b (n + 1)
  if c.ranBefore && (s.ld (half + 8) 1).testBit 0 && s.ld half 8 + Img.stride (s.img c.slot) == c.cadence then some half else none

/-- A bilinear sample at 1/64 pixel (R144); none where it fails validity. -/
def sample (img : List (List Nat)) (w h : Nat) (px py : Int) : Option Int :=
  if px < 0 ∨ 64 * ((w : Int) - 1) < px ∨ py < 0 ∨ 64 * ((h : Int) - 1) < py then none
  else
    let xi := (px / 64).toNat; let yi := (py / 64).toNat
    let fx := (px % 64).toNat; let fy := (py % 64).toNat
    let taps := [((64 - fx) * (64 - fy), xi, yi), (fx * (64 - fy), xi + 1, yi), ((64 - fx) * fy, xi, yi + 1),
      (fx * fy, xi + 1, yi + 1)].filter (fun t => t.1 != 0)
    if taps.all (fun t => pxValid (pxAt img t.2.1 t.2.2)) then
      some ((((taps.map (fun t => t.1 * (pxAt img t.2.1 t.2.2 % 4096))).sum + 2048) / 4096 : Nat))
    else none

/-- All of a list of optional samples. -/
def allSome : List (Option Int) → Option (List Int)
  | [] => some []
  | none :: _ => none
  | some v :: r => (allSome r).map (v :: ·)

/-- What a track's processing has reached: displacement (1/256 px of level `level`), its level, updated?, last cost, code. -/
structure TrackState where
  dx : Int
  dy : Int
  level : Nat
  updated : Bool
  cost : Nat
  code : Nat
  deriving DecidableEq, Repr

/-- The iterations of a level (R179). `t` the 9 × 9 reference samples, row by row. -/
def lkIter (cur : List (List Nat)) (w h : Nat) (prx pry : Int) (t : List Int) (gxx gyy gxy : Int) :
    Nat → TrackState → TrackState
  | 0, st => st
  | n + 1, st =>
    if st.code ≠ 0 then st
    else
      let tv := fun (i j : Nat) => t.getD (9 * j + i) 0
      let pcx := prx + rneDiv st.dx 4
      let pcy := pry + rneDiv st.dy 4
      let grid := (List.range 7).flatMap (fun (j : Nat) => (List.range 7).map (fun (i : Nat) => (i, j)))
      match allSome (grid.map (fun g => sample cur w h (pcx + 64 * ((g.1 : Int) - 3)) (pcy + 64 * ((g.2 : Int) - 3)))) with
      | none => { st with code := 3 }
      | some cs =>
        let es := (grid.zip cs).map (fun e => (tv (e.1.1 + 1) (e.1.2 + 1) - e.2,
          tv (e.1.1 + 2) (e.1.2 + 1) - tv e.1.1 (e.1.2 + 1), tv (e.1.1 + 1) (e.1.2 + 2) - tv (e.1.1 + 1) e.1.2))
        let bx := (es.map (fun e => e.1 * e.2.1)).sum
        let bv := (es.map (fun e => e.1 * e.2.2)).sum
        let det := (gxx * gyy - gxy * gxy).toNat
        let dx := st.dx + rneDiv (512 * (gyy * bx - gxy * bv)) det
        let dy := st.dy + rneDiv (512 * (gxx * bv - gxy * bx)) det
        let cost := (es.map (fun e => e.1.natAbs)).sum
        let far := decide (131064 < dx.natAbs * 2 ^ st.level) || decide (131064 < dy.natAbs * 2 ^ st.level)
        lkIter cur w h prx pry t gxx gyy gxy n { st with dx := dx, dy := dy, updated := true, cost := cost, code := if far then 3 else 0 }

/-- One level of a track (R179). -/
def lkLevel (b : List Byte) (ref cur : List (List Nat)) (w h l : Nat) (u : Track) (st : TrackState) : TrackState :=
  if st.code ≠ 0 then st
  else
    let prx := rneDiv u.x (2 ^ l)
    let pry := rneDiv u.y (2 ^ l)
    let pos := (List.range 9).flatMap (fun (j : Nat) => (List.range 9).map (fun (i : Nat) => (i, j)))
    match allSome (pos.map (fun p => sample ref w h (prx + 64 * ((p.1 : Int) - 4)) (pry + 64 * ((p.2 : Int) - 4)))) with
    | none => { st with code := 4, level := l }
    | some t =>
      let tv := fun (i j : Nat) => t.getD (9 * j + i) 0
      let gr := (List.range 7).flatMap (fun (j : Nat) => (List.range 7).map (fun (i : Nat) =>
        (tv (i + 2) (j + 1) - tv i (j + 1), tv (i + 1) (j + 2) - tv (i + 1) j)))
      let gxx := (gr.map (fun g => g.1 * g.1)).sum
      let gyy := (gr.map (fun g => g.2 * g.2)).sum
      let gxy := (gr.map (fun g => g.1 * g.2)).sum
      let eig := (gxx + gyy - (isqrt ((gxx - gyy) * (gxx - gyy) + 4 * gxy * gxy).toNat : Nat)) / 2
      if eig < Fb.eigMin b ∨ gxx * gyy - gxy * gxy = 0 then { st with code := 1, level := l }
      else lkIter cur w h prx pry t gxx gyy gxy (Fb.iter b l) { st with level := l }

/-- Levels from TOP to BOT, doubling the displacement between them. -/
def lkRun (b vb : List Byte) (ref cur : Nat → List (List Nat)) (u : Track) : Nat → Nat → TrackState → TrackState
  | 0, _, st => st
  | n + 1, l, st =>
    let st1 := lkLevel b (ref l) (cur l) (Vb.width vb l) (Vb.height vb l) l u st
    if st1.code ≠ 0 ∨ l = Fb.bot b then st1
    else lkRun b vb ref cur u n (l - 1) { st1 with dx := 2 * st1.dx, dy := 2 * st1.dy, level := l - 1 }

/-- The flow record of a track (Table 8.5) and its code. -/
def trackRecord (b vb : List Byte) (ref cur : Nat → List (List Nat)) (u : Track) : List Byte × Nat :=
  let st0 : TrackState := ⟨rneDiv (8 * u.gx) (2 ^ Fb.top b), rneDiv (8 * u.gy) (2 ^ Fb.top b), Fb.top b, false, 0, 0⟩
  let st := lkRun b vb ref cur u 5 (Fb.top b) st0
  let lim := 49 * Fb.occT b
  let code := if st.code = 0 ∧ lim < st.cost then 2 else st.code
  let vec := fun (d g : Int) => if st.updated then rneDiv (d * 2 ^ st.level) 8 else g
  let vx := vec st.dx u.gx
  let vy := vec st.dy u.gy
  let sat := satS 15 vx != vx || satS 15 vy != vy
  let conf := if code = 0 then 255 * (lim - st.cost) / lim else 0
  (leBytes 4 u.id ++ sleBytes 2 (satS 15 vx) ++ sleBytes 2 (satS 15 vy) ++ leBytes 4 st.cost ++
    leBytes 1 (code + 8 * b2n sat + 16 * b2n (u.gx != 0 || u.gy != 0)) ++ leBytes 1 conf ++ leBytes 1 st.level ++ [0], code)

/-- Units before the track bands: the copies and, with SOURCE 0, the carry unit. -/
def flowLead (vb b : List Byte) : Nat := (copyUnits vb b).length + (if Fb.source b = 0 then 1 else 0)

/-- A VIS stage of the Route produces a flag. -/
def State.isVisFlag (s : State) (slot f : Nat) : Bool :=
  s.vis.ctxs.any (fun e => e.2.slot == slot && e.2.outFlags.contains f)

/-- Flags of the block's inputs that no VIS stage produces: the track list's flag (assumption log 17). -/
def State.listDegraded (s : State) (c : FstCtx) : Bool :=
  let d := s.sd c.slot c.index
  Fb.source c.block == 1 && (List.range (Sd.inputCount d)).any (fun k =>
    let f := inputFlag (s.img c.slot) d k
    let st := s.flagOf c.slot f
    !s.isVisFlag c.slot f && (st == Flag.cut || st == Flag.stale))

/-- Up to 16 tracks: their records by R179, counters and codes; the last band sets the flag. -/
def fstTrackWork (i k half n : Nat) (vb b : List Byte) (tracks : List Track) (c : FstCtx) (st : State) : State :=
  let ref := fun l => st.rows16 (half + halfLevel vb b l) (Vb.width vb l) (Vb.height vb l) (pad64 (2 * Vb.width vb l))
  let recs := ((tracks.drop (16 * k)).take 16).map (trackRecord b vb ref (fun l => st.visLevel vb l))
  let c1 := st.flowCtx i
  let codes := recs.map (fun r => r.2)
  let cnt := fun (m : Nat) => (codes.filter (· == m)).length
  let c2 := { c1 with done := c1.done + recs.length,
                      codes := (List.range 5).foldl (fun m x => SMap.upd 0 m x (· + cnt x)) c1.codes }
  let s1 := ((st.setFlow i c2).stB (Fb.outBase b + 64 + 256 * k) (recs.flatMap (fun r => r.1))).addItems c.slot c.index recs.length
  let s2 := ((List.range 5).foldl (fun x m => x.countN 4 (fstCnt 0 i (2 + m)) (cnt m)) s1).countN 4 (fstCnt 0 i 0) recs.length
  if n ≤ 16 * (k + 1) then c2.flag s2 0 Flag.ready else s2

/-- TRACK_BAND (R179, R181, R183). -/
def fstTrackBand (i k : Nat) (s : State) : State :=
  let c := s.flowCtx i
  let b := c.block
  match visBlockOf (s.img c.slot) (Fb.stream b) with
  | none => s
  | some vb =>
    let lead := flowLead vb b
    if !c.active || c.stopped || c.cursor != lead + k then s
    else
      match s.refHalf c vb with
      | none => (s.fstStop 0 i 1).setBit (Reg.FST_FLOW_STATUS i) 0 |>.degrade c.slot c.index
      | some half =>
        if s.listDegraded c then (s.fstStop 0 i 4).degrade c.slot c.index
        else
          let tl := s.flowTracks vb b half
          let n := tl.1.length
          let s0 := if tl.2 then (s.setFlow i { c with hdr := c.hdr ||| 8 }).setBit (Reg.FST_FLOW_STATUS i) 3 else s
          if n ≤ 16 * k then s0
          else
            let sumOf := fun (f : Nat → Nat) => ((Fb.levels b).map f).sum
            s0.fstPay 0 i (16 + 16 * sumOf (fun l => 12 + 4 * Fb.iter b l)) (16 * sumOf (fun l => 10 + 10 * Fb.iter b l) + 4)
              (fstTrackWork i k half n vb b tl.1 c)

/-! ### The close unit (R181) -/

/-- INPUT_FILLED of a stream's VIS header of this cadence (Table 7.4). -/
def State.visFilled (s : State) (vb : List Byte) (cadence : Nat) : Bool :=
  let h := s.ldB (Vb.featureAddr vb) 64
  leAt h 8 8 == cadence && (leAt h 2 1).testBit 1

/-- Every other unit of the block has ended. -/
def State.fstUnitsOver (s : State) (e i : Nat) : Bool :=
  let c := s.fstCtx e i
  let b := c.block
  c.stopped ||
  (if e = 1 then
    match visBlockOf (s.img c.slot) (Pb.left b), visBlockOf (s.img c.slot) (Pb.right b) with
    | some lv, some rv => decide ((stereoUnits lv rv b).length ≤ c.cursor)
    | _, _ => true
  else
    match visBlockOf (s.img c.slot) (Fb.stream b) with
    | some vb =>
      match s.refHalf c vb with
      | some half => decide (flowLead vb b + ceilDiv (s.flowTracks vb b half).1.length 16 ≤ c.cursor)
      | none => false
    | none => true)

/-- Cost and tokens of the close unit (Table 8.7). -/
def fstCloseCost (e : Nat) (c : FstCtx) : Nat × Nat :=
  if e = 1 then (16, 1)
  else
    let free := Fb.maxTracks c.block - 16 * ceilDiv c.done 16
    (16 + free / 4, 1 + free / 4)

/-- The close unit is issued and charged whatever the sub-bucket holds; a block that cannot pay for it alone is cut there (R181, R182). -/
def State.fstCloseCut (s : State) (e i : Nat) : State :=
  let c := s.fstCtx e i
  let spent := s.fstLimits e i (fstCloseCost e c).1 (fstCloseCost e c).2
  if c.stopped || spent == 0 then s else s.fstCut e i spent

/-- Header, zero slots, flag; the instance ends with the last block of its stage. -/
def State.fstClose (s00 : State) (e i : Nat) : State :=
  let s0 := s00.fstCloseCut e i
  let c := s0.fstCtx e i
  let b := c.block
  let s := match s0.runOf c.slot c.index with
    | some r => (s0.chargeTo r e (fstCloseCost e c).1 (fstCloseCost e c).2).bankBusy 4 e (fstCloseCost e c).1
    | none => s0
  let cnt := fun (k n : Nat) => (List.range 5).flatMap (fun m => leBytes n (SMap.get 0 c.codes m % 2 ^ k))
  let s1 :=
    if e = 1 then
      let vbs := [visBlockOf (s.img c.slot) (Pb.left b), visBlockOf (s.img c.slot) (Pb.right b)]
      let filled := vbs.any (fun v => match v with | some vb => s.visFilled vb c.cadence | none => false)
      let w := match vbs.headD none with | some vb => (Vb.width vb (Pb.bot b), Vb.height vb (Pb.bot b)) | none => (0, 0)
      let s0 := if filled then (s.degrade c.slot c.index).setBit (Reg.FST_PAIR_STATUS i) 2 else s
      let hdr := leBytes 2 (Pb.left b) ++ leBytes 2 (Pb.right b) ++ leBytes 1 (c.hdr ||| 4 * b2n filled) ++ leBytes 1 (Pb.bot b) ++
        leBytes 2 w.1 ++ leBytes 2 w.2 ++ leBytes 2 c.done ++ leBytes 4 (c.cadence % 2 ^ 32) ++ leBytes 8 c.cadence ++
        cnt 32 4 ++ zeros 20
      let s2 := ((s0.stB (Pb.outBase b) hdr).setRegN (Reg.FST_PAIR_VALID i) (SMap.get 0 c.codes 0)).setPair
        (Reg.FST_PAIR_LAST_CAD_LO i) (Reg.FST_PAIR_LAST_CAD_HI i) c.cadence
      c.flag s2 (s.fstFlagCount 1 c.slot b - 1) Flag.ready
    else
      let refCad := match visBlockOf (s.img c.slot) (Fb.stream b) with
        | some vb => (match s.refHalf c vb with | some _ => c.cadence - Img.stride (s.img c.slot) | none => 0)
        | none => 0
      let hdr := leBytes 2 (Fb.stream b) ++ leBytes 1 c.hdr ++ [0] ++ leBytes 4 (c.cadence % 2 ^ 32) ++ leBytes 8 c.cadence ++
        leBytes 8 refCad ++ leBytes 2 c.done ++ cnt 16 2 ++ zeros 28
      let s2 := (s.stB (Fb.outBase b) hdr).stB (Fb.outBase b + 64 + 16 * c.done) (zeros (16 * (Fb.maxTracks b - c.done)))
      let s3 := (s2.setRegN (Reg.FST_FLOW_LAST i) (c.done + 65536 * SMap.get 0 c.codes 0)).setPair
        (Reg.FST_FLOW_REF_CAD_LO i) (Reg.FST_FLOW_REF_CAD_HI i) refCad
      let s4 := if !c.stopped && c.done == 0 then c.flag s3 0 Flag.ready else s3
      c.flag s4 1 Flag.ready
  let s6 := s1.setFst e i { c with active := false }
  let left := (if e = 0 then s6.fst.flows else s6.fst.pairs).any
    (fun x => x.2.active && x.2.slot == c.slot && x.2.index == c.index)
  if left then s6 else (s6.endInst c.slot c.index e).putBit Reg.FST_STATUS e false

/-- CLOSE_UNIT: engine 0 flow or 1 stereo, and the context. A flow block without a usable read half ends here with
REF_MISSING, one whose track list is CUT or STALE with LIST_DEGRADED, when no track band event told of it (R183). -/
def fstCloseUnit (e i : Nat) (s : State) : State :=
  let c := s.fstCtx e i
  if !c.active then s
  else
    let lead := match visBlockOf (s.img c.slot) (Fb.stream c.block) with
      | some vb => if e = 0 ∧ !c.stopped ∧ c.cursor = flowLead vb c.block then some vb else none
      | none => none
    match lead with
    | some vb =>
      if (s.refHalf c vb).isNone then
        (((s.fstStop 0 i 1).setBit (Reg.FST_FLOW_STATUS i) 0).degrade c.slot c.index).fstClose 0 i
      else if s.listDegraded c then ((s.fstStop 0 i 4).degrade c.slot c.index).fstClose 0 i
      else if s.fstUnitsOver e i then s.fstClose e i
      else s
    | none => if s.fstUnitsOver e i then s.fstClose e i else s

/-! ### Stage start, deadline, Route checks -/

def blocks64 (image d : List Byte) (max_ : Nat) (ok : List Byte → Bool) : List (List Byte) :=
  ((List.range max_).map (fun k => (image.drop (Sd.program d + 64 * k)).take 64)).takeWhile (fun b => b.length == 64 && ok b)

/-- The blocks of an FST stage: they follow one another as long as their first field names a camera stream
(assumption log 15); one more than allowed is looked at. -/
def fstBlocks (image d : List Byte) : List (List Byte) :=
  blocks64 image d (if Sd.unitMask d = 1 then 5 else 3) (fun b => rng (leAt b 0 2) 0x010 0x01F)

def fstIndex (e : Nat) (b : List Byte) : Nat := if e = 0 then Fb.ctx b else Pb.pair b

/-- An FST stage starts. -/
def State.fstStart (s : State) (r : Run) : State :=
  let d := s.runDesc r
  let e := if Sd.unitMask d = 1 then 0 else 1
  let place := fun (acc : State × Nat) (b : List Byte) =>
    let c : FstCtx := { FstCtx.reset with
      block := b, slot := r.slot, index := r.index, flagBase := acc.2,
      outFlags := (r.outFlags.drop acc.2).take (s.fstFlagCount e r.slot b), cadence := r.cadence, active := true,
      ran := true, ranBefore := (acc.1.fstCtx e (fstIndex e b)).ran }
    let s1 := acc.1.setFst e (fstIndex e b) c
    let s2 := if e = 0 then s1.putBit (Reg.FST_FLOW_STATUS (Fb.ctx b)) 4 (s1.strided r.slot r.cadence % 2 == 1) else s1
    (s2, acc.2 + s.fstFlagCount e r.slot b)
  ((fstBlocks (s.img r.slot) d).foldl place (s.setBit Reg.FST_STATUS e, 0)).1

/-- The deadline: flags not READY become CUT, the close unit writes each header with CUT (Table 8.8). -/
def State.fstDeadline (s : State) (r : Run) : State :=
  let e := if Sd.unitMask (s.runDesc r) = 1 then 0 else 1
  s.each (fstBlocks (s.img r.slot) (s.runDesc r)) (fun st b =>
    let i := fstIndex e b
    if (st.fstCtx e i).active then ((st.fstStop e i (if e = 0 then 2 else 1)).degrade r.slot r.index).fstClose e i else st)

/-- ACTIVE of the contexts of a Route (Tables 8.10 and 8.11); one that enters STARTING has no read half yet (R183). -/
def State.fstActive (s : State) (slot : Nat) (on : Bool) : State :=
  let image := s.img slot
  let ds := ((List.range (Img.stageCount image)).map (Img.desc image)).filter (fun d => Sd.cls d == 1)
  s.each ds (fun st d =>
    let e := if Sd.unitMask d = 1 then 0 else 1
    st.each (fstBlocks image d) (fun st2 b =>
      let st3 := st2.setFst e (fstIndex e b) { st2.fstCtx e (fstIndex e b) with ran := false }
      if e = 0 then st3.putBit (Reg.FST_FLOW_STATUS (Fb.ctx b)) 5 on else st3.putBit (Reg.FST_PAIR_STATUS (Pb.pair b)) 3 on))

/-- Contexts an image's FST stages name: flow streams, and pairs from 256 on (R165, R166). -/
def fstNames (image : List Byte) : List Nat :=
  (((List.range (Img.stageCount image)).map (Img.desc image)).filter (fun d => Sd.cls d == 1)).flatMap (fun d =>
    (fstBlocks image d).map (fun b => if Sd.unitMask d = 1 then Fb.stream b else 256 + Pb.pair b))

def flowBlockOk (b d : List Byte) : Bool :=
  decide (Fb.source b ≤ 1) && decide (Fb.top b ≤ 4) && decide (Fb.bot b ≤ Fb.top b) &&
    (Fb.levels b).all (fun l => rng (Fb.iter b l) 1 8) && decide (Fb.carry b ≤ 0x1F) && zeroIn b 11 12 &&
    rng (Fb.maxTracks b) 16 2048 && Fb.maxTracks b % 16 == 0 && rng (Fb.occT b) 1 4095 && decide (Fb.eigMin b < 2 ^ 31) &&
    zeroIn b 20 24 && Fb.refBase b % 64 == 0 && Fb.outBase b % 64 == 0 && (addrRow (Fb.refBase b) 64).isSome &&
    (addrRow (Fb.outBase b) (64 + 16 * Fb.maxTracks b)).isSome && (Fb.source b == 0 || (addrRow (Fb.listBase b) 64).isSome) &&
    rng (Fb.shareCyc b) 1 (Sd.cycLimit d) && decide (Fb.shareTok b ≤ Sd.tokLimit d) && zeroIn b 56 64

def pairBlockOk (b d : List Byte) : Bool :=
  rng (Pb.left b) 0x010 0x01F && rng (Pb.right b) 0x010 0x01F && decide (Pb.pair b ≤ 7) && decide (Pb.top b ≤ 4) &&
    decide (Pb.bot b ≤ Pb.top b) && decide (Pb.lrT b ≤ 7) && rng (Pb.p1 b) 1 62 && rng (Pb.p2 b) (Pb.p1 b) 255 &&
    decide (Pb.texT b ≤ 4095) && zeroIn b 12 16 && Pb.outBase b % 64 == 0 && (addrRow (Pb.outBase b) 64).isSome &&
    Pb.workBase b % 64 == 0 && (if Pb.workBase b = 0 then Pb.top b == Pb.bot b else (addrRow (Pb.workBase b) 64).isSome) &&
    rng (Pb.shareCyc b) 1 (Sd.cycLimit d) && decide (Pb.shareTok b ≤ Sd.tokLimit d) && zeroIn b 40 64

/-- DETAIL 0x6A of a flow or pair block: the VIS block of its stream and what it must provide (R165). -/
def fstSourceOk (image : List Byte) (e : Nat) (b : List Byte) : Bool :=
  let has := fun (stream bot top : Nat) =>
    match visBlockOf image stream with
    | some vb => (List.range 5).all (fun l => decide (l < bot) || decide (top < l) || (Vb.levelsOut vb).testBit l)
    | none => false
  if e = 1 then has (Pb.left b) (Pb.bot b) (Pb.top b) && has (Pb.right b) (Pb.bot b) (Pb.top b)
  else
    has (Fb.stream b) (Fb.bot b) (Fb.top b) &&
    (match visBlockOf image (Fb.stream b) with
      | some vb => (Fb.carried b).all (fun l => (Vb.cornerLevels vb).testBit l) &&
          decide (((Fb.carried b).map (Vb.maxCorners vb)).sum ≤ Fb.maxTracks b)
      | none => false)

/-- ROUTE_LOAD's checks of the FST stages (R165): DETAIL 0x68 to 0x6B. -/
def fstLoadRefusal (image : List Byte) : Option Nat :=
  let ds := ((List.range (Img.stageCount image)).map (Img.desc image)).filter (fun d => Sd.cls d == 1)
  let eng := fun (d : List Byte) => if Sd.unitMask d = 1 then 0 else 1
  let okB := fun (d b : List Byte) => if eng d = 0 then flowBlockOk b d else pairBlockOk b d
  let names := fstNames image
  let pairs := (ds.filter (fun d => eng d == 1)).flatMap (fun d => fstBlocks image d)
  if ds.any (fun d => (Sd.unitMask d != 1 && Sd.unitMask d != 2) || (fstBlocks image d).isEmpty ||
      decide ((if eng d = 0 then 4 else 2) < (fstBlocks image d).length)) then some 0x68
  else if ds.any (fun d => (fstBlocks image d).any (fun b => !okB d b) ||
      decide (Sd.cycLimit d < ((fstBlocks image d).map (fstShareCyc (eng d))).sum) ||
      decide (Sd.tokLimit d < ((fstBlocks image d).map (fstShareTok (eng d))).sum)) || names.length != names.eraseDups.length then some 0x69
  else if ds.any (fun d => (fstBlocks image d).any (fun b => !fstSourceOk image (eng d) b)) then some 0x6A
  else if pairs.any (fun b => Pb.left b == Pb.right b ||
      (match visBlockOf image (Pb.left b), visBlockOf image (Pb.right b) with
        | some lv, some rv => Vb.rectW lv != Vb.rectW rv || Vb.rectH lv != Vb.rectH rv
        | _, _ => false)) then some 0x6B
  else none

/-- The stereo block of pair `q` in an image. -/
def pairBlockOf (image : List Byte) (q : Nat) : Option (List Byte) :=
  ((((List.range (Img.stageCount image)).map (Img.desc image)).filter (fun d => Sd.cls d == 1 && Sd.unitMask d == 2)).flatMap
    (fun d => fstBlocks image d)).find? (fun b => Pb.pair b == q)

/-- The state of a pair's header flag, the last of its flags. -/
def State.pairHeaderFlag (s : State) (q : Nat) : Flag :=
  let c := s.pairCtx q
  match c.outFlags.getLast? with
  | some f => s.flagOf c.slot f
  | none => Flag.empty

/-! ### The rows -/

/-- A row of a context of engine `e`: its writes are attributed to the context's cadence; nothing while its stage waits (R43). -/
def State.fstRow (s : State) (e i : Nat) (g : State → State) : State :=
  s.act (fun t =>
    let c := t.fstCtx e i
    if t.waitsAt c.slot c.index then t else t.writing 2 c.cadence g)

/-- STEREO_BAND (R181). -/
def execStereoBand (pair level band : Nat) (s : State) : Out := .next (s.fstRow 1 pair (fstStereoBand pair level band))
/-- FLOW_COPY (R181). -/
def execFlowCopy (stream level band : Nat) (s : State) : Out := .next (s.fstRow 0 stream (fstFlowCopy stream level band))
/-- FLOW_CARRY (R181). -/
def execFlowCarry (stream : Nat) (s : State) : Out := .next (s.fstRow 0 stream (fstFlowCarry stream))
/-- TRACK_BAND (R179). -/
def execTrackBand (stream band : Nat) (s : State) : Out := .next (s.fstRow 0 stream (fstTrackBand stream band))
/-- CLOSE_UNIT (R181). -/
def execCloseUnit (engine ctx : Nat) (s : State) : Out := .next (s.fstRow engine ctx (fstCloseUnit engine ctx))

end Sys2Proof.Machine
end

