-- ==== Sys2Proof/Machine/Fus.lean ====
section
/-! DEFINITION. The Fusion Unit (ch. 9): alignment buffers, instants, projection, pixel, feature and state levels, the
Mirage check, delayed records. -/

namespace Sys2Proof.Machine

/-! ### Blocks and entries (Tables 9.1 and 9.2) -/

namespace Ub
def ctx (b : List Byte) : Nat := leAt b 0 1
def levels (b : List Byte) : Nat := leAt b 1 1
def anchor (b : List Byte) : Nat := leAt b 2 1
def entries (b : List Byte) : Nat := leAt b 3 1
def outOfs (b : List Byte) : Nat := leAt b 4 4
def outStep (b : List Byte) : Nat := leAt b 8 4
def outCount (b : List Byte) : Nat := leAt b 12 1
def pixPair (b : List Byte) : Nat := leAt b 13 1
def maxFeat (b : List Byte) : Nat := leAt b 14 2
def anchorOfs (b : List Byte) : Int := sleAt b 16 4
def fxb (b : List Byte) : Nat := leAt b 20 4
def agreeMm (b : List Byte) : Nat := leAt b 24 2
def agreePct (b : List Byte) : Nat := leAt b 26 1
def gateV (b : List Byte) : Nat := leAt b 28 4
def gateW (b : List Byte) : Nat := leAt b 32 4
def delaySlots (b : List Byte) : Nat := leAt b 36 2
def silentEdges (b : List Byte) : Nat := leAt b 38 2
def outBase (b : List Byte) : Nat := leAt b 40 8
def pixBase (b : List Byte) : Nat := leAt b 48 8
/-- The block builds a pixel grid. -/
def pixel (b : List Byte) : Bool := levels b % 4 != 0
end Ub

namespace Ue
def func (e : List Byte) : Nat := leAt e 0 2
def kind (e : List Byte) : Nat := leAt e 2 1
def group (e : List Byte) : Nat := leAt e 3 1
def wait (e : List Byte) : Nat := leAt e 4 4
def half (e : List Byte) : Nat := leAt e 8 4
def bufRecs (e : List Byte) : Nat := leAt e 12 2
def pair (e : List Byte) : Nat := leAt e 14 2
def nmPerEdge (e : List Byte) : Nat := leAt e 16 4
def trackMm (e : List Byte) : Nat := leAt e 20 2
def addr (e : List Byte) : Nat := leAt e 24 8
/-- Sides of an entry: a wheel pair has two buffers, lidar and state input one, a camera none. -/
def sides (e : List Byte) : Nat := if kind e = 4 then 2 else if kind e = 1 then 0 else 1
end Ue

namespace FusCtx
def entry (c : FusCtx) (i : Nat) : List Byte := c.entries.getD i (zeros 32)
/-- Indices of the entries of a kind. -/
def ofKind (c : FusCtx) (k : Nat) : List Nat := (List.range c.entries.length).filter (fun i => Ue.kind (c.entry i) == k)
/-- Vote groups in use, ascending (R202); none without the state level. -/
def groups (c : FusCtx) : List Nat :=
  if (Ub.levels c.block).testBit 2 then
    (List.range 4).filter (fun g => c.entries.any (fun e => (Ue.kind e == 4 || Ue.kind e == 6) && Ue.group e == g))
  else []
/-- Bytes of an instant area, its address, and the delayed area (R206). -/
def areaSize (c : FusCtx) : Nat := 32 * (1 + Ub.maxFeat c.block + c.groups.length)
def area (c : FusCtx) (j : Nat) : Nat := Ub.outBase c.block + j * c.areaSize
def delayArea (c : FusCtx) : Nat := c.area (Ub.outCount c.block)
def camera (c : FusCtx) : Option Nat := (c.ofKind 1).head?
end FusCtx

def State.fusCtx (s : State) (f : Nat) : FusCtx := SMap.get FusCtx.reset s.fus.ctxs f
def State.setFus (s : State) (f : Nat) (c : FusCtx) : State := { s with fus := { s.fus with ctxs := SMap.set s.fus.ctxs f c } }

/-- Counters of context `f` (Table 18.4): 0 POINTS, 1–3 PCODE, 4 DEPTH_RANGE, 5 STATE_DROP, 6 BUF_DROP, 7 LATE, 8 DELAYED,
9 DISCARDED, 10 DELAY_DROP. -/
def fusCnt (f k : Nat) : Nat := 2 + 11 * f + k
/-- Counters of a FUNC_ID: 0 GATED_CADENCES, 1 QUARANTINES. -/
def fusVoteCnt (func k : Nat) : Nat := 90 + 2 * (func - 0x010) + k

def fusStatus (f : Nat) : Nat := Reg.FUS_CTX_STATUS f

/-! ### Vote registers (Table 9.13) -/

def fusVoteReg (func : Nat) : Nat := Reg.FUS_VOTE (func - 0x010)
def State.quarantined (s : State) (func : Nat) : Bool := s.fld (fusVoteReg func) 0 2 == 2
def State.gatedRun (s : State) (func : Nat) : Nat := s.fld (fusVoteReg func) 4 4
def State.cleanRun (s : State) (func : Nat) : Nat := s.fld (fusVoteReg func) 8 8
def State.setRuns (s : State) (func gated clean : Nat) : State :=
  (s.setFld (fusVoteReg func) 4 4 gated).setFld (fusVoteReg func) 8 8 clean

/-- Some vote entry of the FUNC_ID is suspended by the latest state record of its group. -/
def State.suspended (s : State) (func : Nat) : Bool :=
  s.fus.ctxs.any (fun x => x.2.on && (List.range x.2.entries.length).any (fun i =>
    x.2.lastSuspended.testBit i && Ue.func (x.2.entry i) == func))

/-- Recompute the vote state of a FUNC_ID that is not quarantined (R204). -/
def State.voteUpdate (s : State) (func : Nat) : State :=
  if s.quarantined func then s
  else s.setFld (fusVoteReg func) 0 2 (if s.suspended func then 3 else if s.gatedRun func != 0 then 1 else 0)

/-- The sensor function enters STARTING: vote state and runs return to 0 (R204), and no suspension of it stands. -/
def State.fusSensorStarting (s : State) (func : Nat) : State :=
  let s1 : State := { s with fus := { s.fus with ctxs := s.fus.ctxs.map (fun x => (x.1, { x.2 with
    lastSuspended := maskOf ((List.range x.2.entries.length).filter (fun i =>
      x.2.lastSuspended.testBit i && Ue.func (x.2.entry i) != func)) })) } }
  (s1.setFld (fusVoteReg func) 0 2 0).setRuns func 0 0

/-! ### Instants (R191, R192) -/

/-- The frame of the cadence of a camera stream, where it is not ABSENT. -/
def State.frameOf (s : State) (stream cadence : Nat) : Option Frame :=
  match (s.cam (stream - 0x010)).frame with
  | some f => if f.cadence = cadence ∧ !f.absent then some f else none
  | none => none

/-- The camera stream a context is anchored to, and its trigger pin (0xFF: free-running). -/
def FusCtx.stream (c : FusCtx) : Nat := match c.camera with | some i => Ue.func (c.entry i) | none => 0x010
def State.fusPin (s : State) (c : FusCtx) : Nat := (s.cam (c.stream - 0x010)).trigger

/-- T_j. A trigger's offset is the one of the Route that claims it, as CCU_TRIG_OFFSETn shows it (R36). -/
def State.fusInstant (s : State) (c : FusCtx) (j : Nat) : Nat :=
  if Ub.anchor c.block = 0 then c.boundary + Ub.outOfs c.block + j * Ub.outStep c.block
  else
    let trig := s.fusPin c
    let a := if trig = 0xFF then (match s.frameOf c.stream c.cadence with | some f => f.fsTime | none => c.boundary)
      else c.boundary + s.regN (Reg.CCU_TRIG_OFFSET trig)
    ((a : Int) + Ub.anchorOfs c.block).toNat

/-- T_j is settled: not while a free-running anchor waits for its frame. -/
def State.fusSettled (s : State) (c : FusCtx) : Bool :=
  Ub.anchor c.block == 0 || s.fusPin c != 0xFF || (s.frameOf c.stream c.cadence).isSome

/-- Instants of the cadence still to be emitted, and the least instant behind them: the next cadence's first, or the one that is not
settled. -/
def State.fusFuture (s : State) (c : FusCtx) : List Nat × Nat :=
  let left := (List.range (Ub.outCount c.block)).drop c.insts.length
  if !left.isEmpty && !s.fusSettled c then ([], s.fusInstant c 0)
  else
    let c1 := { c with boundary := c.boundary + Img.period (s.img c.slot), cadence := c.cadence + 2 ^ 64 }
    (left.map (s.fusInstant c), s.fusInstant c1 0)

/-- A record's stamp lies in the point window of T. -/
def inWindow (half t at_ : Nat) : Bool := decide (t ≤ at_ + half) && decide (at_ < t + half)

/-- Bracketing pair of T in a buffer: the last record at or before T and the first at or after. -/
def bracket (buf : List FusBuf) (t : Nat) : Option FusBuf × Option FusBuf :=
  let lo := (buf.filter (fun b => decide (b.t ≤ t))).foldl (fun (m : Option FusBuf) b =>
    match m with | some x => if x.t < b.t then some b else m | none => some b) none
  let hi := (buf.filter (fun b => decide (t ≤ b.t))).foldl (fun (m : Option FusBuf) b =>
    match m with | some x => if b.t < x.t then some b else m | none => some b) none
  match lo, hi with
  | some a, _ => if a.t = t then (some a, some a) else (lo, hi)
  | _, _ => (lo, hi)

/-- Some instant still to be emitted can use the record (R193): it lies in a point window or in a bracketing pair, or behind the
settled instants. -/
def fusUseful (e : List Byte) (buf : List FusBuf) (future : List Nat × Nat) (b : FusBuf) : Bool :=
  if Ue.kind e = 5 then future.1.any (fun t => inWindow (Ue.half e) t b.t) || decide (future.2 ≤ b.t + Ue.half e)
  else
    let behind := match (bracket buf future.2).1 with
      | some a => decide (a.t ≤ b.t)
      | none => true
    behind || future.1.any (fun t => (bracket buf t).1.any (fun a => a.t == b.t) || (bracket buf t).2.any (fun a => a.t == b.t))

/-- Release the records no instant still to be emitted can use (R193). -/
def fusRelease (c : FusCtx) (future : List Nat × Nat) : FusCtx :=
  { c with bufs := c.bufs.map (fun e => (e.1, e.2.filter (fusUseful (c.entry (e.1 / 2)) e.2 future))) }

def State.fusFree (s : State) (f : Nat) : State := s.setFus f (fusRelease (s.fusCtx f) (s.fusFuture (s.fusCtx f)))

/-! ### Late samples (R194) -/

/-- The FUNC_ID of a sample of (entry, side): a right encoder's own. -/
def FusCtx.funcOf (c : FusCtx) (key : Nat) : Nat := if key % 2 = 1 then Ue.pair (c.entry (key / 2)) else Ue.func (c.entry (key / 2))

/-- A late sample of (entry, side): counted by FUNC_ID, then forwarded or discarded by the window start in effect. -/
def State.fusLateSample (s : State) (f key stamp : Nat) (bytes : List Byte) : State :=
  let c := s.fusCtx f
  let func := c.funcOf key
  let s0 := ((s.setBit (fusStatus f) 1).count 5 (fusCnt f 7))
  let s1 : State := { s0 with fus := { s0.fus with lateNow := SMap.upd 0 s0.fus.lateNow func (· + 1) } }
  let c1 := { c with lateCount := SMap.upd 0 c.lateCount func (· + 1) }
  if SMap.get (2 ^ 64 - 1) s.fus.win f ≤ stamp then
    if c.written + c.late.length < Ub.delaySlots c.block then
      s1.setFus f { c1 with late := c.late ++ [⟨key / 2, func, Ue.kind (c.entry (key / 2)), stamp, bytes⟩] }
    else (s1.setFus f { c1 with dropped := c.dropped + 1 }).count 5 (fusCnt f 10)
  else (s1.setFus f { c1 with discarded := c.discarded + 1 }).count 5 (fusCnt f 9)

/-- A record of KIND 5 lies in the window of an emitted instant; one of KIND 4 or 6 would have belonged to a bracketing
pair (Table 9.3). -/
def fusIsLate (c : FusCtx) (key t : Nat) : Bool :=
  let e := c.entry (key / 2)
  c.emitted.any (fun m =>
    if Ue.kind e = 5 then inWindow (Ue.half e) m.t t
    else
      let p := SMap.get (none, none) m.pairs key
      let before := match p.1 with | some l => decide (l < t) | none => true
      let after := match p.2 with | some h => decide (t < h) | none => true
      (decide (t ≤ m.t) && before) || (decide (m.t ≤ t) && after))

/-- AFE has ended: every instant record is written, and every late sample it accepted, unless it was cut. -/
def FusCtx.afeOver (c : FusCtx) : Bool := decide (Ub.outCount c.block ≤ c.recorded) && (c.late.isEmpty || c.afeCut)

/-- The stage runs and AFE takes samples: what arrives otherwise stays buffered (R193). -/
def FusCtx.taking (c : FusCtx) : Bool := c.active && !c.afeOver

/-! ### Arrival (R192 to R194) -/

/-- Wheel speed of an encoder record from the difference of COUNT, SQ15.16 (R200, R6). -/
def wheelSpeed (dc : Int) (nm period : Nat) : Int := satS 32 (rneDiv (dc * nm * 65536) (max 1 (period * 1000)))

/-- A record for the alignment buffer of (entry, side): a late one is no longer for the buffer; else it is dropped and counted where the
buffer is full (R193). -/
def State.fusArrive (s : State) (f key t : Nat) (bytes : List Byte) (v : Int) : State :=
  let c0 := s.fusCtx f
  let c := { c0 with newest := SMap.upd 0 c0.newest key (max t) }
  let buf := SMap.get [] c.bufs key
  if c.taking && fusIsLate c key t then (s.setFus f c).fusLateSample f key t bytes
  else if Ue.bufRecs (c.entry (key / 2)) ≤ buf.length then
    ((s.setFus f { c with overflow := true }).setBit (fusStatus f) 4).count 5 (fusCnt f 6)
  else
    let s1 := s.setFus f { c with bufs := SMap.set c.bufs key (buf ++ [⟨t, bytes, v⟩]) }
    if c.taking then s1.fusFree f else s1

/-- An encoder record: its wheel speed, the motion account of the silence rule (R201), the alignment buffer. A record of the silent side
that moved ends the silence and its count. -/
def State.fusEncoder (s : State) (f i side stamp dcRaw : Nat) (bytes : List Byte) : State :=
  let c := s.fusCtx f
  let e := c.entry i
  let key := 2 * i + side
  let period := (s.enc (c.funcOf key - 0x058)).recordPeriod
  let dc := sgn 32 dcRaw
  let moved := !(leAt bytes 1 1).testBit 0
  let m := SMap.get (0, 0, 0) c.motion key
  let heard := moved && c.silentMask.testBit i && (SMap.get (0, 2) c.silent i).2 == side
  let c1 := { c with
    motion := SMap.set c.motion key (m.1 + 1, m.2.1 + b2n moved, m.2.2 + dc),
    silentMask := if heard then c.silentMask - 2 ^ i else c.silentMask,
    silent := if heard then SMap.set c.silent i (0, 2) else c.silent }
  (s.setFus f c1).fusArrive f key (stamp - 400 * period) bytes (wheelSpeed dc (Ue.nmPerEdge e) period)

/-- One record of a sensor record queue, to every entry of an active context that names its function. -/
def State.fusTake (s : State) (r : FusRec) : State :=
  let isEnc := rng r.func 0x058 0x05F
  let count := leAt r.bytes 4 4
  let prev := SMap.get 0 s.fus.lastCount r.func
  let s1 := if isEnc then { s with fus := { s.fus with lastCount := SMap.set s.fus.lastCount r.func count } } else s
  let dc := (count + 2 ^ 32 - prev) % 2 ^ 32
  s1.each (s.fus.ctxs.filter (fun x => x.2.on)) (fun st x =>
    st.each (List.range x.2.entries.length) (fun st2 i =>
      let e := x.2.entry i
      if Ue.kind e = 5 ∧ Ue.func e = r.func then st2.fusArrive x.1 (2 * i) r.stamp r.bytes 0
      else if Ue.kind e = 4 ∧ Ue.func e = r.func then st2.fusEncoder x.1 i 0 r.stamp dc r.bytes
      else if Ue.kind e = 4 ∧ Ue.pair e = r.func then st2.fusEncoder x.1 i 1 r.stamp dc r.bytes
      else st2))

/-- State input records of a queue, to the entry that names it; one of another FUNC_ID is dropped (R200). -/
def State.fusTakeState (s : State) (q : Nat) (recs : List (List Byte)) : State :=
  let who := (s.fus.ctxs.filter (fun x => x.2.on)).flatMap (fun x =>
    ((x.2.ofKind 6).filter (fun i => Ue.addr (x.2.entry i) == q)).map (fun i => (x.1, i)))
  match who with
  | [] => s
  | _ =>
    let s1 := s.each recs (fun st b => st.each who (fun st2 w =>
      if leAt b 0 2 = Ue.func ((st2.fusCtx w.1).entry w.2) then st2.fusArrive w.1 (2 * w.2) (leAt b 8 8) b 0
      else st2.count 5 (fusCnt w.1 5)))
    { s1 with fus := { s1.fus with queues := SMap.set s1.fus.queues q [] } }

/-- Records that wait in the record queues go into the alignment buffers. -/
def State.fusPump (s : State) : State :=
  let s1 := s.ing.toFus.foldl State.fusTake { s with ing := { s.ing with toFus := [] } }
  s.fus.queues.foldl (fun (st : State) (e : Nat × List (List Byte)) => if e.2.isEmpty then st else st.fusTakeState e.1 e.2) s1

/-- STATE_POST's record into FUS queue `q`, 64 deep; false when it is full (R317). -/
def State.fusPost (s : State) (q : Nat) (b : List Byte) : State × Bool :=
  let s0 := s.fusPump
  let l := SMap.get [] s0.fus.queues q
  if 64 ≤ l.length then (s0, false)
  else (({ s0 with fus := { s0.fus with queues := SMap.set s0.fus.queues q (l ++ [b]) } }).fusPump, true)

/-- Flags a KIND 1 entry names (Table 9.3). -/
def State.fusCamFlags (s : State) (c : FusCtx) (i : Nat) : List Flag :=
  let e := c.entry i
  let vis := match visBlockOf (s.img c.slot) (Ue.func e) with
    | some vb => s.visFlag (Vb.ctx vb) (Vb.headerFlag vb)
    | none => Flag.empty
  vis :: (if Ub.pixPair c.block = 0xFF then [] else [s.pairHeaderFlag (Ub.pixPair c.block)])

/-- Which of them are EMPTY. -/
def State.fusCamEmpty (s : State) (c : FusCtx) (i : Nat) : List Nat :=
  (List.range 2).filter (fun k => (s.fusCamFlags c i)[k]? == some Flag.empty)

/-- A flag that was EMPTY at the emission of T is now READY: the frame is late (Table 9.3). -/
def State.frameRipe (s : State) (c : FusCtx) (d : Nat × Nat × List Nat) : Bool :=
  d.2.2.any (fun k => (s.fusCamFlags c d.1)[k]? == some Flag.ready)

/-- The late frames with the frame record of the context's cadence. -/
def State.framesRipe (s : State) (c : FusCtx) : List (Nat × Nat × List Byte) :=
  (c.frameDue.filter (s.frameRipe c)).map (fun d =>
    (d.1, d.2.1, (((s.cam (Ue.func (c.entry d.1) - 0x010)).queue.find? (fun r => leAt r 8 8 == c.cadence)).getD (zeros 32))))

/-- Handle what has arrived while the stage runs: records, and frames whose flags became READY after emission. -/
def State.fusHandle (s : State) (f : Nat) : State :=
  let s0 := s.fusPump
  let c := s0.fusCtx f
  if !c.taking then s0
  else
    let late := c.frameLate ++ s0.framesRipe c
    (s0.setFus f { c with frameLate := [], frameDue := c.frameDue.filter (fun d => !s0.frameRipe c d) }).each late
      (fun st d => st.fusLateSample f (2 * d.1) d.2.1 d.2.2)

/-- The stage starts: the records that wait in its buffers are handled, a late one first of all (R193). -/
def State.fusCatchUp (s : State) (f : Nat) : State :=
  let c := s.fusCtx f
  let late := c.bufs.flatMap (fun e => (e.2.filter (fun b => fusIsLate c e.1 b.t)).map (fun b => (e.1, b)))
  ((s.setFus f { c with bufs := c.bufs.map (fun e => (e.1, e.2.filter (fun b => !fusIsLate c e.1 b.t))) }).each late
    (fun st e => st.fusLateSample f e.1 e.2.t e.2.bytes)).fusFree f

/-- x(T) = x0 + round((x1 − x0) × (T − t0) ÷ (t1 − t0)) (R200). -/
def interp (t0 t1 t : Nat) (x0 x1 : Int) : Int :=
  if t1 ≤ t0 then x0 else x0 + rneDiv ((x1 - x0) * ((t : Int) - t0)) (t1 - t0)

/-- What an entry gives at T: complete, absent, and its speed and yaw rate (R192, R200, R201). -/
structure EntryAt where
  complete : Bool
  absent : Bool
  value : Option (Int × Int)

/-- `told`: the number of records the primary fused, on a secondary: none makes a KIND 1 entry missing, and an entry of KIND 4 or 6
present only where it is absent here (R361). -/
def State.entryAt (s : State) (c : FusCtx) (i t : Nat) (told : Option Nat) : EntryAt :=
  let e := c.entry i
  let side := fun (k : Nat) => bracket (SMap.get [] c.bufs (2 * i + k)) t
  let ripe := fun (k at_ : Nat) => decide (at_ ≤ SMap.get 0 c.newest (2 * i + k)) && (SMap.find c.newest (2 * i + k)).isSome
  let has := match told with | some n => decide (0 < n) | none => true
  match Ue.kind e with
  | 1 =>
    let fl := s.fusCamFlags c i
    ⟨has && !fl.contains Flag.empty, has && (fl.contains Flag.cut || fl.contains Flag.stale), none⟩
  | 4 =>
    let l := side 0; let r := side 1
    let absent := l.1.isNone || r.1.isNone || c.silentMask.testBit i
    let done := (has || absent) && ripe 0 t && ripe 1 t
    match l, r with
    | (some l0, some l1), (some r0, some r1) =>
      let vl := interp l0.t l1.t t l0.v l1.v
      let vr := interp r0.t r1.t t r0.v r1.v
      ⟨done, absent, some (rneDiv (vl + vr) 2, satS 32 (rneDiv ((vr - vl) * 1000) (max 1 (Ue.trackMm e))))⟩
    | _, _ => ⟨done, absent, none⟩
  | 6 =>
    match side 0 with
    | (some a, some b) =>
      let bad := (leAt a.bytes 2 1).testBit 0 || (leAt b.bytes 2 1).testBit 0
      ⟨(has || bad) && ripe 0 t, bad, some (interp a.t b.t t (sleAt a.bytes 16 4) (sleAt b.bytes 16 4),
        interp a.t b.t t (sleAt a.bytes 20 4) (sleAt b.bytes 20 4))⟩
    | (lo, _) => ⟨(has || lo.isNone) && ripe 0 t, lo.isNone, none⟩
  | _ =>
    match told with
    | some n => ⟨decide (n ≤ ((SMap.get [] c.bufs (2 * i)).filter (fun b => inWindow (Ue.half e) t b.t)).length), false, none⟩
    | none => ⟨ripe 0 (t + Ue.half e), false, none⟩

/-- The primary's counts of instant `j`: none while a secondary has not heard them, else what each entry is told. -/
def State.fusTold (s : State) (c : FusCtx) (j : Nat) : Option (Nat → Option Nat) :=
  if s.pairSecondary then (SMap.find c.counts (64 * c.cadence + j)).map (fun l i => some (l.getD i 0)) else some (fun _ => none)

/-- Points of a lidar entry in the window of T, in parser order; the first `told` of them on a secondary (R361). -/
def fusPoints (c : FusCtx) (i t : Nat) (told : Option Nat) : List (List Byte) :=
  let e := c.entry i
  let all := ((SMap.get [] c.bufs (2 * i)).filter (fun b => inWindow (Ue.half e) t b.t)).map (fun b => b.bytes)
  match told with | some n => all.take n | none => all

/-- Records of an entry fused into T (R361). -/
def fusUsed (c : FusCtx) (i t : Nat) (a : EntryAt) : Nat :=
  match Ue.kind (c.entry i) with
  | 1 => b2n a.complete
  | 5 => (fusPoints c i t none).length
  | _ =>
    if a.complete && !a.absent then
      ((List.range (Ue.sides (c.entry i))).map (fun k =>
        match bracket (SMap.get [] c.bufs (2 * i + k)) t with
        | (some x, some y) => if x.t = y.t then 1 else 2
        | _ => 0)).sum
    else 0

/-- Of the records in a window, those past the first `n` leave the buffer (R361). -/
def dropPast (p : FusBuf → Bool) : Nat → List FusBuf → List FusBuf
  | _, [] => []
  | n, b :: r =>
    if p b then (match n with
      | 0 => dropPast p 0 r
      | k + 1 => b :: dropPast p k r)
    else b :: dropPast p n r

/-- Entries of the mask a predicate names. -/
def entryMask (n : Nat) (p : Nat → Bool) : Nat := maskOf ((List.range n).filter p)

/-- The anchor's frame is absent in the cadence (Table 9.7). -/
def State.anchorAbsent (s : State) (c : FusCtx) : Bool :=
  Ub.anchor c.block == 1 && c.camera.isSome && (s.frameOf c.stream c.cadence).isNone

/-- The instant `j` of a context at its time `t` is emitted: entry by entry what is present, missing or absent, the anchors kept, the
inputs that fell silent reported, the counts told to a secondary (R192, R193, R205). `tell`: what a secondary was told of each entry.
`s0`: the state whose frames count; `s1`: the clock at the end of the wait. -/
def fusEmit (f j t : Nat) (c : FusCtx) (tell : Nat → Option Nat) (s0 s1 : State) : State :=
  let n := c.entries.length
  let at_ := fun (i : Nat) => s0.entryAt c i t (tell i)
  let present := entryMask n (fun i => (at_ i).complete)
  let absent := entryMask n (fun i => (at_ i).absent)
  let missing := entryMask n (fun i => !(at_ i).complete && !(at_ i).absent)
  let inst : FusInst := {
    t := t, present := present, missing := missing, absent := absent, anchorAbsent := s1.anchorAbsent c,
    points := (c.ofKind 5).map (fun i => (i, if c.quar.testBit i then [] else fusPoints c i t (tell i))),
    gridDone := false, grid := [], features := 0, groups := 0, degraded := false,
    values := ((List.range n).filter (fun i => present.testBit i && !absent.testBit i)).filterMap (fun i =>
      (at_ i).value.map (fun v => (i, v))) }
  let pairs := c.bufs.map (fun e =>
    let b := bracket e.2 t
    (e.1, (b.1.map (fun x => x.t), b.2.map (fun x => x.t))))
  let due := match c.camera with
    | some i => if (s1.fusCamEmpty c i).isEmpty then [] else [(i, t, s1.fusCamEmpty c i)]
    | none => []
  let past := (c.ofKind 5).filterMap (fun i => (tell i).map (fun k => (i, k)))
  let bufs := past.foldl (fun (m : SMap (List FusBuf)) x =>
    SMap.set m (2 * x.1) (dropPast (fun b => inWindow (Ue.half (c.entry x.1)) t b.t) x.2 (SMap.get [] m (2 * x.1)))) c.bufs
  let c1 : FusCtx := { c with
    insts := c.insts ++ [inst], lastMissing := missing, bufs := bufs,
    emitted := c.emitted ++ [(⟨t, pairs⟩ : FusEmitted)],
    frameDue := c.frameDue ++ due }
  let used := (List.range n).map (fun i => fusUsed c i t (at_ i))
  let extra := past.flatMap (fun x => ((fusPoints c x.1 t none).drop x.2).map (fun b => (x.1, b)))
  let s2 := ((s1.setFus f c1).fusFree f).setPair (Reg.FUS_CTX_LAST_TIME_LO f) (Reg.FUS_CTX_LAST_TIME_HI f) t
  let s3 := s2.each extra (fun st x => st.fusLateSample f (2 * x.1) (leAt x.2 16 8) x.2)
  let s4 := if missing = 0 then s3 else s3.setBit (fusStatus f) 2
  let s5 := if missing ||| absent = 0 then s4 else s4.degrade c.slot c.index
  let gone := (List.range n).filter (fun i => missing.testBit i && !c.lastMissing.testBit i &&
    (Ue.kind (c.entry i) != 1 || !(s1.fusCamEmpty c i).isEmpty))
  let s6 := s5.each gone (fun st i =>
    let func := Ue.func (c.entry i)
    st.event 5 0xFF03 St.sensorAbsent 0x44 func
      (result [(20, 2, func), (22, 1, st.voteState func), (23, 1, f), (24, 8, t)]))
  (s6.monOffer 5 f 0 ((s6.now : Int) - t)).forwardItem 0x16 (leBytes 1 f ++ leBytes 1 j ++ leBytes 2 n ++
    leBytes 4 (s6.fusCtx f).written ++ used.flatMap (leBytes 2))

/-- INSTANT_EMISSION: the next instant of the cadence is emitted once instant j − 1 is and every entry is complete or its
wait limit has passed; the clock runs to the latest limit of the incomplete ones. A secondary waits instead for the primary's counts and
until it holds the records they name (R195). -/
def fusEmission (f : Nat) (s : State) : State :=
  let s0 := s.fusHandle f
  let c0 := s0.fusCtx f
  let j := c0.insts.length
  if !c0.active || decide (Ub.outCount c0.block ≤ j) then s0
  else
    match s0.fusTold c0 j with
    | none => s0
    | some tell =>
      let n := c0.entries.length
      let t := s0.fusInstant c0 j
      let open_ := (List.range n).filter (fun i => !(s0.entryAt c0 i t (tell i)).complete)
      if s0.pairSecondary then (if open_.any (fun i => tell i != some 0) then s0 else fusEmit f j t c0 tell s0 s0)
      else fusEmit f j t c0 tell s0 (s0.runToTime ((open_.map (fun i => t + Ue.wait (c0.entry i))).foldl max 0))

/-! ### Projection (R196, R197) -/

namespace Cm
def model (m : List Byte) : Nat := leAt m 4 1
def deg (m : List Byte) : Nat := leAt m 5 1
def width (m : List Byte) : Nat := leAt m 6 2
def height (m : List Byte) : Nat := leAt m 8 2
def zmin (m : List Byte) : Int := sleAt m 12 4
def rot (m : List Byte) (r c : Nat) : Int := sleAt m (16 + 12 * r + 4 * c) 4
def trans (m : List Byte) (r : Nat) : Int := sleAt m (52 + 4 * r) 4
def fx (m : List Byte) : Nat := leAt m 64 4
def fy (m : List Byte) : Nat := leAt m 68 4
def cx (m : List Byte) : Int := sleAt m 72 4
def cy (m : List Byte) : Int := sleAt m 76 4
def k (m : List Byte) (n : Nat) : Int := sleAt m (76 + 4 * n) 4
def p (m : List Byte) (n : Nat) : Int := sleAt m (88 + 4 * n) 4
def smax (m : List Byte) : Int := sleAt m 100 4
end Cm

/-- `a ÷ b` to nearest, ties to even, for a `b` of either sign; `b` is not 0. -/
def rneQuot (a b : Int) : Int := if b < 0 then rneDiv (-a) b.natAbs else rneDiv a b.natAbs

/-- A projected point: pcode, u, v, depth in mm. -/
structure Proj where
  pcode : Nat
  u : Int
  v : Int
  depth : Int

/-- R197. `fa`, `fb`: the free quotients of MODEL 0 at zc = 0 (assumption log 2). -/
def project (m : List Byte) (x y z fa fb : Int) : Proj :=
  let row := fun (r : Nat) => rneShr (Cm.rot m r 0 * x + Cm.rot m r 1 * y + Cm.rot m r 2 * z) 30 + Cm.trans m r
  let xc := row 0; let yc := row 1; let zc := row 2
  if zc < Cm.zmin m then ⟨1, 0, 0, 0⟩
  else
    let abs : Int × Int × Int :=
      if Cm.model m = 0 then
        let a := if zc = 0 then fa else rneQuot (xc * 2 ^ 28) zc
        let b := if zc = 0 then fb else rneQuot (yc * 2 ^ 28) zc
        (a, b, (isqrt (a * a + b * b).toNat : Nat))
      else
        let rho : Int := (isqrt (xc * xc + yc * yc).toNat : Nat)
        let sv := atan28 rho zc
        if rho = 0 then (0, 0, sv) else (rneQuot (sv * xc) rho, rneQuot (sv * yc) rho, sv)
    let a := abs.1; let b := abs.2.1; let sv := abs.2.2
    if Cm.smax m < sv then ⟨3, 0, 0, 0⟩
    else
      let q := rneShr (sv * sv) 28
      let term := fun (n : Nat) (v : Int) => if 2 * n ≤ Cm.deg m then v else 0
      let g := 2 ^ 28 + term 1 (rneShr (Cm.k m 1 * q) 24) + term 2 (rneShr (Cm.k m 2 * q * q) 52) +
        term 3 (rneShr (Cm.k m 3 * q * q * q) 80)
      let ad0 := rneShr (a * g) 28
      let bd0 := rneShr (b * g) 28
      let p1 := Cm.p m 1; let p2 := Cm.p m 2
      let ad := if Cm.model m = 0 then ad0 + rneShr (2 * p1 * a * b + 2 * p2 * a * a + p2 * q * 2 ^ 28) 52 else ad0
      let bd := if Cm.model m = 0 then bd0 + rneShr (2 * p2 * a * b + 2 * p1 * b * b + p1 * q * 2 ^ 28) 52 else bd0
      let u := rneShr (Cm.fx m * ad + Cm.cx m * 2 ^ 28) 38
      let v := rneShr (Cm.fy m * bd + Cm.cy m * 2 ^ 28) 38
      if u < 0 ∨ 64 * ((Cm.width m : Int) - 1) < u ∨ v < 0 ∨ 64 * ((Cm.height m : Int) - 1) < v then ⟨2, 0, 0, 0⟩
      else ⟨0, u, v, rneShr (zc * 1000) 16⟩

/-- The grid level, its width and height (R198). -/
def State.fusGrid (s : State) (c : FusCtx) : Nat × Nat × Nat :=
  let image := s.img c.slot
  let l := if Ub.pixPair c.block = 0xFF then 0
    else match pairBlockOf image (Ub.pixPair c.block) with | some b => Pb.bot b | none => 0
  match c.camera with
  | none => (0, 0, 0)
  | some i =>
    match visBlockOf image (Ue.func (c.entry i)) with
    | some vb => (l, Vb.width vb l, Vb.height vb l)
    | none => (l, 0, 0)

def State.modInst (s : State) (f j : Nat) (g : FusInst → FusInst) : State :=
  let c := s.fusCtx f
  s.setFus f { c with insts := modifyAt g c.insts j }

def State.modProj (s : State) (f j : Nat) (g : FusProj → FusProj) : State :=
  let c := s.fusCtx f
  s.setFus f { c with proj := SMap.upd FusProj.reset c.proj j g }

/-- Project one point into instant `j` (R197, R198). -/
def State.fusPoint (s : State) (f j : Nat) (m p : List Byte) (l w : Nat) : State :=
  let free := decide (Cm.model m = 0) &&
    decide (rneShr (Cm.rot m 2 0 * sleAt p 0 4 + Cm.rot m 2 1 * sleAt p 4 4 + Cm.rot m 2 2 * sleAt p 8 4) 30 + Cm.trans m 2 = 0)
  let r := project m (sleAt p 0 4) (sleAt p 4 4) (sleAt p 8 4) (sgn 64 (s.freeBelow (2 ^ 64))) (sgn 64 (s.drawFree.freeBelow (2 ^ 64)))
  let s0 := (if free then s.drawFree.drawFree else s).count 5 (fusCnt f 0)
  if r.pcode ≠ 0 then s0.count 5 (fusCnt f r.pcode)
  else if r.depth = 0 ∨ r.depth < 0 ∨ 65535 < r.depth then s0.count 5 (fusCnt f 4)
  else
    let key := r.v.toNat / 2 ^ (6 + l) * w + r.u.toNat / 2 ^ (6 + l)
    s0.modProj f j (fun x => { x with hits := match SMap.find x.hits key with
      | some h => if (h.1 : Int) ≤ r.depth then x.hits else SMap.set x.hits key (r.depth.toNat, leAt p 12 1)
      | none => SMap.set x.hits key (r.depth.toNat, leAt p 12 1) })

/-- Points of entry `i` for instant `j` that PRJ can take: those fixed at its emission, before it those in the window so far. -/
def State.prjPoints (s : State) (c : FusCtx) (j i : Nat) : List (List Byte) :=
  match c.insts[j]? with
  | some x => SMap.get [] x.points i
  | none =>
    match s.fusTold c j with
    | some tell => if c.quar.testBit i || !s.fusSettled c then [] else fusPoints c i (s.fusInstant c j) (tell i)
    | none => []

/-- Of those, the ones still to be projected. -/
def State.prjLeft (s : State) (c : FusCtx) (j i : Nat) : List (List Byte) :=
  (s.prjPoints c j i).drop (SMap.get 0 (SMap.get FusProj.reset c.proj j).projected i)

/-- The window of entry `i` for instant `j` is closed: the instant is emitted, or the entry is complete for it (Table 9.9). -/
def State.prjClosed (s : State) (c : FusCtx) (j i : Nat) : Bool :=
  decide (j < c.insts.length) || (match s.fusTold c j with
    | some tell => s.fusSettled c && (s.entryAt c i (s.fusInstant c j) (tell i)).complete
    | none => false)

/-- PRJ has ended an emitted instant. -/
def State.prjOver (s : State) (c : FusCtx) (j : Nat) : Bool := c.prjCut || (c.ofKind 5).all (fun i => (s.prjLeft c j i).isEmpty)

/-- PRJ has no further block in the cadence. -/
def State.prjEnded (s : State) (c : FusCtx) : Bool :=
  c.prjCut || (decide (Ub.outCount c.block ≤ c.insts.length) && (List.range c.insts.length).all (s.prjOver c))

/-- PRJ's next block in canonical order, where its trigger has come: instant, entry, up to 64 points (R207, Table 9.9). -/
def State.prjNext (s : State) (c : FusCtx) : Option (Nat × Nat × List (List Byte)) :=
  let all := (List.range (Ub.outCount c.block)).flatMap (fun j => (c.ofKind 5).map (fun i => (j, i)))
  match all.find? (fun e => !(s.prjLeft c e.1 e.2).isEmpty || !s.prjClosed c e.1 e.2) with
  | none => none
  | some e =>
    let l := s.prjLeft c e.1 e.2
    if 64 ≤ l.length ∨ (!l.isEmpty && s.prjClosed c e.1 e.2) then some (e.1, e.2, l.take 64) else none

/-- FUS_STATUS: an engine of some context's stage is at work (Table 9.11). -/
def State.fusBusy (s : State) : State :=
  let live := (s.fus.ctxs.map (fun x => x.2)).filter (fun c => c.active)
  let prj := fun (c : FusCtx) => (Sd.unitMask (Img.desc (s.img c.slot) c.index)).testBit 1 && !s.prjEnded c
  (s.putBit Reg.FUS_STATUS 0 (live.any (fun c => !c.afeOver))).putBit Reg.FUS_STATUS 1 (live.any prj)

/-- An engine cannot pay: it issues no later unit (R207). Engine 0 AFE, 1 PRJ. With AFE cut, the flag of the delayed area is CUT; those of
the instant records stay for the records still issued (R44, R52). -/
def State.fusCut (s : State) (f engine limit : Nat) : State :=
  let c := s.fusCtx f
  let s1 := s.setFus f (if engine = 0 then { c with afeCut := true } else { c with prjCut := true })
  let s2 := (s1.setBit (fusStatus f) 0).updRun c.slot c.index (fun r => { r with insts := r.insts.map (fun x =>
    if x.unit = engine then { x with cut := true, limit := x.limit ||| limit, ended := x.ended || engine == 1 } else x) })
  let s3 := match s2.runOf c.slot c.index with
    | some r => if engine = 0 then s2.runFlag r (Ub.outCount c.block) Flag.cut else s2
    | none => s2
  s3.fusBusy

/-- A unit of an engine, or its cut. -/
def State.fusPay (s : State) (f engine cyc tok : Nat) (g : State → State) : State :=
  let c := s.fusCtx f
  match s.runOf c.slot c.index with
  | none => s
  | some r =>
    match r.insts.find? (fun i => i.unit == engine) with
    | none => s
    | some i =>
      let spent := limitBits (s.runDesc r) i cyc tok
      if i.ended || r.waiting then s
      else if spent ≠ 0 then s.fusCut f engine spent
      else g ((s.chargeTo r engine cyc tok).bankBusy 5 engine cyc)

/-- PRJ ends with the last instant's last block. -/
def State.fusPrjEnd (s : State) (f : Nat) : State :=
  let c := s.fusCtx f
  if s.prjEnded c then (s.endInst c.slot c.index 1).fusBusy else s

/-- PRJ_BLOCK: the next block of up to 64 points (R207). -/
def fusPrjBlock (f : Nat) (s : State) : State :=
  let s0 := s.fusHandle f
  let c := s0.fusCtx f
  if !c.active || c.prjCut then s0
  else
    match s0.prjNext c with
    | none => s0
    | some (j, i, blk) =>
      let m := ((s0.img c.slot).drop (Ue.addr (c.entry i))).take 128
      let g := s0.fusGrid c
      (s0.fusPay f 1 (16 + 2 * blk.length) 0 (fun st =>
        (st.modProj f j (fun y => { y with projected := SMap.upd 0 y.projected i (· + blk.length) })).each blk
          (fun st2 p => st2.fusPoint f j m p g.1 g.2.1))).fusPrjEnd f

/-! ### Pixel and feature levels (R198, R199) -/

/-- Stereo depth of a disparity word at level `l`. -/
def stereoDepth (fxb l word : Nat) : Option Nat :=
  let w := word % 8192
  if word / 8192 = 0 ∧ w ≠ 0 then some (min 65535 (rneDiv (32 * (fxb : Int)) (2 ^ l * w)).toNat) else none

/-- DEPTH and DCODE of a pixel. -/
def depthCode (b : List Byte) (lidar stereo : Option Nat) : Nat × Nat :=
  match lidar, stereo with
  | none, none => (0, 0)
  | some d, none => (d, 1)
  | none, some ds => (ds, 2)
  | some d, some ds => (d, if ((d : Int) - ds).natAbs ≤ Ub.agreeMm b + d * Ub.agreePct b / 100 then 3 else 4)

/-- The KIND 1 entry gives stereo depth and features: present and not quarantined. -/
def fusCamUsed (c : FusCtx) (x : FusInst) : Bool :=
  match c.camera with
  | some i => x.present.testBit i && !x.absent.testBit i && !c.quar.testBit i
  | none => false

/-- A snapshot of the context's grid is in progress: its next pixel-grid unit waits (R382). -/
def State.metHolds (s : State) (f : Nat) : Bool :=
  match s.met.snap with
  | some sn => sn.ctx == f
  | none => false

/-- The pixel grid of an instant: depth, code and confidence of every pixel by R198, written line by line. -/
def fusGridWork (f l w h : Nat) (pair : Bool) (c : FusCtx) (x : FusInst) (st : State) : State :=
let pb := pairBlockOf (st.img c.slot) (Ub.pixPair c.block)
let stereo := fun (px py : Nat) =>
  match pb with
  | some b => if pair && fusCamUsed c x then
      stereoDepth (Ub.fxb c.block) l (st.ld (dispAddr b + py * dispPitch w + 2 * px) 2) else none
  | none => none
let conf := fun (px py : Nat) => match pb with
  | some b => st.ld (confAddr b w h + py * pad64 w + px) 1
  | none => 0
let hits := (SMap.get FusProj.reset c.proj c.recorded).hits
let cell := fun (px py : Nat) =>
  let hit := SMap.find hits (py * w + px)
  let dc := depthCode c.block (hit.map (fun e => e.1)) (stereo px py)
  (dc.1, dc.2, match hit with | some e => e.2 | none => 0)
let rows := (List.range h).map (fun py => (List.range w).map (fun px => cell px py))
let line := fun (r : List (Nat × Nat × Nat)) =>
  r.flatMap (fun e => leBytes 2 e.1 ++ leBytes 1 e.2.2 ++ leBytes 1 e.2.1) ++ zeros (pad64 (4 * w) - 4 * w)
let s1 := st.stB (Ub.pixBase c.block) (rows.flatMap line)
let cells := (rows.zip (List.range h)).flatMap (fun ry => (ry.1.zip (List.range w)).filterMap (fun ex =>
  if ex.1.2.1 = 0 then none
  else some (ry.2 * w + ex.2, (ex.1.1, ex.1.2.1, if ex.1.2.1 = 2 then conf ex.2 ry.2 else 0))))
s1.modInst f c.recorded (fun y => { y with gridDone := true, grid := cells })

/-- PIXEL_GRID of the instant AFE works at. -/
def fusPixelGrid (f : Nat) (s : State) : State :=
  let s0 := s.fusHandle f
  let c := s0.fusCtx f
  match c.insts[c.recorded]? with
  | none => s0
  | some x =>
    if !c.active || c.afeCut || x.gridDone || !Ub.pixel c.block || !s0.prjOver c c.recorded || s0.metHolds f then s0
    else
      let g := s0.fusGrid c
      let l := g.1; let w := g.2.1; let h := g.2.2
      let pair := Ub.pixPair c.block != 0xFF
      let cost := 64 + ceilDiv (w * h) 4
      let tok := ceilDiv (4 * w * h) 64 + (if pair then ceilDiv (3 * w * h) 64 else 0)
      s0.fusPay f 0 cost tok (fusGridWork f l w h pair c x)

/-- The keypoints of the anchor's feature block in level and list order: ID and record address (R199). -/
def State.fusKeypoints (s : State) (c : FusCtx) : List (Nat × Nat) :=
  match c.camera with
  | none => []
  | some i =>
    match visBlockOf (s.img c.slot) (Ue.func (c.entry i)) with
    | none => []
    | some vb =>
      (List.range 5).flatMap (fun l =>
        (List.range (s.ld (Vb.featureAddr vb + 28 + 2 * l) 2)).map (fun k =>
          (65536 * l + k, Vb.featureAddr vb + 64 + 16 * (Vb.cornersBefore vb l + k))))

/-- Feature records an instant has. -/
def State.fusFeatures (s : State) (c : FusCtx) (x : FusInst) : List (Nat × Nat) :=
  if (Ub.levels c.block).testBit 1 && fusCamUsed c x then (s.fusKeypoints c).take (Ub.maxFeat c.block) else []

/-- A feature record by R199: the keypoint at `a` with its cell's depth. -/
def fusFeatureWork (f id a : Nat) (c : FusCtx) (x : FusInst) (st : State) : State :=
let g := st.fusGrid c
let px := st.ld a 4; let py := st.ld (a + 4) 4
let key := py / 2 ^ (6 + g.1) * g.2.1 + px / 2 ^ (6 + g.1)
let e := SMap.get (0, 0, 0) x.grid key
let conf := if e.2.1 = 1 ∨ e.2.1 = 3 then 255 else if e.2.1 = 2 then e.2.2 else 0
let r := leBytes 1 1 ++ leBytes 1 f ++ leBytes 1 e.2.1 ++ leBytes 1 conf ++ leBytes 4 id ++ leBytes 8 x.t ++
  leBytes 4 px ++ leBytes 4 py ++ leBytes 2 e.1 ++ zeros 6
(st.stB (c.area c.recorded + 32 * (1 + x.features)) r).modInst f c.recorded
  (fun y => { y with features := y.features + 1 })

/-- FEATURE_RECORD: the next one of the instant. -/
def fusFeature (f : Nat) (s : State) : State :=
  let s0 := s.fusHandle f
  let c := s0.fusCtx f
  match c.insts[c.recorded]? with
  | none => s0
  | some x =>
    match (s0.fusFeatures c x)[x.features]? with
    | none => s0
    | some (id, a) =>
      if !c.active || c.afeCut || !x.gridDone then s0
      else
        s0.fusPay f 0 24 1 (fusFeatureWork f id a c x)

/-! ### State level (R202, R203) -/

/-- Two values are within gate. -/
def inGate (b : List Byte) (p q : Int × Int) : Bool :=
  decide ((p.1 - q.1).natAbs ≤ Ub.gateV b) && decide ((p.2 - q.2).natAbs ≤ Ub.gateW b)

/-- Ascending insertion. -/
def insertInt (x : Int) : List Int → List Int
  | [] => [x]
  | y :: r => if x ≤ y then x :: y :: r else y :: insertInt x r

/-- The value at index floor((n − 1) ÷ 2) in ascending order. -/
def medianOf (l : List Int) : Int := (l.foldl (fun a x => insertInt x a) []).getD ((l.length - 1) / 2) 0

/-- Outcome of a vote (Table 9.5): used, gated, suspended masks, FLAGS[1:0]. -/
structure Vote where
  used : Nat
  gated : Nat
  suspended : Nat
  flags : Nat

def vote (b : List Byte) (adm : List (Nat × (Int × Int))) (pred : Option (Int × Int)) : Vote :=
  let mask := fun (l : List (Nat × (Int × Int))) => maskOf (l.map (fun e => e.1))
  match adm with
  | [] => ⟨0, 0, 0, 1⟩
  | [e] => ⟨2 ^ e.1, 0, 0, 0⟩
  | [e, g] =>
    if inGate b e.2 g.2 then ⟨2 ^ e.1 ||| 2 ^ g.1, 0, 0, 0⟩
    else
      match pred with
      | none => ⟨0, 0, 2 ^ e.1 ||| 2 ^ g.1, 3⟩
      | some p =>
        let ie := inGate b e.2 p; let ig := inGate b g.2 p
        if ie && !ig then ⟨2 ^ e.1, 2 ^ g.1, 0, 2⟩
        else if ig && !ie then ⟨2 ^ g.1, 2 ^ e.1, 0, 2⟩
        else ⟨0, 0, 2 ^ e.1 ||| 2 ^ g.1, 3⟩
  | l =>
    let m := (medianOf (l.map (fun e => e.2.1)), medianOf (l.map (fun e => e.2.2)))
    let cons := l.filter (fun e => inGate b e.2 m)
    if l.length < 2 * cons.length then ⟨mask cons, mask (l.filter (fun e => !inGate b e.2 m)), 0, 0⟩
    else ⟨0, 0, mask l, 1⟩

/-- The vote of group `g` and its state record by R202 and R203. -/
def fusStateWork (f g : Nat) (c : FusCtx) (x : FusInst) (st : State) : State :=
let mem := (List.range c.entries.length).filter (fun i =>
  (Ue.kind (c.entry i) == 4 || Ue.kind (c.entry i) == 6) && Ue.group (c.entry i) == g)
let pres := mem.filterMap (fun i => (SMap.find x.values i).map (fun v => (i, v)))
let adm := pres.filter (fun e => !c.quar.testBit e.1)
let pred := st.imuPrediction x.t
let v := vote c.block adm pred
let used := adm.filter (fun e => v.used.testBit e.1)
let mean := fun (l : List Int) => if l.isEmpty then 0 else rneDiv l.sum l.length
let fused := (mean (used.map (fun e => e.2.1)), mean (used.map (fun e => e.2.2)))
let quarPres := pres.filter (fun e => c.quar.testBit e.1)
let agree := fun (e : Nat × (Int × Int)) => !used.isEmpty && inGate c.block e.2 fused
let qGated := if used.isEmpty then 0 else maskOf ((quarPres.filter (fun e => !inGate c.block e.2 fused)).map (fun e => e.1))
let gated := v.gated ||| qGated
let groupMask := maskOf mem
let clean := v.used ||| maskOf ((quarPres.filter agree).map (fun e => e.1))
let flags := v.flags ||| 4 * b2n pred.isNone
let quar := maskOf (mem.filter (fun i => c.quar.testBit i))
let rec_ := leBytes 1 2 ++ leBytes 1 f ++ leBytes 1 flags ++ leBytes 1 g ++ leBytes 2 v.used ++ leBytes 2 gated ++
  leBytes 8 x.t ++ sleBytes 4 fused.1 ++ sleBytes 4 fused.2 ++ leBytes 2 v.suspended ++ leBytes 2 quar ++ zeros 4
let deg := flags.testBit 0
let c1 := st.fusCtx f
let c2 : FusCtx := { c1 with
  degraded := deg,
  lastSuspended := (c1.lastSuspended - (c1.lastSuspended &&& groupMask)) ||| v.suspended,
  gatedMask := c1.gatedMask ||| gated,
  cleanMask := c1.cleanMask - (c1.cleanMask &&& (groupMask - (groupMask &&& clean))),
  votedMask := c1.votedMask ||| groupMask }
let s1 := ((st.setFus f c2).stB (c.area c.recorded + 32 * (1 + Ub.maxFeat c.block + x.groups)) rec_).modInst f
  c.recorded (fun y => { y with groups := y.groups + 1, degraded := y.degraded || deg })
let s2 := if deg then s1.setBit (fusStatus f) 3 else s1
let fresh := mem.filter (fun i => v.suspended.testBit i && !c1.lastSuspended.testBit i)
let s3 := s2.each mem (fun y i => y.voteUpdate (Ue.func (c.entry i)))
s3.each fresh (fun y i =>
  let func := Ue.func (c.entry i)
  y.event 5 0xFF03 St.degraded 0x49 func (result [(20, 2, func), (22, 1, 3), (23, 1, f), (24, 8, x.t)]))

/-- STATE_RECORD: the next vote group of the instant. -/
def fusStateRecord (f : Nat) (s : State) : State :=
  let s0 := s.fusHandle f
  let c := s0.fusCtx f
  match c.insts[c.recorded]? with
  | none => s0
  | some x =>
    match c.groups[x.groups]? with
    | none => s0
    | some g =>
      let featsOver := !Ub.pixel c.block || (x.gridDone && decide ((s0.fusFeatures c x).length ≤ x.features))
      if !c.active || c.afeCut || !featsOver then s0
      else
        s0.fusPay f 0 48 0 (fusStateWork f g c x)

/-! ### Instant and delayed records (R206) -/

/-- AFE ends once every instant record and every accepted late sample is written. -/
def State.fusAfeEnd (s : State) (f : Nat) : State :=
  let c := s.fusCtx f
  if c.afeOver then
    (s.endInst c.slot c.index 0).fusBusy
  else s

/-- The metrology gateway takes instant 0 of its block in the cycle its flag becomes READY: the snapshot ends after
64 + 4 W_l H_l bytes at 16 GB/s (R382). -/
def State.metTake (s : State) (f : Nat) : State :=
  if s.met.cand = some f ∧ s.bitOf Reg.MET_SOURCE 16 ∧ (s.func 0x087).life = Life.on ∧ !s.met.taken then
    let g := s.fusGrid (s.fusCtx f)
    let sn : MetSend := ⟨f, s.core + ceilDiv (3 * (64 + 4 * (g.2.1 * g.2.2))) 40, 0, 0, none⟩
    { s with met := { s.met with taken := true, snap := some sn } }
  else s

/-- Write the instant record of the instant AFE works at; `cut` after a deadline abort. It tells of every record dropped for a full buffer
since the one before it (R193). -/
def State.fusWriteInstant (s : State) (f : Nat) (x : FusInst) (cut : Bool) : State :=
  let c := s.fusCtx f
  let j := c.recorded
  let blank := Ub.maxFeat c.block - x.features
  let flags := b2n x.degraded + 2 * b2n (cut || c.afeCut || c.prjCut) + 4 * b2n (x.missing != 0) + 8 * b2n c.overflow +
    16 * b2n x.anchorAbsent
  let lidarPx := (x.grid.filter (fun e => e.2.2.1 == 1 || e.2.2.1 == 3 || e.2.2.1 == 4)).length
  let apart := (x.grid.filter (fun e => e.2.2.1 == 4)).length
  let rec_ := leBytes 1 0 ++ leBytes 1 f ++ leBytes 1 flags ++ leBytes 1 j ++ leBytes 2 x.present ++ leBytes 2 c.quar ++
    leBytes 8 x.t ++ leBytes 2 x.features ++ leBytes 2 x.groups ++ leBytes 4 lidarPx ++ leBytes 4 apart ++ zeros 4
  let cyc := 32 + ceilDiv blank 8
  let s1 := match s.runOf c.slot c.index with
    | some r => (s.chargeTo r 0 cyc (1 + ceilDiv blank 2)).bankBusy 5 0 cyc
    | none => s
  let s2 := (s1.stB (c.area j + 32 * (1 + x.features)) (zeros (32 * blank))).stB (c.area j) rec_
  let s3 := (s2.setFus f { c with recorded := j + 1, overflow := false }).addItems c.slot c.index 1
  let s4 := match s3.runOf c.slot c.index with
    | some r => s3.runFlag r j Flag.ready
    | none => s3
  if j = 0 then s4.metTake f else s4

/-- INSTANT_RECORD: issued once every other unit of the instant has ended or is not issued. -/
def fusInstantRecord (f : Nat) (s : State) : State :=
  let s0 := s.fusHandle f
  let c := s0.fusCtx f
  match c.insts[c.recorded]? with
  | none => s0
  | some x =>
    let done := (!Ub.pixel c.block || x.gridDone) && decide ((s0.fusFeatures c x).length ≤ x.features) &&
      decide (c.groups.length ≤ x.groups)
    if !c.active || !s0.prjOver c c.recorded || !(c.afeCut || done) then s0
    else ((s0.fusWriteInstant f x false).fusAfeEnd f).fusPrjEnd f

/-- A delayed record by R206, behind those written. -/
def fusDelayedWork (f : Nat) (l : FusLate) (rest : List FusLate) (st : State) : State :=
let c1 := st.fusCtx f
let r := leBytes 1 3 ++ leBytes 1 f ++ leBytes 1 l.entry ++ leBytes 1 l.kind ++ zeros 4 ++ leBytes 8 l.stamp ++ zeros 16 ++
  (l.bytes ++ zeros 32).take 32
let s1 := st.stB (c1.delayArea + 64 + 64 * c1.written) r
(s1.setFus f { c1 with
  late := rest, written := c1.written + 1,
  delayed := SMap.upd 0 c1.delayed l.func (· + 1) }).count 5 (fusCnt f 8)

/-- DELAYED_RECORD: the oldest accepted late sample, behind the last instant. -/
def fusDelayed (f : Nat) (s : State) : State :=
  let s0 := s.fusHandle f
  let c := s0.fusCtx f
  match c.late with
  | [] => s0
  | l :: rest =>
    if !c.active || c.afeCut || decide (c.recorded < Ub.outCount c.block) then s0
    else
      (s0.fusPay f 0 16 1 (fusDelayedWork f l rest)).fusAfeEnd f

/-! ### The end of the stage (R194, R204, R206) -/

/-- Class an entry for the cadence and update the runs of its FUNC_ID. -/
def State.fusClass (s : State) (f i : Nat) : State :=
  let c := s.fusCtx f
  let func := Ue.func (c.entry i)
  if c.gatedMask.testBit i then
    ((s.setRuns func (min 15 (s.gatedRun func + 1)) 0).count 5 (fusVoteCnt func 0)).voteUpdate func
  else if c.votedMask.testBit i && c.cleanMask.testBit i then
    (s.setRuns func 0 (min 255 (s.cleanRun func + 1))).voteUpdate func
  else s

/-- Delayed-area header and flag, late events, classes. `cut`: the stage was aborted, and the delayed area's flag is left to be made CUT, as
it is where AFE met its wall (R44, R52). An accepted sample that AFE could no longer write is dropped and counted (assumption log 21). -/
def State.fusFinish (s : State) (f : Nat) (cut : Bool) : State :=
  let s0 := s.fusHandle f
  let c := s0.fusCtx f
  if !c.active then s0
  else
    let dropped := c.dropped + c.late.length
    let hdr := leBytes 2 c.written ++ leBytes 2 c.discarded ++ leBytes 2 dropped ++ zeros 2 ++ leBytes 8 c.cadence ++ zeros 48
    let s1 := ((s0.setFus f { c with late := [], dropped := dropped }).countN 5 (fusCnt f 10) c.late.length).stB c.delayArea hdr
    let s2 := match s1.runOf c.slot c.index with
      | some r => if cut || c.afeCut then s1 else s1.runFlag r (Ub.outCount c.block) Flag.ready
      | none => s1
    let s3 := s2.each c.lateCount (fun st e =>
      if e.2 = 0 then st
      else st.event 5 0xFF03 St.sampleLate 0x48 e.1
        (result [(20, 2, e.1), (22, 2, SMap.get 0 c.delayed e.1), (24, 4, e.2), (28, 4, c.cadence % 2 ^ 32)]))
    let total := (c.lateCount.map (fun e => e.2)).sum
    let s4 := s3.setRegN (Reg.FUS_CTX_LATE f) (min 65535 total + 65536 * min 65535 c.written)
    let voters := (List.range c.entries.length).filter (fun i => Ue.kind (c.entry i) == 4 || Ue.kind (c.entry i) == 6)
    let s5 := s4.each voters (fun st i => st.fusClass f i)
    (s5.setFus f { s5.fusCtx f with active := false }).fusBusy

/-- Contexts a run drives. -/
def State.fusOfRun (s : State) (r : Run) : List Nat :=
  ((s.fus.ctxs.filter (fun x => x.2.active && x.2.slot == r.slot && x.2.index == r.index)).map (fun x => x.1))

/-- STAGE_END of a fusion stage. -/
def State.fusEnd (s : State) (r : Run) : State := s.each (s.fusOfRun r) (fun st f => st.fusFinish f false)

/-- What is known at an abort of an instant that was not emitted: its time, which entries are complete and which absent. Nothing of it is
projected, voted on or missing (assumption log 21). -/
def State.fusUnemitted (s : State) (c : FusCtx) (j : Nat) : FusInst :=
  let n := c.entries.length
  let t := s.fusInstant c j
  let tell := (s.fusTold c j).getD (fun _ => some 0)
  { t := t, present := entryMask n (fun i => (s.entryAt c i t (tell i)).complete), missing := 0,
    absent := entryMask n (fun i => (s.entryAt c i t (tell i)).absent), anchorAbsent := s.anchorAbsent c, points := [], values := [],
    gridDone := false, grid := [], features := 0, groups := 0, degraded := false }

/-- The instants still without a record are written with CUT. -/
def State.fusRest (s : State) (f : Nat) : Nat → State
  | 0 => s
  | n + 1 =>
    let c := s.fusCtx f
    if Ub.outCount c.block ≤ c.recorded then s
    else
      let x := c.insts.getD c.recorded (s.fusUnemitted c c.recorded)
      let all := 2 ^ c.entries.length - 1
      let s1 := if x.absent = 0 ∧ x.present = all then s else s.degrade c.slot c.index
      (s1.fusWriteInstant f x true).fusRest f n

/-- The deadline: every instant record is still issued and charged, with CUT (R207). -/
def State.fusDeadline (s : State) (r : Run) : State :=
  s.each (s.fusOfRun r) (fun st f =>
    (((st.fusHandle f).fusRest f 64).setBit (fusStatus f) 0).fusFinish f true)

/-- The block and entries of a fusion stage's program (R187). -/
def fusBlock (image d : List Byte) : List Byte := (image.drop (Sd.program d)).take 64
def fusEntries (image d : List Byte) : List (List Byte) :=
  (List.range (Ub.entries (fusBlock image d))).map (fun i => (image.drop (Sd.program d + 64 + 32 * i)).take 32)

/-- A fusion stage starts. -/
def State.fusStart (s : State) (r : Run) : State :=
  let image := s.img r.slot
  let d := s.runDesc r
  let b := fusBlock image d
  let f := Ub.ctx b
  let c := s.fusPump.fusCtx f
  let es := fusEntries image d
  let quar := entryMask es.length (fun i => s.quarantined (Ue.func (es.getD i [])))
  let c1 : FusCtx := { c with
    on := true, block := b, entries := es, slot := r.slot, index := r.index, cadence := r.cadence, boundary := r.instant,
    active := true, afeCut := false, prjCut := false, insts := [], recorded := 0, proj := [], quar := quar, frameDue := [],
    counts := c.counts.keep (fun k => decide (64 * r.cadence ≤ k)),
    lateCount := [], delayed := [], late := [], written := 0, discarded := 0, dropped := 0, gatedMask := 0,
    cleanMask := 2 ^ es.length - 1, votedMask := 0 }
  (((s.fusPump.setFus f c1).fusCatchUp f).fusHandle f).fusBusy

/-- Fusion stages of an image. -/
def fusStages (image : List Byte) : List (List Byte) :=
  ((List.range (Img.stageCount image)).map (Img.desc image)).filter (fun d => Sd.cls d == 2)

/-- The Route enters STARTING: its contexts come up empty. -/
def State.fusRouteStart (s : State) (slot : Nat) : State :=
  let image := s.img slot
  s.each (fusStages image) (fun st d =>
    let b := fusBlock image d
    let f := Ub.ctx b
    let c : FusCtx := { FusCtx.reset with on := true, block := b, entries := fusEntries image d, slot := slot }
    ((st.setFus f c).setBit (fusStatus f) 5).setFld (fusStatus f) 8 5 (Ub.entries b))

/-- The Route is OFF. -/
def State.fusRouteOff (s : State) (slot : Nat) : State :=
  let image := s.img slot
  s.each (fusStages image) (fun st d =>
    let f := Ub.ctx (fusBlock image d)
    ((st.setFus f { st.fusCtx f with on := false, active := false }).clrBit (fusStatus f) 5).setFld (fusStatus f) 8 5 0)

/-! ### Boundaries: silence, Mirage settings, sensor counts (R201, R205) -/

/-- A wheel entry was silent in the cadence that ends: the silent side. -/
def fusSilent (c : FusCtx) (i : Nat) : Option Nat :=
  let l := SMap.get (0, 0, 0) c.motion (2 * i)
  let r := SMap.get (0, 0, 0) c.motion (2 * i + 1)
  let t := Ub.silentEdges c.block
  if 0 < l.1 ∧ l.2.1 = 0 ∧ t ≤ r.2.2.natAbs then some 0
  else if 0 < r.1 ∧ r.2.1 = 0 ∧ t ≤ l.2.2.natAbs then some 1
  else none

/-- Samples a sensor function has given since reset (R205): frames, outputs, points; an encoder's records of the
cadence. -/
def State.sensorTotal (s : State) (id : Nat) : Nat :=
  if id < 0x020 then s.counter 1 (camCnt (id - 0x010) 0)
  else if id < 0x058 then s.counter 2 (decCnt (id - 0x020) 0)
  else if id < 0x060 then (s.enc (id - 0x058)).records
  else s.counter 1 (lidarCnt (id - 0x060) 1)

/-- Step 2 of a boundary, before the ingress units open the new cadence. A frame found late is kept for the stage's next start; one whose
flags belong to a cadence of the Route that is over is not awaited any longer. -/
def State.fusBoundary (s : State) : State :=
  let s0 := s.fusPump
  let s1 := s0.each (s0.fus.ctxs.filter (fun x => x.2.on)) (fun st x =>
    let c := x.2
    let sil := (c.ofKind 4).foldl (fun (m : SMap (Nat × Nat)) i =>
      match fusSilent c i with
      | some side => let old := SMap.get (0, side) c.silent i
                     SMap.set m i (old.1 + 1, side)
      | none => SMap.set m i (0, 2)) c.silent
    let still := (c.ofKind 4).foldl (fun (m : SMap (Nat × Nat)) i =>
      if c.silentMask.testBit i then SMap.set m i (SMap.get (0, 2) c.silent i) else m) sil
    let image := s.img c.slot
    let turn := s.ccu.cadence % max 1 (Img.stride image) == Img.phase image
    st.setFus x.1 { c with
      silent := still, motion := [], frameLate := c.frameLate ++ st.framesRipe c,
      frameDue := if turn then [] else c.frameDue.filter (fun d => !st.frameRipe c d) })
  let s2 := s1.each s1.fus.mirage (fun st e => (st.setFld (fusVoteReg e.1) 16 4 e.2.1).setFld (fusVoteReg e.1) 20 8 e.2.2)
  let ids := (List.range 88).map (· + 0x010)
  let last := ids.filterMap (fun id =>
    let n := if rng id 0x058 0x05F then s.sensorTotal id else s.sensorTotal id - SMap.get 0 s.fus.total id
    let l := SMap.get 0 s1.fus.lateNow id
    if n = 0 ∧ l = 0 then none else some (id, (n, l)))
  let total := ids.filterMap (fun id => let n := s.sensorTotal id; if n = 0 then none else some (id, n))
  { s2 with fus := { s2.fus with mirage := [], total := total, lateNow := [], last := last } }

/-- SILENT_ENCODER: a wheel entry silent for 3 consecutive cadences (R201). -/
def fusSilentEncoder (f i : Nat) (s : State) : State :=
  let c := s.fusCtx f
  let n := SMap.get (0, 2) c.silent i
  if !c.on || decide (n.1 < 3) || c.silentMask.testBit i then s
  else
    let func := if n.2 = 0 then Ue.func (c.entry i) else Ue.pair (c.entry i)
    (s.setFus f { c with silentMask := c.silentMask ||| 2 ^ i }).event 5 0xFF03 St.sensorAbsent 0x45 func
      (result [(20, 2, func), (23, 1, f), (24, 8, s.ccu.cadence - 1)])

/-- QUARANTINE: an admitted FUNC_ID whose GATED_RUN has reached K (R204). -/
def fusQuarantine (func : Nat) (s : State) : State :=
  let k := s.fld (fusVoteReg func) 16 4
  if !rng func 0x010 0x067 || s.quarantined func || decide (s.gatedRun func < k) then s
  else
    ((s.setRuns func 0 0).setFld (fusVoteReg func) 0 2 2).count 5 (fusVoteCnt func 1) |>.event 5 0xFF03
      St.sensorQuarantined 0x46 func (result [(20, 2, func), (22, 1, 2), (23, 1, k), (24, 8, s.ccu.cadence)])

/-- READMISSION: a quarantined FUNC_ID whose CLEAN_RUN has reached M (R204). -/
def fusReadmit (func : Nat) (s : State) : State :=
  let m := s.fld (fusVoteReg func) 20 8
  if !rng func 0x010 0x067 || !s.quarantined func || decide (s.cleanRun func < m) then s
  else
    let s1 := ((s.setRuns func 0 0).setFld (fusVoteReg func) 0 2 0).voteUpdate func
    s1.event 5 0xFF03 St.sensorQuarantined 0x47 func
      (result [(20, 2, func), (22, 1, s1.voteState func), (23, 1, m), (24, 8, s.ccu.cadence)])

/-- A write of FUS_CTXf_WIN_START_LO: the pair takes effect (R454). -/
def fusWinStart (f value : Nat) (s : State) : State :=
  if 8 ≤ f then s
  else
    let s1 := s.setRegN (Reg.FUS_CTX_WIN_START_LO f) (value % 2 ^ 32)
    { s1 with fus := { s1.fus with win := SMap.set s1.fus.win f (s1.pair (Reg.FUS_CTX_WIN_START_LO f) (Reg.FUS_CTX_WIN_START_HI f)) } }

/-! ### Commands (R205) -/

/-- MIRAGE_CONFIG. A FUNC_ID that Table 3.12 does not define answers 0x4A, not the common 0xE7 of Table 3.7: the spec orders neither first
(DESIGN CHOICE, assumption log 61). -/
def bodyMirageConfig (p : CmdPacket) (s : State) : Reply × State :=
  let id := param p 16 2; let k := param p 18 1; let m := param p 19 1
  if !(rng id 0x010 0x01F || rng id 0x058 0x067) then (Reply.bad 0x4A, s)
  else if !rng k 1 15 || !rng m 1 255 then (Reply.bad 0x4B, s)
  else (Reply.ok [(20, 2, id)], { s with fus := { s.fus with mirage := SMap.set s.fus.mirage id (k, m) } })

/-- SENSOR_QUERY. Vote state and late samples are 0 for a function that no entry of an active fusion context names. -/
def bodySensorQuery (p : CmdPacket) (s : State) : Reply × State :=
  let id := param p 16 2
  if !funcDefined id then (Reply.bad 0xE7, s)
  else if !isSensor id then (Reply.bad 0x4D, s)
  else
    let n := SMap.get (0, 0) s.fus.last id
    let named := s.fus.ctxs.any (fun x => x.2.on && (List.range (2 * x.2.entries.length)).any (fun k => x.2.funcOf k == id))
    let st := if named then s.voteState id else 0
    let late := if named then n.2 else 0
    (Reply.ok [(20, 2, id), (22, 1, (s.lifeOf id).code), (23, 1, st), (24, 4, n.1), (28, 4, late)], s)

/-! ### Route checks (R187, R188) -/

def fusEntryOk (e : List Byte) : Bool :=
  let k := Ue.kind e; let fn := Ue.func e
  let voter := k == 4 || k == 6
  (if k = 1 then rng fn 0x010 0x01F else if k = 4 then rng fn 0x058 0x05F else if k = 5 then rng fn 0x060 0x067
    else k == 6 && (rng fn 0x010 0x01F || rng fn 0x058 0x067)) &&
  (Ue.group e == 0xFF || (voter && decide (Ue.group e ≤ 3))) && decide (Ue.wait e ≤ 80000000) &&
  rng (Ue.half e) 80000 40000000 && (if k = 1 then Ue.bufRecs e == 0 else rng (Ue.bufRecs e) 16 32768) &&
  (if k = 4 then rng (Ue.pair e) 0x058 0x05F && rng (Ue.nmPerEdge e) 1 10000000 && rng (Ue.trackMm e) 100 10000
    else Ue.pair e == 0) && zeroIn e 22 24 &&
  (if k = 5 then true else if k = 6 then decide (Ue.addr e ≤ 63) else Ue.addr e == 0)

def State.fusBlockOk (s : State) (image b : List Byte) (es : List (List Byte)) : Bool :=
  let per := Img.period image
  let cams := es.filter (fun e => Ue.kind e == 1)
  let c : FusCtx := { FusCtx.reset with block := b, entries := es }
  let lastT : Int := if Ub.anchor b = 0 then (Ub.outOfs b + (Ub.outCount b - 1) * Ub.outStep b : Nat)
    else
      let stream := match cams with | e :: _ => Ue.func e | [] => 0x010
      let trig := (s.cam (stream - 0x010)).trigger
      let ofs := if (Img.trigClaim image).testBit trig then Img.trigOffset image trig else s.regN (Reg.CCU_TRIG_OFFSET trig)
      (if trig = 0xFF then 0 else (ofs : Int)) + Ub.anchorOfs b
  decide (Ub.ctx b ≤ 7) && rng (Ub.levels b) 1 7 && decide (Ub.anchor b ≤ 1) && rng (Ub.entries b) 1 16 &&
  decide (Ub.outOfs b < max 1 per) && rng (Ub.outStep b) 80000 per && rng (Ub.outCount b) 1 64 &&
  (Ub.anchor b == 0 || Ub.outCount b == 1) && (decide (Ub.pixPair b ≤ 7) || Ub.pixPair b == 0xFF) &&
  decide (Ub.maxFeat b ≤ 2048) && ((Ub.levels b).testBit 1 || Ub.maxFeat b == 0) &&
  decide ((Ub.anchorOfs b).natAbs ≤ per) && rng (Ub.fxb b) 1 (2 ^ 32 - 1) && rng (Ub.agreeMm b) 1 65535 &&
  decide (Ub.agreePct b ≤ 50) && zeroIn b 27 28 && rng (Ub.gateV b) 1 (2 ^ 31 - 1) && rng (Ub.gateW b) 1 (2 ^ 31 - 1) &&
  decide (Ub.delaySlots b ≤ 1024) && rng (Ub.silentEdges b) 1 65535 && zeroIn b 56 64 &&
  Ub.outBase b % 64 == 0 && (addrRow (Ub.outBase b) (c.delayArea + 64 + 64 * Ub.delaySlots b - Ub.outBase b)).isSome &&
  Ub.pixBase b % 64 == 0 && (!Ub.pixel b || (addrRow (Ub.pixBase b) 64).isSome) &&
  (if Ub.anchor b = 1 then cams.length == 1 else cams.isEmpty && !Ub.pixel b) && decide (lastT < per)

/-- The checks of R196. -/
def camModelOk (image m : List Byte) (es : List (List Byte)) : Bool :=
  let anchor := (es.filter (fun e => Ue.kind e == 1)).head?
  let size := match anchor with
    | some e => match visBlockOf image (Ue.func e) with
      | some vb => Cm.width m == Vb.rectW vb && Cm.height m == Vb.rectH vb
      | none => false
    | none => false
  leAt m 0 4 == 0xC1E97901 && leAt m 124 4 == crc32 (m.take 124) && size && decide (Cm.model m ≤ 1) &&
    [0, 2, 4, 6].contains (Cm.deg m)

/-- DETAIL of ROUTE_LOAD's fusion checks (R187). A program that ends before its ENTRIES entries holds fewer: 0x70; an ENTRIES outside 1 to 16
is a field out of range: 0x71. -/
def State.fusLoadRefusal (s : State) (image : List Byte) : Option Nat :=
  let ds := fusStages image
  let es := fun (d : List Byte) => fusEntries image d
  let fits := fun (d : List Byte) => decide (Sd.program d + 64 + 32 * Ub.entries (fusBlock image d) ≤ Img.imageLen image)
  let dup := fun (l : List (List Byte)) => l.map (fun e => 65536 * Ue.kind e + Ue.func e)
  if ds.any (fun d => (Sd.unitMask d != 1 && Sd.unitMask d != 3) ||
      (Sd.unitMask d == 1 && (es d).any (fun e => Ue.kind e == 5)) || !fits d) then some 0x70
  else if ds.any (fun d => !s.fusBlockOk image (fusBlock image d) (es d) || (es d).any (fun e => !fusEntryOk e)) then some 0x71
  else if ds.any (fun d => (es d).any (fun e => Ue.kind e == 5 &&
      !camModelOk image ((image.drop (Ue.addr e)).take 128) (es d))) then some 0x72
  else if ds.any (fun d => (dup (es d)).length != (dup (es d)).eraseDups.length ||
      (es d).any (fun e => Ue.kind e == 1 && (visBlockOf image (Ue.func e)).isNone) ||
      (Ub.pixPair (fusBlock image d) != 0xFF && (match pairBlockOf image (Ub.pixPair (fusBlock image d)) with
        | some b => !(es d).any (fun e => Ue.kind e == 1 && Ue.func e == Pb.left b)
        | none => true))) then some 0x73
  else none

/-- Contexts and FUNC_IDs an image's fusion blocks use: contexts from 65,536 on. -/
def fusNames (image : List Byte) : List Nat :=
  (fusStages image).flatMap (fun d => (65536 + Ub.ctx (fusBlock image d)) :: (fusEntries image d).map Ue.func)

/-- The FUNC_IDs a Route's fusion entries read: a KIND 4 entry reads a pair of encoders. -/
def fusReads (image : List Byte) : List Nat :=
  (fusStages image).flatMap (fun d => (fusEntries image d).flatMap (fun e => if Ue.kind e = 4 then [Ue.func e, Ue.pair e] else [Ue.func e]))

/-- Bytes of the fusion buffer partition an image takes (R188). -/
def fusBytes (image : List Byte) : Nat :=
  ((fusStages image).flatMap (fun d => (fusEntries image d).map (fun e =>
    32 * Ue.bufRecs e * Ue.sides e + (if Ue.kind e = 5 then 128 else 0)))).sum

/-- DETAIL of ROUTE_ENABLE's fusion checks against the images of the other Routes not OFF (R188). -/
def fusEnableRefusal (image : List Byte) (others : List (List Byte)) : Option Nat :=
  let taken := others.flatMap fusNames
  if (fusNames image).any taken.contains then some 0x0A
  else if 2 ^ 20 < fusBytes image + (others.map fusBytes).sum then some 0x0B
  else none

/-! ### The rows -/

/-- A row of a fusion context, its writes attributed to the context's cadence; nothing while its stage waits (R43). -/
def State.fusRow (s : State) (f : Nat) (g : State → State) : State :=
  s.act (fun t =>
    let c := t.fusCtx f
    if t.waitsAt c.slot c.index then t else t.writing 3 c.cadence g)

/-- INSTANT_EMISSION (R192). -/
def execInstantEmission (ctx : Nat) (s : State) : Out := .next (s.fusRow ctx (fusEmission ctx))
/-- PRJ_BLOCK (R197). -/
def execPrjBlock (ctx : Nat) (s : State) : Out := .next (s.fusRow ctx (fusPrjBlock ctx))
/-- PIXEL_GRID (R198). -/
def execPixelGrid (ctx : Nat) (s : State) : Out := .next (s.fusRow ctx (fusPixelGrid ctx))
/-- FEATURE_RECORD (R199). -/
def execFeatureRecord (ctx : Nat) (s : State) : Out := .next (s.fusRow ctx (fusFeature ctx))
/-- STATE_RECORD (R202). -/
def execStateRecord (ctx : Nat) (s : State) : Out := .next (s.fusRow ctx (fusStateRecord ctx))
/-- INSTANT_RECORD (R206). -/
def execInstantRecord (ctx : Nat) (s : State) : Out := .next (s.fusRow ctx (fusInstantRecord ctx))
/-- DELAYED_RECORD (R194). -/
def execDelayedRecord (ctx : Nat) (s : State) : Out := .next (s.fusRow ctx (fusDelayed ctx))
/-- SILENT_ENCODER (R201). -/
def execSilentEncoder (ctx entry : Nat) (s : State) : Out := .next (s.act (fusSilentEncoder ctx entry))
/-- QUARANTINE (R204). -/
def execQuarantine (func : Nat) (s : State) : Out := .next (s.act (fusQuarantine func))
/-- READMISSION (R204). -/
def execReadmission (func : Nat) (s : State) : Out := .next (s.act (fusReadmit func))

end Sys2Proof.Machine
end

