-- ==== Sys2Proof/Machine/Fp.lean ====
section
/-! DEFINITION. The neural formats of Table 0.5 and the arithmetic on them: exact values, rounding to nearest with ties to
even, what the softmax of R300 needs, and the floating-point arithmetic of the general cores (R313). -/

namespace Sys2Proof.Machine

/-- A decoded value: (−1)^neg × m × 2^x where it is finite. -/
inductive Fv where
  | nan
  | inf (neg : Bool)
  | fin (neg : Bool) (m : Nat) (x : Int)
  deriving DecidableEq, Repr

/-- Exponent and fraction bits of a format code (Table 13.1); 8 stands for binary64, which only the general cores have (R312). -/
def fmtBits (code : Nat) : Nat × Nat :=
  match code with
  | 2 => (4, 3) | 3 => (5, 2) | 4 => (8, 7) | 5 => (5, 10) | 8 => (11, 52) | _ => (8, 23)

def fmtBias (code : Nat) : Int := 2 ^ ((fmtBits code).1 - 1) - 1

/-- Bytes of an element; INT4 takes half of one. -/
def fmtBytes (code : Nat) : Nat :=
  match code with
  | 4 => 2 | 5 => 2 | 6 => 4 | 7 => 4 | 8 => 8 | _ => 1

def isFloat (code : Nat) : Bool := rng code 2 6

/-- The value a floating encoding stands for. -/
def fdecode (code w : Nat) : Fv :=
  let eb := (fmtBits code).1; let mb := (fmtBits code).2
  let neg := w.testBit (eb + mb)
  let e := bits w mb eb; let f := bits w 0 mb
  if code = 2 ∧ e = 15 ∧ f = 7 then .nan
  else if code ≠ 2 ∧ e = 2 ^ eb - 1 then (if f = 0 then .inf neg else .nan)
  else if e = 0 then .fin neg f (1 - fmtBias code - mb)
  else .fin neg (2 ^ mb + f) ((e : Int) - fmtBias code - mb)

/-- The canonical NaN of a format (R296). -/
def fnan (code : Nat) : Nat :=
  match code with
  | 2 => 0x7F | 3 => 0x7F | 4 => 0x7FC0 | 5 => 0x7E00 | _ => 0x7FC00000

/-- Largest finite magnitude's encoding. -/
def fmax (code : Nat) : Nat :=
  match code with
  | 2 => 0x7E | 3 => 0x7B | 4 => 0x7F7F | 5 => 0x7BFF | 8 => 0x7FEFFFFFFFFFFFFF | _ => 0x7F7FFFFF

/-- m × 2^x as an integer, to nearest with ties to even. -/
def scaleRne (m : Nat) (x : Int) : Nat :=
  if 0 ≤ x then m * 2 ^ x.toNat else (rneShr m (-x).toNat).toNat

/-- Encode a value, rounded once to the format; `sat`: a finite result beyond the range becomes the largest finite value,
else an infinity. The flag says that it saturated. -/
def fencode (code : Nat) (sat : Bool) (v : Fv) : Nat × Bool :=
  let eb := (fmtBits code).1; let mb := (fmtBits code).2
  let top := fun (neg : Bool) => b2n neg * 2 ^ (eb + mb)
  match v with
  | .nan => (fnan code, false)
  | .inf neg => if code = 2 then (top neg + fmax 2, true) else (top neg + (2 ^ eb - 1) * 2 ^ mb, false)
  | .fin neg m x =>
    if m = 0 then (top neg, false)
    else
      let emin : Int := 1 - fmtBias code
      let q : Int := max ((m.log2 : Int) + x) emin - mb
      let n := scaleRne m (x - q)
      -- the encoding of n × 2^q as fraction and exponent in one number
      let w : Nat := if n < 2 ^ mb then n else n + ((q - (emin - mb)).toNat) * 2 ^ mb
      if fmax code < w then (if sat then (top neg + fmax code, true) else
        (if code = 2 then (top neg + fmax code, true) else (top neg + (2 ^ eb - 1) * 2 ^ mb, false)))
      else (top neg + w, false)

/-- rne32: rounded to FP32 by IEEE 754. -/
def f32 (v : Fv) : Fv := fdecode 6 (fencode 6 false v).1

def Fv.neg : Fv → Fv
  | .nan => .nan
  | .inf n => .inf (!n)
  | .fin n m x => .fin (!n) m x

/-- The exact sum. -/
def Fv.add : Fv → Fv → Fv
  | .nan, _ => .nan
  | _, .nan => .nan
  | .inf a, .inf b => if a = b then .inf a else .nan
  | .inf a, _ => .inf a
  | _, .inf b => .inf b
  | .fin a m x, .fin b n y =>
    let q := min x y
    let i : Int := (if a then -1 else 1) * (m : Int) * 2 ^ (x - q).toNat + (if b then -1 else 1) * (n : Int) * 2 ^ (y - q).toNat
    if i = 0 then .fin (a && b) 0 q else .fin (decide (i < 0)) i.natAbs q

/-- The exact product. -/
def Fv.mul : Fv → Fv → Fv
  | .nan, _ => .nan
  | _, .nan => .nan
  | .inf a, .inf b => .inf (a != b)
  | .inf a, .fin b n _ => if n = 0 then .nan else .inf (a != b)
  | .fin a m _, .inf b => if m = 0 then .nan else .inf (a != b)
  | .fin a m x, .fin b n y => .fin (a != b) (m * n) (x + y)

/-- v ÷ n for a positive number, with enough bits kept below for one later rounding. -/
def Fv.divNat (v : Fv) (n : Nat) : Fv :=
  match v with
  | .fin a m x =>
    let k := n.log2 + 64
    let t := m * 2 ^ k
    .fin a (2 * (t / n) + b2n (t % n != 0)) (x - k - 1)
  | w => w

/-- 1 ÷ v, likewise. -/
def Fv.recip : Fv → Fv
  | .nan => .nan
  | .inf a => .fin a 0 0
  | .fin a m x => if m = 0 then .inf a else (Fv.fin a 1 (-x)).divNat m

/-- a ÷ b, likewise. -/
def Fv.div : Fv → Fv → Fv
  | .nan, _ => .nan
  | _, .nan => .nan
  | .inf _, .inf _ => .nan
  | .inf a, .fin b _ _ => .inf (a != b)
  | .fin a _ _, .inf b => .fin (a != b) 0 0
  | .fin a m x, .fin b n y => if n = 0 then (if m = 0 then .nan else .inf (a != b)) else (Fv.fin (a != b) m (x - y)).divNat n

/-- The square root, likewise. -/
def Fv.sqrt : Fv → Fv
  | .nan => .nan
  | .inf a => if a then .nan else .inf false
  | .fin a m x =>
    if m = 0 then .fin a 0 0
    else if a then .nan
    else
      let sh : Nat := 130 + (if (x - 130) % 2 = 0 then 0 else 1)
      let n := m * 2 ^ sh
      let r := isqrt n
      .fin false (2 * r + b2n (r * r != n)) ((x - (sh : Int)) / 2 - 1)

/-- a < b for values that are not NaN. -/
def Fv.lt (a b : Fv) : Bool :=
  match a.add b.neg with
  | .inf n => n
  | .fin n m _ => n && m != 0
  | .nan => false

def Fv.ofInt (i : Int) (x : Int) : Fv := .fin (decide (i < 0)) i.natAbs x

def Fv.isNan (v : Fv) : Bool := v == .nan

/-- A finite value's integer at scale 2^−k, exact where the value lies on that grid. -/
def Fv.onGrid (v : Fv) (k : Nat) : Int :=
  match v with
  | .fin n m x => (if n then -1 else 1) * ((scaleRne m (x + k) : Nat) : Int)
  | _ => 0

/-- log2 e in units of 2^−256, cut. -/
def log2e : Nat := 167052672916848388242985626561247531987276682633131050150846402744536260568207

/-- Largest m below 2^24 with m^1024 ≤ 2^t, by bits. -/
def rootAux : Nat → Nat → Nat → Nat
  | 0, _, m => m
  | k + 1, t, m => let c := m + 2 ^ k; rootAux k t (if c ^ 1024 ≤ 2 ^ t then c else m)

/-- TBL[k] = rne32(2^(k ÷ 1,024)) (R300); index 1,024 is 2 × TBL[0]. -/
def expTbl (k : Nat) : Fv :=
  if k = 0 then .fin false 1 0
  else if 1024 ≤ k then .fin false 2 0
  else
    let m := rootAux 24 (23 * 1024 + k) 0
    .fin false (if (2 * m + 1) ^ 1024 ≤ 2 ^ (24 * 1024 + k) then m + 1 else m) (-23)

/-- e_j of a score s and the row's maximum m (R300). -/
def softExp (s m : Fv) : Fv :=
  match f32 ((s.add m.neg).mul (.fin false log2e (-256))) with
  | .nan => .nan
  | .inf neg => if neg then .fin false 0 0 else .inf false
  | .fin neg t x =>
    -- t = i + f
    let up := (-x).toNat
    let v : Int := (if neg then -1 else 1) * (if 0 ≤ x then (t : Int) * 2 ^ x.toNat else t)
    let i := v / 2 ^ up
    let k := (rneDiv ((v - i * 2 ^ up) * 1024) (2 ^ up)).toNat
    f32 ((expTbl k).mul (.fin false 1 i))

/-- The softmax weights of a row of scores; masked keys give +0 (R300). -/
def softmaxRow (scores : List Fv) (live : Nat) : List Fv :=
  let open_ := scores.take live
  let m := match open_ with
    | [] => Fv.fin false 0 0
    | a :: r => r.foldl (fun (b v : Fv) => if v.isNan then v else if b.lt v then v else b) a
  let es := open_.map (fun v => softExp v m)
  let sum := es.foldl (fun (a v : Fv) => f32 (a.add v)) (.fin false 0 0)
  let r := f32 sum.recip
  es.map (fun v => f32 (v.mul r)) ++ List.replicate (scores.length - live) (.fin false 0 0)

/-! ### Arithmetic of the general cores (R313) -/

/-- The exact result of an operation. -/
def fpResult : CoreFp → Fv → Fv → Fv → Fv
  | .add, a, b, _ => a.add b
  | .sub, a, b, _ => a.add b.neg
  | .mul, a, b, _ => a.mul b
  | .fma, a, b, c => (a.mul b).add c
  | .div, a, b, _ => a.div b
  | .sqrt, a, _, _ => a.sqrt

/-- A result rounded once to its format, to nearest with ties to even, subnormals kept; which NaN it is, is a free value. -/
def coreEncode (fmt : Nat) (v : Fv) : Nat :=
  if v.isNan then
    let eb := (fmtBits fmt).1; let mb := (fmtBits fmt).2
    let n := Config.coreNan fmt
    n % 2 * 2 ^ (eb + mb) + (2 ^ eb - 1) * 2 ^ mb + (1 + n / 2 % (2 ^ mb - 1))
  else (fencode fmt false v).1

/-- One operation on encodings of a format. -/
def coreFp (op : CoreFp) (fmt a b c : Nat) : Nat := coreEncode fmt (fpResult op (fdecode fmt a) (fdecode fmt b) (fdecode fmt c))

/-- The lanes of a vector register in a format, lane 0 first. -/
def vecLanes (fmt v : Nat) : List Nat :=
  let w := 8 * fmtBytes fmt
  (List.range (1024 / w)).map (fun i => bits v (w * i) w)

/-- A vector register from its lanes. -/
def vecOf (fmt : Nat) : List Nat → Nat
  | [] => 0
  | a :: r => a % 2 ^ (8 * fmtBytes fmt) + 2 ^ (8 * fmtBytes fmt) * vecOf fmt r

/-- An operation lane by lane. -/
def coreLanes (op : CoreFp) (fmt a b c : Nat) : Nat :=
  vecOf fmt ((((vecLanes fmt a).zip (vecLanes fmt b)).zip (vecLanes fmt c)).map (fun x => coreFp op fmt x.1.1 x.1.2 x.2))

/-- Results 2i and 2i + 1 added, for every i. -/
def addPairs (fmt : Nat) : List Nat → List Nat
  | a :: b :: r => coreFp .add fmt a b 0 :: addPairs fmt r
  | l => l

/-- A horizontal reduction: neighbours are added level by level, `n` levels; the total. -/
def reduceLanes (fmt : Nat) : Nat → List Nat → Nat
  | 0, l => l.headD 0
  | n + 1, l => reduceLanes fmt n (addPairs fmt l)

/-- A reduced vector register: the total in lane 0, the other lanes free. -/
def coreReduce (fmt v : Nat) : Nat :=
  let w := 8 * fmtBytes fmt
  reduceLanes fmt 7 (vecLanes fmt v) % 2 ^ w + 2 ^ w * (Config.coreRest v % 2 ^ (1024 - w))

end Sys2Proof.Machine
end

