-- ==== Sys2Proof/Machine/Mxa.lean ====
section
/-! DEFINITION. The matrix arrays (ch. 13): operators, output blocks and their units, formats, output stage, attention,
recurrence, search, cuts and summaries. -/

namespace Sys2Proof.Machine

/-! ### Operator records (Table 13.4) -/
namespace Mx
def kind (b : List Byte) : Nat := leAt b 0 1
def inFmt (b : List Byte) : Nat := leAt b 1 1
def wFmt (b : List Byte) : Nat := leAt b 2 1
def outFmt (b : List Byte) : Nat := leAt b 3 1
def act (b : List Byte) : Nat := leAt b 4 1
def direct (b : List Byte) : Bool := (leAt b 5 1).testBit 0
def bias (b : List Byte) : Bool := (leAt b 5 1).testBit 1
def zeroPad (b : List Byte) : Bool := (leAt b 5 1).testBit 2
def operator (b : List Byte) : Nat := leAt b 6 2
def kh (b : List Byte) : Nat := leAt b 8 1
def kw (b : List Byte) : Nat := leAt b 9 1
def sx (b : List Byte) : Nat := leAt b 10 1 % 16
def sy (b : List Byte) : Nat := leAt b 10 1 / 16
def dil (b : List Byte) : Nat := leAt b 11 1
def groups (b : List Byte) : Nat := leAt b 12 2
def arrays (b : List Byte) : Nat := leAt b 14 1
def sub (b : List Byte) : Nat := leAt b 15 1
def inH (b : List Byte) : Nat := leAt b 16 2
def inW (b : List Byte) : Nat := leAt b 18 2
def inC (b : List Byte) : Nat := leAt b 20 2 + 1
def outC (b : List Byte) : Nat := leAt b 22 2 + 1
def seqMax (b : List Byte) : Nat := leAt b 24 2
def rBlock (b : List Byte) : Nat := leAt b 26 2
def zp (b : List Byte) : Int := sleAt b 28 1
def clampLo (b : List Byte) : Int := sleAt b 29 1
def clampHi (b : List Byte) : Int := sleAt b 30 1
def inAddr (b : List Byte) : Nat := leAt b 32 8
def wAddr (b : List Byte) : Nat := leAt b 40 8
def outAddr (b : List Byte) : Nat := leAt b 48 8
def biasAddr (b : List Byte) : Nat := leAt b 56 8
def lutAddr (b : List Byte) : Nat := leAt b 64 8
def extentAddr (b : List Byte) : Nat := leAt b 72 8
def tileOps (b : List Byte) : Nat := leAt b 80 4
def wTok (b : List Byte) : Nat := leAt b 84 2
def ioTok (b : List Byte) : Nat := leAt b 86 2
def inMul (b : List Byte) : Nat := leAt b 88 2
def inSh (b : List Byte) : Nat := leAt b 90 1
def inZp (b : List Byte) : Int := sleAt b 91 1
def inFill (b : List Byte) : Nat := leAt b 92 2

/-- An exact integer, an FP8, an FP32 accumulator. -/
def isInt (b : List Byte) : Bool := inFmt b == 0
def isFp8 (b : List Byte) : Bool := rng (inFmt b) 2 3
def isFp32 (b : List Byte) : Bool := rng (inFmt b) 4 5

/-- ACC_SHIFT of Table 13.2. -/
def accShift (b : List Byte) : Nat := if isFp8 b && wFmt b != inFmt b then 7 else 0

/-- T of Table 13.6. -/
def tileRows (b : List Byte) : Nat := if wFmt b = 1 then 256 else 128
def cf (b : List Byte) : Nat := if isFp32 b then 4 else 1

/-- Operators with tile operations over weights. -/
def matKind (b : List Byte) : Bool := kind b == 1 || kind b == 2 || kind b == 6

/-- Output height and width (assumption log 27). -/
def outH (b : List Byte) : Nat :=
  if kind b = 2 ∨ kind b = 3 then ceilDiv (inH b) (sy b) else if kind b = 8 then 2 * inH b else inH b
def outW (b : List Byte) : Nat :=
  if kind b = 2 ∨ kind b = 3 then ceilDiv (inW b) (sx b) else if kind b = 8 then 2 * inW b else if kind b = 4 then inW b else 1

/-- Output rows: positions of the plan. -/
def rows (b : List Byte) : Nat := if kind b = 7 then 1 else outH b * outW b

def kg (b : List Byte) : Nat := if kind b = 2 then kh b * kw b * inC b / groups b else if kind b = 1 then inC b / groups b else inC b
def ng (b : List Byte) : Nat := if kind b = 6 then outC b else outC b / groups b
def headDim (b : List Byte) : Nat := inC b / sub b
def seqTiles (b : List Byte) : Nat := ceilDiv (seqMax b) 128
def hidden (b : List Byte) : Nat := outC b / 2
/-- Slabs the plan of a SEARCH operator covers. -/
def slabs (b : List Byte) : Nat := tileOps b / 128

/-- Groups packed into one tile, none where they are not packed (R301). -/
def pack (b : List Byte) : Option Nat :=
  if kg b ≤ tileRows b ∧ ng b ≤ 128 then some (min (groups b) (min (tileRows b / kg b) (128 / ng b))) else none

/-- The column sets of an operator's output blocks: first group, groups, first column, columns. -/
def colSets (b : List Byte) : List (Nat × Nat × Nat × Nat) :=
  if kind b = 5 then (List.range (sub b)).map (fun h => (h, 1, h * headDim b, headDim b))
  else if !matKind b then (List.range (ceilDiv (outC b) 128)).map (fun k => (0, 1, 128 * k, min 128 (outC b - 128 * k)))
  else
    let groups := if kind b = 6 then 1 else groups b
    match pack b with
    | some g => (List.range (ceilDiv groups g)).map (fun k => (g * k, min g (groups - g * k), g * k * ng b, min g (groups - g * k) * ng b))
    | none => (List.range groups).flatMap (fun q => (List.range (ceilDiv (ng b) 128)).map (fun k =>
        (q, 1, q * ng b + 128 * k, min 128 (ng b - 128 * k))))

def nRed (b : List Byte) : Nat := ceilDiv (kg b) (tileRows b)
def rowBlocks (b : List Byte) : Nat := ceilDiv (rows b) (rBlock b)
def blocksPerStep (b : List Byte) : Nat := rowBlocks b * (colSets b).length
/-- Output blocks of an operator. -/
def blocks (b : List Byte) : Nat :=
  if kind b = 7 then slabs b else if kind b = 6 then blocksPerStep b * seqMax b else blocksPerStep b

/-- Units of a block in order: 0 a tile operation, 1 the output unit, 2 the softmax unit. -/
def units (b : List Byte) : List Nat :=
  if matKind b then List.replicate (nRed b) 0 ++ [1]
  else if kind b = 5 then List.replicate (seqTiles b) 0 ++ [2] ++ List.replicate (seqTiles b) 0 ++ [1]
  else if kind b = 7 then List.replicate 128 0 ++ [1]
  else [1]

/-- TILE_OPS as R301 computes them. -/
def planTileOps (b : List Byte) : Nat :=
  if kind b = 7 then 128 * slabs b else blocks b * ((units b).filter (· == 0)).length

/-- Cost and tokens of a unit (Table 13.6). -/
def cost (b : List Byte) (unit : Nat) : Nat × Nat :=
  let r := rBlock b
  match unit with
  | 0 => (if kind b = 7 then 136 else max (r * cf b) 128 + 8, wTok b)
  | 2 => (ceilDiv (r * seqMax b) 128 + 8, 0)
  | _ => (if kind b = 7 then 16
      else if matKind b || kind b == 5 then ceilDiv r 4 + 8
      else ceilDiv (r * 128 * (if kind b = 3 then kh b * kw b else if kind b = 4 then 2 else 1)) 512 + 8, ioTok b)

/-- Arrays of a stage's operator, ascending. -/
def arrayList (b : List Byte) : List Nat := maskBits (arrays b)

/-- Channels of one activation tile in a format. -/
def chans (fmt : Nat) : Nat := 16384 / (128 * fmtBytes fmt)

/-- Rows of the output tensor: every step's where the operator is recurrent. -/
def tensorRows (b : List Byte) : Nat := if kind b = 6 then rows b * seqMax b else rows b
def tensorCols (b : List Byte) : Nat := if kind b = 6 then hidden b else outC b

/-- Output tiles: positions by channels. -/
def chanTiles (b : List Byte) : Nat := ceilDiv (tensorCols b) (chans (outFmt b))
def outTiles (b : List Byte) : Nat := if kind b = 7 then slabs b else ceilDiv (tensorRows b) 128 * chanTiles b
end Mx

/-! ### Programs -/

def mxHeader (image d : List Byte) : List Byte := (image.drop (Sd.program d)).take 32
def mxOpCount (image d : List Byte) : Nat := leAt (mxHeader image d) 0 1
def mxOp (image d : List Byte) (k : Nat) : List Byte := (image.drop (Sd.program d + 32 + 128 * k)).take 128
def mxOps (image d : List Byte) : List (List Byte) := (List.range (mxOpCount image d)).map (mxOp image d)
def mxStages (image : List Byte) : List (List Byte) :=
  ((List.range (Img.stageCount image)).map (Img.desc image)).filter (fun d => Sd.cls d == 5)

/-- ACC base of an array (R292). -/
def accBase (a : Nat) : Nat := a * 0x400000 + 0x300000

/-- Counter of an array: 0 TILE_OPS, 1 OUTPUT_UNITS, 2 CUTS, 3 SAT, 4 NONFINITE. -/
def mxCnt (a k : Nat) : Nat := 2 + 5 * a + k

/-- An address lies in the arrays' local memory, whose tiles carry no header. -/
def isLocal (a : Nat) : Bool := decide (a < 0x2000000)

/-- Where tile `i` of a tensor stands, and its payload. -/
def tileAt (base i : Nat) : Nat := if isLocal base then base + 16384 * i else base + 16448 * i
def payAt (base i : Nat) : Nat := if isLocal base then base + 16384 * i else base + 16448 * i + 64

/-! ### Tile flags (R302, R305) -/

/-- Prefetch entries of an image (Table 15.6) and its declarations (Table 15.5). -/
def placeAt (image : List Byte) : Nat := 256 + 64 * Img.stageCount image
def objDecl (image : List Byte) (k : Nat) : List Byte := (image.drop (placeAt image + 16 + 32 * k)).take 32
def objDecls (image : List Byte) : List (List Byte) := (List.range (leAt image (placeAt image) 2)).map (objDecl image)
def fetchEntries (image : List Byte) : List (List Byte) :=
  let o := placeAt image + 16 + 32 * leAt image (placeAt image) 2
  (List.range (leAt image (placeAt image + 2) 2)).map (fun k => (image.drop (o + 32 * k)).take 32)

/-- The ready flag of the tile at an address, where the Route has one: of an output tile of its MXA stages, of a prefetch
entry, of a resident object. -/
def State.tileFlag (s : State) (slot a : Nat) : Option Nat :=
  match s.mxa.tileFlags.find? (fun e => e.1 == slot && e.2.1 == a) with
  | some e => some e.2.2
  | none =>
    let image := s.img slot
    let hit := (fetchEntries image).findSome? (fun e =>
      if (leAt e 15 1).testBit 0 then none
      else
        let st := leAt (objDecl image (leAt e 0 2)) 8 8 + 16448 * leAt e 10 2
        if st ≤ a ∧ a < st + 16448 * leAt e 8 2 ∧ (a - st) % 16448 = 0 then some (leAt e 12 2 + (a - st) / 16448) else none)
    match hit with
    | some f => some f
    | none => (objDecls image).findSome? (fun d =>
        if (leAt d 20 1).testBit 0 ∧ leAt d 8 8 ≤ a ∧ a < leAt d 8 8 + 16448 * leAt d 16 2 then some (leAt d 18 2) else none)

/-- A tile that is CUT or STALE reads as zeros (R302). -/
def State.tileCut (s : State) (slot base i : Nat) : Bool :=
  if isLocal base then false
  else match s.tileFlag slot (tileAt base i) with
    | some f => let x := s.flagOf slot f; x == Flag.cut || x == Flag.stale
    | none => false

def State.tileEmpty (s : State) (slot base i : Nat) : Bool :=
  if isLocal base then false
  else match s.tileFlag slot (tileAt base i) with
    | some f => s.flagOf slot f == Flag.empty
    | none => false

/-! ### Reading operands -/

/-- Tile of an element of an activation tensor of `cols` channels. -/
def actTile (fmt cols p c : Nat) : Nat := p / 128 * ceilDiv cols (Mx.chans fmt) + c / Mx.chans fmt

/-- An element of an activation tensor: its encoding. -/
def State.actElem (s : State) (slot base fmt cols p c : Nat) : Nat :=
  let i := actTile fmt cols p c
  if s.tileCut slot base i then 0
  else s.ld (payAt base i + (p % 128 * Mx.chans fmt + c % Mx.chans fmt) * fmtBytes fmt) (fmtBytes fmt)

/-- A weight: tiles in order of column set and reduction tile, of 128 rows by 128 columns, 64 columns for 16-bit formats, 256
rows for INT4 (R305). -/
def State.weight (s : State) (slot : Nat) (b : List Byte) (set red row col : Nat) : Nat :=
  let n := set * Mx.nRed b + red
  let fmt := Mx.wFmt b
  let i := if fmtBytes fmt = 2 then 2 * n + col / 64 else n
  if s.tileCut slot (Mx.wAddr b) i then 0
  else
    let a := payAt (Mx.wAddr b) i
    if fmt = 1 then let k := row * 128 + col; bits (s.ld (a + k / 2) 1) (4 * (k % 2)) 4
    else if fmtBytes fmt = 2 then s.ld (a + 2 * (row * 64 + col % 64)) 2
    else s.ld (a + row * 128 + col) 1

/-- The encoding of zero, and of the input zero point. -/
def padElem (b : List Byte) : Nat := if Mx.inFmt b = 0 then unsgn 8 (Mx.inZp b) else 0

/-- A pixel of the direct stream in the operator's format (R304). -/
def directElem (b : List Byte) (p : Nat) : Nat :=
  if p / 32768 % 2 = 0 then Mx.inFill b
  else
    let v : Int := (p % 4096 : Nat) * (Mx.inMul b : Nat)
    if Mx.inFmt b = 0 then unsgn 8 (satS 8 (rneDiv v (2 ^ Mx.inSh b) + Mx.inZp b))
    else (fencode (Mx.inFmt b) true (Fv.ofInt v (-(Mx.inSh b : Nat)))).1

/-- Lines of a band of the direct stream. -/
def bandRows : Nat := 16

/-- An input element of a convolution or pool at image place (y, x), channel c: `none` is the edge rule's zero. -/
def State.inElem (s : State) (slot arr : Nat) (b : List Byte) (y x : Int) (c : Nat) : Nat :=
  let h : Int := Mx.inH b; let w : Int := Mx.inW b
  let out := decide (y < 0) || decide (h ≤ y) || decide (x < 0) || decide (w ≤ x)
  if out && Mx.zeroPad b then padElem b
  else
    let yy := (clampI 0 (h - 1) y).toNat; let xx := (clampI 0 (w - 1) x).toNat
    if Mx.direct b then
      match (SMap.get [] s.vis.direct arr)[yy / bandRows]? with
      | some (rows : List (List Nat)) => if rows.isEmpty then Mx.inFill b
          else directElem b ((rows.getD (yy % bandRows) []).getD xx 0)
      | none => Mx.inFill b
    else s.actElem slot (Mx.inAddr b) (Mx.inFmt b) (Mx.inC b) (yy * Mx.inW b + xx) c

/-- Image place of tap (ky, kx) of output position p. -/
def tapAt (b : List Byte) (p ky kx : Nat) : Int × Int :=
  let oy := p / Mx.outW b; let ox := p % Mx.outW b
  let d : Int := Mx.dil b
  (((oy * Mx.sy b : Nat) : Int) + ((ky : Int) - ((Mx.kh b - 1) / 2 : Nat)) * d,
   ((ox * Mx.sx b : Nat) : Int) + ((kx : Int) - ((Mx.kw b - 1) / 2 : Nat)) * d)

/-- h of a recurrent operator as INT8 (R300). -/
def hKey (slot stage op : Nat) : Nat := 4096 * flagKey slot stage + 2 * op
def State.hiddenOf (s : State) (slot stage op row col width : Nat) : Int :=
  sgn 16 (SMap.get 0 (SMap.get [] s.mxa.hidden (hKey slot stage op)) (row * width + col))

/-- Reduction element k of group g for output row p (step t of a recurrent operator). -/
def State.redElem (s : State) (slot stage op arr : Nat) (b : List Byte) (t p g k : Nat) : Nat :=
  if Mx.kind b = 1 then s.actElem slot (Mx.inAddr b) (Mx.inFmt b) (Mx.inC b) p (g * Mx.kg b + k)
  else if Mx.kind b = 6 then
    let h := Mx.hidden b; let xw := Mx.inC b - h
    if k < xw then s.actElem slot (Mx.inAddr b) 0 xw (t * Mx.rows b + p) k
    else unsgn 8 (satS 8 (rneDiv (s.hiddenOf slot stage op p (k - xw) h) 256))
  else
    let cg := Mx.inC b / Mx.groups b
    let tap := k / cg
    let yx := tapAt b p (tap / Mx.kw b) (tap % Mx.kw b)
    s.inElem slot arr b yx.1 yx.2 (g * cg + k % cg)

/-! ### Accumulators -/

def State.acc (s : State) (a r c : Nat) : Nat := s.ld (accBase a + 8 * (128 * r + c)) 8
def accBytes (b : List Byte) (v : Fv) (i : Int) : List Byte :=
  if Mx.isFp32 b then leBytes 4 (fencode 6 false v).1 ++ zeros 4 else sleBytes 8 i

/-- Add the products of element pairs to an accumulator word: the word, and whether an FP8 operand was not finite. -/
def accumulate (b : List Byte) (w0 : Nat) (ps : List (Nat × Nat)) : List Byte × Bool :=
  if Mx.isFp32 b then
    let v := ps.foldl (fun (a : Fv) p => f32 (a.add ((fdecode (Mx.inFmt b) p.1).mul (fdecode (Mx.wFmt b) p.2)))) (fdecode 6 (w0 % 2 ^ 32))
    (accBytes b v 0, false)
  else if Mx.isFp8 b then
    let vs := ps.map (fun p => (fdecode (Mx.inFmt b) p.1, fdecode (Mx.wFmt b) p.2))
    let bad := vs.any (fun p => match p.1, p.2 with
      | .fin _ _ _, .fin _ _ _ => false
      | _, _ => true)
    let g := 18 + Mx.accShift b
    (sleBytes 8 (sgn 64 w0 + (vs.map (fun p => (p.1.mul p.2).onGrid g)).sum), bad)
  else
    let wbits := if Mx.wFmt b = 1 then 4 else 8
    (sleBytes 8 (sgn 64 w0 + (ps.map (fun p => sgn 8 p.1 * sgn wbits p.2)).sum), false)

/-- Rows of block `i`: step, first row, rows, column set and its index. -/
structure MxBlk where
  step : Nat
  row0 : Nat
  rows : Nat
  setNo : Nat
  set : Nat × Nat × Nat × Nat

def mxBlk (b : List Byte) (i : Nat) : MxBlk :=
  let sets := Mx.colSets b
  let per := Mx.blocksPerStep b
  let j := i % per
  let r0 := j / sets.length * Mx.rBlock b
  ⟨i / per, r0, min (Mx.rBlock b) (Mx.rows b - r0), j % sets.length, sets.getD (j % sets.length) (0, 1, 0, 0)⟩

def State.setBad (s : State) (a : Nat) (l : List Nat) : State := { s with mxa := { s.mxa with bad := SMap.set s.mxa.bad a l } }
def State.setScores (s : State) (a : Nat) (l : List Nat) : State :=
  { s with mxa := { s.mxa with scores := SMap.set s.mxa.scores a l } }

/-- Write the accumulator words of a block. -/
def State.accWrite (s : State) (a : Nat) (ws : List (Nat × Nat × List Byte)) : State :=
  s.each ws (fun st w => { st with mem := st.mem.writeBytes (accBase a + 8 * (128 * w.1 + w.2.1)) w.2.2 })

/-- A tile operation of KIND 1, 2 and 6 (R290, R294, R295). -/
def State.mxTile (s : State) (slot stage op arr : Nat) (b : List Byte) (blk : MxBlk) (t : Nat) : State :=
  let tr := Mx.tileRows b
  let n := min tr (Mx.kg b - t * tr)
  let cells := (List.range blk.rows).flatMap (fun r => (List.range blk.set.2.2.2).map (fun c => (r, c)))
  let out := cells.map (fun rc =>
    let gi := if blk.set.2.1 = 1 then 0 else rc.2 / Mx.ng b
    let base := gi * Mx.kg b
    let ps := (List.range n).map (fun k =>
      (s.redElem slot stage op arr b blk.step (blk.row0 + rc.1) (blk.set.1 + gi) (t * tr + k),
       s.weight slot b blk.setNo t (base + k) rc.2))
    let w0 := if t = 0 then 0 else s.acc arr rc.1 rc.2
    (rc, accumulate b w0 ps))
  let was := if t = 0 then [] else SMap.get [] s.mxa.bad arr
  let bad := out.foldl (fun l o => if o.2.2 then insertOnce (128 * o.1.1 + o.1.2) l else l) was
  (s.accWrite arr (out.map (fun o => (o.1.1, o.1.2, o.2.1)))).setBad arr bad

/-! ### Output stage (R297, R298) -/

/-- One element's encoding, saturated?, non-finite? `v`: the FP32 value, `i`: the exact accumulator, over `den`. -/
def outElem (b : List Byte) (bias : List Byte) (lut : Nat → Nat) (v : Fv) (i : Int) (den : Nat) (bad : Bool) : Nat × Bool × Bool :=
  let fmt := Mx.outFmt b
  let has := Mx.bias b
  let m : Int := if has then sleAt bias 8 4 else 1
  let sh := if has then leAt bias 12 1 else 0
  let zpBits := if fmt = 0 then unsgn 8 (Mx.zp b) else unsgn 32 (Mx.zp b)
  let intOut := fmt == 0 || fmt == 7
  let nonfin := if intOut then (zpBits, false, true) else (fnan fmt, false, true)
  let activate := fun (q : Nat) =>
    if intOut then
      let x := sgn (if fmt = 0 then 8 else 32) q
      match Mx.act b with
      | 1 => unsgn 8 (max x (Mx.zp b))
      | 2 => unsgn 8 (clampI (Mx.clampLo b) (Mx.clampHi b) x)
      | 3 => lut (x + 128).toNat
      | _ => q
    else if Mx.act b = 1 then
      match fdecode fmt q with
      | .nan => q
      | .inf n => if n then 0 else q
      | .fin n _ _ => if n then 0 else q
    else q
  if bad then nonfin
  else if Mx.isFp32 b then
    let x := if has then f32 ((f32 (v.add (fdecode 6 (leAt bias 0 4)))).mul (fdecode 6 (leAt bias 8 4))) else f32 (f32 (v.add (.fin false 0 0)))
    if x.isNan then nonfin
    else
      let finite := match x with
        | .fin _ _ _ => true
        | _ => false
      let e := fencode fmt (finite || fmt == 2) x
      (activate e.1, e.2, false)
  else
    let a : Int := (if has then sleAt bias 0 8 else 0) * den + i
    let scale := sh + (if Mx.isFp8 b && !intOut then 18 + Mx.accShift b else 0)
    if intOut then
      let q := rneDiv (a * m) (den * 2 ^ sh) + Mx.zp b
      let w := if fmt = 0 then 8 else 32
      let z := satS w q
      (activate (unsgn w z), decide (z ≠ q), false)
    else
      let x := if den = 1 then Fv.ofInt (a * m) (-(scale : Int)) else (Fv.ofInt (a * m) (-(scale : Int))).divNat den
      let e := fencode fmt true x
      (activate e.1, e.2, false)

/-- Elements of an output tensor: (position, channel, encoding). -/
abbrev MxOut := List (Nat × Nat × Nat)

/-- Write output elements into their tiles, with their headers (R330). -/
def State.mxWrite (s : State) (r : Run) (b : List Byte) (fresh : Nat → Bool) (out : MxOut) : State :=
  let fmt := Mx.outFmt b
  let ch := Mx.chans fmt; let cols := Mx.tensorCols b; let rows := Mx.tensorRows b
  let tiles := (out.map (fun o => actTile fmt cols o.1 o.2.1)).eraseDups
  s.each tiles (fun st i =>
    let base := Mx.outAddr b
    let old := if fresh i then zeros 16384 else st.ldB (payAt base i) 16384
    let pay := (out.filter (fun o => actTile fmt cols o.1 o.2.1 == i)).foldl (fun (p : List Byte) o =>
      patch p ((o.1 % 128 * ch + o.2.1 % ch) * fmtBytes fmt) (leBytes (fmtBytes fmt) o.2.2)) old
    let valid := min 128 (rows - 128 * (i / Mx.chanTiles b)) * ch * fmtBytes fmt
    st.writing 7 r.cadence (fun x =>
      if isLocal base then x.stB (payAt base i) pay
      else x.writeTile (tileAt base i) fmt valid i (x.runLayer r) (Mx.operator b) r.cadence pay))

/-! ### Stages in progress -/

def State.mxStage (s : State) (slot stage : Nat) : Option MxStage :=
  s.mxa.stages.find? (fun x => x.slot == slot && x.stage == stage)
def State.updMx (s : State) (slot stage : Nat) (f : MxStage → MxStage) : State :=
  { s with mxa := { s.mxa with stages := s.mxa.stages.map (fun x => if x.slot = slot ∧ x.stage = stage then f x else x) } }
def MxStage.op (x : MxStage) (k : Nat) : MxOp := SMap.get MxOp.reset x.ops k
def State.updOp (s : State) (slot stage k : Nat) (f : MxOp → MxOp) : State :=
  s.updMx slot stage (fun x => { x with ops := SMap.upd MxOp.reset x.ops k f })

/-- First flag of operator `k` in the stage's list: output tiles outside local memory, in order. -/
def mxFlagBase (ops : List (List Byte)) (k : Nat) : Nat :=
  ((ops.take k).map (fun b => if Mx.kind b != 7 && isLocal (Mx.outAddr b) then 0 else Mx.outTiles b)).sum

/-- The next place of an array: the first operator from `op` on that names it, at its first block. -/
def mxSeek (ops : List (List Byte)) (arr : Nat) : Nat → Nat → Nat → MxPos
  | 0, op, idx => ⟨op, 0, 0, idx, true⟩
  | n + 1, op, idx =>
    match ops[op]? with
    | none => ⟨op, 0, 0, idx, true⟩
    | some b =>
      match (Mx.arrayList b).idxOf? arr with
      | some i => if i < Mx.blocks b then ⟨op, i, 0, idx, false⟩ else mxSeek ops arr n (op + 1) idx
      | none => mxSeek ops arr n (op + 1) idx

/-- The place after a unit. -/
def MxPos.next (p : MxPos) (ops : List (List Byte)) (arr : Nat) : MxPos :=
  let b := ops.getD p.op []
  if p.unit + 1 < (Mx.units b).length then { p with unit := p.unit + 1, index := p.index + 1 }
  else
    let i := p.block + (Mx.arrayList b).length
    if i < Mx.blocks b then ⟨p.op, i, 0, p.index + 1, false⟩ else mxSeek ops arr 64 (p.op + 1) (p.index + 1)

/-- Output tiles of an operator a block writes. -/
def mxBlockTiles (b : List Byte) (i : Nat) : List Nat :=
  if Mx.kind b = 7 then [i]
  else if Mx.kind b = 6 then
    -- the blocks of a step write the step's rows together
    let t := i / Mx.blocksPerStep b
    ((List.range (Mx.rows b)).flatMap (fun q => (List.range (Mx.chanTiles b)).map (fun c =>
      (t * Mx.rows b + q) / 128 * Mx.chanTiles b + c))).eraseDups
  else
    let k := mxBlk b i
    let ch := Mx.chans (Mx.outFmt b)
    let ps := ((List.range k.rows).map (fun r => (k.row0 + r) / 128)).eraseDups
    let cs := ((List.range k.set.2.2.2).map (fun c => (k.set.2.2.1 + c) / ch)).eraseDups
    ps.flatMap (fun p => cs.map (fun c => p * Mx.chanTiles b + c))

/-- Blocks that share an output tile with block `i`. -/
def mxCovers (b : List Byte) (tile : Nat) : List Nat := (List.range (Mx.blocks b)).filter (fun j => (mxBlockTiles b j).contains tile)

/-- Read the actual extent at an operator's start (R307). -/
def State.mxExtent (s : State) (slot stage k : Nat) (b : List Byte) : State :=
  match s.mxStage slot stage with
  | none => s
  | some x =>
    if (x.op k).started then s
    else
      let plan := if Mx.kind b = 5 then Mx.seqMax b else Mx.rows b
      if Mx.extentAddr b = 0 then s.updOp slot stage k (fun o => { o with started := true, extent := plan })
      else
        let v := s.ld (Mx.extentAddr b) 4
        s.updOp slot stage k (fun o => { o with started := true, extent := min v plan, flags := o.flags ||| (32 * b2n (decide (plan < v))) })

/-- Note summary flags and their register bits (R302, R307): [1] INPUT_CUT, [5] EXTENT_CLAMPED. -/
def State.mxInputCut (s : State) (slot stage k arr : Nat) : State :=
  ((s.updOp slot stage k (fun o => { o with flags := o.flags ||| 2 })).setBit (Reg.MXA_ARR_STATUS arr) 1).degrade slot stage

/-! ### Attention (R300) -/

/-- One tile operation of Q·Kᵀ: the scores of 128 keys. -/
def State.mxQk (s : State) (slot arr : Nat) (b : List Byte) (blk : MxBlk) (t : Nat) : State :=
  let n := Mx.headDim b
  let keys := min 128 (Mx.seqMax b - 128 * t)
  let kbase := Config.attnKeyAddr (Mx.inAddr b) (Mx.wAddr b)
  let ws := (List.range blk.rows).flatMap (fun r => (List.range keys).map (fun c =>
    let ps := (List.range n).map (fun d =>
      (s.actElem slot (Mx.inAddr b) (Mx.inFmt b) (Mx.inC b) (blk.row0 + r) (blk.set.2.2.1 + d),
       s.actElem slot kbase (Mx.inFmt b) (Mx.inC b) (128 * t + c) (blk.set.2.2.1 + d)))
    (r, c, (accumulate b 0 ps).1)))
  let old := if t = 0 then [] else SMap.get [] s.mxa.scores arr
  -- scores stand key by key, each key's column of rows
  let cols := (List.range keys).flatMap (fun c => (List.range blk.rows).map (fun r =>
    leNat (((ws.find? (fun w => w.1 == r && w.2.1 == c)).map (fun w => w.2.2.take 4)).getD [])))
  (s.accWrite arr ws).setScores arr (old ++ cols)

/-- The softmax unit of a head. -/
def State.mxSoftmax (s : State) (arr : Nat) (b : List Byte) (blk : MxBlk) (live : Nat) : State :=
  let sc := SMap.get [] s.mxa.scores arr
  let rowsW := (List.range blk.rows).map (fun r =>
    softmaxRow ((List.range (Mx.seqMax b)).map (fun j => fdecode 6 (sc.getD (j * blk.rows + r) 0))) live)
  s.setScores arr ((List.range (Mx.seqMax b)).flatMap (fun j => rowsW.map (fun w => (fencode 6 false (w.getD j (.fin false 0 0))).1)))

/-- One tile operation of the product with V; the weights enter in the operator's format (assumption log 28). -/
def State.mxWv (s : State) (slot arr : Nat) (b : List Byte) (blk : MxBlk) (t : Nat) : State :=
  let sc := SMap.get [] s.mxa.scores arr
  let keys := min 128 (Mx.seqMax b - 128 * t)
  let ws := (List.range blk.rows).flatMap (fun r => (List.range (Mx.headDim b)).map (fun d =>
    let ps := (List.range keys).map (fun j =>
      ((fencode (Mx.inFmt b) false (fdecode 6 (sc.getD ((128 * t + j) * blk.rows + r) 0))).1,
       s.actElem slot (Mx.wAddr b) (Mx.inFmt b) (Mx.inC b) (128 * t + j) (blk.set.2.2.1 + d)))
    (r, d, (accumulate b (if t = 0 then 0 else s.acc arr r d) ps).1)))
  s.accWrite arr ws

/-! ### Search (R306) -/

def State.jobOk (s : State) (b : List Byte) : Bool := s.ld (Mx.inAddr b) 4 == 0xC1E97A02

/-- Tile operation `u` of a slab: reduction tile u mod 4 of column tile u ÷ 4. -/
def State.mxSearchTile (s : State) (arr : Nat) (b : List Byte) (slab u : Nat) : State :=
  let job := Mx.inAddr b
  let desc := s.ld (job + 24) 8 + 2097152 * slab
  let ws := (List.range 128).map (fun c =>
    let ps := (List.range 128).map (fun k =>
      (s.ld (job + 64 + 128 * (u % 4) + k) 1, s.ld (desc + 512 * (128 * (u / 4) + c) + 128 * (u % 4) + k) 1))
    let sum := (ps.map (fun p => sgn 8 p.1 * sgn 8 p.2)).sum
    (u / 4, c, sleBytes 8 ((if u % 4 = 0 then 0 else sgn 64 (s.acc arr (u / 4) c)) + sum)))
  s.accWrite arr ws

/-! ### Units -/

/-- The output elements of a block, with how many saturated and how many are not finite. -/
def State.mxOutputs (s : State) (r : Run) (k arr : Nat) (b : List Byte) (blk : MxBlk) : List (Nat × Nat × Nat × Bool × Bool) :=
  let slot := r.slot
  let lut := fun (i : Nat) => s.ld (Mx.lutAddr b + i) 1
  let bias := fun (c : Nat) => if Mx.bias b then s.ldB (Mx.biasAddr b + 16 * c) 16 else []
  let bad := SMap.get [] s.mxa.bad arr
  let fin := fun (c : Nat) (v : Fv) (i : Int) (den : Nat) (isBad : Bool) => outElem b (bias c) lut v i den isBad
  let decode := fun (fmt w : Nat) => fdecode fmt w
  let exact := fun (w : Nat) => if Mx.isInt b then sgn 8 w else (fdecode (Mx.inFmt b) w).onGrid 18
  let notFin := fun (w : Nat) => Mx.isFp8 b && (match fdecode (Mx.inFmt b) w with
    | .fin _ _ _ => false
    | _ => true)
  (List.range blk.rows).flatMap (fun ri => (List.range blk.set.2.2.2).map (fun ci =>
    let p := blk.row0 + ri; let c := blk.set.2.2.1 + ci
    let e : Nat × Bool × Bool :=
      if Mx.matKind b || Mx.kind b == 5 then
        let w := s.acc arr ri ci
        fin c (decode 6 (w % 2 ^ 32)) (sgn 64 w) 1 (bad.contains (128 * ri + ci))
      else if Mx.kind b = 4 then
        let x := s.actElem slot (Mx.inAddr b) (Mx.inFmt b) (Mx.inC b) p c
        let y := s.actElem slot (Mx.wAddr b) (Mx.inFmt b) (Mx.inC b) p c
        if Mx.isFp32 b then
          let vx := decode (Mx.inFmt b) x; let vy := decode (Mx.inFmt b) y
          fin c (f32 (if Mx.sub b = 0 then vx.add vy else vx.mul vy)) 0 1 false
        else
          let prod := if Mx.isInt b then exact x * exact y
            else ((decode (Mx.inFmt b) x).mul (decode (Mx.inFmt b) y)).onGrid 18
          fin c (.fin false 0 0) (if Mx.sub b = 0 then exact x + exact y else prod) 1 (notFin x || notFin y)
      else if Mx.kind b = 3 then
        let ws := (List.range (Mx.kh b)).flatMap (fun ky => (List.range (Mx.kw b)).map (fun kx =>
          let yx := tapAt b p ky kx
          s.inElem slot arr b yx.1 yx.2 c))
        if Mx.isFp32 b then
          let vs := ws.map (decode (Mx.inFmt b))
          let nan := vs.any Fv.isNan
          let top := vs.foldl (fun (a v : Fv) => if a.lt v then v else a) (vs.headD .nan)
          let sum := vs.foldl (fun (a v : Fv) => f32 (a.add v)) (.fin false 0 0)
          fin c (if Mx.sub b = 0 then (if nan then .nan else top) else f32 (sum.divNat (Mx.kh b * Mx.kw b))) 0 1 false
        else
          let vs := ws.map exact
          if Mx.sub b = 0 then fin c (.fin false 0 0) (vs.foldl max (vs.headD 0)) 1 (ws.any notFin)
          else fin c (.fin false 0 0) vs.sum (Mx.kh b * Mx.kw b) (ws.any notFin)
      else
        let y := p / Mx.outW b / 2; let x := p % Mx.outW b / 2
        let w := s.actElem slot (Mx.inAddr b) (Mx.inFmt b) (Mx.inC b) (y * Mx.inW b + x) c
        fin c (decode (Mx.inFmt b) w) (exact w) 1 (notFin w)
    let ext := match s.mxStage r.slot r.index with
      | some x => (x.op k).extent
      | none => 0
    if Mx.kind b ≠ 6 ∧ ext ≤ p then (p, c, (if Mx.outFmt b = 0 then unsgn 8 (Mx.zp b) else 0), false, false)
    else (p, c, e.1, e.2.1, e.2.2)))

/-- The gates of a recurrent step are complete: the new h, written to STATE and to the output (R300). -/
def State.mxRecur (s : State) (r : Run) (k : Nat) (b : List Byte) (step : Nat) (fresh : Nat → Bool) : State :=
  let key := hKey r.slot r.index k
  let h := Mx.hidden b
  let gates := SMap.get [] s.mxa.gates key
  let tbl := fun (n v : Nat) => sgn 16 (s.ld (Mx.lutAddr b + 512 * n + 2 * (sgn 8 v + 128).toNat) 2)
  let cells := (List.range (Mx.rows b)).flatMap (fun q => (List.range h).map (fun j => (q, j)))
  let new := cells.map (fun qj =>
    let z := tbl 0 (SMap.get 0 gates (qj.1 * Mx.outC b + qj.2))
    let n := tbl 1 (SMap.get 0 gates (qj.1 * Mx.outC b + h + qj.2))
    (qj, satS 16 (rneDiv (z * s.hiddenOf r.slot r.index k qj.1 qj.2 h + (32768 - z) * n) 32768)))
  let m := new.foldl (fun (m : SMap Nat) e => SMap.set m (e.1.1 * h + e.1.2) (unsgn 16 e.2)) (SMap.get [] s.mxa.hidden key)
  let s1 : State := { s with mxa := { s.mxa with hidden := SMap.set s.mxa.hidden key m, gates := SMap.set s.mxa.gates key [] } }
  let ext := match s.mxStage r.slot r.index with
    | some x => (x.op k).extent
    | none => 0
  s1.mxWrite r b fresh (new.map (fun e => (step * Mx.rows b + e.1.1, e.1.2,
    if ext ≤ e.1.1 then unsgn 8 (Mx.zp b) else unsgn 8 (satS 8 (rneDiv e.2 256)))))

/-- The output unit of a block. -/
def State.mxOutput (s : State) (r : Run) (k arr : Nat) (ops : List (List Byte)) (b : List Byte) (i : Nat) : State :=
  let done := match s.mxStage r.slot r.index with
    | some x => (x.op k).blocks
    | none => []
  let fresh := fun (t : Nat) => !(mxCovers b t).any (fun j =>
    done.contains j && (Mx.kind b != 6 || j / Mx.blocksPerStep b != i / Mx.blocksPerStep b))
  let s1 : State :=
    if Mx.kind b = 7 then
      let ok := s.jobOk b
      let body := (List.range 4096).flatMap (fun c => if ok then leBytes 4 (s.acc arr (c / 128) (c % 128)) else zeros 4)
      let s2 := if ok && decide (s.ld (Mx.inAddr b + 12) 4 ≤ i) then s
        else s.writing 7 r.cadence (fun x => x.stB (Mx.inAddr b + 1024 + 16384 * i) body)
      if ok then s2 else s2.mxInputCut r.slot r.index k arr
    else
      let blk := mxBlk b i
      let out := s.mxOutputs r k arr b blk
      let sat := (out.filter (fun o => o.2.2.2.1)).length
      let nf := (out.filter (fun o => o.2.2.2.2)).length
      let s2 : State :=
        if Mx.kind b = 6 then
          let key := hKey r.slot r.index k
          let g := out.foldl (fun (m : SMap Nat) o => SMap.set m (o.1 * Mx.outC b + o.2.1) o.2.2.1) (SMap.get [] s.mxa.gates key)
          let s3 : State := { s with mxa := { s.mxa with gates := SMap.set s.mxa.gates key g } }
          let per := Mx.blocksPerStep b
          let stepDone := (List.range per).all (fun j => let q := i / per * per + j; q == i || done.contains q)
          if stepDone then s3.mxRecur r k b (i / per) fresh else s3
        else s.mxWrite r b fresh (out.map (fun o => (o.1, o.2.1, o.2.2.1)))
      let s4 := s2.updOp r.slot r.index k (fun o => { o with
        sat := min (o.sat + sat) 0xFFFFFFFF, nonfinite := min (o.nonfinite + nf) 0xFFFFFFFF,
        flags := o.flags ||| (4 * b2n (decide (0 < sat))) ||| (8 * b2n (decide (0 < nf))) })
      let s5 := if sat = 0 then s4 else (s4.setBit (Reg.MXA_ARR_STATUS arr) 2).countN 9 (mxCnt arr 3) sat
      if nf = 0 then s5 else (s5.setBit (Reg.MXA_ARR_STATUS arr) 3).countN 9 (mxCnt arr 4) nf
  let done' := i :: done
  let s6 := (s1.updOp r.slot r.index k (fun o => { o with blocks := done' })).addItems r.slot r.index 1
  -- tiles complete with this block
  let base := mxFlagBase ops k
  if Mx.kind b != 7 && isLocal (Mx.outAddr b) then s6
  else
    let tiles := (mxBlockTiles b i).filter (fun t => (mxCovers b t).all done'.contains)
    s6.each tiles (fun st t => st.runFlag r (base + t) Flag.ready)

/-- Tiles of an activation tensor of `cols` channels that hold `n` positions from `p` on, in `m` channels from `c` on. -/
def actTiles (fmt cols p n c m : Nat) : List Nat :=
  if n = 0 ∨ m = 0 then []
  else
    let ch := Mx.chans fmt
    (List.range ((p + n - 1) / 128 - p / 128 + 1)).flatMap (fun i => (List.range ((c + m - 1) / ch - c / ch + 1)).map (fun j =>
      (p / 128 + i) * ceilDiv cols ch + c / ch + j))

/-- Tiles of the image lines that taps `k0` to `k1` of a block's positions reach, in `m` channels from `c` on. -/
def tapTiles (b : List Byte) (blk : MxBlk) (k0 k1 c m : Nat) : List Nat :=
  let line := fun (v : Int) => (clampI 0 ((Mx.inH b : Int) - 1) v).toNat
  let y0 := line (tapAt b blk.row0 k0 0).1
  let y1 := line (tapAt b (blk.row0 + blk.rows - 1) k1 0).1
  actTiles (Mx.inFmt b) (Mx.inC b) (y0 * Mx.inW b) ((y1 + 1 - y0) * Mx.inW b) c m

/-- The weight tiles of a tile operation (R305). -/
def weightTiles (b : List Byte) (set red : Nat) : List Nat :=
  let n := set * Mx.nRed b + red
  if fmtBytes (Mx.wFmt b) = 2 then [2 * n, 2 * n + 1] else [n]

/-- Tiles a tile operation of KIND 1, 2 or 6 reads: activations, then weights. -/
def matReads (b : List Byte) (blk : MxBlk) (t : Nat) : List (Nat × Nat) :=
  let k0 := t * Mx.tileRows b
  let n := min (Mx.tileRows b) (Mx.kg b - k0)
  let fmt := Mx.inFmt b
  let x :=
    if Mx.kind b = 1 then (List.range blk.set.2.1).flatMap (fun g =>
      actTiles fmt (Mx.inC b) blk.row0 blk.rows ((blk.set.1 + g) * Mx.kg b + k0) n)
    else if Mx.kind b = 6 then
      let xw := Mx.inC b - Mx.hidden b
      actTiles 0 xw (blk.step * Mx.rows b + blk.row0) blk.rows k0 (min n (xw - k0))
    else if Mx.direct b then []
    else
      let cg := max 1 (Mx.inC b / Mx.groups b)
      tapTiles b blk (k0 / cg / max 1 (Mx.kw b)) ((k0 + n - 1) / cg / max 1 (Mx.kw b)) (blk.set.1 * cg) (blk.set.2.1 * cg)
  x.map (fun t => (Mx.inAddr b, t)) ++ (weightTiles b blk.setNo t).map (fun t => (Mx.wAddr b, t))

/-- Tiles unit `u` of an attention block reads: the queries with the keys, then the values (R300). -/
def attnReads (b : List Byte) (blk : MxBlk) (u : Nat) : List (Nat × Nat) :=
  let fmt := Mx.inFmt b; let c := blk.set.2.2.1; let m := Mx.headDim b; let sq := Mx.seqTiles b
  let keys := fun (t : Nat) => actTiles fmt (Mx.inC b) (128 * t) (min 128 (Mx.seqMax b - 128 * t)) c m
  if u < sq then
    (actTiles fmt (Mx.inC b) blk.row0 blk.rows c m).map (fun t => (Mx.inAddr b, t)) ++
      (keys u).map (fun t => (Config.attnKeyAddr (Mx.inAddr b) (Mx.wAddr b), t))
  else if sq < u ∧ u ≤ 2 * sq then (keys (u - sq - 1)).map (fun t => (Mx.wAddr b, t))
  else []

/-- Tiles unit `u` of block `i` of an operator reads: (base, tile) (R305). A SEARCH reads its job and slabs, whose flags are the job's. -/
def mxReads (b : List Byte) (i u : Nat) : List (Nat × Nat) :=
  let blk := mxBlk b i
  let c := blk.set.2.2.1; let m := blk.set.2.2.2
  match Mx.kind b with
  | 7 => []
  | 5 => attnReads b blk u
  | 3 => if Mx.direct b then [] else (tapTiles b blk 0 (Mx.kh b - 1) c m).map (fun t => (Mx.inAddr b, t))
  | 4 =>
    let x := actTiles (Mx.inFmt b) (Mx.inC b) blk.row0 blk.rows c m
    x.map (fun t => (Mx.inAddr b, t)) ++ x.map (fun t => (Mx.wAddr b, t))
  | 8 =>
    let w := max 1 (Mx.outW b)
    let y0 := blk.row0 / w / 2; let y1 := (blk.row0 + blk.rows - 1) / w / 2
    (actTiles (Mx.inFmt b) (Mx.inC b) (y0 * Mx.inW b) ((y1 + 1 - y0) * Mx.inW b) c m).map (fun t => (Mx.inAddr b, t))
  | _ => if u < Mx.nRed b then matReads b blk u else []

/-- The flags of the tiles a unit reads are not EMPTY (R17, R305). -/
def State.mxTilesIn (s : State) (slot : Nat) (b : List Byte) (i u : Nat) : Bool :=
  (mxReads b i u).all (fun t => !s.tileEmpty slot t.1 t.2)

/-- The last input line a block's rows read. -/
def lastLine (b : List Byte) (i : Nat) : Nat :=
  let blk := mxBlk b i
  (clampI 0 ((Mx.inH b : Int) - 1) (tapAt b (blk.row0 + blk.rows - 1) (Mx.kh b - 1) 0).1).toNat

/-- The bands of the direct stream a block reads have come (R304). -/
def State.mxBandsIn (s : State) (arr : Nat) (b : List Byte) (i : Nat) : Bool :=
  !Mx.direct b || decide (lastLine b i / bandRows < (SMap.get [] s.vis.direct arr).length)

/-- The recurrent step before a block's is done. -/
def State.mxStepIn (s : State) (r : Run) (k : Nat) (b : List Byte) (i : Nat) : Bool :=
  let done := match s.mxStage r.slot r.index with
    | some x => (x.op k).blocks
    | none => []
  let per := Mx.blocksPerStep b
  Mx.kind b != 6 || i / per == 0 || (List.range per).all (fun j => done.contains ((i / per - 1) * per + j))

/-- Flags of the output tiles an array has not written, with the operators it leaves undone. -/
def State.mxLeft (s : State) (r : Run) (ops : List (List Byte)) (arr : Nat) : List Nat × List Nat :=
  match s.mxStage r.slot r.index with
  | none => ([], [])
  | some x =>
    let per := (List.range ops.length).map (fun k =>
      let b := ops.getD k []
      let ars := Mx.arrayList b
      match ars.idxOf? arr with
      | none => ([], [])
      | some me =>
        let mine := (List.range (Mx.blocks b)).filter (fun i => i % ars.length == me && !(x.op k).blocks.contains i)
        let fl := if Mx.kind b != 7 && isLocal (Mx.outAddr b) then [] else (mine.flatMap (mxBlockTiles b)).map (mxFlagBase ops k + ·)
        (fl, if mine.isEmpty then [] else [k]))
    (per.flatMap (fun e => e.1), per.flatMap (fun e => e.2))

/-- An array is cut at its unit `idx` (R302). -/
def State.mxCut (s : State) (r : Run) (ops : List (List Byte)) (arr limit idx : Nat) : State :=
  let left := s.mxLeft r ops arr
  let s1 := s.cutInst r.slot r.index arr limit
  let s2 := s1.cutFlags r (left.1.filterMap (fun f => r.outFlags[f]?))
  let s3 := s2.each left.2 (fun st k => st.updOp r.slot r.index k (fun o => { o with flags := o.flags ||| 1 }))
  ((s3.setBit (Reg.MXA_ARR_STATUS arr) 0).setRegN (Reg.MXA_ARR_CUT_POS arr) idx).count 9 (mxCnt arr 2)

/-- Array `a` has a unit in progress: MXA_STATUS[7:0]. -/
def State.mxBusy (s : State) (arr : Nat) : Bool := decide (s.heldCore < SMap.get 0 s.mxa.busy arr)

/-- Cycles from a unit's issue until its output is complete (R303). -/
def mxSpan (want cost : Nat) : Nat := if want = 0 then max cost 264 else cost + 32

/-- An array is occupied by a unit it issues. -/
def State.mxOccupy (s : State) (arr want cost : Nat) : State :=
  { s with mxa := { s.mxa with busy := SMap.set s.mxa.busy arr (max (SMap.get 0 s.mxa.busy arr) (s.core + mxSpan want cost)) } }

/-- An array's unit in progress is discarded (R308). -/
def State.mxDiscard (s : State) (arr : Nat) : State :=
  { s with mxa := { s.mxa with busy := SMap.erase s.mxa.busy arr } }

/-- A unit that its array has paid for, kind `want` (0 tile, 1 output, 2 softmax): its work by R293 to R307 and the array's next place.
`b`: the operation, one of `ops`; `pos`: the array's place in it. -/
def State.mxWork (s : State) (want arr : Nat) (r : Run) (ops : List (List Byte)) (pos : MxPos) (b : List Byte) : State :=
  let c := Mx.cost b want
  let s0 := (((s.chargeTo r arr c.1 c.2).bankBusy 9 arr c.1).mxOccupy arr want c.1).mxExtent r.slot r.index pos.op b
  let s1 := (s0.setRegN (Reg.MXA_ARR_CUR arr) (s.runLayer r + 65536 * Mx.operator b)).updOp r.slot r.index pos.op
    (fun o => { o with units := o.units + 1 })
  let clamped := match s1.mxStage r.slot r.index with
    | some y => (y.op pos.op).flags.testBit 5
    | none => false
  let s2 := if clamped then s1.setBit (Reg.MXA_ARR_STATUS arr) 4 else s1
  let cutIn := (mxReads b pos.block pos.unit).any (fun t => s2.tileCut r.slot t.1 t.2) ||
    (Mx.direct b && (SMap.get [] s2.vis.direct arr).any (fun (band : List (List Nat)) => band.isEmpty))
  let s3 := if cutIn then s2.mxInputCut r.slot r.index pos.op arr else s2
  let blk := mxBlk b pos.block
  let s4 : State :=
    match want with
    | 0 =>
      let t := if Mx.kind b = 7 then s3.mxSearchTile arr b pos.block pos.unit
        else if Mx.kind b = 5 then
          (if pos.unit < Mx.seqTiles b then s3.mxQk r.slot arr b blk pos.unit
           else s3.mxWv r.slot arr b blk (pos.unit - Mx.seqTiles b - 1))
        else s3.mxTile r.slot r.index pos.op arr b blk pos.unit
      t.count 9 (mxCnt arr 0)
    | 2 =>
      let live := match s3.mxStage r.slot r.index with
        | some y => (y.op pos.op).extent
        | none => 0
      s3.mxSoftmax arr b blk live
    | _ => (s3.mxOutput r pos.op arr ops b pos.block).count 9 (mxCnt arr 1)
  let next := pos.next ops arr
  let s5 := s4.updMx r.slot r.index (fun y => { y with arrays := SMap.set y.arrays arr next })
  if next.done then (s5.endInst r.slot r.index arr).bankEnd 9 arr else s5

/-- A unit of a kind is issued on an array (R301, R302); one that waits for a band counts INPUT_WAIT, one that waits for a tile's flag
FLAG_WAIT (R304, R305), one that waits for another array's part of a recurrent step OTHER. -/
def mxRow (want arr : Nat) (s : State) : State :=
  match s.runOn 5 arr with
  | none => s
  | some r =>
    match s.mxStage r.slot r.index, r.insts.find? (fun i => i.unit == arr) with
    | some x, some inst =>
      let d := s.runDesc r
      let ops := mxOps (s.img r.slot) d
      let pos := SMap.get ⟨0, 0, 0, 0, true⟩ x.arrays arr
      let b := ops.getD pos.op []
      if pos.done || inst.ended || r.waiting || (Mx.units b).getD pos.unit 3 != want then s
      else if !s.mxBandsIn arr b pos.block then s.waitOn r.slot r.index arr arr 0
      else if !s.mxTilesIn r.slot b pos.block pos.unit then s.waitOn r.slot r.index arr arr 4
      else if !s.mxStepIn r pos.op b pos.block then s.waitOn r.slot r.index arr arr 7
      else
        let c := Mx.cost b want
        let spent := limitBits d inst c.1 c.2
        let t := s.waitOver r.slot r.index arr arr
        if spent ≠ 0 then t.mxCut r ops arr spent pos.index
        else t.mxWork want arr r ops pos b
    | _, _ => s

/-! ### Start, end, deadline (R299, R308, R309) -/

/-- An MXA stage starts. -/
def State.mxStart (s : State) (r : Run) : State :=
  let image := s.img r.slot
  let d := s.runDesc r
  let ops := mxOps image d
  let arrs := maskBits (Sd.unitMask d)
  let places := arrs.map (fun a => (a, mxSeek ops a 64 0 0))
  let x : MxStage := ⟨r.slot, r.index, r.cadence, [], places.foldl (fun (m : SMap MxPos) e => SMap.set m e.1 e.2) []⟩
  let nums := List.range ops.length
  let searches := nums.filterMap (fun k =>
    let b := ops.getD k []
    if Mx.kind b = 7 then some (r.slot, Mx.inAddr b, (r.outFlags.drop (mxFlagBase ops k)).take (Mx.slabs b)) else none)
  let tiles := nums.flatMap (fun k =>
    let b := ops.getD k []
    if Mx.kind b = 7 || isLocal (Mx.outAddr b) then []
    else (List.range (Mx.outTiles b)).filterMap (fun t =>
      (r.outFlags[mxFlagBase ops k + t]?).map (fun f => (r.slot, tileAt (Mx.outAddr b) t, f))))
  let s1 : State := { s with mxa := { s.mxa with
    stages := s.mxa.stages.filter (fun y => !(y.slot == r.slot && y.stage == r.index)) ++ [x],
    searches := s.mxa.searches ++ searches, tileFlags := s.mxa.tileFlags ++ tiles } }
  s1.each places (fun st e =>
    let s2 := (st.bankOpen 9 e.1 (st.runLayer r) (st.runOperator r) 1 r.slot).setPair (Reg.MXA_ARR_LAST_CAD_LO e.1)
      (Reg.MXA_ARR_LAST_CAD_HI e.1) r.cadence
    if e.2.done then (s2.endInst r.slot r.index e.1).bankEnd 9 e.1 else s2)

/-- The operator summaries (R309), written at the stage's end or after a cut. -/
def State.mxSummaries (s : State) (r : Run) : State :=
  match s.mxStage r.slot r.index with
  | none => s
  | some x =>
    let image := s.img r.slot
    let d := s.runDesc r
    let base := leAt (mxHeader image d) 8 8
    s.each (List.range (mxOpCount image d)) (fun st k =>
      let o := x.op k
      let b := leBytes 2 (Mx.operator (mxOp image d k)) ++ leBytes 1 (o.flags ||| (16 * b2n r.freewheel)) ++ zeros 1 ++ leBytes 4 o.sat ++
        leBytes 4 o.nonfinite ++ leBytes 4 o.extent ++ leBytes 4 o.units ++ zeros 4 ++ leBytes 8 r.cadence
      st.writing 7 r.cadence (fun y => y.stB (base + 32 * k) b))

/-- The stage has ended: its summaries are written and it is gone. -/
def State.mxEnd (s : State) (r : Run) : State :=
  let s1 := s.mxSummaries r
  let s2 : State := { s1 with mxa := { s1.mxa with stages := s1.mxa.stages.filter (fun y => !(y.slot == r.slot && y.stage == r.index)) } }
  s2.each (maskBits (Sd.unitMask (s.runDesc r))) (fun st a => st.bankEnd 9 a)

/-- A deadline abort: what is undone is CUT in the summaries (R308). -/
def State.mxDeadline (s : State) (r : Run) : State :=
  let ops := mxOps (s.img r.slot) (s.runDesc r)
  s.each (maskBits (Sd.unitMask (s.runDesc r))) (fun st a =>
    (st.mxDiscard a).each (st.mxLeft r ops a).2 (fun y k => y.updOp r.slot r.index k (fun o => { o with flags := o.flags ||| 1 })))

/-- A Route's cadence opens: its jobs and output tiles of the last cadence are forgotten. -/
def State.mxBoundary (s : State) (slot : Nat) : State :=
  { s with mxa := { s.mxa with searches := s.mxa.searches.filter (fun e => e.1 != slot), tileFlags := s.mxa.tileFlags.filter (fun e => e.1 != slot) } }

/-- The Route enters STARTING: recurrent state is cleared, arrays are bound, direct streams shown (R300, Table 13.8). -/
def State.mxRouteStart (s : State) (slot : Nat) : State :=
  let image := s.img slot
  let s1 : State := { s with mxa := { s.mxa with hidden := s.mxa.hidden.keep (fun k => k / 4096 / 65536 != slot) } }
  let s2 := s1.each (mxStages image) (fun st d => st.each (maskBits (Sd.unitMask d)) (fun y a => y.setBit (Reg.MXA_ARR_STATUS a) 5))
  let vis := ((List.range (Img.stageCount image)).map (Img.desc image)).filter (fun d => Sd.cls d == 0)
  s2.each (vis.flatMap (visBlocks image)) (fun st b =>
    let a := Vb.directArray b
    if a < 8 then (st.setFld (Reg.MXA_ARR_STATUS a) 8 4 (Vb.ctx b)).setBit Reg.MXA_STATUS (8 + a) else st)
def State.mxRouteOff (s : State) (slot : Nat) : State :=
  let image := s.img slot
  let s2 := s.each (mxStages image) (fun st d => st.each (maskBits (Sd.unitMask d)) (fun y a => y.clrBit (Reg.MXA_ARR_STATUS a) 5))
  let vis := ((List.range (Img.stageCount image)).map (Img.desc image)).filter (fun d => Sd.cls d == 0)
  s2.each (vis.flatMap (visBlocks image)) (fun st b =>
    let a := Vb.directArray b
    if a < 8 then (st.setFld (Reg.MXA_ARR_STATUS a) 8 4 15).clrBit Reg.MXA_STATUS (8 + a) else st)

/-! ### Route checks (R310) -/

def mxPairOk (b : List Byte) : Bool :=
  let i := Mx.inFmt b; let w := Mx.wFmt b
  (i == 0 && decide (w ≤ 1)) || (rng i 2 3 && rng w 2 3 && !(i == 3 && w == 3)) || (rng i 4 5 && i == w)

/-- Longest reduction of Table 13.2. -/
def mxMaxRed (b : List Byte) : Nat := if Mx.accShift b = 7 then 8192 else 65536

def mxFieldsOk (b : List Byte) : Bool :=
  let k := Mx.kind b
  b.length == 128 && rng k 1 8 && decide (Mx.inFmt b ≤ 7) && decide (Mx.wFmt b ≤ 7) && decide (Mx.outFmt b ≤ 7) && decide (Mx.act b ≤ 3) &&
    decide (leAt b 5 1 < 8) && rng (Mx.kh b) 1 7 && rng (Mx.kw b) 1 7 && rng (Mx.sx b) 1 2 && rng (Mx.sy b) 1 2 && rng (Mx.dil b) 1 4 &&
    rng (Mx.groups b) 1 4096 && (if k = 3 ∨ k = 4 then decide (Mx.sub b ≤ 1) else if k = 5 then rng (Mx.sub b) 1 16 else Mx.sub b == 0) &&
    rng (Mx.inH b) 1 4096 && rng (Mx.inW b) 1 4096 && ((k != 1 && k != 5) || Mx.inW b == 1) &&
    (if k = 5 then rng (Mx.seqMax b) 1 1024 else if k = 6 then rng (Mx.seqMax b) 1 256 else Mx.seqMax b == 0) && rng (Mx.rBlock b) 1 1024 &&
    [Mx.inAddr b, Mx.wAddr b, Mx.outAddr b, Mx.biasAddr b, Mx.lutAddr b, Mx.extentAddr b].all (fun a => (addrRow a 1).isSome) &&
    zeroIn b 31 32 && decide (Mx.wTok b ≤ 257) && decide (Mx.inSh b ≤ 31) && zeroIn b 94 128 &&
    ((k != 3 && k != 4 && k != 8) || Mx.wFmt b == Mx.inFmt b) && (k != 5 || (Mx.isFp32 b && Mx.headDim b * Mx.sub b == Mx.inC b && rng (Mx.headDim b) 16 128)) &&
    ((k != 6 && k != 7) || (Mx.inFmt b == 0 && Mx.wFmt b == 0)) && (k != 7 || Mx.rBlock b == 1) && (!Mx.direct b || Mx.inAddr b == 0)

def mxFormatsOk (b : List Byte) : Bool :=
  mxPairOk b && (if Mx.isFp32 b then rng (Mx.outFmt b) 2 6 && Mx.outFmt b != 3
    else rng (Mx.outFmt b) 0 7 && Mx.outFmt b != 1 && Mx.outFmt b != 3) &&
    (match Mx.act b with
     | 1 => Mx.outFmt b != 7
     | 2 => Mx.outFmt b == 0
     | 3 => Mx.outFmt b == 0
     | _ => true) && (Mx.kind b != 6 || Mx.outFmt b == 0)

/-- DETAIL of ROUTE_LOAD's matrix checks (R310). -/
def mxLoadRefusal (image : List Byte) : Option Nat :=
  let sts := mxStages image
  let blocks := (((List.range (Img.stageCount image)).map (Img.desc image)).filter (fun d => Sd.cls d == 0)).flatMap (visBlocks image)
  let directs := (blocks.map Vb.directArray).filter (fun a => decide (a < 8))
  let bad0 := sts.any (fun d =>
    let h := mxHeader image d
    h.length != 32 || !rng (leAt h 0 1) 1 64 || !zeroIn h 1 2 || decide (4096 < leAt h 2 2) ||
      decide (image.length < leAt h 4 4 + 2 * leAt h 2 2) || !zeroIn h 16 32 || leAt h 8 8 % 64 != 0 ||
      !inTile (leAt h 8 8) (32 * leAt h 0 1) || Sd.unitMask d == 0 || decide (256 ≤ Sd.unitMask d) ||
      (mxOps image d).any (fun b => !mxFieldsOk b) || Mx.operator (mxOp image d 0) != Sd.operator d)
  let ops := sts.flatMap (mxOps image)
  if bad0 then some 0xA0
  else if ops.any (fun b => !mxFormatsOk b) then some 0xA1
  else if ops.any (fun b => decide (mxMaxRed b < Mx.kg b) || Mx.inC b % Mx.groups b != 0 || Mx.outC b % Mx.groups b != 0 ||
      Mx.tileOps b != Mx.planTileOps b) then some 0xA2
  else if sts.any (fun d => ((List.range (mxOpCount image d)).any (fun k =>
      let b := mxOp image d k
      Mx.direct b && (k != 0 || Mx.kind b != 2 || Mx.inC b != 1 || !(Mx.arrayList b).any directs.contains)))) ||
      directs.length != directs.eraseDups.length then some 0xA3
  else if sts.any (fun d => (mxOps image d).any (fun b => Mx.arrays b == 0 || Mx.arrays b &&& Sd.unitMask d != Mx.arrays b)) then some 0xA4
  else none

/-- The first operator of a Route's stages that array `arr` feeds by its direct stream, with its stage. -/
def directOp (image : List Byte) (arr : Nat) : Option (Nat × List Byte) :=
  (List.range (Img.stageCount image)).findSome? (fun k =>
    let d := Img.desc image k
    let b := mxOp image d 0
    if Sd.cls d = 5 ∧ Mx.direct b ∧ (Mx.arrayList b).contains arr then some (k, b) else none)

/-- The first input line the operator of a direct stream has not consumed, and the last one its next block needs; none once it has
consumed all it reads. -/
def State.directNeed (s : State) (slot k arr : Nat) (b : List Byte) (cadence : Nat) : Option (Nat × Nat) :=
  let at_ := fun (i : Nat) =>
    ((clampI 0 ((Mx.inH b : Int) - 1) (tapAt b (mxBlk b i).row0 0 0).1).toNat, lastLine b i)
  match s.mxStage slot k with
  | some x =>
    let pos := SMap.get ⟨0, 0, 0, 0, true⟩ x.arrays arr
    if x.cadence != cadence || pos.done || decide (0 < pos.op) then none else some (at_ pos.block)
  | none =>
    match SMap.find (s.slot slot).status k with
    | some rec_ => if leAt rec_ 8 8 = cadence then none else some (at_ 0)
    | none => some (at_ 0)

/-- The input stage of an array takes the next level-0 band of a stream (R304): the ring of KH × DILATION + 16 lines holds it beside the
lines the operator has not consumed, or its next block waits for the band. -/
def State.directRoom (s : State) (i : Nat) : Bool :=
  let c := s.visCtx i
  let arr := Vb.directArray c.block
  match directOp (s.img c.slot) arr with
  | none => true
  | some (k, b) =>
    match s.directNeed c.slot k arr b c.cadence with
    | none => true
    | some (first, last) =>
      decide (bandRows * (c.bands + 1) ≤ first + Mx.kh b * Mx.dil b + 16) || decide (bandRows * c.bands ≤ last)

/-- Arrays an image's VIS blocks feed. -/
def mxDirects (image : List Byte) : List Nat :=
  (((((List.range (Img.stageCount image)).map (Img.desc image)).filter (fun d => Sd.cls d == 0)).flatMap (visBlocks image)).map
    Vb.directArray).filter (fun a => decide (a < 8))

def mxEnableRefusal (image : List Byte) (others : List (List Byte)) : Option Nat :=
  if (mxDirects image).any (others.flatMap mxDirects).contains then some 0x0F else none

/-! ### The rows -/

/-- RECT_BAND (R158, R162): RECT waits while the input stage of the stream's array takes no band. -/
def execRectBand (stream band : Nat) (s : State) : Out :=
  .next (s.act (fun t => t.writing 1 (t.visCtx stream).cadence (visUnit stream 0 0 band (t.directRoom stream))))
/-- TILE_OPERATION (R301). -/
def execTileOperation (array : Nat) (s : State) : Out := .next (s.act (mxRow 0 array))
/-- OUTPUT_UNIT (R297). -/
def execOutputUnit (array : Nat) (s : State) : Out := .next (s.act (mxRow 1 array))
/-- SOFTMAX_UNIT (R300). -/
def execSoftmaxUnit (array : Nat) (s : State) : Out := .next (s.act (mxRow 2 array))

end Sys2Proof.Machine
end

