-- ==== Sys2Proof/Machine/Sram.lean ====
section
/-! DEFINITION. What a read of on-die memory shows of the state that units keep there (R30): the structures of the queues partition and
the arrays' STATE at the addresses the device gives them, the solver store, the fusion and the line buffers. -/

namespace Sys2Proof.Machine

/-- An IMU ring entry (Table 10.5). -/
def ImuEntry.bytes (x : ImuEntry) : List Byte :=
  leBytes 8 x.stamp ++ leBytes 4 x.epoch ++ leBytes 1 x.flags ++ zeros 3 ++ x.values.flatMap (sleBytes 4) ++ sleBytes 4 x.speed ++
    sleBytes 4 x.yaw ++ leBytes 8 x.validTime ++ leBytes 8 x.seq

/-- The structures of the queues partition with their device addresses: stage status records (R45), the replay buffer (R72), frame queues
(R110), the IMU ring (R219), the correction queue (R223), landmark frame headers (R260), control words of the MAP queues (R264), waiting
state input records (R317), the result ring (R399). The spec places none of them: Config gives each its address (assumption log 63). -/
def State.queueCells (s : State) : List (Nat × List Byte) :=
  slotList.flatMap (fun n => (s.slot n).status.map (fun e => (Config.statusAddr n e.1, e.2))) ++
  s.hif.buf.map (fun r => (Config.heldAddr 0 0 ((r.dseq + 4095) % 4096), r.bytes)) ++
  (s.ing.cams.flatMap (fun e => (indexed e.2.queue.reverse).map (fun q => (Config.heldAddr 1 e.1 q.1, q.2)))) ++
  s.fpp.ring.map (fun x => (Config.heldAddr 2 0 (x.seq % 2048), x.bytes)) ++
  (indexed s.fpp.queue).map (fun q => (Config.heldAddr 3 0 q.1, q.2.record)) ++
  s.map.data.frames.map (fun e => (Config.heldAddr 4 0 e.1, e.2.header)) ++
  (List.range 64).map (fun q => (Config.heldAddr 5 0 q, leBytes 8 (SMap.get 0 s.map.received q) ++ leBytes 8 (SMap.get 0 s.map.run q))) ++
  (s.fus.queues.flatMap (fun e => (indexed e.2).map (fun q => (Config.heldAddr 6 e.1 q.1, q.2)))) ++
  (indexed s.met.ring).map (fun q => (Config.heldAddr 7 0 q.1, q.2.2))

/-- The recurrent state of the arrays' STATE regions, 16 bits an element (R292, R300). -/
def State.stateCells (s : State) : List (Nat × List Byte) :=
  s.mxa.hidden.flatMap (fun e => e.2.map (fun h => (Config.heldAddr 8 e.1 h.1, leBytes 2 h.2)))

/-- Bytes read at `a`, with the structures that lie there in place of what memory lists. -/
def overlay (cells : List (Nat × List Byte)) (a : Nat) (bs : List Byte) : List Byte :=
  (indexed bs).map (fun e =>
    let at_ := a + e.1
    match cells.find? (fun c => decide (c.1 ≤ at_) && decide (at_ < c.1 + c.2.length)) with
    | some c => c.2.getD (at_ - c.1) e.2
    | none => e.2)

/-- The byte lies where a unit keeps what the spec does not lay out: solver store, fusion buffers, line buffers, each once its unit has
been at work (Tables 11.1 and 15.1). -/
def State.unitByte (s : State) (at_ : Nat) : Bool :=
  (rng at_ 0x6C00000 0x6DFFFFF && !s.bsu.chs.isEmpty) || (rng at_ 0x6E00000 0x6EFFFFF && !s.fus.ctxs.isEmpty) ||
    (rng at_ 0x6000000 0x63FFFFF && (s.ing.cams.any (fun c => c.2.frame.isSome) || !s.vis.ctxs.isEmpty))

/-- A read of `n` bytes of device memory from `a` on, by the host or a general core: what memory lists once the solver's iterates of this
cycle are written, the units' structures in their places, free values where a unit's layout is its own (R30, assumption log 63), and zeros
for a beat that stayed uncorrectable (R339). -/
def State.see (s : State) (a n : Nat) : List Byte × State :=
  let s0 := if s.alive then s.bsuSync else s
  let raw := s0.ldB a n
  if 0x7000000 ≤ a then
    let gone := s0.memt.lost.filter (fun k => decide (a / 64 ≤ k) && decide (64 * k < a + n))
    if gone.isEmpty then (raw, s0)
    else ((indexed raw).map (fun e => if gone.contains ((a + e.1) / 64) then 0 else e.2),
      { s0 with memt := { s0.memt with lost := s0.memt.lost.filter (fun k => !gone.contains k) } })
  else
    let cells := (if 0x6F00000 < a + n then s0.queueCells else []) ++ (if a < 0x2000000 then s0.stateCells else [])
    let own := (List.range n).any (fun k => s0.unitByte (a + k))
    let bs := (indexed (overlay cells a raw)).map (fun e =>
      if s0.unitByte (a + e.1) then BitVec.ofNat 8 (Config.sramByte s0.free (a + e.1)) else e.2)
    (bs, if own && s.alive then s0.drawFree else s0)

end Sys2Proof.Machine
end

