-- ==== Sys2Proof/Machine/Gcr.lean ====
section
/-! DEFINITION. The general cores (ch. 14): local memory, intrinsics, charging, walls, bounds, faults. -/

namespace Sys2Proof.Machine

/-! ### Programs (Table 14.2) -/
namespace Gp
def header (image d : List Byte) : List Byte := (image.drop (Sd.program d)).take 64
def codeLen (h : List Byte) : Nat := leAt h 0 4
def codeOfs (h : List Byte) : Nat := leAt h 4 4
def codeAddr (h : List Byte) : Nat := leAt h 8 4
def persistAddr (h : List Byte) : Nat := leAt h 12 4
def persistLen (h : List Byte) : Nat := leAt h 16 4
def scratchAddr (h : List Byte) : Nat := leAt h 20 4
def scratchLen (h : List Byte) : Nat := leAt h 24 4
def entry (h : List Byte) : Nat := leAt h 28 4
def cutEntry (h : List Byte) : Nat := leAt h 32 4
def posts (h : List Byte) : Nat := leAt h 36 1
def post (image d : List Byte) (k : Nat) : List Byte := (image.drop (Sd.program d + 64 + 8 * k)).take 8
def postList (image d : List Byte) : List (List Byte) := (List.range (posts (header image d))).map (post image d)
end Gp

def gcrStages (image : List Byte) : List (List Byte) :=
  ((List.range (Img.stageCount image)).map (Img.desc image)).filter (fun d => Sd.cls d == 6)

/-- Local memory of core `n` (Table 15.1). -/
def coreBase (n : Nat) : Nat := 0x6400000 + 131072 * n

/-- The three regions of a stage: offset, length. -/
def gcrRegions (h : List Byte) : List (Nat × Nat) :=
  [(Gp.codeAddr h, Gp.codeLen h), (Gp.persistAddr h, Gp.persistLen h), (Gp.scratchAddr h, Gp.scratchLen h)]

/-- A range of local memory lies wholly in one of the regions. -/
def inRegions (h : List Byte) (ofs n : Nat) : Bool :=
  (gcrRegions h).any (fun r => decide (r.1 ≤ ofs) && decide (ofs + n ≤ r.1 + r.2))

/-- Local offset `pc` lies in the region of `n` bytes from `a`. -/
def inRange (a n pc : Nat) : Bool := decide (a ≤ pc) && decide (pc < a + n)

/-- Counter of core `n`: 0 TRAPS, 1 BOUND_HITS, 2 FAULTS, 3 POST_DISCARDS. -/
def gcrCnt (n k : Nat) : Nat := 2 + 4 * n + k

namespace State

def coreOf (s : State) (n : Nat) : GcrCore := SMap.get GcrCore.reset s.gcr.cores n
def setCore (s : State) (n : Nat) (x : GcrCore) : State := { s with gcr := { s.gcr with cores := SMap.set s.gcr.cores n x } }
def updCore (s : State) (n : Nat) (f : GcrCore → GcrCore) : State := s.setCore n (f (s.coreOf n))

/-- Bit `n` of a LO/HI pair. -/
def pairBit (s : State) (lo hi n : Nat) (b : Bool) : State := if n < 32 then s.putBit lo n b else s.putBit hi (n - 32) b

/-- Show a core's STATE. -/
def coreState (s : State) (n v : Nat) : State :=
  (((s.updCore n (fun x => { x with state := v })).setFld (Reg.GCR_CORE_STATUS n) 0 2 v).pairBit Reg.GCR_STAGE_LO Reg.GCR_STAGE_HI n
    (v == 1 || v == 2))

/-- The instance's record of a core. -/
def coreInst (s : State) (n : Nat) : Option (Run × Inst) :=
  let x := s.coreOf n
  match s.runOf x.slot x.stage with
  | some r => (r.insts.find? (fun i => i.unit == n)).map (fun i => (r, i))
  | none => none

/-- A wait ends: its cycles count under its stall reason. -/
def coreWake (s : State) (n : Nat) : State :=
  let x := s.coreOf n
  match x.wait with
  | none => s
  | some w =>
    let c := s.core - x.waitFrom
    let s1 := (s.setCore n { x with wait := none }).bankStall 10 n w.reason c
    if w.reason = 4 then s1.updRun x.slot x.stage (fun r => { r with insts := r.insts.map (fun i =>
      if i.unit = n then { i with wait := i.wait + c } else i) }) else s1

/-- The core's part of the stage is over; `cut`: it met its wall. -/
def coreOver (s : State) (n : Nat) (cut : Bool) : State :=
  let x := s.coreOf n
  let s1 := if cut then (s.coreState n 3).cutInst x.slot x.stage n 0 else (s.coreState n 3).endInst x.slot x.stage n
  let s2 := (s1.updCore n (fun y => { y with wait := none, walled := 0 })).bankEnd 10 n
  match s2.runOf x.slot x.stage with
  | some r => if cut then s2.cutFlags r r.outFlags else s2
  | none => s2

/-- The core stops with a fault (R320, Table 14.5). -/
def coreFault (s : State) (n code : Nat) : State :=
  let x := s.coreOf n
  let s1 := ((s.setFld (Reg.GCR_CORE_STATUS n) 8 4 code).pairBit Reg.GCR_FAULT_LO Reg.GCR_FAULT_HI n true).count 10 (gcrCnt n 2)
  let s2 := s1.updRun x.slot x.stage (fun r => { r with fault := true })
  let s3 := match s2.runOf x.slot x.stage with
    | some r => s2.cutFlags r r.outFlags
    | none => s2
  s3.coreOver n false

/-- Cycles a core may still be charged: up to CYC_LIMIT, or in the handler up to TIDY_RESERVE (R52, R319). -/
def coreRoom (s : State) (n : Nat) (r : Run) : Nat :=
  let x := s.coreOf n
  if x.state = 2 then Sd.tidy (s.runDesc r) - x.tidy
  else
    match s.coreInst n with
    | some (_, i) => Sd.cycLimit (s.runDesc r) - i.cyc
    | none => 0

/-- Charge `want` issue cycles, as far as there is room, and `tok` tokens: to the bucket, or in the handler to TIDY_RESERVE and what is
left of TOK_LIMIT (R319). -/
def coreCharge (s : State) (n : Nat) (r : Run) (want tok : Nat) : State :=
  let cyc := min want (s.coreRoom n r)
  let s1 := (s.chargeTo r n cyc tok).bankBusy 10 n cyc
  let s2 := s1.setRegN (Reg.GCR_CORE_CHARGED n) (s1.regN (Reg.GCR_CORE_CHARGED n) + cyc)
  let x := s2.coreOf n
  if x.state = 2 then s2.setCore n { x with tidy := x.tidy + cyc }
  else
    match s2.coreInst n with
    | some (_, i) => if Sd.cycLimit (s2.runDesc r) ≤ i.cyc then s2.setCore n { x with walled := x.walled ||| 1 } else s2
    | none => s2

/-- An instruction at `pc` issues on a core: the core runs, waits for nothing, has not reached its wall; the fetch lies in
CODE (R319, R320). -/
def coreIssue (s : State) (n pc : Nat) (f : Run → List Byte → State → State) : State :=
  match s.coreInst n with
  | none => s
  | some (r, _) =>
    let x := s.coreOf n
    let h := Gp.header (s.img r.slot) (s.runDesc r)
    if r.waiting ∨ (x.state ≠ 1 ∧ x.state ≠ 2) ∨ x.wait.isSome ∨ x.walled ≠ 0 ∨ (x.state = 2 ∧ Sd.tidy (s.runDesc r) ≤ x.tidy) then s
    else if !inRange (Gp.codeAddr h) (Gp.codeLen h) pc then s.coreFault n 7
    else f r h (s.setRegN (Reg.GCR_CORE_PC n) pc)

/-- Leave an answer in scalar register `rd`. -/
def coreAnswer (s : State) (n rd v : Nat) : State := s.updCore n (fun x => { x with x := SMap.set x.x rd (v % 2 ^ 64) })

end State

/-! ### Intrinsics (R315, R317) -/

/-- Issue the beats of a GET or PUT while their cycles and tokens are there: a beat is a cycle, and the core traps in the cycle in which
its charges reach the limit (R52, R319; assumption log 30). -/
def gcrBeats (get : Bool) (n : Nat) (r : Run) : List Nat → Nat → Nat → State → State
  | [], _, _, s => s
  | k :: ks, ofs, addr, s =>
    if (s.coreOf n).walled ≠ 0 ∨ (s.coreOf n).state = 3 ∨ s.coreRoom n r = 0 then s
    else
      let a := addr + 64 * k
      let tok := if inDram a 64 then 1 else 0
      let used := match s.coreInst n with
        | some (_, i) => i.tok
        | none => 0
      if tok = 1 ∧ Sd.tokLimit (s.runDesc r) < used + 1 then
        (if (s.coreOf n).state = 2 then s.coreFault n 2 else s.updCore n (fun x => { x with walled := x.walled ||| 2 }))
      else
        let s1 := s.coreCharge n r 1 tok
        gcrBeats get n r ks ofs addr (s1.updCore n (fun x => { x with beats := x.beats ++ [⟨get, ofs + 64 * k, a, r.cadence⟩] }))

/-- GET and PUT (R315, R325). -/
def gcrMove (get : Bool) (n pc ofs addr len : Nat) (s : State) : State :=
  s.coreIssue n pc (fun r h t =>
    if ofs % 64 ≠ 0 ∨ addr % 64 ≠ 0 ∨ len % 64 ≠ 0 ∨ (addrRow addr len).isNone ∨ !inRegions h ofs len then t.coreFault n 4
    else gcrBeats get n r (List.range (len / 64)) ofs addr t)

/-- A beat completes its transfer. A PUT is a write of its stage; a tile header it writes may be captured (R422). -/
def gcrBeatDone (n beat : Nat) (s : State) : State :=
  let x := s.coreOf n
  match x.beats[beat]? with
  | none => s
  | some b =>
    let s1 := s.setCore n { x with beats := x.beats.eraseIdx beat }
    if b.get then
      let r := s1.see b.addr 64
      { r.2 with mem := r.2.mem.writeBytes (coreBase n + b.ofs) r.1 }
    else
      let bytes := s1.ldB (coreBase n + b.ofs) 64
      let s2 := s1.writing 8 b.cadence (fun t => t.stB b.addr bytes)
      if leAt bytes 0 4 = 0xC1E97F01 then s2.capture b.addr (leAt bytes 20 2) (leAt bytes 22 2) (leAt bytes 24 8) else s2

/-- The wait of a core's intrinsic may end: WAITIO, FLAG_WAIT and SYNC. -/
def gcrRetire (n : Nat) (s : State) : State :=
  let x := s.coreOf n
  match x.wait with
  | some .io => if x.beats.isEmpty then s.coreWake n else s
  | some (.flag i rd) =>
    match s.runOf x.slot x.stage with
    | none => s
    | some r =>
      let f := s.flagOf r.slot (inputFlag (s.img r.slot) (s.runDesc r) i)
      if f = Flag.empty then s
      else
        let s1 := (s.coreWake n).coreAnswer n rd f.code
        if f = Flag.ready then s1 else s1.degrade r.slot r.index
  | some .sync =>
    match s.runOf x.slot x.stage with
    | none => s
    | some r => if r.insts.all (fun i => i.ended || decide (x.syncs ≤ (s.coreOf i.unit).syncs)) then s.coreWake n else s
  | _ => s

/-- A waiting intrinsic issues, or its wait ends. -/
def gcrWaitRow (n pc : Nat) (w : GcrWait) (same : GcrWait → Bool) (ok : State → Run → Bool) (s : State) : State :=
  match (s.coreOf n).wait with
  | some v => if same v then gcrRetire n s.bsuSync else s
  | none =>
    s.bsuSync.coreIssue n pc (fun r _ t =>
      if !ok t r then t.coreFault n 5
      else
        let t1 := t.coreCharge n r 1 0
        let t2 := t1.updCore n (fun x => { x with wait := some w, waitFrom := t1.core, syncs := x.syncs + b2n (w == GcrWait.sync) })
        gcrRetire n t2)

/-- The post declaration of a target, when this core is its poster (R316). -/
def State.mayPost (s : State) (n target index : Nat) (r : Run) : Bool :=
  (Gp.postList (s.img r.slot) (s.runDesc r)).any (fun p =>
    leAt p 0 1 == target && leAt p 1 1 == index && leAt p 2 1 == (s.coreOf n).position)

/-- A post is refused: POST_DISCARD_SEEN and its counter. -/
def State.postLost (s : State) (n : Nat) : State := (s.setBit (Reg.GCR_CORE_STATUS n) 4).count 10 (gcrCnt n 3)

/-- A record of `len` bytes at local offset `ofs`, posted by `f`; `rd` takes 1 when it was accepted, else 0. -/
def gcrPost (n pc target index len ofs rd cyc pos : Nat) (f : List Byte → State → State × Bool) (s : State) : State :=
  s.coreIssue n pc (fun r h t =>
    if !t.mayPost n target index r then t.coreFault n 5
    else if !inRegions h ofs len then t.coreFault n 4
    else
      let t0 := t.coreCharge n r cyc 0
      let b := t.ldB (coreBase n + ofs) len
      let p := f b t0
      if p.2 then ((p.1.digest 8 r.cadence (2 ^ 56 * index + pos) b).coreAnswer n rd 1) else (p.1.postLost n).coreAnswer n rd 0)

/-- SUBMIT (R240, R317): posted when it issues, or when a descriptor is free again. -/
def gcrSubmit (n pc channel addr len tag : Nat) (s0 : State) : State :=
  let s := s0.bsuSync
  let d : BsuDesc := ⟨addr, len, tag, none, s.bsuForce channel⟩
  let put := fun (t : State) (r : Run) =>
    let pos := (t.bsuCh channel).queue.length
    let p := t.bsuPost channel d
    (if p.2 then p.1.digest 8 r.cadence (2 ^ 56 * channel + pos) (leBytes 8 addr ++ leBytes 4 len ++ leBytes 4 tag) else t, p.2)
  match (s.coreOf n).wait with
  | some .submit =>
    match s.runOf (s.coreOf n).slot (s.coreOf n).stage with
    | some r => let p := put s r; if p.2 then p.1.coreWake n else s
    | none => s
  | some _ => s
  | none =>
    s.coreIssue n pc (fun r _ t =>
      if !t.mayPost n 1 channel r then t.coreFault n 5
      else
        let t0 := t.coreCharge n r 1 0
        let p := put t0 r
        if p.2 then p.1 else t0.updCore n (fun x => { x with wait := some .submit, waitFrom := t0.core }))

/-- FLAG_SET (R317). -/
def gcrFlagSet (n pc o : Nat) (s : State) : State :=
  s.coreIssue n pc (fun r _ t =>
    match r.outFlags[o]? with
    | none => t.coreFault n 5
    | some i =>
      let t0 := t.coreCharge n r 1 0
      if t0.flagOf r.slot i = Flag.ready then t0 else t0.runFlag r o Flag.ready)

/-- An intrinsic of one cycle with no wait. -/
def gcrPlain (n pc : Nat) (f : Run → State → State) (s : State) : State :=
  s.coreIssue n pc (fun r _ t => f r (t.coreCharge n r 1 0))

/-- One step of the random sequence (R318). -/
def randNext (v : Nat) : Nat := (v * 6364136223846793005 + 1442695040888963407) % 2 ^ 64

/-- END (R317, R319): no trap follows an END. -/
def gcrEndStage (n pc : Nat) (s : State) : State :=
  s.coreIssue n pc (fun r _ t =>
    let inHandler := (t.coreOf n).state == 2
    (t.coreCharge n r 1 0).coreOver n inHandler)

/-! ### Ordinary instructions, walls, bounds (R313, R314, R319, R320) -/

/-- What the arithmetic of an instruction leaves: scalar registers, vector registers, and whether a conversion to E36 left the range
(R313). -/
def coreResult (k : CoreKind) (c : GcrCore) : List (Nat × Nat) × List (Nat × Nat) × Bool :=
  let x := fun (n : Nat) => SMap.get 0 c.x n
  let v := fun (n : Nat) => SMap.get 0 c.v n
  match k with
  | .e36 src rd => let w := E36.ofBinary64 (x src); ([(rd, w.1)], [], w.2)
  | .fp op fmt a b d rd => ([(rd, coreFp op fmt (x a) (x b) (x d))], [], false)
  | .lanes op fmt a b d rd => ([], [(rd, coreLanes op fmt (v a) (v b) (v d))], false)
  | .reduce fmt a rd => ([], [(rd, coreReduce fmt (v a))], false)
  | .plain | .call | .ret | .undefined => ([], [], false)

/-- An ordinary instruction; one that does not execute is not charged. -/
def gcrInstr (n : Nat) (i : CoreStep) (s : State) : State :=
  s.coreIssue n i.pc (fun r h t =>
    if i.kind = .undefined then t.coreFault n 6
    else if i.kind = .call ∧ 16 ≤ (t.coreOf n).depth then t.coreFault n 3
    else if i.loads.any (fun l => !inRegions h l.1 l.2) || i.stores.any (fun l => !inRegions h l.1 l.2.length) then t.coreFault n 4
    else
      let t0 := if i.newCycle then t.coreCharge n r 1 0 else t
      let x := t0.coreOf n
      let t1 : State := t0.each i.stores (fun y w => { y with mem := y.mem.writeBytes (coreBase n + w.1) w.2 })
      let depth := match i.kind with
        | .call => x.depth + 1
        | .ret => x.depth - 1
        | _ => x.depth
      let xs := i.scalar.foldl (fun (m : SMap Nat) w => SMap.set m w.1 (w.2 % 2 ^ 64)) x.x
      let vs := i.vector.foldl (fun (m : SMap Nat) w => SMap.set m w.1 (w.2 % 2 ^ 1024)) x.v
      let out := coreResult i.kind x
      let y : GcrCore := { x with
        depth := depth, x := out.1.foldl (fun (m : SMap Nat) w => SMap.set m w.1 (w.2 % 2 ^ 64)) xs,
        v := out.2.1.foldl (fun (m : SMap Nat) w => SMap.set m w.1 (w.2 % 2 ^ 1024)) vs }
      let t2 := t1.setCore n y
      if out.2.2 then t2.setBit (Reg.GCR_CORE_STATUS n) 3 else t2)

/-- WALL_TRAP: the core enters its cut handler (R52, R319). -/
def gcrTrap (n : Nat) (s : State) : State :=
  let x := s.coreOf n
  if x.state ≠ 1 ∨ x.walled = 0 ∨ x.wait.isSome then s
  else
    let s1 := ((s.coreState n 2).pairBit Reg.GCR_TRAP_LO Reg.GCR_TRAP_HI n true).count 10 (gcrCnt n 0)
    let s2 := s1.updRun x.slot x.stage (fun r => { r with insts := r.insts.map (fun i =>
      if i.unit = n then { i with limit := i.limit ||| x.walled, cut := true } else i) })
    s2.updCore n (fun y => { y with walled := 0, depth := 0 })

/-- TIDY_RESERVE_EXHAUSTED (R52). -/
def gcrTidyEnd (n : Nat) (s : State) : State :=
  match s.coreInst n with
  | none => s
  | some (r, _) =>
    let x := s.coreOf n
    if x.state = 2 ∧ x.wait.isNone ∧ Sd.tidy (s.runDesc r) ≤ x.tidy then s.coreFault n 1 else s

/-- BOUND_HIT (R320): the loop-end instruction that issued last, at `pc`, found its bound reached; the wall it may have reached in that
cycle does not keep it from retiring (R52). -/
def gcrBound (n pc : Nat) (s : State) : State :=
  match s.coreInst n with
  | none => s
  | some (r, _) =>
    let x := s.coreOf n
    let h := Gp.header (s.img r.slot) (s.runDesc r)
    if r.waiting ∨ (x.state ≠ 1 ∧ x.state ≠ 2) ∨ x.wait.isSome ∨ !inRange (Gp.codeAddr h) (Gp.codeLen h) pc then s
    else (((s.setRegN (Reg.GCR_CORE_PC n) pc).updCore n (fun y => { y with bound := true })).setBit (Reg.GCR_CORE_STATUS n) 2).count 10
      (gcrCnt n 1)

/-! ### Routes and stages (R314, R318) -/

/-- The Route enters STARTING: CODE is written and PERSIST zeroed on every core of its stages (R314). -/
def State.gcrRouteStart (s : State) (slot : Nat) : State :=
  let image := s.img slot
  s.each (gcrStages image) (fun st d =>
    let h := Gp.header image d
    st.each (maskBits (Sd.unitMask d)) (fun y n =>
      let m := y.mem.writeBytes (coreBase n + Gp.codeAddr h) ((image.drop (Gp.codeOfs h)).take (Gp.codeLen h))
      { y with mem := m.clear (coreBase n + Gp.persistAddr h) (Gp.persistLen h) }))

/-- A GCR stage starts. Beats still on their way complete; the registers hold what they held (assumption log 30). -/
def State.gcrStart (s : State) (r : Run) : State :=
  let d := s.runDesc r
  let h := Gp.header (s.img r.slot) d
  let cores := maskBits (Sd.unitMask d)
  s.each ((List.range cores.length).zip cores) (fun st pn =>
    let n := pn.2
    let was := st.coreOf n
    let x : GcrCore := { GcrCore.reset with
      slot := r.slot, stage := r.index, position := pn.1, x := was.x, v := was.v, beats := was.beats,
      seq := (r.cadence * 65536 + 256 * pn.1 + st.runLayer r % 256) % 2 ^ 64 }
    let s1 : State := { st with mem := st.mem.clear (coreBase n + Gp.scratchAddr h) (Gp.scratchLen h) }
    let s2 := (s1.setCore n x).coreState n 1
    let s3 := (s2.setFld (Reg.GCR_CORE_STATUS n) 16 4 r.slot).setRegN (Reg.GCR_CORE_CUR n) (st.runLayer r + 65536 * st.runOperator r)
    (s3.setRegN (Reg.GCR_CORE_CHARGED n) 0).bankOpen 10 n (st.runLayer r) (st.runOperator r) 1 r.slot)

/-- The deadline of a stage: its cores stop at once; beats already issued complete (R319). -/
def State.gcrDeadline (s : State) (r : Run) : State :=
  s.each r.insts (fun st i => if i.ended then st else
    (((st.coreWake i.unit).coreState i.unit 3).updCore i.unit (fun x => { x with walled := 0 })).bankEnd 10 i.unit)

/-- A core of the run hit a bound (R320). -/
def State.gcrBoundHit (s : State) (r : Run) : Bool := r.insts.any (fun i => (s.coreOf i.unit).bound)

/-- Step 1 of a boundary: STATE returns from 3 to 0 (Table 14.5). -/
def State.gcrBoundary (s : State) : State :=
  s.each s.gcr.cores (fun st e => if e.2.state = 3 then st.coreState e.1 0 else st)

/-! ### Route checks (R316) -/

def rangesMeet (a b : Nat × Nat) : Bool := decide (0 < a.2) && decide (0 < b.2) && decide (a.1 < b.1 + b.2) && decide (b.1 < a.1 + a.2)

def gcrHeaderOk (image d : List Byte) : Bool :=
  let h := Gp.header image d
  let a64 := fun (v : Nat) => v % 64 == 0
  let len := fun (v : Nat) => decide (v ≤ 131072) && a64 v
  let rs := gcrRegions h
  h.length == 64 && rng (Gp.codeLen h) 64 131072 && a64 (Gp.codeLen h) && decide (Gp.codeOfs h + Gp.codeLen h ≤ image.length) &&
    a64 (Gp.codeAddr h) && a64 (Gp.persistAddr h) && a64 (Gp.scratchAddr h) && len (Gp.persistLen h) && len (Gp.scratchLen h) &&
    decide (Gp.entry h < Gp.codeLen h) && decide (Gp.cutEntry h < Gp.codeLen h) && decide (Gp.posts h ≤ 32) && zeroIn h 37 64 &&
    Sd.unitMask d != 0 && rs.all (fun r => decide (r.1 + r.2 ≤ 131072)) &&
    (match rs with
     | [c, p, q] => !rangesMeet c p && !rangesMeet c q && !rangesMeet p q
     | _ => true)

/-- Two stages of one Route that share a core agree (R316). -/
def gcrPairOk (image d e : List Byte) : Bool :=
  let h := Gp.header image d; let g := Gp.header image e
  let code := fun (x : List Byte) => (Gp.codeAddr x, Gp.codeLen x)
  let data := fun (x : List Byte) => [(Gp.persistAddr x, Gp.persistLen x), (Gp.scratchAddr x, Gp.scratchLen x)]
  let bytes := fun (x : List Byte) (a : Nat) => leAt image (Gp.codeOfs x + (a - Gp.codeAddr x)) 1
  let lo := max (Gp.codeAddr h) (Gp.codeAddr g)
  let hi := min (Gp.codeAddr h + Gp.codeLen h) (Gp.codeAddr g + Gp.codeLen g)
  Sd.unitMask d &&& Sd.unitMask e == 0 ||
    (!(data g).any (rangesMeet (code h)) && !(data h).any (rangesMeet (code g)) &&
      ((List.range (hi - lo)).map (lo + ·)).all (fun a => bytes h a == bytes g a))

def popCount (m : Nat) : Nat := (maskBits m).length

/-- DETAIL of ROUTE_LOAD's core checks. -/
def gcrLoadRefusal (image : List Byte) : Option Nat :=
  let sts := gcrStages image
  let posts := sts.flatMap (fun d => (Gp.postList image d).map (fun p => (p, popCount (Sd.unitMask d))))
  let ok := fun (p : List Byte × Nat) =>
    p.1.length == 8 && rng (leAt p.1 0 1) 1 4 && decide (leAt p.1 1 1 < 64) && (leAt p.1 0 1 != 4 || leAt p.1 1 1 == 0) &&
      decide (leAt p.1 2 1 < p.2) && zeroIn p.1 3 8
  let targets := posts.map (fun p => p.1.take 2)
  if sts.any (fun d => !gcrHeaderOk image d) || sts.any (fun d => sts.any (fun e => !gcrPairOk image d e)) then some 0xB0
  else if posts.any (fun p => !ok p) || targets.length != targets.eraseDups.length then some 0xB1
  else none

/-- DETAIL of ROUTE_ENABLE's core checks. -/
def gcrEnableRefusal (image : List Byte) (others : List (List Byte)) : Option Nat :=
  let clash := (gcrStages image).any (fun d => others.any (fun o => (gcrStages o).any (fun e =>
    Sd.unitMask d &&& Sd.unitMask e != 0 &&
      (gcrRegions (Gp.header image d)).any (fun a => (gcrRegions (Gp.header o e)).any (rangesMeet a)))))
  let targets := fun (m : List Byte) => (gcrStages m).flatMap (fun d => (Gp.postList m d).map (fun p => p.take 2))
  if clash then some 0x10
  else if (targets image).any (others.flatMap targets).contains then some 0x11
  else none

/-! ### The rows -/

/-- GET (R315). -/
def execGet (core pc ofs addr len : Nat) (s : State) : Out := .next (s.act (gcrMove true core pc ofs addr len))
/-- PUT (R315). -/
def execPut (core pc ofs addr len : Nat) (s : State) : Out := .next (s.act (gcrMove false core pc ofs addr len))
/-- BEAT_COMPLETION (R315). -/
def execBeatCompletion (core beat : Nat) (s : State) : Out := .next (s.act (gcrBeatDone core beat))
/-- WAITIO (R317). -/
def execWaitio (core pc : Nat) (s : State) : Out :=
  .next (s.act (gcrWaitRow core pc .io (fun w => w == .io) (fun _ _ => true)))
/-- FLAG_WAIT (R317). -/
def execFlagWait (core pc i rd : Nat) (s : State) : Out :=
  .next (s.act (gcrWaitRow core pc (.flag i rd) (fun w => w == .flag i rd) (fun t r => decide (i < Sd.inputCount (t.runDesc r)))))
/-- FLAG_SET (R317). -/
def execFlagSet (core pc o : Nat) (s : State) : Out := .next (s.act (fun t => (gcrFlagSet core pc o t).mapSync))
/-- SYNC (R317). -/
def execSync (core pc : Nat) (s : State) : Out :=
  .next (s.act (gcrWaitRow core pc .sync (fun w => w == .sync) (fun _ _ => true)))
/-- SUBMIT (R240, R317). -/
def execSubmit (core pc channel addr len tag : Nat) (s : State) : Out := .next (s.act (gcrSubmit core pc channel addr len tag))
/-- MAP_POST (R265, R317). -/
def execMapPost (core pc queue ofs rd : Nat) (s : State) : Out :=
  .next (s.act (gcrPost core pc 2 queue 64 ofs rd 1 (SMap.get 0 s.map.received queue) (fun b t => t.mapPost queue b)))
/-- STATE_POST (R317). -/
def execStatePost (core pc queue ofs rd : Nat) (s : State) : Out :=
  .next (s.act (gcrPost core pc 3 queue 32 ofs rd 1 (SMap.get [] s.fus.queues queue).length (fun b t => t.fusPost queue b)))
/-- FPP_CORRECT (R223). -/
def execFppCorrect (core pc ofs rd : Nat) (s : State) : Out :=
  .next (s.act (gcrPost core pc 4 0 128 ofs rd 2 s.fpp.queue.length (fun b t => t.postCorrection b)))
/-- ITEMS (R317). -/
def execItems (core pc n : Nat) (s : State) : Out :=
  .next (s.act (gcrPlain core pc (fun r t => t.addItems r.slot r.index n)))
/-- RAND (R318). -/
def execRand (core pc rd : Nat) (s : State) : Out :=
  .next (s.act (gcrPlain core pc (fun _ t =>
    let v := randNext (t.coreOf core).seq
    (t.updCore core (fun x => { x with seq := v })).coreAnswer core rd (v / 2 ^ 32))))
/-- INFO (R317). -/
def execInfo (core pc rd : Nat) (s : State) : Out :=
  .next (s.act (gcrPlain core pc (fun r t =>
    ((((t.coreAnswer core rd r.cadence).coreAnswer core (rd + 1) (r.cadence % 2 ^ 32)).coreAnswer core (rd + 2)
      (t.coreOf core).position).coreAnswer core (rd + 3) r.insts.length).coreAnswer core (rd + 4)
      (r.instant + Sd.start (t.sd r.slot r.index)))))
/-- END (R317). -/
def execEndStage (core pc : Nat) (s : State) : Out := .next (s.act (gcrEndStage core pc))
/-- CORE_INSTRUCTION (R313). -/
def execCoreInstruction (core : Nat) (step : CoreStep) (s : State) : Out := .next (s.act (gcrInstr core step))
/-- WALL_TRAP (R319). -/
def execWallTrap (core : Nat) (s : State) : Out := .next (s.act (gcrTrap core))
/-- TIDY_RESERVE_EXHAUSTED (R52). -/
def execTidyReserveExhausted (core : Nat) (s : State) : Out := .next (s.act (gcrTidyEnd core))
/-- BOUND_HIT (R320). -/
def execBoundHit (core pc : Nat) (s : State) : Out := .next (s.act (gcrBound core pc))

end Sys2Proof.Machine
end

