-- ==== Sys2Proof/Machine/Mem.lean ====
section
/-! DEFINITION. Memory tiers and prefetch (ch. 15): objects and placement, prefetch orders, promotion and eviction, host memory
commands, flash writes, events. -/

namespace Sys2Proof.Machine

/-! ### Declarations and entries (Tables 15.5 and 15.6) -/
namespace Od
def home (d : List Byte) : Nat := leAt d 0 8
def staging (d : List Byte) : Nat := leAt d 8 8
def tiles (d : List Byte) : Nat := leAt d 16 2
def flag (d : List Byte) : Nat := leAt d 18 2
def resident (d : List Byte) : Bool := (leAt d 20 1).testBit 0
def writable (d : List Byte) : Bool := (leAt d 20 1).testBit 1
/-- Staging slots: TILES for a resident object. -/
def slots (d : List Byte) : Nat := if resident d then tiles d else leAt d 24 4
/-- The device range of the staging slots. -/
def range (d : List Byte) : Nat × Nat := (staging d, staging d + tileLen * slots d)
end Od

namespace Pe
def object (e : List Byte) : Nat := leAt e 0 2
def stage (e : List Byte) : Nat := leAt e 2 2
def first (e : List Byte) : Nat := leAt e 4 4
def count (e : List Byte) : Nat := leAt e 8 2
def slot (e : List Byte) : Nat := leAt e 10 2
def flag (e : List Byte) : Nat := leAt e 12 2
def unit (e : List Byte) : Nat := leAt e 14 1
def writeBack (e : List Byte) : Bool := (leAt e 15 1).testBit 0
def offset (e : List Byte) : Nat := leAt e 16 4
end Pe

/-! ### The object table (R333, R340) -/

/-- The object a declaration names: one entry per HOME with equal STAGING, TILES, KIND and slots (assumption log 31). -/
def MemObj.is (o : MemObj) (d : List Byte) : Bool :=
  o.home == Od.home d && o.staging == Od.staging d && o.tiles == Od.tiles d && o.resident == Od.resident d &&
    o.writable == Od.writable d && o.stageTiles == Od.slots d

def MemObj.new (d : List Byte) : MemObj :=
  ⟨Od.home d, Od.staging d, Od.tiles d, Od.resident d, Od.writable d, Od.slots d, .absent, [], false, false, 0, [], false⟩

/-- The device range of an object's staging. -/
def MemObj.range (o : MemObj) : Nat × Nat := (o.staging, o.staging + tileLen * o.stageTiles)
def MemObj.slotAddr (o : MemObj) (j : Nat) : Nat := o.staging + tileLen * j
def MemObj.tileAddr (o : MemObj) (i : Nat) : Nat := o.home + tileLen * i

/-- A holder that stands for the host. -/
def hostHolder : Nat := 16

def State.objOf (s : State) (d : List Byte) : Option Nat := (s.memt.objs.find? (fun e => e.2.is d)).map (fun e => e.1)
def State.obj (s : State) (i : Nat) : Option MemObj := SMap.find s.memt.objs i
def State.updObj (s : State) (i : Nat) (f : MemObj → MemObj) : State :=
  { s with memt := { s.memt with objs := s.memt.objs.map (fun e => if e.1 = i then (e.1, f e.2) else e) } }

/-- Images resident in the slots. -/
def State.images (s : State) : List (Nat × List Byte) :=
  (slotList.map (fun n => (n, s.img n))).filter (fun e => !e.2.isEmpty)

/-- The image of slot `n` declares object `o`. -/
def State.declares (s : State) (n : Nat) (o : MemObj) : Option (List Byte) := (objDecls (s.img n)).find? o.is

/-- The table holds the objects that an image declares or that are not ABSENT. -/
def State.memTidy (s : State) : State :=
  { s with memt := { s.memt with objs := s.memt.objs.filter (fun e =>
      e.2.state != .absent || s.images.any (fun im => (objDecls im.2).any e.2.is)) } }

/-- ROUTE_LOAD enters an image's declarations: the lowest free index each. -/
def State.memLoad (s : State) (slot : Nat) : State :=
  s.each (objDecls (s.img slot)) (fun st d =>
    if (st.objOf d).isSome then st
    else match leastBelow 4096 (fun i => (st.obj i).isNone) with
      | some i => { st with memt := { st.memt with objs := SMap.set st.memt.objs i (MemObj.new d) } }
      | none => st)

/-- Set a resident object's FLAG in a Route slot. -/
def State.objFlag (s : State) (o : MemObj) (n : Nat) (f : Flag) : State :=
  match s.declares n o with
  | some d => s.setFlag n (Od.flag d) f 0 0
  | none => s

/-- Set a resident object's FLAG in every slot that pins it. -/
def State.objFlags (s : State) (o : MemObj) (f : Flag) : State := s.each (o.pins.filter (· < 16)) (fun st n => st.objFlag o n f)

/-- A lifecycle command that will start the slot is accepted and the slot has not entered STARTING. -/
def Slot.startPending (sl : Slot) : Bool := sl.enablePending || sl.accepted == some true

/-- A promotion of object `i` is pending (R340). -/
def State.promotePending (s : State) (i : Nat) : Bool :=
  s.memt.jobs.any (fun j => j.kind == .promote && j.obj == i) ||
    (match s.obj i with
     | some o => slotList.any (fun n => (s.slot n).startPending && (s.declares n o).isSome)
     | none => false)

/-- Bit DEFERRED_PENDING of MEM_STATUS. -/
def State.memShow (s : State) : State :=
  s.putBit Reg.MEM_STATUS 3 (s.memt.objs.any (fun e => e.2.deferred) || !s.map.deferred.isEmpty)

/-! ### Charges (R336, R338, R344) -/

/-- Tokens and FLASH beats of moving one tile between two addresses. -/
def tileTok (a b : Nat) : Nat := if inDram a 1 || inDram b 1 then 257 else 0
def tileBeats (a : Nat) : Nat := if inFlash a 1 then 257 else 0

/-- Charge `n` tile moves from home to staging or back to the free pools: class 4 for a promotion of MAP, 9 flash. -/
def State.poolTiles (s : State) (o : MemObj) (n : Nat) (fetch : Bool) (key : Option Nat) : State :=
  let s1 := s.chargePool 7 0 (n * tileTok o.home o.staging) key
  if fetch then s1.chargePool 9 (n * tileBeats o.home) 0 key else s1

/-- A STARTING Route's allocation pays what it can for a piece of work; the rest waits, behind what waits already, for the next refill
(R338). -/
def State.spendStart (s : State) (slot work tok beats : Nat) : State :=
  let wait := s.memt.owed.any (fun o => o.1 == slot)
  let t := if wait then 0 else min tok (SMap.get 0 s.memt.startTok slot)
  let b := if wait then 0 else min beats (SMap.get 0 s.memt.flashTok slot)
  { s with memt := { s.memt with
    startTok := SMap.upd 0 s.memt.startTok slot (· - t), flashTok := SMap.upd 0 s.memt.flashTok slot (· - b),
    owed := if t = tok ∧ b = beats then s.memt.owed else s.memt.owed ++ [(slot, work, tok - t, beats - b)] } }

/-- The allocation has paid for a piece of work. -/
def State.workPaid (s : State) (work : Nat) : Bool := !s.memt.owed.any (fun o => o.2.1 == work)

/-- Step 3 of a boundary: the Route's FLASH bucket is full, and its allocation pays what waits (R336, R338). -/
def State.memRefill (s : State) (slot : Nat) : State :=
  let image := s.img slot
  let tok := ((List.range 11).map (Img.allocTok image)).sum
  let due := s.memt.owed.filter (fun o => o.1 == slot)
  let s1 : State := { s with memt := { s.memt with
    startTok := SMap.set s.memt.startTok slot tok, flashTok := SMap.set s.memt.flashTok slot (Img.allocCyc image 9),
    owed := s.memt.owed.filter (fun o => o.1 != slot) } }
  s1.each due (fun st o => st.spendStart slot o.2.1 o.2.2.1 o.2.2.2)

/-! ### Write-backs (R337) -/

/-- Bound of a write-back behind `k` earlier tiles of the same order (Table 15.11). -/
def State.dramBound (s : State) (k : Nat) : Nat := s.core + usCore (3 + 3 * k)

/-- The tile that stands in a staging slot. -/
def State.stagedTile (s : State) (o : MemObj) (j : Nat) : Nat := if o.resident then j else s.ld (o.slotAddr j + 16) 4

def State.putCopy (s : State) (c : Copy) : State := { s with memt := { s.memt with copies := s.memt.copies ++ [c] } }

/-- Queue the write-back of staging slot `j` of object `i`. -/
def State.queueBack (s : State) (i : Nat) (o : MemObj) (j : Nat) (why : CopyFor) (k : Nat) : State :=
  s.putCopy ⟨i, s.stagedTile o j, j, why, s.dramBound k, false, s.core⟩

/-- The MEM_FLUSH that a copy belongs to. -/
def CopyFor.command : CopyFor → Option Nat
  | .flush h => some h
  | _ => none

/-- Queue write-backs of the slots of a list, charged to the free pools (R344). -/
def State.queueBacks (s : State) (i : Nat) (o : MemObj) (js : List Nat) (why : CopyFor) : State :=
  (s.poolTiles o js.length false why.command).each (js.zip (List.range js.length)) (fun st jk => st.queueBack i o jk.1 why jk.2)

/-! ### Promotion and eviction (R341 to R343) -/

/-- A long memory command ends. -/
def State.endJob (s : State) (key status : Nat) (fs : List (Nat × Nat × Nat)) : State :=
  ({ s with memt := { s.memt with jobs := s.memt.jobs.filter (fun j => j.key != key) } }).longDone key status 0 (result fs)

/-- The jobs of a kind on an object. -/
def State.jobsOn (s : State) (kind : JobKind) (i : Nat) : List Nat :=
  (s.memt.jobs.filter (fun j => j.kind == kind && j.obj == i)).map (fun j => j.key)

/-- Free the staging of an object: ABSENT, its FLAG EMPTY in the Routes that declare it; a deferred eviction that has been
carried out raises DETAIL 0xDD. -/
def State.freeObj (s : State) (i : Nat) : State :=
  match s.obj i with
  | none => s
  | some o =>
    let s1 := s.updObj i (fun x => { x with state := .absent, dirty := [], deferred := false, wasDeferred := false, written := 0, keep := false })
    let s2 := s1.each slotList (fun st n => if (st.slot n).life.active then st.objFlag o n Flag.empty else st)
    let s3 := if o.wasDeferred then s2.event 15 0xFF06 St.ok 0xDD i (leBytes 8 o.home ++ leBytes 2 o.written ++ zeros 2) else s2
    ((s3.each (s.jobsOn .evict i) (fun st h => st.endJob h St.ok [(20, 8, o.home), (28, 1, 0)])).memTidy).memShow

/-- Physical eviction: EVICTING, the dirty tiles are written back, then the staging is freed (R342). -/
def State.evictNow (s : State) (i : Nat) : State :=
  match s.obj i with
  | none => s
  | some o =>
    let s1 := s.updObj i (fun x => { x with state := .evicting, wasDeferred := x.deferred, deferred := false, written := 0 })
    if o.state == .absent || o.dirty.isEmpty then s1.freeObj i
    else (s1.queueBacks i o o.dirty .eviction).memShow

/-- An eviction request whose pin has been dropped (R342, Table 15.8): true where the release is logical. -/
def State.evictRequest (s : State) (i : Nat) : State × Bool :=
  match s.obj i with
  | none => (s, false)
  | some o =>
    if o.state == .promoting then ((s.updObj i (fun x => { x with deferred := true })).memShow, true)
    else if o.state == .evicting then (s, false)
    else if o.pins.isEmpty && !s.promotePending i then (s.evictNow i, false)
    else if o.pins.isEmpty then
      (((s.updObj i (fun x => { x with deferred := false })).event 15 0xFF06 St.ok 0xDE i (leBytes 8 o.home ++ zeros 4)).memShow, true)
    else ((s.updObj i (fun x => { x with deferred := true })).memShow, true)

/-- The holder drops its pin and requests eviction. -/
def State.dropPin (s : State) (i holder : Nat) : State × Bool :=
  (s.updObj i (fun o => { o with pins := o.pins.filter (· != holder) })).evictRequest i

/-- A promotion request (R341): the state it leaves, and whether the object is RESIDENT already. -/
def State.promoteRequest (s : State) (i : Nat) : State × Bool :=
  match s.obj i with
  | none => (s, false)
  | some o =>
    match o.state with
    | .absent => (s.updObj i (fun x => { x with state := .promoting }), false)
    | .promoting => (s, false)
    | .resident => (s, true)
    | .evicting => (s.updObj i (fun x => { x with keep := true }), false)

/-- The host takes its pin and its MEM_PROMOTEs complete. -/
def State.promoted (s : State) (i : Nat) : State :=
  match s.obj i with
  | none => s
  | some o =>
    let js := s.jobsOn .promote i
    if js.isEmpty then s
    else
      let s1 := s.updObj i (fun x => { x with pins := insertOnce hostHolder x.pins })
      s1.each js (fun st h => st.endJob h St.ok [(20, 8, o.home), (28, 1, if inDram o.staging 1 then 1 else 0)])

/-- An object whose pin count is 0 with EVICT_DEFERRED set (R342). -/
def State.settle (s : State) (i : Nat) : State :=
  match s.obj i with
  | some o => if o.state == .resident && o.deferred && o.pins.isEmpty then (s.evictRequest i).1 else s
  | none => s

/-- Keep why a resident object's FLAG is late in a Route slot (Table 15.7). -/
def State.objCause (s : State) (o : MemObj) (n cause : Nat) : State :=
  match s.declares n o with
  | some d => { s with memt := { s.memt with cause := SMap.set s.memt.cause (flagKey n (Od.flag d)) cause } }
  | none => s

/-- Check a tile read from flash: MAGIC and CRC32 (R330). -/
def flashTileOk (t : List Byte) : Bool :=
  (leAt t 0 4 == 0xC1E97F01 || leAt t 0 4 == 0xC1E97A01) && leAt t 60 4 == crc32 (t.take 60 ++ t.drop 64)

/-- A flash fault at a device address (R330, Table 15.12). -/
def State.flashFault (s : State) (a src : Nat) : State :=
  (((s.setBit Reg.MEM_FLASH_STATUS 2).setBit Reg.MEM_STATUS 2).count 15 15).event 15 0xFF06 St.internalFault 0xD9 src
    (leBytes 8 a ++ leBytes 1 ((a - 0x4000000000) / 32768 % 8) ++ zeros 3)

/-- Object `i` stands in staging: every tile of its home copied, one whose read fails (`lost`, or by the checks of R330) as zeros with its
flash fault, RESIDENT, its FLAGs READY (CUT after a failed read), its promotions answered (R339, R341). -/
def State.objPromoted (s : State) (i : Nat) (o : MemObj) (lost : List Nat) : State :=
  let flash := inFlash o.home 1
  let read := fun (k : Nat) => s.ldB (o.tileAddr k) tileLen
  let bad := (List.range o.tiles).filter (fun k => lost.contains k || (flash && !flashTileOk (read k)))
  -- a tile whose read fails is taken as zeros (R339)
  let s1 := s.each (List.range o.tiles) (fun st k =>
    { st with mem := st.mem.writeBytes (o.slotAddr k) (if bad.contains k then zeros tileLen else read k) })
  let s2 := if flash then s1.each bad (fun st k => st.flashFault (o.tileAddr k) i) else s1
  let s3 := (s2.updObj i (fun x => { x with state := .resident, dirty := [] })).countN 15 7 o.tiles
  let s4 := s3.objFlags o (if bad.isEmpty then Flag.ready else Flag.cut)
  let s5 := if bad.isEmpty then s4 else s4.each (o.pins.filter (· < 16)) (fun st n => st.objCause o n 0xD5)
  ((s5.promoted i).settle i).memShow

/-- PROMOTION_COMPLETE of the object with a HOME (R341), once its Route's allocation has paid (R338), or of the map tile stored there;
`lost`: the tiles whose read failed. -/
def promotionComplete (home : Nat) (lost : List Nat) (s : State) : State :=
  match s.memt.objs.find? (fun e => e.2.home == home && e.2.resident && e.2.state == .promoting) with
  | some (i, o) =>
    if s.workPaid (2 * i) then s.objPromoted i o lost else s
  | none =>
    match s.map.promoting.find? (fun f => s.tileHome f == home) with
    | none => s
    | some f =>
      let p := s.promoteTile f false
      if !p.2 then s
      else
        let js := p.1.memt.jobs.filter (fun j => j.kind == .promote && j.obj == 4096 + f)
        let s1 := p.1.setMap { p.1.map with promoting := p.1.map.promoting.filter (· != f), hostPins := insertOnce f p.1.map.hostPins }
        s1.each js (fun st j => st.endJob j.key St.ok [(20, 8, home), (28, 1, 0)])

/-- EVICTION_COMPLETE (R342): the write-backs are done; the staging is freed, or kept where a promotion came (R341). -/
def evictionComplete (home : Nat) (s : State) : State :=
  match s.memt.objs.find? (fun e => e.2.home == home && e.2.state == .evicting) with
  | none => s
  | some (i, o) =>
    if s.memt.copies.any (fun c => c.obj == i && c.why == .eviction) then s
    else if o.keep then
      let s1 := s.updObj i (fun x => { x with state := .resident, keep := false, deferred := false, wasDeferred := false })
      let s2 := s1.each (s.jobsOn .evict i) (fun st h => st.endJob h St.ok [(20, 8, o.home), (28, 1, 1)])
      ((s2.objFlags o Flag.ready).promoted i).memShow
    else s.freeObj i

/-! ### The Route's life (R338, R340, R344) -/

/-- STARTING at step 2 of a boundary: pins, promotion requests, allocations. -/
def State.memRouteStart (s : State) (slot : Nat) : State :=
  let image := s.img slot
  let tok := ((List.range 11).map (Img.allocTok image)).sum
  let s1 : State := { s with memt := { s.memt with
    startTok := SMap.set s.memt.startTok slot tok, flashTok := SMap.set s.memt.flashTok slot (Img.allocCyc image 9),
    issued := s.memt.issued.filter (fun k => k / 65536 != slot),
    cause := s.memt.cause.keep (fun k => k / 65536 != slot),
    precharge := s.memt.precharge.keep (fun k => k / 64 / 65536 != slot) } }
  s1.each ((objDecls image).filter Od.resident) (fun st d =>
    match st.objOf d with
    | none => st
    | some i =>
      let was := match st.obj i with | some o => o.state | none => .absent
      let s2 := (st.updObj i (fun o => { o with pins := insertOnce slot o.pins })).promoteRequest i
      match s2.1.obj i with
      | none => s2.1
      | some o =>
        let s3 := if was == .absent then
            s2.1.spendStart slot (2 * i) (o.tiles * tileTok o.home o.staging) (o.tiles * tileBeats o.home) else s2.1
        s3.objFlag o slot (if s2.2 then Flag.ready else Flag.empty))

/-- Step 3 of a boundary that opens the Route's cadence: its prefetch entries come again, its pre-charges start at 0. -/
def State.memOpen (s : State) (slot : Nat) : State :=
  { s with memt := { s.memt with
    issued := s.memt.issued.filter (fun k => k / 65536 != slot),
    precharge := s.memt.precharge.keep (fun k => k / 64 / 65536 != slot),
    cause := s.memt.cause.keep (fun k => k / 65536 != slot) } }

/-- Objects an image's declarations name, with their indices. -/
def State.objsOf (s : State) (slot : Nat) : List (Nat × MemObj) :=
  s.memt.objs.filter (fun e => (s.declares slot e.2).isSome)

/-- DRAINING: a write-back is queued for every dirty staged tile of the Route's objects that has none (R344). -/
def State.memDrain (s : State) (slot : Nat) : State :=
  s.each (s.objsOf slot) (fun st e =>
    let due := e.2.dirty.filter (fun j => !st.memt.copies.any (fun c => c.obj == e.1 && c.slot == j && c.why == .drain slot))
    st.queueBacks e.1 e.2 due (.drain slot))

/-- The last write-back of the Route's drain is complete (R344): what other Routes make dirty meanwhile is theirs. -/
def State.memDrained (s : State) (slot : Nat) : Bool := !s.memt.copies.any (fun c => c.why == .drain slot)

/-- The drain completes: the Route's fetches are dropped and its pins released as eviction requests (R344). -/
def State.memRouteOff (s : State) (slot : Nat) : State :=
  let gone := fun (c : Copy) => match c.why with
    | .fetch n _ => n == slot
    | .drain n => n == slot
    | _ => false
  let s1 : State := { s with memt := { s.memt with
    copies := s.memt.copies.filter (fun c => !gone c), owed := s.memt.owed.filter (fun o => o.1 != slot) } }
  (s1.each (s1.memt.objs.filter (fun e => e.2.pins.contains slot)) (fun st e => (st.dropPin e.1 slot).1)).memShow

/-! ### Prefetch orders (R335 to R337) -/

/-- Instance `k` of a mask, ascending. -/
def nthUnit (mask k : Nat) : Nat := (maskBits mask).getD k 0

/-- Charge a tile move of an entry for flag `f`: the state charged, or the cause of Table 15.7 that forbids it (R336, R338). -/
def State.chargeTile (s : State) (slot : Nat) (e : List Byte) (f tok beats : Nat) : State × Option Nat :=
  if (s.slot slot).life == .starting then (s.spendStart slot (2 * flagKey slot f + 1) tok beats, none)
  else
    let st := Pe.stage e
    let d := s.sd slot st
    let unit := nthUnit (Sd.unitMask d) (Pe.unit e)
    let flash := SMap.get 0 s.memt.flashTok slot
    let key := 64 * flagKey slot st + unit
    let fits := match s.runOf slot st with
      | some r => (match r.insts.find? (fun i => i.unit == unit) with
        | some i => decide (i.tok + tok ≤ Sd.tokLimit (s.runDesc r))
        | none => false)
      | none => decide (SMap.get 0 s.memt.precharge key + tok ≤ Sd.tokLimit d)
    if !fits then (s, some 0xD4)
    else if flash < beats then (s, some 0xD3)
    else
      let s1 : State := { s with memt := { s.memt with flashTok := SMap.set s.memt.flashTok slot (flash - beats) } }
      match s.runOf slot st with
      | some r => (s1.chargeTo r unit 0 tok, none)
      | none => (({ s1 with memt := { s1.memt with precharge := SMap.upd 0 s1.memt.precharge key (· + tok) } } : State).useTok (Sd.cls d) tok, none)

/-- A tile of an entry is not issued: its flag CUT, with the cause. -/
def State.notIssued (s : State) (slot : Nat) (e : List Byte) (k cause : Nat) : State :=
  let f := Pe.flag e + k
  let d := s.sd slot (Pe.stage e)
  let s1 := s.setFlag slot f Flag.cut (Sd.layer d) (Sd.operator d)
  { s1 with memt := { s1.memt with cause := SMap.set s1.memt.cause (flagKey slot f) cause } }

/-- NAND channel of an address (R328). -/
def nandChannel (a : Nat) : Nat := (a - 0x4000000000) / 32768 % 8

/-- Bound of the fetch of a tile, the `k`-th of its order still queued (Table 15.11). -/
def State.fetchBound (s : State) (home k : Nat) : Nat :=
  if inFlash home 1 then
    let q := (s.memt.copies.filter (fun c => match c.why with
      | .fetch _ _ => (match s.obj c.obj with
        | some o => inFlash o.home 1 && nandChannel (o.tileAddr c.tile) == nandChannel home
        | none => false)
      | _ => false)).length
    s.core + usCore (110 + 8 * q)
  else s.dramBound k

/-- A fetch of an entry's tile `k` (the rows of R335). -/
def State.fetchTile (s : State) (slot : Nat) (e : List Byte) (i k : Nat) : State :=
  match s.obj i with
  | none => s
  | some o =>
    let t := Pe.first e + k; let j := Pe.slot e + k; let f := Pe.flag e + k
    let d := s.sd slot (Pe.stage e)
    let holds := s.ld (o.slotAddr j + 8) 8 == o.home && s.ld (o.slotAddr j + 16) 4 == t && s.flagOf slot f == Flag.ready
    let flying := s.memt.copies.any (fun c => c.obj == i && c.tile == t && c.slot == j && (match c.why with | .fetch _ _ => true | _ => false))
    if holds || flying then s.count 15 8
    else
      let tok := tileTok o.home o.staging
      let back := o.dirty.contains j
      let s1 := if back then
          (match s.chargeTile slot e f tok 0 with
           | (a, none) => (a.queueBack i o j .writeBack k, none)
           | (a, some c) => (a, some c))
        else (s, none)
      match s1 with
      | (a, some c) => a.notIssued slot e k c
      | (a, none) =>
        match a.chargeTile slot e f tok (tileBeats o.home) with
        | (b, some c) => b.notIssued slot e k c
        | (b, none) =>
          let s2 := b.setFlag slot f Flag.empty (Sd.layer d) (Sd.operator d)
          let s3 : State := { s2 with memt := { s2.memt with cause := SMap.erase s2.memt.cause (flagKey slot f) } }
          s3.putCopy ⟨i, t, j, .fetch slot f, s3.fetchBound (o.tileAddr t) k, false, s3.core⟩

/-- A WRITE_BACK entry's slot (R337). -/
def State.backTile (s : State) (slot : Nat) (e : List Byte) (i k : Nat) : State :=
  match s.obj i with
  | none => s
  | some o =>
    let j := Pe.slot e + k
    if !o.dirty.contains j then s
    else match s.chargeTile slot e (Pe.flag e + k) (tileTok o.home o.staging) 0 with
      | (a, none) => a.queueBack i o j .writeBack k
      | (a, some c) => a.notIssued slot e k c

/-- PREFETCH_ISSUE (R335): entry `k` of a Route's placement table at its ISSUE_OFFSET. -/
def prefetchIssue (slot k : Nat) (s : State) : State :=
  let sl := s.slot slot
  match (fetchEntries sl.image)[k]? with
  | none => s
  | some e =>
    match s.objOf (objDecl sl.image (Pe.object e)) with
    | none => s
    | some i =>
      if !(sl.running || sl.life == .starting) || s.memt.issued.contains (65536 * slot + k) then s
      else
        let s1 := s.runToTime (sl.runInstant + Pe.offset e)
        let s2 : State := { s1 with memt := { s1.memt with issued := s1.memt.issued ++ [65536 * slot + k] } }
        s2.each (List.range (Pe.count e)) (fun st n => if Pe.writeBack e then st.backTile slot e i n else st.fetchTile slot e i n)

/-- Copy `n` of those in flight leaves the list. -/
def State.dropCopy (s : State) (n : Nat) : State := { s with memt := { s.memt with copies := s.memt.copies.eraseIdx n } }

/-- The stage descriptor of the fetch entry whose FLAG range takes in flag `f` of a slot's Route (Table 15.7). -/
def State.fetchSd (s : State) (slot f : Nat) : List Byte :=
  s.sd slot (((fetchEntries (s.img slot)).find? (fun e =>
    !Pe.writeBack e && decide (Pe.flag e ≤ f) && decide (f < Pe.flag e + Pe.count e))).elim 0 Pe.stage)

/-- Copy `n` leaves the queue, counted with what its source at `src` reported: flash read retries, or a link error the controller
corrected (R330, R335). -/
def State.copyOver (s : State) (n src retries : Nat) (corrected : Bool) : State :=
  let s0 := (s.dropCopy n).count 15 7
  if inFlash src 1 then s0.countN 15 14 retries
  else if corrected then (s0.count 15 12).setBit (Reg.MEM_DRAM_STATUS ((src - 0x1000000000) / 256 % 32 / 4)) 1 else s0

/-- TIME cycles from a copy's issue to now (Table 18.6). -/
def Copy.timeTaken (c : Copy) (s : State) : Int := (s.raw : Int) - rawOf c.since

/-- COPY_COMPLETE (R335, R330, R339): copy `n` of those in flight, a fetch with no write-back of its slot before it; `fault`:
its source gave no tile, and the requester takes zeros; `retries`: flash read retries it took; `corrected`: link ECC corrected an error of the
controller it came through. -/
def copyComplete (n : Nat) (fault : Bool) (retries : Nat) (corrected : Bool) (s : State) : State :=
  match s.memt.copies[n]? with
  | none => s
  | some c =>
    match c.why, s.obj c.obj with
    | .fetch slot f, some o =>
      if (s.memt.copies.take n).any (fun x => x.obj == c.obj && x.slot == c.slot) || !s.workPaid (2 * flagKey slot f + 1) then s
      else
        let src := o.tileAddr c.tile
        let flash := inFlash src 1
        let bytes := s.ldB src tileLen
        let s1 := s.copyOver n src retries corrected
        let d := s.fetchSd slot f
        if fault || (flash && !flashTileOk bytes) then
          let s2 := s1.setFlag slot f Flag.cut (Sd.layer d) (Sd.operator d)
          let s3 : State := { s2 with memt := { s2.memt with cause := SMap.set s2.memt.cause (flagKey slot f) 0xD5 } }
          let s4 : State := { s3 with mem := s3.mem.writeBytes (o.slotAddr c.slot) (zeros tileLen) }
          if flash then s4.flashFault src c.obj else s4
        else
          let s2 := ({ s1 with mem := s1.mem.writeBytes (o.slotAddr c.slot) bytes } : State).updObj c.obj
            (fun x => { x with dirty := x.dirty.filter (· != c.slot) })
          (s2.setFlag slot f Flag.ready (Sd.layer d) (Sd.operator d)).monOffer 4 (b2n flash) 0 (c.timeTaken s2)
    | _, _ => s

/-- Write-back `c`, copy `n`, of object `o` is made: the staged tile stands at its home, clean and counted (R335, R337). -/
def State.tileBack (s : State) (n : Nat) (c : Copy) (o : MemObj) : State :=
  let s1 : State := { s.dropCopy n with mem := s.mem.writeBytes (o.tileAddr c.tile) (s.ldB (o.slotAddr c.slot) tileLen) }
  ((s1.updObj c.obj (fun x => { x with
    dirty := x.dirty.filter (· != c.slot)
    written := x.written + b2n (c.why == .eviction) })).count 15 9).monOffer 4 2 0 (c.timeTaken s)

/-- WRITE_BACK_COMPLETE (R337): copy `n` of those in flight, a write-back: the tile goes to its home, its dirty bit clears. -/
def writeBackComplete (n : Nat) (s : State) : State :=
  match s.memt.copies[n]? with
  | none => s
  | some c =>
    match c.why, s.obj c.obj with
    | .fetch _ _, _ => s
    | _, none => s
    | why, some o =>
      let s2 := s.tileBack n c o
      match why with
      | .flush h =>
        let s3 : State := { s2 with memt := { s2.memt with jobs := s2.memt.jobs.map (fun j =>
          if j.key = h then { j with left := j.left - 1, moved := j.moved + 1 } else j) } }
        (match s3.memt.jobs.find? (fun j => j.key == h && j.left == 0) with
         | some j => s3.endJob h St.ok [(20, 4, j.moved)]
         | none => s3)
      | _ => s2

/-- COPY_LATENCY_OVERRUN (R349): copy `n` passes its bound. -/
def copyLatencyOverrun (n : Nat) (s : State) : State :=
  match s.memt.copies[n]? with
  | none => s
  | some c =>
    if c.late then s
    else
      let s1 := (s.runTo (c.bound + 1)).count 15 11
      { s1 with memt := { s1.memt with copies := modifyAt (fun x => { x with late := true }) s1.memt.copies n } }

/-! ### Late tiles (R339) -/

/-- Cause (Table 15.7) and home address of the late tile of a weight flag. -/
def State.lateCause (s : State) (slot f : Nat) : Nat × Nat :=
  let image := s.img slot
  let res := (objDecls image).find? (fun d => Od.resident d && Od.flag d == f)
  let ent := (fetchEntries image).find? (fun e => !Pe.writeBack e && decide (Pe.flag e ≤ f) && decide (f < Pe.flag e + Pe.count e))
  let home := match ent, res with
    | some e, _ => Od.home (objDecl image (Pe.object e)) + tileLen * (Pe.first e + f - Pe.flag e)
    | none, some d => Od.home d
    | none, none => 0
  let flying := s.memt.copies.any (fun c => c.why == .fetch slot f)
  let promo : Bool := match res with
    | some d => ((s.objOf d).bind s.obj).all (fun o => o.state != ObjState.resident)
    | none => false
  (match SMap.find s.memt.cause (flagKey slot f) with
   | some c => c
   | none => if flying then (if inFlash home 1 then 0xD2 else 0xD1) else if promo then 0xD6 else 0xD7, home)

/-- The record of a stage that met late tiles, `late` its weight flags not READY in WT_LIST order. -/
def State.lateEvent (s : State) (slot layer operator status : Nat) (late : List Nat) : State :=
  match late with
  | [] => s
  | f :: _ =>
    let ch := s.lateCause slot f
    (s.setBit Reg.MEM_STATUS 1).event 15 0xFF06 status ch.1 (stageSrc layer operator) (leBytes 8 ch.2 ++ leBytes 2 f ++ leBytes 2 late.length)

/-! ### Flash writes and endurance (R346, R347) -/

/-- Erase counts and spare blocks as the controller shows them (Table 15.13). -/
def State.flashCounts (s : State) (mean top spare : Nat) : State :=
  ((s.setFld Reg.MEM_FLASH_ERASE_MEAN 0 16 mean).setFld Reg.MEM_FLASH_ERASE_MAX 0 16 top).setFld Reg.MEM_FLASH_SPARE 0 20 spare

/-- WEAR_WARNING (R347). -/
def wearWarning (mean top spare : Nat) (s : State) : State :=
  if mean < 2700 || s.bitOf Reg.MEM_FLASH_STATUS 0 then s
  else
    ((s.flashCounts mean top spare).setBit Reg.MEM_FLASH_STATUS 0).event 15 0xFF06 St.degraded 0xDB 0 (leBytes 4 mean ++ leBytes 4 spare ++ zeros 4)

/-- WRITE_LOCK (R347). -/
def writeLock (mean top spare : Nat) (s : State) : State :=
  if (decide (mean < 3000) && decide (256 ≤ spare)) || s.bitOf Reg.MEM_FLASH_STATUS 1 then s
  else
    ((s.flashCounts mean top spare).setBit Reg.MEM_FLASH_STATUS 1).event 15 0xFF06 St.degraded 0xDC 0 (leBytes 4 mean ++ leBytes 4 spare ++ zeros 4)

/-- What the flash controller shows with a slot write: erase counts, spare blocks, garbage collection and its beats, and the warning and
the lock that they bring (R346, R347). -/
def State.flashTold (s : State) (mean top spare gcBeats : Nat) (gcActive : Bool) : State :=
  let s1 := (writeLock mean top spare (wearWarning mean top spare (s.flashCounts mean top spare))).putBit Reg.MEM_FLASH_STATUS 3 gcActive
  (s1.countN 15 16 gcBeats).chargePool 9 gcBeats 0 none

/-- Slot write `w`, the oldest waiting, is over: written and counted, or a program failure (R346). -/
def State.flashWrote (s : State) (w : FlashWrite) (failed : Bool) : State :=
  let s3 : State := { s with memt := { s.memt with flash := s.memt.flash.drop 1 } }
  let s4 := if failed then
      (s3.setBit Reg.MEM_FLASH_STATUS 2).event 15 0xFF06 St.internalFault 0xDA 0 (leBytes 8 w.addr ++ zeros 4)
    else
      let n := s3.pair Reg.MEM_FLASH_WRITTEN_LO Reg.MEM_FLASH_WRITTEN_HI + 1
      ({ s3 with mem := s3.mem.writeBytes w.addr w.bytes } : State).setPair Reg.MEM_FLASH_WRITTEN_LO Reg.MEM_FLASH_WRITTEN_HI n
  { s4 with memt := { s4.memt with jobs := s4.memt.jobs.map (fun j =>
    if j.key = w.key then { j with left := j.left - 1, failed := j.failed || failed } else j) } }

/-- A MAP_ARCHIVE whose data have moved completes: the directory entry takes its tier, the place it left is free (R287). A
flash read that fails leaves the tile archived; a failed program leaves it stored. -/
def State.archiveDone (s : State) (job key : Nat) : State :=
  match s.memt.jobs.find? (fun j => j.key == job && j.kind == .archive && j.left == 0), s.map.moving.find? (fun m => m.1 == key) with
  | some j, some (_, k, f, dir) =>
    let way := match dirFind s.mem s.mapBases key with | some (a, _) => a | none => 0
    let t := s.ldB (s.arcAddr k) tileLen
    let ok := if dir = 0 then !j.failed else flashTileOk t
    let toFlash := (dir == 0) == ok
    let d := s.map.data
    let d1 := if toFlash then { d with stored := SMap.erase d.stored f, frames := d.frames.filter (fun e => e.2.store != f) }
      else { d with archive := SMap.erase d.archive k }
    let m0 := if dir = 1 ∧ ok then s.mem.writeBytes (s.mapBases.store + tileLen * f) t else s.mem
    let s1 : State := { s with mem := m0.writeBytes way (if toFlash then dirEntry key k 2 else dirEntry key f 1),
                               map := { s.map with data := d1, moving := s.map.moving.filter (fun m => m.1 != key) } }
    let s2 := if dir = 1 ∧ !ok then s1.flashFault (s.arcAddr k) 0 else s1
    (s2.mapShow).endJob job (if ok then St.ok else St.internalFault) [(20, 8, key)]
  | _, _ => s

/-- FLASH_SLOT_WRITE: the program at the head of the queue ends. `failed`: it failed and its block is retired, `spareLeft`: a
spare is left for another try; the controller's erase counts, spares and background work as they then stand. -/
def flashSlotWrite (failed spareLeft : Bool) (mean top spare gcBeats : Nat) (gcActive : Bool) (s : State) : State :=
  match s.memt.flash with
  | [] => s
  | w :: _ =>
    let s2 := s.flashTold mean top spare gcBeats gcActive
    if failed && spareLeft then s2
    else
      let s5 := s2.flashWrote w failed
      match s5.memt.jobs.find? (fun j => j.key == w.key && j.left == 0) with
      | none => s5
      | some j =>
        if j.kind = .archive then s5.archiveDone j.key j.obj
        else s5.endJob j.key (if j.failed then St.internalFault else St.ok) [(20, 4, j.moved)]

/-- DRAM_UNCORRECTABLE (R339): a beat stays uncorrectable after its retry; the read that met it, which the next read of the beat stands
for, takes zeros. -/
def dramUncorrectable (addr : Nat) (s : State) : State :=
  if !inDram addr 1 then s
  else
    let ch := (addr - 0x1000000000) / 256 % 32
    let s0 : State := { s with memt := { s.memt with lost := insertOnce (addr / 64) s.memt.lost } }
    (((s0.setBit (Reg.MEM_DRAM_STATUS (ch / 4)) 2).setBit Reg.MEM_STATUS 2).count 15 13).event 15 0xFF06 St.internalFault 0xD8 0
      (leBytes 8 addr ++ leBytes 1 ch ++ zeros 3)

/-- REFRESH_RATE_POLL (R327): the eight controllers' MR4 codes. -/
def refreshRatePoll (mults : List Nat) (s : State) : State :=
  s.each (mults.zip (List.range 8)) (fun st m => if m.1 ≤ 2 then st.setFld (Reg.MEM_DRAM_STATUS m.2) 8 2 m.1 else st)

/-! ### Placements (R472) -/

def imgStages (image : List Byte) : List (List Byte) := (List.range (Img.stageCount image)).map (Img.desc image)

/-- Store region of a solver channel (Table 11.1). -/
def chanRegion (c : Nat) : Nat × Nat :=
  if c < 4 then (0x6C00000 + 0x40000 * c, 0x6C00000 + 0x40000 * (c + 1))
  else (0x6D00000 + 0x4000 * (c - 4), 0x6D00000 + 0x4000 * (c - 3))

/-- A range of `n` bytes. -/
def span (a n : Nat) : Nat × Nat := (a, a + n)

/-- Tensors, bias, lookup and extent words of an operator record (Table 13.4). -/
def mxAreas (b : List Byte) : List (Nat × Nat) :=
  let tensor := fun (base n : Nat) => (base, tileAt base n)
  let tiles := fun (rows cols : Nat) => ceilDiv rows 128 * ceilDiv cols (Mx.chans (Mx.inFmt b))
  let inTiles := if Mx.kind b = 6 then tiles (Mx.rows b * Mx.seqMax b) (Mx.inC b - Mx.hidden b) else tiles (Mx.inH b * Mx.inW b) (Mx.inC b)
  let wTiles := (Mx.colSets b).length * Mx.nRed b * (if fmtBytes (Mx.wFmt b) = 2 then 2 else 1)
  let keys := tiles (Mx.seqMax b) (Mx.inC b)
  (if Mx.direct b then [] else if Mx.kind b = 7 then [span (Mx.inAddr b) (1024 + 16384 * Mx.slabs b)] else [tensor (Mx.inAddr b) inTiles]) ++
    (if Mx.kind b = 3 ∨ Mx.kind b = 7 ∨ Mx.kind b = 8 then []
     else if Mx.kind b = 5 then [tensor (Mx.wAddr b) keys, tensor (Config.attnKeyAddr (Mx.inAddr b) (Mx.wAddr b)) keys]
     else if Mx.kind b = 4 then [tensor (Mx.wAddr b) inTiles] else [tensor (Mx.wAddr b) wTiles]) ++
    (if Mx.kind b = 7 then [] else [tensor (Mx.outAddr b) (Mx.outTiles b)]) ++
    (if Mx.bias b then [span (Mx.biasAddr b) (16 * Mx.outC b)] else []) ++
    (if Mx.kind b = 6 then [span (Mx.lutAddr b) 1024] else if Mx.act b = 3 then [span (Mx.lutAddr b) 256] else []) ++
    (if Mx.extentAddr b = 0 then [] else [span (Mx.extentAddr b) 4])

/-- The placements of a Route image (R472). -/
def placements (image : List Byte) : List (Nat × Nat) :=
  let ds := imgStages image
  let of := fun (c : Nat) => ds.filter (fun d => Sd.cls d == c)
  let vis := (of 0).flatMap (fun d => (visBlocks image d).map (fun b =>
    (Vb.outBase b, Vb.featureAddr b + 64 + 48 * Vb.totalCorners b)))
  let fst := (of 1).flatMap (fun d => (fstBlocks image d).flatMap (fun b =>
    if Sd.unitMask d = 1 then
      let half := match visBlockOf image (Fb.stream b) with | some vb => halfSize vb b | none => 0
      [span (Fb.refBase b) (2 * half), span (Fb.outBase b) (64 + 16 * Fb.maxTracks b)] ++
        (if Fb.source b = 1 then [span (Fb.listBase b) (64 + 16 * Fb.maxTracks b)] else [])
    else match visBlockOf image (Pb.left b) with
      | some lv => [(Pb.outBase b, confAddr b (Vb.width lv (Pb.bot b)) (Vb.height lv (Pb.bot b)) +
          Vb.height lv (Pb.bot b) * pad64 (Vb.width lv (Pb.bot b))), (Pb.workBase b, workAddr lv b (Pb.top b + 1))]
      | none => []))
  let fus := (fusStages image).flatMap (fun d =>
    let b := fusBlock image d
    let c : FusCtx := { FusCtx.reset with block := b, entries := fusEntries image d }
    let pix := match c.camera.bind (fun i => visBlockOf image (Ue.func (c.entry i))) with
      | some vb => if Ub.pixel b then
          let l := if Ub.pixPair b = 0xFF then 0 else (pairBlockOf image (Ub.pixPair b)).elim 0 Pb.bot
          [span (Ub.pixBase b) (Vb.height vb l * pad64 (4 * Vb.width vb l))] else []
      | none => []
    [(0x6E00000, 0x6F00000), (Ub.outBase b, c.delayArea + 64 + 64 * Ub.delaySlots b)] ++ pix)
  let bsu := (bsuNames image).map chanRegion
  let map := (mapQueues image).flatMap MapEnt.ranges
  let mxa := (mxStages image).flatMap (fun d =>
    (maskBits (Sd.unitMask d)).map (fun a => (a * 0x400000, (a + 1) * 0x400000)) ++
      [span (leAt (mxHeader image d) 8 8) (32 * mxOpCount image d)] ++ (mxOps image d).flatMap mxAreas)
  let gcr := (gcrStages image).flatMap (fun d => (maskBits (Sd.unitMask d)).flatMap (fun n =>
    (gcrRegions (Gp.header image d)).map (fun r => span (0x6400000 + 0x20000 * n + r.1) r.2)))
  (objDecls image).map Od.range ++ vis ++ fst ++ fus ++ bsu ++ map ++ mxa ++ gcr

/-- A range meets a placement of a Route in STARTING, ON or DRAINING. -/
def State.livePlacement (s : State) (a n : Nat) : Bool :=
  slotList.any (fun k => (s.slot k).life.active && (placements (s.img k)).any (fun p => decide (0 < n) && overlap p (a, a + n)))

/-! ### Route checks (R332, R333) -/

/-- SRAM row of a class's partition (Table 15.1). -/
def classRow (cls : Nat) : Nat :=
  match cls with
  | 0 => 3 | 1 => 3 | 2 => 6 | 3 => 5 | 4 => 2 | 5 => 0 | 6 => 4 | _ => 1

/-- DETAIL of ROUTE_LOAD's placement checks; `others` the other resident images. -/
def memLoadRefusal (image : List Byte) (others : List (List Byte)) : Option Nat :=
  let h := (image.drop (placeAt image)).take 16
  let ds := objDecls image; let es := fetchEntries image
  let dec := fun (e : List Byte) => objDecl image (Pe.object e)
  let declOk := fun (d : List Byte) =>
    d.length == 32 && Od.home d % 64 == 0 && Od.staging d % 64 == 0 && decide (0 < Od.tiles d) && decide (leAt d 20 1 < 4) &&
      zeroIn d 21 24 && zeroIn d 28 32 && (Od.resident d || rng (Od.slots d) 1 (Od.tiles d))
  let entOk := fun (e : List Byte) =>
    e.length == 32 && decide (Pe.object e < ds.length) && decide (Pe.stage e < Img.stageCount image) &&
      decide (Pe.first e < Od.tiles (dec e)) && rng (Pe.count e) 1 4096 && decide (Pe.first e + Pe.count e ≤ Od.tiles (dec e)) &&
      decide (Pe.slot e + Pe.count e ≤ Od.slots (dec e)) && (!Od.resident (dec e) || Pe.slot e == Pe.first e) &&
      decide (Pe.unit e < popCount (Sd.unitMask (Img.desc image (Pe.stage e)))) && decide (leAt e 15 1 ≤ 1) &&
      decide (Pe.offset e < Img.period image) && zeroIn e 20 32
  let users := fun (k : Nat) =>
    let u := (es.filter (fun e => Pe.object e == k)).map (fun e => Sd.cls (Img.desc image (Pe.stage e)))
    if u.isEmpty then (imgStages image).map Sd.cls else u
  let rangeOk := fun (d : List Byte) (k : Nat) =>
    let home := addrRow (Od.home d) (tileLen * Od.tiles d)
    let row := addrRow (Od.staging d) (tileLen * Od.slots d)
    (home == some 8 || home == some 9) &&
      (match row with
       | some 8 => home == some 9
       | some 9 => false
       | some 1 => true
       | some r => (users k).any (fun c => classRow c == r)
       | none => false) && (!Od.writable d || home == some 8)
  if h.length != 16 || !zeroIn h 4 16 || decide (1024 < leAt h 0 2) || decide (4096 < leAt h 2 2) || ds.any (fun d => !declOk d) ||
      es.any (fun e => !entOk e) then some 0xC0
  else if (List.range ds.length).any (fun k => !rangeOk (objDecl image k) k) ||
      es.any (fun e => Pe.writeBack e && inFlash (Od.home (dec e)) 1) then some 0xC1
  else if 4096 < ((image :: others).map (fun m => (objDecls m).length)).sum then some 0xC2
  else none

/-- DETAIL of ROUTE_ENABLE's placement checks for a slot (R333). -/
def State.memEnableRefusal (s : State) (slot : Nat) : Option Nat :=
  let mine := objDecls (s.img slot)
  let all := s.images.flatMap (fun e => objDecls e.2)
  let same := fun (d x : List Byte) => Od.staging d == Od.staging x && Od.tiles d == Od.tiles x && leAt d 20 1 == leAt x 20 1
  let live := s.images.flatMap (fun e => if (s.slot e.1).life.active then objDecls e.2 else [])
  let equal := fun (d x : List Byte) => Od.home d == Od.home x && same d x && Od.slots d == Od.slots x
  if mine.any (fun d => Od.resident d && all.any (fun x => Od.resident x && Od.home x == Od.home d && !same d x)) then some 0x12
  else if mine.any (fun d => live.any (fun x => !equal d x && overlap (Od.range d) (Od.range x)) ||
      s.memt.objs.any (fun e => e.2.state != .absent && !e.2.is d && overlap (Od.range d) e.2.range)) then some 0x13
  else none

/-! ### Host memory commands (R345) -/

/-- A length or device address that 0xC3 refuses. -/
def memLenBad (n : Nat) (as : List Nat) : Bool := decide (n < 64) || decide (16777216 < n) || n % 64 != 0 || as.any (fun a => a % 64 != 0)

/-- A destination that 0xC6 refuses. -/
def State.destBusy (s : State) (a n : Nat) : Bool :=
  s.livePlacement a n || s.memt.objs.any (fun e => overlap e.2.range (a, a + n) && (!e.2.pins.isEmpty || inFlash e.2.home 1))

/-- The map archive area. -/
def State.inArchive (s : State) (a n : Nat) : Bool := overlap (s.arcAddr 0, s.arcAddr (s.regN Reg.MAP_ARC_SLOTS)) (a, a + n)

def State.writeLocked (s : State) : Bool := s.bitOf Reg.MEM_FLASH_STATUS 1

/-- The device ranges an outstanding MEM_READ, MEM_WRITE, MEM_COPY or MEM_FLUSH refers to (R68). -/
def Long.ranges (l : Long) : List (Nat × Nat) :=
  let a := param l.packet 16 8; let b := param l.packet 24 8; let n := param l.packet 32 4
  if l.opcode = 0x0601 ∨ l.opcode = 0x0602 ∨ l.opcode = 0x0607 then [(a, a + n)]
  else if l.opcode = 0x0603 then [(a, a + n), (b, b + n)]
  else []

/-- The range is referenced by a long command accepted before the one whose meaning runs, and outstanding (R68). -/
def State.rangeHeld (s : State) (a n : Nat) : Bool := s.hif.longs.dropLast.any (fun l => l.ranges.any (overlap (a, a + n)))

/-- Checks shared by MEM_WRITE and MEM_COPY on the destination that answer BUSY. -/
def State.destRefusal (s : State) (a n : Nat) : Option Reply :=
  if s.gridBusy a n then some (Reply.busy 0x64)
  else if s.destBusy a n then some (Reply.busy 0xC6)
  else if inFlash a n && s.inArchive a n then some (Reply.busy 0xC7)
  else if inFlash a n && s.writeLocked then some (Reply.busy 0xC8)
  else if s.rangeHeld a n then some (Reply.busy 0xE6)
  else none

/-- Charge the movement of `n` bytes at an address to the free pools of HOST_DMA and FLASH (R345). -/
def State.chargeMove (s : State) (a n key : Nat) : State :=
  let s1 := s.chargePool 7 0 (memTok a n) (some key)
  if inFlash a n then s1.chargePool 9 (ceilDiv n 64) 0 (some key) else s1

/-- Give bytes to a destination: at once, or slot by slot to the flash queue (R346); the command's completion. -/
def State.deliver (s : State) (key a : Nat) (bs : List Byte) : State :=
  let n := bs.length
  let s1 := (s.chargePool 7 (ceilDiv n 64) 0 (some key)).chargeMove a n key
  if inFlash a n then
    let ws := (List.range (n / 32768)).map (fun k => (⟨a + 32768 * k, (bs.drop (32768 * k)).take 32768, key⟩ : FlashWrite))
    { s1 with memt := { s1.memt with flash := s1.memt.flash ++ ws, jobs := s1.memt.jobs ++ [⟨key, .flashWrite, n / 32768, n, 0, false⟩] } }
  else (s1.stB a bs).longDone key St.ok 0 (result [(20, 4, n)])

/-- MEM_READ. -/
def bodyMemRead (p : CmdPacket) (s : State) : Reply × State :=
  let a := param p 16 8; let n := param p 32 4
  if memLenBad n [a] then (Reply.bad 0xC3, s)
  else if (addrRow a n).isNone then (Reply.bad 0xC4, s)
  else
    let r := s.see a n
    let s1 := (r.2.chargePool 7 (ceilDiv n 64) 0 (some s.longKey)).chargeMove a n s.longKey
    (Reply.accepted, (s1.hostSt (param p 24 8) r.1).longDone s.longKey St.ok 0 (result [(20, 4, n)]))

/-- MEM_WRITE. -/
def bodyMemWrite (p : CmdPacket) (s : State) : Reply × State :=
  let a := param p 16 8; let n := param p 32 4
  if memLenBad n [a] then (Reply.bad 0xC3, s)
  else if (addrRow a n).isNone then (Reply.bad 0xC4, s)
  else if inFlash a n && (a % 32768 != 0 || n % 32768 != 0) then (Reply.bad 0xC5, s)
  else match s.destRefusal a n with
    | some r => (r, s)
    | none => (Reply.accepted, s.deliver s.longKey a (s.hostLd (param p 24 8) n))

/-- MEM_COPY. -/
def bodyMemCopy (p : CmdPacket) (s : State) : Reply × State :=
  let a := param p 16 8; let b := param p 24 8; let n := param p 32 4
  if memLenBad n [a, b] then (Reply.bad 0xC3, s)
  else if (addrRow a n).isNone || (addrRow b n).isNone then (Reply.bad 0xC4, s)
  else if inFlash b n && (b % 32768 != 0 || n % 32768 != 0) then (Reply.bad 0xC5, s)
  else if overlap (a, a + n) (b, b + n) then (Reply.bad 0xC9, s)
  else match s.destRefusal b n with
    | some r => (r, s)
    | none => (Reply.accepted, ((s.see a n).2.chargeMove a n s.longKey).deliver s.longKey b (s.see a n).1)

/-- SRAM_WINDOW (R326). -/
def bodySramWindow (p : CmdPacket) (s : State) : Reply × State :=
  let w := param p 16 1
  if 3 < w then (Reply.bad 0xCB, s) else (Reply.ok [(20, 1, w)], s.setFld Reg.MEM_WINDOW 0 2 w)

/-- What MEM_PROMOTE and MEM_EVICT name: an object of the table, or the store frame of a map tile. -/
inductive MemTarget where
  | obj (i : Nat) (o : MemObj)
  | tile (f : Nat)

def State.memTarget (s : State) (a : Nat) : Option MemTarget :=
  match s.memt.objs.find? (fun e => e.2.resident && e.2.home == a) with
  | some e => some (.obj e.1 e.2)
  | none =>
    let b := s.mapBases.store
    let f := (a - b) / tileLen
    if b ≠ 0 ∧ b ≤ a ∧ (a - b) % tileLen = 0 ∧ (SMap.find s.map.data.stored f).isSome then some (.tile f) else none

/-- Tier of an address: 0 SRAM, 1 DRAM, 2 flash. -/
def tierOf (a : Nat) : Nat := if inDram a 1 then 1 else if inFlash a 1 then 2 else 0

def MemTarget.stagingTier : MemTarget → Nat
  | .obj _ o => tierOf o.staging
  | .tile _ => 0
def MemTarget.homeTier : MemTarget → Nat
  | .obj _ o => tierOf o.home
  | .tile _ => 1

def State.addJob (s : State) (j : MemJob) : State := { s with memt := { s.memt with jobs := s.memt.jobs ++ [j] } }

/-- MEM_PROMOTE (R341). -/
def bodyMemPromote (p : CmdPacket) (s : State) : Reply × State :=
  let a := param p 16 8
  match s.memTarget a with
  | none => (if (addrRow a 1).isNone then Reply.bad 0xC4 else Reply.bad 0xCA, s)
  | some t =>
    if t.stagingTier != param p 24 1 then (Reply.bad 0xCA, s)
    else match t with
      | .obj i o =>
        if s.memt.objs.any (fun e => e.1 != i && e.2.state != .absent && overlap e.2.range o.range) then (Reply.busy 0xCC, s)
        else
          let s1 := (s.addJob ⟨s.longKey, .promote, 0, 0, i, false⟩).promoteRequest i
          let s2 := if o.state == .absent then s1.1.poolTiles o o.tiles true (some s.longKey) else s1.1
          (Reply.accepted, if s1.2 then s2.promoted i else s2)
      | .tile f =>
        if (s.map.data.tabOf f).isSome then
          (Reply.accepted, (s.setMap { s.map with hostPins := insertOnce f s.map.hostPins }).longDone s.longKey St.ok 0
            (result [(20, 8, a), (28, 1, 0)]))
        else (Reply.accepted, (s.addJob ⟨s.longKey, .promote, 0, 0, 4096 + f, false⟩).setMap { s.map with promoting := insertOnce f s.map.promoting })

/-- The eviction request of the host on a map tile (R342): true where the release is logical. -/
def State.evictTile (s : State) (f : Nat) : State × Bool :=
  let s1 := s.setMap { s.map with hostPins := s.map.hostPins.filter (· != f) }
  let key := SMap.get 0 s1.map.data.stored f
  let pinned := s1.map.named.contains key || s1.shadowPins f key
  let pending := s1.map.promoting.contains f || s1.map.built.any (fun e => e.2.contains key)
  if pinned then ((s1.setMap { s1.map with deferred := insertOnce f s1.map.deferred }).memShow, true)
  else if pending then (s1.event 15 0xFF06 St.ok 0xDE 0 (leBytes 8 (s1.tileHome f) ++ zeros 4), true)
  else ((s1.setMap { s1.map with deferred := s1.map.deferred.filter (· != f) }).mapRelease false, false)

/-- MEM_EVICT (R342, R343). -/
def bodyMemEvict (p : CmdPacket) (s : State) : Reply × State :=
  let a := param p 16 8
  match s.memTarget a with
  | none => (if (addrRow a 1).isNone then Reply.bad 0xC4 else Reply.bad 0xCA, s)
  | some t =>
    if t.homeTier != param p 24 1 then (Reply.bad 0xCA, s)
    else match t with
      | .obj i _ =>
        let r := (s.addJob ⟨s.longKey, .evict, 0, 0, i, false⟩).dropPin i hostHolder
        (Reply.accepted, if r.2 then r.1.endJob s.longKey St.ok [(20, 8, a), (28, 1, 1)] else r.1)
      | .tile f =>
        let r := s.evictTile f
        (Reply.accepted, r.1.longDone s.longKey St.ok 0 (result [(20, 8, a), (28, 1, b2n r.2)]))

/-- MEM_FLUSH. -/
def bodyMemFlush (p : CmdPacket) (s : State) : Reply × State :=
  let a := param p 16 8; let n := param p 32 4
  if memLenBad n [a] then (Reply.bad 0xC3, s)
  else if (addrRow a n).isNone then (Reply.bad 0xC4, s)
  else
    let hit := fun (o : MemObj) (j : Nat) => overlap (span (o.slotAddr j) tileLen) (a, a + n) ||
      overlap (span (o.tileAddr (s.stagedTile o j)) tileLen) (a, a + n)
    let due := s.memt.objs.map (fun e => (e.1, e.2, e.2.dirty.filter (hit e.2)))
    let count := (due.map (fun e => e.2.2.length)).sum
    if count = 0 then (Reply.accepted, s.longDone s.longKey St.ok 0 (result [(20, 4, 0)]))
    else (Reply.accepted, (s.addJob ⟨s.longKey, .flush, count, 0, 0, false⟩).each due (fun st e => st.queueBacks e.1 e.2.1 e.2.2 (.flush s.longKey)))

/-- A retrieval from the archive has moved its data: the charges of its long command are paid (R287). -/
def State.archiveRead (s : State) (key : Nat) : State :=
  match s.memt.jobs.find? (fun j => j.key == key && j.kind == .archive && j.left == 0) with
  | some j => s.archiveDone key j.obj
  | none => s

/-- MAP_ARCHIVE (R284, R287): direction 0 hands the tile to the flash queue, direction 1 reads it back at the command's
completion. -/
def bodyMapArchive (p : CmdPacket) (s : State) : Reply × State :=
  let key := param p 16 8; let dir := param p 24 1
  let b := s.mapBases
  match (if keyOk key then dirFind s.mem b key else none) with
  | none => (if s.mapNotReady then Reply.busy 0x9D else if 1 < dir then Reply.bad 0x9A else Reply.bad 0x96, s)
  | some (way, loc) =>
    if s.mapNotReady then (Reply.busy 0x9D, s)
    else if decide (1 < dir) || (dir == 0 && locTier loc == 2) || (dir == 1 && locTier loc == 1) then (Reply.bad 0x9A, s)
    else if s.tileBusy key then (Reply.busy 0x98, s)
    else
      let arc := leastBelow (s.regN Reg.MAP_ARC_SLOTS) (fun k => (SMap.find s.map.data.archive k).isNone)
      let frame := leastBelow 131072 (fun f => (SMap.find s.map.data.stored f).isNone)
      match dir, arc, frame with
      | 0, none, _ => (Reply.bad 0x99, s)
      | 0, some k, _ =>
        if s.writeLocked then (Reply.busy 0xC8, s)
        else
          let f := locPlace loc
          let t := tileBytes s.mem s.map.data b f
          let s1 : State := { s with mem := s.mem.writeBytes way (dirEntry key f 3),
                                     map := { s.map with moving := s.map.moving ++ [(key, k, f, 0)],
                                                         data := { s.map.data with archive := SMap.set s.map.data.archive k key } } }
          let s2 := s1.addJob ⟨s.longKey, .archive, 1, 0, key, false⟩
          (Reply.accepted, ((({ s2 with memt := { s2.memt with flash := s2.memt.flash ++ [⟨s.arcAddr k, t ++ zeros (32768 - tileLen), s.longKey⟩] } } : State).chargePool
            9 257 257 (some s.longKey))).mapShow)
      | _, _, none => (Reply.bad 0x99, s)
      | _, _, some f =>
        let k := locPlace loc
        let s1 : State := { s with mem := s.mem.writeBytes way (dirEntry key k 3),
                                   map := { s.map with moving := s.map.moving ++ [(key, k, f, 1)],
                                                       data := { s.map.data with stored := SMap.set s.map.data.stored f key } } }
        let s2 := s1.addJob ⟨s.longKey, .archive, 0, 0, key, false⟩
        (Reply.accepted, (s2.chargePool 9 257 257 (some s.longKey)).mapShow)

/-! ### Register views (Tables 15.13 and 15.15) -/

/-- MEM_OBJ_HOME, MEM_OBJ_STATE and MEM_OBJ_COUNT as a read finds them. -/
def State.memView (s : State) (off : Nat) : Option Nat :=
  let i := s.fld Reg.MEM_OBJ_SEL 0 12
  let o := s.obj i
  if off = Reg.MEM_OBJ_HOME_LO then some (o.elim 0 (fun x => x.home % 2 ^ 32))
  else if off = Reg.MEM_OBJ_HOME_HI then some (o.elim 0 (fun x => x.home / 2 ^ 32 % 2 ^ 16))
  else if off = Reg.MEM_OBJ_STATE then some (o.elim 0 (fun x =>
    x.state.code + 4 * b2n (s.promotePending i) + 8 * b2n x.deferred + 16 * b2n (x.pins.contains hostHolder) + 32 + 256 * x.pins.length +
      65536 * min 65535 x.dirty.length))
  else if off = Reg.MEM_OBJ_COUNT then some s.memt.objs.length
  else none

/-- A write through the window has landed (R326, R337). -/
def State.windowLanded (s : State) (a : Nat) (bs : List Byte) (en : List Bool) : State :=
  let s1 : State := { s with mem := s.mem.writeMasked a bs en }
  let s2 := s1.touch a bs.length
  if s.livePlacement a bs.length then
    let s3 := (s2.count 15 10).setBit Reg.MEM_STATUS 0
    { s3 with met := { s3.met with hostWrite := true } }
  else s2

/-! ### The rows -/

/-- PREFETCH_ISSUE (R335). -/
def execPrefetchIssue (slot entry : Nat) (s : State) : Out := .next (s.act (prefetchIssue slot entry))
/-- COPY_COMPLETE (R335). -/
def execCopyComplete (n : Nat) (fault : Bool) (retries : Nat) (corrected : Bool) (s : State) : Out :=
  .next (s.act (copyComplete n fault retries corrected))
/-- WRITE_BACK_COMPLETE (R337). -/
def execWriteBackComplete (n : Nat) (s : State) : Out := .next (s.act (writeBackComplete n))
/-- PROMOTION_COMPLETE (R341). -/
def execPromotionComplete (done : Promotion) (s : State) : Out := .next (s.act (promotionComplete done.home done.lost))
/-- EVICTION_COMPLETE (R342). -/
def execEvictionComplete (home : Nat) (s : State) : Out := .next (s.act (evictionComplete home))
/-- COPY_LATENCY_OVERRUN (R349). -/
def execCopyLatencyOverrun (n : Nat) (s : State) : Out := .next (s.act (copyLatencyOverrun n))
/-- FLASH_SLOT_WRITE (R346). -/
def execFlashSlotWrite (failed spareLeft : Bool) (mean top spare gcBeats : Nat) (gcActive : Bool) (s : State) : Out :=
  .next (s.act (flashSlotWrite failed spareLeft mean top spare gcBeats gcActive))
/-- WEAR_WARNING (R347). -/
def execWearWarning (mean top spare : Nat) (s : State) : Out := .next (s.act (wearWarning mean top spare))
/-- WRITE_LOCK (R347). -/
def execWriteLock (mean top spare : Nat) (s : State) : Out := .next (s.act (writeLock mean top spare))
/-- DRAM_UNCORRECTABLE (R339). -/
def execDramUncorrectable (addr : Nat) (s : State) : Out := .next (s.act (dramUncorrectable addr))
/-- REFRESH_RATE_POLL (R327). -/
def execRefreshRatePoll (mults : List Nat) (s : State) : Out := .next (s.act (refreshRatePoll mults))

end Sys2Proof.Machine
end

