-- ==== Sys2Proof/Machine/Met.lean ====
section
/-! DEFINITION. The Oasis metrology die and its gateway (ch. 17): frames, dimensioning, sealed parameters, records, the UART,
the gateway's copies and events. -/

namespace Sys2Proof.Machine

/-! ### The sealed parameter block (Table 17.4) -/
namespace Mp
def d (b : List Byte) : Nat := leAt b 2 1
def accept (b : List Byte) : Nat := leAt b 3 1
def source (b : List Byte) : Nat := leAt b 4 2
def level (b : List Byte) : Nat := leAt b 6 1
def stableN (b : List Byte) : Nat := leAt b 7 1
def width (b : List Byte) : Nat := leAt b 8 2
def height (b : List Byte) : Nat := leAt b 10 2
def configCrc (b : List Byte) : Nat := leAt b 12 4
def fx (b : List Byte) : Nat := leAt b 16 4
def fy (b : List Byte) : Nat := leAt b 20 4
def cx (b : List Byte) : Int := sleAt b 24 4
def cy (b : List Byte) : Int := sleAt b 28 4
def rot (b : List Byte) (r c : Nat) : Int := sleAt b (32 + 12 * r + 4 * c) 4
def trans (b : List Byte) (r : Nat) : Int := sleAt b (68 + 4 * r) 4
def zone (b : List Byte) (k : Nat) : Int := sleAt b (80 + 2 * k) 2
def hObjMin (b : List Byte) : Nat := leAt b 88 2
def topBand (b : List Byte) : Nat := leAt b 90 2
def minTop (b : List Byte) : Nat := leAt b 92 2
def borderMm (b : List Byte) : Nat := leAt b 94 2
def planeTol (b : List Byte) : Nat := leAt b 96 1
def planeMaxPct (b : List Byte) : Nat := leAt b 97 1
def minPlanePx (b : List Byte) : Nat := leAt b 98 2
def holeMaxPct (b : List Byte) : Nat := leAt b 100 1
def stableMax (b : List Byte) : Nat := leAt b 101 1
def baud (b : List Byte) : Nat := leAt b 102 1
def crc (b : List Byte) : Nat := leAt b 252 4
end Mp

/-- Every field in its range and PARAM_CRC correct (R388, R390). -/
def metParamsOk (b : List Byte) : Bool :=
  b.length == 256 && leAt b 0 2 == 1 && [2, 5, 10].contains (Mp.d b) && rng (Mp.accept b) 0x02 0x1E &&
    rng (Mp.source b) 0x010 0x01F && decide (Mp.level b ≤ 4) && rng (Mp.stableN b) 1 8 && rng (Mp.width b) 64 4096 &&
    rng (Mp.height b) 64 4096 && rng (Mp.hObjMin b) 1 1000 && rng (Mp.topBand b) 1 100 && rng (Mp.minTop b) 16 65535 &&
    decide (Mp.borderMm b ≤ 500) && rng (Mp.planeTol b) 1 50 && decide (Mp.planeMaxPct b ≤ 50) &&
    rng (Mp.minPlanePx b) 100 65535 && decide (Mp.holeMaxPct b ≤ 50) && rng (Mp.stableMax b) 2 255 &&
    decide (Mp.baud b ≤ 5) && zeroIn b 103 252 && Mp.crc b == crc32 (b.take 252)

/-! ### Frames (Table 17.3) -/
namespace Mf
def magic (f : List Byte) : Nat := leAt f 0 4
def seq (f : List Byte) : Nat := leAt f 4 4
def source (f : List Byte) : Nat := leAt f 8 2
def level (f : List Byte) : Nat := leAt f 10 1
def flags (f : List Byte) : Nat := leAt f 11 1
def width (f : List Byte) : Nat := leAt f 12 2
def height (f : List Byte) : Nat := leAt f 14 2
def configCrc (f : List Byte) : Nat := leAt f 32 4
/-- Entry at column `i`, row `j`: DEPTH and DCODE (R198). -/
def depth (f : List Byte) (i j : Nat) : Nat := leAt f (64 + 4 * (j * width f + i)) 2
def dcode (f : List Byte) (i j : Nat) : Nat := leAt f (67 + 4 * (j * width f + i)) 1
/-- MAGIC, length and CRC-32 are right. -/
def sound (f : List Byte) : Bool :=
  let n := 64 + 4 * (width f * height f)
  magic f == 0xC1E97C01 && f.length == n + 4 && leAt f n 4 == crc32 (f.take n)
end Mf

/-! ### Dimensioning (R391 to R394) -/

/-- A point in platform coordinates, 1/16 mm, with its Z. -/
structure MetPt where
  x : Int
  y : Int
  h : Int
  z : Nat
  deriving DecidableEq, Repr

/-- Coordinate `k` of the grid entry at column `i`, row `j`: exact, then rounded once to 1/16 mm (R391). -/
def metCoord (b : List Byte) (i j z k : Nat) : Int :=
  let fx : Int := Mp.fx b; let fy : Int := Mp.fy b
  if Mp.fx b = 0 ∨ Mp.fy b = 0 then Config.oasisPoint i j z k
  else
    let xn := ((i : Int) * 65536 - Mp.cx b) * z
    let yn := ((j : Int) * 65536 - Mp.cy b) * z
    let num := 16 * (Mp.rot b k 0 * xn * fy + Mp.rot b k 1 * yn * fx + Mp.rot b k 2 * z * fx * fy) + Mp.trans b k * fx * fy * 2 ^ 26
    rneDiv num (Mp.fx b * Mp.fy b * 2 ^ 30)

/-- An entry's DCODE is accepted and its DEPTH is not 0. -/
def metAccepted (b f : List Byte) (i j : Nat) : Bool := (Mp.accept b).testBit (Mf.dcode f i j) && Mf.depth f i j != 0

/-- Points of the frame with accepted depth. -/
def metPoints (b f : List Byte) : List MetPt :=
  (List.range (Mf.height f)).flatMap (fun j => (List.range (Mf.width f)).filterMap (fun i =>
    if metAccepted b f i j then
      let z := Mf.depth f i j
      some ⟨metCoord b i j z 0, metCoord b i j z 1, metCoord b i j z 2, z⟩
    else none))

/-- The point lies in the measuring zone. -/
def MetPt.inZone (b : List Byte) (p : MetPt) : Bool :=
  decide (16 * Mp.zone b 0 ≤ p.x) && decide (p.x ≤ 16 * Mp.zone b 1) && decide (16 * Mp.zone b 2 ≤ p.y) &&
    decide (p.y ≤ 16 * Mp.zone b 3)

/-- The point lies within BORDER_MM of a zone edge. -/
def MetPt.atEdge (b : List Byte) (p : MetPt) : Bool :=
  let m : Int := 16 * Mp.borderMm b
  decide (p.x ≤ 16 * Mp.zone b 0 + m) || decide (16 * Mp.zone b 1 - m ≤ p.x) || decide (p.y ≤ 16 * Mp.zone b 2 + m) ||
    decide (16 * Mp.zone b 3 - m ≤ p.y)

def MetPt.isObject (b : List Byte) (p : MetPt) : Bool := decide (16 * (Mp.hObjMin b : Int) ≤ p.h)

/-- Points of each whole millimetre of height. -/
def metBins (pts : List MetPt) : SMap Nat :=
  pts.foldl (fun m p => SMap.upd 0 m (p.h / 16).toNat (· + 1)) []

/-- H_raw, mm. -/
def metHeight (b : List Byte) (objs : List MetPt) : Option Nat :=
  (((metBins objs).filter (fun e => decide (Mp.minTop b ≤ e.2))).getLast?).map (fun e => e.1)

/-- Extent of a list of values. -/
def extent (l : List Int) : Int := l.foldl max (l.headD 0) - l.foldl min (l.headD 0)

/-- ΔU and ΔV at rotation `k`, 1/16 mm × 2^30. -/
def metExtents (top : List MetPt) (k : Nat) : Int × Int :=
  let c := cos30 (1024 * k); let sn := sin30 (1024 * k)
  (extent (top.map (fun p => p.x * c + p.y * sn)), extent (top.map (fun p => p.y * c - p.x * sn)))

/-- The footprint of least area, the lowest rotation on a tie. -/
def metFootprint (top : List MetPt) : Int × Int :=
  ((List.range 64).map (metExtents top)).foldl (fun a e => if e.1 * e.2 < a.1 * a.2 then e else a) (metExtents top 0)

/-- q(Δ + E), with Δ in 1/16 mm × 2^30 and E = z ÷ FX (R393). -/
def metIndicate (b : List Byte) (delta : Int) (z : Nat) : Int :=
  let d : Int := Mp.d b
  if Mp.fx b = 0 then d * ((2 * (delta + Config.oasisE z) + d * 2 ^ 34) / (2 * d * 2 ^ 34))
  else
    let den : Int := 2 ^ 34 * Mp.fx b
    let num : Int := delta * Mp.fx b + (z : Int) * 2 ^ 50
    d * ((2 * num + d * den) / (2 * d * den))

/-- What a frame is judged to be (R394). -/
inductive MetVerdict where
  | invalid (cause : Nat)
  | empty
  | candidate (l w h : Nat)
  deriving DecidableEq, Repr

/-- Checks 7 on, for a frame that passes 1 to 6. -/
def metMeasure (b f : List Byte) : MetVerdict :=
  let all := metPoints b f
  let pts := all.filter (fun p => p.inZone b)
  let objs := pts.filter (fun p => p.isObject b)
  let plat := pts.filter (fun p => !p.isObject b)
  let off := plat.filter (fun p => decide (16 * (Mp.planeTol b : Int) < p.h.natAbs))
  let cells := Mf.width f * Mf.height f
  if plat.length < Mp.minPlanePx b ∨ Mp.planeMaxPct b * plat.length < 100 * off.length then .invalid 7
  else if objs.length < Mp.minTop b then .empty
  else if Mp.holeMaxPct b * cells < 100 * (cells - all.length) then .invalid 8
  else if objs.any (fun p => p.atEdge b) then .invalid 9
  else
    match metHeight b objs with
    | none => .invalid 10
    | some hr =>
      let top := objs.filter (fun p => decide (16 * ((hr : Int) - Mp.topBand b) ≤ p.h))
      let zs := (top.map (fun p => (p.z : Int)))
      let z := (medianOf zs).toNat
      let e := metFootprint top
      let l := metIndicate b (max e.1 e.2) z
      let w := metIndicate b (min e.1 e.2) z
      let d : Int := Mp.d b
      let h := d * ((2 * (hr : Int) + d) / (2 * d))
      let least : Int := if Mp.d b = 10 then 200 else 100
      if l < least ∨ w < least ∨ h < least then .invalid 11
      else if 2400 < l ∨ 2400 < w ∨ 2400 < h then .invalid 12
      else .candidate l.toNat w.toNat h.toNat

/-- The verdict on a complete frame: the checks of Table 17.5 in order. -/
def Oasis.judge (o : Oasis) (f : List Byte) : MetVerdict :=
  let b := o.params
  if !o.paramOk || !o.imageOk then .invalid 1
  else if !Mf.sound f then .invalid 2
  else if (Mf.flags f).testBit 5 then .invalid 3
  else if bits (Mf.flags f) 1 4 != 0 then .invalid 4
  else if Mf.source f != Mp.source b || Mf.level f != Mp.level b || Mf.width f != Mp.width b || Mf.height f != Mp.height b then
    .invalid 5
  else if Mf.configCrc f != Mp.configCrc b then .invalid 6
  else metMeasure b f

/-! ### Identification, records, the UART (R390, R396 to R398) -/

def MetImage.data (m : MetImage) : List Byte := m.bytes.readBytes 0 m.len
def MetImage.crc (m : MetImage) : Nat := if m.len = 0 then Config.oasisDeliveredCrc % 2 ^ 32 else crc32 m.data
def MetImage.version (m : MetImage) : Nat :=
  (if m.len = 0 then Config.oasisDeliveredVersion else Config.oasisVersion m.data) % 2 ^ 32
/-- The signature check of IMAGE_COMMIT. -/
def MetImage.passes (m : MetImage) : Bool :=
  if m.len = 0 then Config.oasisDeliveredOk else Config.oasisImageOk m.data m.sig

def Oasis.full (o : Oasis) : Bool := decide (65535 ≤ o.counter)

/-- RESULT_SEQ of the last record issued. -/
def Oasis.lastIssued (o : Oasis) : Nat := (o.issued + 2 ^ 32 - 1) % 2 ^ 32

/-- The identification record (Table 17.7). -/
def Oasis.ident (o : Oasis) : List Byte :=
  leBytes 4 o.image.version ++ leBytes 4 o.image.crc ++ leBytes 4 (Mp.crc o.params) ++ leBytes 4 o.counter ++
    [BitVec.ofNat 8 (b2n o.sealed + 2 * b2n o.paramOk + 4 * b2n o.imageOk + 8 * b2n o.full + 16 * b2n o.frame.isSome),
     BitVec.ofNat 8 o.lastCause] ++
    leBytes 2 o.dropped ++ leBytes 4 o.received ++ leBytes 4 (if o.issued = 0 then 0 else o.lastIssued) ++ leBytes 4 o.refused

/-- Send on MET_TX; on the result path; on both. -/
def Oasis.tx (o : Oasis) (type : Nat) (bs : List Byte) : Oasis := { o with txOut := o.txOut ++ [(type, bs)] }
def Oasis.send (o : Oasis) (type : Nat) (bs : List Byte) : Oasis := { o with path := o.path ++ [(type, bs)] }
def Oasis.identBoth (o : Oasis) : Oasis := (o.tx 0x02 o.ident).send 0x02 o.ident

/-- A MET_TX frame's bytes (R398). -/
def metTxFrame (e : Nat × List Byte) : List Byte :=
  let body := leBytes 1 e.1 ++ leBytes 2 e.2.length ++ e.2
  (0xA5 : Byte) :: body ++ leBytes 4 (crc32 body)

/-- Issue a result record (R396): cause 0 is a valid one with its dimensions. -/
def Oasis.issue (o : Oasis) (f : List Byte) (cause : Nat) (dims : Nat × Nat × Nat) : Oasis :=
  let body := leBytes 4 0xC1E97B01 ++ leBytes 4 (o.issued % 2 ^ 32) ++ leBytes 4 o.counter ++ leBytes 4 o.image.version ++
    leBytes 4 o.image.crc ++ leBytes 4 (Mp.crc o.params) ++ leBytes 4 (Mf.seq f) ++
    [BitVec.ofNat 8 (b2n (cause != 0)), BitVec.ofNat 8 cause,
     BitVec.ofNat 8 (b2n (!o.frameSealed) + 2 * b2n o.full + 4 * b2n (o.issued == 0)), BitVec.ofNat 8 (Mp.d o.params)] ++
    leBytes 2 dims.1 ++ leBytes 2 dims.2.1 ++ leBytes 2 dims.2.2 ++ zeros 2 ++ leBytes 8 (leAt f 16 8) ++ leBytes 8 (leAt f 24 8) ++
    leBytes 2 (Mf.source f) ++ leBytes 1 (Mf.level f) ++ zeros 1
  let r := body ++ leBytes 4 (crc32 body)
  let o1 : Oasis := { o with
    issued := o.issued + 1, lastCause := if cause = 0 then o.lastCause else cause,
    run := { o.run with lastRecord := some cause, valid := o.run.valid || cause == 0 } }
  (o1.tx 0x01 r).send 0x01 r

/-- The run rules on a candidate (R395). -/
def Oasis.candidate (o : Oasis) (f : List Byte) (dims : Nat × Nat × Nat) : Oasis :=
  let r := o.run
  match r.held with
  | some v =>
    if v = dims then o else { o with run := { r with held := none, agree := 0, dims := dims } }
  | none =>
    let n := if r.dims = dims then r.agree + 1 else 1
    let o1 : Oasis := { o with run := { r with agree := n, dims := dims } }
    if n = Mp.stableN o.params then
      ({ o1 with run := { o1.run with held := some dims } }).issue f 0 dims
    else o1

/-- One invalid record with cause 13 when STABLE_MAX frames of a run have passed without a valid record. -/
def Oasis.unstable (o : Oasis) (f : List Byte) : Oasis :=
  if Mp.stableMax o.params ≤ o.run.frames ∧ !o.run.valid ∧ !o.run.unstable then
    ({ o with run := { o.run with unstable := true } }).issue f 13 (0, 0, 0)
  else o

/-- The run rules (R395) on a frame with its verdict. -/
def Oasis.runRules (o : Oasis) (f : List Byte) (v : MetVerdict) : Oasis :=
  let follows := match o.run.lastSeq with
    | some n => decide (Mf.seq f = (n + 1) % 2 ^ 32)
    | none => false
  let restart := (Mf.flags f).testBit 0 || !follows
  let r0 := o.run
  let r1 : MetRun := { r0 with lastSeq := some (Mf.seq f), agree := if restart then 0 else r0.agree, frames := r0.frames + 1 }
  let o1 : Oasis := { o with run := r1 }
  match v with
  | .empty => { o with run := { MetRun.reset with lastSeq := some (Mf.seq f) } }
  | .invalid c =>
    let o2 : Oasis := { o1 with run := { r1 with agree := 0 } }
    (if r1.lastRecord = some c then o2 else o2.issue f c (0, 0, 0)).unstable f
  | .candidate l w h => (o1.candidate f (l, w, h)).unstable f

/-! ### Start, seal, requests (R387 to R390, R398) -/

/-- Oasis starts (R390): both checks, counts from 0, identification on MET_TX and the result path. -/
def Oasis.start (o : Oasis) : Oasis :=
  let useSpare := !metParamsOk o.params && metParamsOk o.spare
  let o1 : Oasis := { o with
    started := true, params := if useSpare then o.spare else o.params, spare := if useSpare then o.params else o.spare,
    staged := none, imageOk := o.image.passes, paramOk := metParamsOk o.params || metParamsOk o.spare, issued := 0,
    lastCause := 0, dropped := 0, received := 0, refused := 0, rx := none, frame := none, waiting := [], run := MetRun.reset }
  o1.identBoth

/-- An entry of the event log (R389): the last 256 are kept. -/
def Oasis.logEntry (o : Oasis) (kind crc : Nat) : Oasis :=
  let l := o.log ++ [leBytes 4 o.counter ++ leBytes 1 kind ++ zeros 3 ++ leBytes 4 crc ++ zeros 4]
  { o with log := l.drop (l.length - 256) }

/-- A RESPONSE frame: request TYPE and status. -/
def Oasis.respond (o : Oasis) (type status : Nat) : Oasis := o.tx 0x05 (leBytes 1 type ++ leBytes 1 status)

/-- A write request while sealed: status 1, counted, and a refusal notice on the result path (R388, R398). -/
def Oasis.refuse (o : Oasis) (type : Nat) : Oasis :=
  let o1 : Oasis := { o with refused := min (o.refused + 1) (2 ^ 32 - 1) }
  (o1.respond type 1).send 0x02 o1.ident

/-- PARAM_COMMIT while unsealed (R388). -/
def Oasis.commitParams (o : Oasis) : Oasis :=
  if o.full then o.respond 0x85 3
  else
    match o.staged with
    | none => o.respond 0x85 2
    | some b =>
      if !metParamsOk b then o.respond 0x85 2
      else if b = o.params then ({ o with staged := none, paramOk := true }).respond 0x85 0
      else
        let o1 := ({ o with counter := o.counter + 1 }).logEntry 1 (Mp.crc b)
        let o2 : Oasis := { o1 with spare := o.params, params := b, staged := none, paramOk := true }
        (o2.respond 0x85 0).identBoth

/-- IMAGE_LOAD while unsealed (R390): a fragment into the inactive bank of 1,536 KiB. -/
def Oasis.loadImage (o : Oasis) (offset : Nat) (bs : List Byte) : Oasis :=
  if bs.isEmpty || decide (1024 < bs.length) || decide (1572864 < offset + bs.length) then o.respond 0x86 2
  else ({ o with load := { o.load with bytes := o.load.bytes.writeBytes offset bs } }).respond 0x86 0

/-- IMAGE_COMMIT while unsealed: verify, count, log, switch the banks, restart (R390). -/
def Oasis.commitImage (o : Oasis) (len : Nat) (sig : List Byte) : Oasis :=
  if o.full then o.respond 0x87 3
  else if len = 0 ∨ 1572864 < len ∨ sig.length ≠ 96 then o.respond 0x87 2
  else
    let m : MetImage := ⟨o.load.bytes, len, sig⟩
    if !m.passes then o.respond 0x87 4
    else
      let o1 := ({ o with counter := o.counter + 1 }).logEntry 2 m.crc
      (({ o1 with image := m, load := o.image }).respond 0x87 0).start

/-- Serve a parameter or image request by its TYPE (Table 17.8). -/
def Oasis.serve (o : Oasis) (type : Nat) (x : List Byte) : Oasis :=
  match type with
  | 0x83 => (o.respond 0x83 0).tx 0x04 o.params
  | 0x84 => if x.length = 256 then ({ o with staged := some x }).respond 0x84 0 else o.respond 0x84 2
  | 0x85 => o.commitParams
  | 0x86 => o.loadImage (leAt x 0 4) (x.drop 4)
  | 0x87 => o.commitImage (leAt x 0 4) (x.drop 4)
  | _ => o

/-- A parameter or image request (R388, R398): writes are refused while sealed; while unsealed a request waits for the frame being
processed. -/
def Oasis.request (o : Oasis) (type : Nat) (x : List Byte) : Oasis :=
  if !o.started then o
  else if o.sealed then (if type = 0x83 then o.serve type x else o.refuse type)
  else if o.frame.isSome then { o with waiting := o.waiting ++ [(type, x)] }
  else o.serve type x

/-- The requests that waited, once the frame is done. -/
def Oasis.serveWaiting (o : Oasis) : Oasis :=
  o.waiting.foldl (fun (x : Oasis) (e : Nat × List Byte) => x.request e.1 e.2) { o with waiting := [] }

/-- A debounced level of SEAL_N (R387). -/
def Oasis.seal (o : Oasis) (high : Bool) : Oasis :=
  let sealed := !high
  if o.sealed = sealed then o
  else
    let o1 : Oasis := { o with sealed := sealed, staged := if sealed then none else o.staged }
    if !o.started then o1 else (o1.logEntry (if sealed then 4 else 3) 0).identBoth

def Oasis.drop (o : Oasis) : Oasis := { o with dropped := min (o.dropped + 1) 65535 }

def State.oasis (s : State) (f : Oasis → Oasis) : State := { s with met := { s.met with oasis := f s.met.oasis } }

/-- A start, a seal change or a request of MET_RX on a running Oasis. -/
def State.onOasis (s : State) (f : Oasis → Oasis) : State := if s.met.oasis.started then s.oasis f else s

/-! ### The gateway: source and configuration (R380, R381) -/

def zeroAt (bs : List Byte) (ofs n : Nat) : List Byte := patch bs ofs (zeros n)

/-- KIND 1 entry of the stream in the block, ANCHOR 1, LEVELS[0] (R380), and its grid of at most 393,216 entries. -/
def metFits (image b : List Byte) (es : List (List Byte)) (stream : Nat) : Option (Nat × Nat) :=
  let named := es.any (fun e => Ue.kind e == 1 && Ue.func e == stream)
  let l := if Ub.pixPair b = 0xFF then 0
    else match pairBlockOf image (Ub.pixPair b) with | some p => Pb.bot p | none => 0
  match visBlockOf image stream with
  | none => none
  | some vb =>
    let w := Vb.width vb l; let h := Vb.height vb l
    if named && Ub.anchor b == 1 && (Ub.levels b).testBit 0 && decide (w * h ≤ 393216) then some (w, h) else none

/-- The block context that qualifies with a stream (R380): the lowest. -/
def State.metCandidate (s : State) (stream : Nat) : Option Nat :=
  (s.fus.ctxs.find? (fun x => x.2.on && (metFits (s.img x.2.slot) x.2.block x.2.entries stream).isSome)).map (fun x => x.1)

/-- A VIS stream block and its grid CRC as items of R381. -/
def visItem (vb : List Byte) : List Byte := zeroAt (zeroAt (zeroAt vb 32 8) 40 8) 48 8

/-- The items of R381 for a context. -/
def State.metItems (s : State) (f : Nat) : List Byte :=
  let c := s.fusCtx f
  let image := s.img c.slot
  let e := match c.camera with | some i => c.entry i | none => []
  let vis := fun (st : Nat) => visItem ((visBlockOf image st).getD [])
  let grid := fun (st : Nat) => leBytes 4 (s.regN (Reg.VIS_STRM_GRID_CRC (st - 0x010)))
  let depth := if Ub.pixPair c.block = 0xFF then vis (Ue.func e) ++ grid (Ue.func e)
    else
      let p := (pairBlockOf image (Ub.pixPair c.block)).getD []
      zeroAt (zeroAt p 16 16) 32 8 ++ vis (Pb.left p) ++ vis (Pb.right p) ++ grid (Pb.left p) ++ grid (Pb.right p)
  let models := (c.ofKind 5).flatMap (fun i => (image.drop (Ue.addr (c.entry i))).take 128)
  zeroAt c.block 40 16 ++ zeroAt e 24 8 ++ depth ++ models

/-- Step 2 of a boundary: MET_SELECT takes effect, the source is looked for, CONFIG_CRC is computed (R380, R381). The window writes of a
frame's cadence are counted anew where the Route of its block opens one. -/
def State.metBoundary (s : State) : State :=
  let s1 := match s.met.selDue with
    | some (id, n) => { s with met := { s.met with selDue := none } }.setRegN Reg.MET_SOURCE (id + 65536 * n)
    | none => s
  let stream := s1.fld Reg.MET_SOURCE 0 16
  let c := if stream = 0 then none else s1.metCandidate stream
  let opens := match c with
    | some f => s1.ccu.cadence % max 1 (Img.stride (s1.img (s1.fusCtx f).slot)) == Img.phase (s1.img (s1.fusCtx f).slot)
    | none => true
  let m := if opens then { s1.met with
      cand := c, taken := false, hostWrite := false,
      snap := s1.met.snap.map (fun (x : MetSend) => { x with host := some (x.host.getD s1.met.hostWrite) }) }
    else { s1.met with cand := c }
  let s2 := ({ s1 with met := m }).setRegN Reg.MET_CONFIG_CRC (match c with | some f => crc32 (s1.metItems f) | none => 0)
  if stream ≠ 0 ∧ c = none then (s2.setBit Reg.MET_GW_STATUS 3).count 15 19 else s2

/-- The channel enters STARTING, and goes OFF (R383, R385). -/
def State.metStart (s : State) : State := { s with met := { s.met with sent := 0 } }
def State.metOff (s : State) : State := { s with met := { s.met with snap := none, tx := none } }

/-- Its start condition, an identification record within the last 300 ms, and the end of its drain (R385, R399). -/
def State.metPresent (s : State) : Bool := s.bitOf Reg.MET_GW_STATUS 2 && decide (s.heldCore < s.met.identAt + usCore 300000)
def State.metDrained (s : State) : Bool := s.met.snap.isNone && s.met.tx.isNone

def State.metStage (s : State) : Nat := s.pair Reg.MET_STAGE_BASE_LO Reg.MET_STAGE_BASE_HI

/-- The 64-byte header of the metrology frame of fusion context `c` (Table 17.3). -/
def State.metHeader (s : State) (c : FusCtx) : List Byte :=
  let g := s.fusGrid c
  let rec_ := s.ldB (c.area 0) 32
  let rf := leAt rec_ 2 1
  let flags := b2n (s.met.sent == 0) + 2 * b2n (rf.testBit 1) + 4 * b2n (rf.testBit 2) + 8 * b2n (rf.testBit 4) +
    16 * b2n (rf.testBit 3) + 32 * b2n ((s.met.snap.bind (fun (x : MetSend) => x.host)).getD s.met.hostWrite)
  leBytes 4 0xC1E97C01 ++ leBytes 4 (s.met.sent % 2 ^ 32) ++ leBytes 2 (s.fld Reg.MET_SOURCE 0 16) ++ leBytes 1 g.1 ++
    leBytes 1 flags ++ leBytes 2 g.2.1 ++ leBytes 2 g.2.2 ++ leBytes 8 (leAt rec_ 8 8) ++ leBytes 8 c.cadence ++
    leBytes 4 (s.regN Reg.MET_CONFIG_CRC) ++ zeros 28

/-- The frame's header and grid rows, without padding (R383). -/
def State.metBody (s : State) (c : FusCtx) : List Byte :=
  let g := s.fusGrid c
  s.metHeader c ++ (List.range g.2.2).flatMap (fun y => s.ldB (Ub.pixBase c.block + y * pad64 (4 * g.2.1)) (4 * g.2.1))

/-- SNAPSHOT_COMPLETE (R382): header and entries into the staging area, and the start of transmission. -/
def metSnapshot (s0 : State) : State :=
  match s0.met.snap with
  | none => s0
  | some sn =>
    let s := s0.runTo sn.by_
    let c := s.fusCtx sn.ctx
    let g := s.fusGrid c
    let body := s.metBody c
    let s1 := s.chargePool 2 0 (memTok (Ub.pixBase c.block) (4 * g.2.1 * g.2.2)) none
    let s2 := if (addrRow s.metStage body.length).isSome then s1.stB s.metStage body else s1
    let tx : MetSend := ⟨sn.ctx, s.core + ceilDiv (24 * (body.length + 4)) 10, body.length, crc32 body, none⟩
    let s3 := { s2 with met := { s2.met with snap := none, tx := some tx } }
    (s3.count 15 18).onOasis (fun o => { o with rx := some ⟨o.frame.isSome, s.core, s.metHeader c⟩ })

/-- The frame `f` that Oasis was receiving is whole: dropped and counted where it came while the buffer was full, else held and counted
(R384). -/
def Oasis.arrive (o : Oasis) (core : Nat) (f : List Byte) : Oasis :=
  match o.rx with
  | none => o
  | some x =>
    if x.busy then { o.drop with rx := none }
    else { o with rx := none, frame := some f, frameAt := core, frameSealed := o.sealed, received := (o.received + 1) % 2 ^ 32 }

/-- METROLOGY_FRAME (R384): the last byte arrives; a busy Oasis has discarded the frame, an idle one processes it. -/
def metFrame (s0 : State) : State :=
  match s0.met.tx with
  | none => s0
  | some t =>
    let s := s0.runTo t.by_
    let f := s.ldB s.metStage t.len ++ leBytes 4 t.crc
    let s1 := { s with met := { s.met with tx := none, sent := s.met.sent + 1 } }
    let s2 := (s1.setRegN Reg.MET_FRAME_SEQ (s.met.sent % 2 ^ 32)).count 15 17
    s2.onOasis (fun o => o.arrive s2.core f)

/-- The clock comes to `n` CORE cycles after `since`, an instant of Oasis; a clock that a reset of the compute die has restarted stays. -/
def State.oasisTo (s : State) (since n : Nat) : State :=
  if !s.crb.released || decide (s.core < since) then s else s.runTo (since + n)

/-- FRAME_TRUNCATED (R384): 10 ms after its first byte only `n` bytes have come. It is cause 2, as R384 has it where Table 17.5 lists a
truncated frame beside cause 1, but cause 1 where PARAM_OK or IMAGE_OK is clear (R390; assumption log 36). -/
def metTruncated (n : Nat) (s0 : State) : State :=
  match s0.met.oasis.rx with
  | none => s0
  | some x =>
    let s := s0.oasisTo x.since (usCore 10000)
    ({ s with met := { s.met with tx := none } }).onOasis (fun o =>
      let o1 : Oasis := { o.drop with rx := none }
      if x.busy then o1
      else ({ o1 with frameSealed := o.sealed }).runRules (x.header.take n) (.invalid (if o.paramOk && o.imageOk then 2 else 1)))

/-- Processing time of a frame, CORE cycles: 200 µs + 24 ns × W_l × H_l (R384). -/
def metCycles (f : List Byte) : Nat := ceilDiv ((200000 + 24 * (Mf.width f * Mf.height f)) * 12) 10

/-- FRAME_PROCESSED (R394, R395); the requests that waited for it are served (R398). -/
def metProcessed (s0 : State) : State :=
  match s0.met.oasis.frame with
  | none => s0
  | some f =>
    (s0.oasisTo s0.met.oasis.frameAt (metCycles f)).onOasis (fun o =>
      (({ o with frame := none }).runRules f (o.judge f)).serveWaiting)

/-! ### The gateway: records (R399, R400) -/

/-- Unread records of the ring. -/
def Met.unread (m : Met) : Nat := (m.ring.filter (fun e => e.1)).length
def State.showUnread (s : State) : State := s.setRegN Reg.MET_RESULT_COUNT s.met.unread

def State.metEvent (s : State) (status detail : Nat) (r : List Byte) : State := s.event 15 0xFF0A status detail 0x87 r

/-- A result record arrives: ring, status bits, event (R399, Table 17.9). -/
def State.gwResult (s : State) (r : List Byte) : State :=
  let spent := decide (256 ≤ s.met.unread)
  let ring := s.met.ring ++ [(true, r)]
  let m := { s.met with ring := ring.drop (ring.length - 256), lastSeq := leAt r 4 4 }
  let s1 := ({ s with met := m }).showUnread
  let s2 := if spent then s1.setBit Reg.MET_GW_STATUS 5 else s1
  if leAt r 28 1 = 1 then
    (s2.setBit Reg.MET_GW_STATUS 6).metEvent St.metrologyInvalid (leAt r 29 1)
      (result [(20, 4, leAt r 4 4), (24, 4, leAt r 24 4), (28, 4, leAt r 8 4)])
  else
    s2.metEvent St.ok 0x23
      (result [(20, 2, leAt r 32 2), (22, 2, leAt r 34 2), (24, 2, leAt r 36 2), (26, 1, leAt r 31 1), (28, 4, leAt r 4 4)])

/-- STATE with bit 4 replaced by PRESENT. -/
def presentState (r : List Byte) (p : Bool) : Nat := putBits (leAt r 16 1) 4 1 (b2n p)

/-- An identification record arrives (R399, R400). -/
def State.gwIdent (s : State) (r : List Byte) : State :=
  let m := { s.met with ident := some r, identAt := s.core }
  let s1 := (((({ s with met := m }).setRegN Reg.MET_IDENT_VERSION (leAt r 0 4)).setRegN Reg.MET_IDENT_CRC (leAt r 4 4)).setRegN
    Reg.MET_PARAM_CRC (leAt r 8 4)).setRegN Reg.MET_EVENT_COUNT (leAt r 12 4)
  let s2 := (s1.setRegN Reg.MET_IDENT_STATE (presentState r true + 256 * leAt r 17 1 + 65536 * leAt r 18 2)).setBit
    Reg.MET_GW_STATUS 2
  match s.met.ident with
  | none => s2
  | some q =>
    let s3 := if leAt q 28 4 < leAt r 28 4 then
        s2.metEvent St.sealed_ 0x20 (result [(20, 4, leAt r 28 4), (28, 4, leAt r 12 4)]) else s2
    let s4 := if leAt q 16 1 % 2 ≠ leAt r 16 1 % 2 then
        s3.metEvent St.ok 0x21 (result [(20, 1, leAt r 16 1), (28, 4, leAt r 12 4)]) else s3
    if leAt q 12 4 ≠ leAt r 12 4 ∨ leAt q 8 4 ≠ leAt r 8 4 ∨ leAt q 4 4 ≠ leAt r 4 4 then
      s4.metEvent St.ok 0x22 (result [(20, 4, leAt r 12 4), (24, 4, leAt r 8 4), (28, 4, leAt r 4 4)])
    else s4

/-- Take the head of the result path when it has the type; a stopped compute die loses it. -/
def gwTake (type : Nat) (f : State → List Byte → State) (s : State) : State :=
  match s.met.oasis.path with
  | (t, r) :: rest =>
    if t = type then
      let s1 := s.oasis (fun o => { o with path := rest })
      if s.alive then f s1 r else s1
    else s
  | [] => s

/-- IDENT_TIMEOUT (R400). -/
def identTimeout (s : State) : State :=
  if !s.bitOf Reg.MET_GW_STATUS 2 then s
  else
    let s1 := s.runTo (s.met.identAt + usCore 300000)
    let s2 := (s1.clrBit Reg.MET_GW_STATUS 2).clrBit Reg.MET_IDENT_STATE 4
    s2.metEvent St.metrologyInvalid 0x30 (result [(20, 4, s.met.lastSeq)])

/-- RESULT_PATH_DISCARD (R378). -/
def pathDiscard (s : State) : State := (s.setBit Reg.MET_GW_STATUS 7).count 15 20

/-! ### The 0x0Axx commands -/

def metAbsent : Reply := ⟨St.metrologyInvalid, 0x30, zeros 12⟩

/-- MET_IDENT (R399). -/
def bodyMetIdent (_p : CmdPacket) (s : State) : Reply × State :=
  match s.met.ident with
  | some r => if s.metPresent then (Reply.ok [(20, 4, leAt r 0 4), (24, 4, leAt r 4 4), (28, 1, presentState r true)], s) else (metAbsent, s)
  | none => (metAbsent, s)

/-- MET_COUNTER. -/
def bodyMetCounter (_p : CmdPacket) (s : State) : Reply × State :=
  match s.met.ident with
  | some r => if s.metPresent then (Reply.ok [(20, 4, leAt r 12 4)], s) else (metAbsent, s)
  | none => (metAbsent, s)

/-- A resident block that would qualify with a stream: grid entries and the period of its Route. -/
def State.metResident (s : State) (stream : Nat) : Option (Nat × Nat) :=
  (slotList.flatMap (fun n =>
    let image := s.img n
    (fusStages image).filterMap (fun d =>
      (metFits image (fusBlock image d) (fusEntries image d) stream).map (fun wh => (wh.1 * wh.2, Img.period image))))).head?

/-- MET_SELECT (R380). -/
def bodyMetSelect (p : CmdPacket) (s : State) : Reply × State :=
  let id := param p 16 2; let n := param p 18 1
  if !rng id 0x010 0x01F || decide (1 < n) then (Reply.bad 0xB3, s)
  else
    match s.metResident id with
    | none => (Reply.bad 0xB4, s)
    | some (cells, period) =>
      if period < 2 * (68 + 4 * cells) + 200000 + 24 * cells then (Reply.bad 0xB5, s)
      else if s.met.oasis.sealed && id != Mp.source s.met.oasis.params then (⟨St.sealed_, 0xB6, zeros 12⟩, s)
      else (Reply.ok [(20, 2, id)], { s with met := { s.met with selDue := some (id, n) } })

/-- Mark the first `n` unread records read. -/
def markRead : Nat → List (Bool × List Byte) → List (Bool × List Byte)
  | 0, l => l
  | _, [] => []
  | n + 1, (true, r) :: rest => (false, r) :: markRead n rest
  | n, (false, r) :: rest => (false, r) :: markRead n rest

/-- MET_RESULT_READ (R399). -/
def bodyMetResultRead (p : CmdPacket) (s : State) : Reply × State :=
  let n := param p 24 2
  if n = 0 ∨ 256 < n then (Reply.bad 0xB7, s)
  else
    let recs := ((s.met.ring.filter (fun e => e.1)).take n).map (fun e => e.2)
    let s1 := s.hostSt (param p 16 8) (recs.flatMap id)
    let s2 := ({ s1 with met := { s1.met with ring := markRead n s1.met.ring } }).showUnread
    (Reply.accepted, s2.longDone s.longKey St.ok 0 (result [(20, 2, recs.length)]))

/-! ### The rows -/

/-- SNAPSHOT_COMPLETE (R382). -/
def execSnapshotComplete (s : State) : Out := .next (s.act metSnapshot)
/-- METROLOGY_FRAME (R384). -/
def execMetrologyFrame (s : State) : Out := .next (s.act metFrame)
/-- FRAME_TRUNCATED (R384). -/
def execFrameTruncated (got : Nat) (s : State) : Out := .next (metTruncated got s)
/-- FRAME_PROCESSED (R395). -/
def execFrameProcessed (s : State) : Out := .next (metProcessed s)
/-- SEAL_CHANGE (R387). -/
def execSealChange (high : Bool) (s : State) : Out := .next (s.oasis (fun o => o.seal high))
/-- IDENT_PERIOD (R397). -/
def execIdentPeriod (s : State) : Out := .next (s.onOasis (fun o => o.send 0x02 o.ident))
/-- OASIS_START (R390). -/
def execOasisStart (s : State) : Out := .next (s.oasis Oasis.start)
/-- IDENT_REQ (R398). -/
def execIdentReq (s : State) : Out := .next (s.onOasis (fun o => (o.respond 0x81 0).identBoth))
/-- LOG_REQ (R389): all held entries, oldest first. -/
def execLogReq (s : State) : Out :=
  .next (s.onOasis (fun o => o.log.foldl (fun (x : Oasis) e => x.tx 0x03 e) (o.respond 0x82 0)))
/-- PARAM_READ (R398). -/
def execParamRead (s : State) : Out := .next (s.oasis (fun o => o.request 0x83 []))
/-- PARAM_WRITE (R388): a block of 256 bytes is staged. -/
def execParamWrite (block : List Byte) (s : State) : Out :=
  .next (s.oasis (fun o => o.request 0x84 block))
/-- PARAM_COMMIT (R388). -/
def execParamCommit (s : State) : Out := .next (s.oasis (fun o => o.request 0x85 []))
/-- IMAGE_LOAD (R390). -/
def execImageLoad (offset : Nat) (bytes : List Byte) (s : State) : Out :=
  .next (s.oasis (fun o => o.request 0x86 (leBytes 4 offset ++ bytes)))
/-- IMAGE_COMMIT (R390). -/
def execImageCommit (len : Nat) (sig : List Byte) (s : State) : Out :=
  .next (s.oasis (fun o => o.request 0x87 (leBytes 4 len ++ sig)))
/-- RESULT_RECORD (R399). -/
def execResultRecord (s : State) : Out := .next (gwTake 0x01 State.gwResult s)
/-- IDENTIFICATION_RECORD (R399). -/
def execIdentificationRecord (s : State) : Out := .next (gwTake 0x02 State.gwIdent s)
/-- RESULT_PATH_DISCARD (R378). -/
def execResultPathDiscard (s : State) : Out := .next (s.act pathDiscard)
/-- IDENT_TIMEOUT (R400). -/
def execIdentTimeout (s : State) : Out := .next (s.act identTimeout)
/-- MET_RX_DISCARD (R398): a frame with a wrong CRC or an undefined TYPE changes nothing and is not answered. -/
def execMetRxDiscard (s : State) : Out := .next s

end Sys2Proof.Machine
end

