-- ==== Sys2Proof/Machine/Obs.lean ====
section
/-! DEFINITION. Observability (ch. 18): engine banks and counters, monitors, trace, tensor dumps, the Brake, scan-out. -/

namespace Sys2Proof.Machine

/-! ### Engine banks and counters (R402 to R407) -/

/-- Engines of a subsystem (Table 18.1). -/
def engineCount (sub : Nat) : Nat :=
  match sub with
  | 3 => 16 | 4 => 2 | 5 => 2 | 6 => 2 | 7 => 64 | 8 => 3 | 9 => 8 | 10 => 64 | 11 => 4 | 14 => 4 | 15 => 1 | _ => 0

/-- Event counters of a subsystem (Table 18.4). -/
def counterCount (sub : Nat) : Nat :=
  [0, 228, 170, 98, 170, 266, 10, 386, 138, 42, 258, 4104, 5, 65, 7, 21].getD sub 0

/-- A bank record (Table 18.2) at CORE cycle `upTo`; cycles of a command in progress that neither issued nor waited for a
reason the model knows count as OTHER (assumption log 37). -/
def bankRecord (sub upTo : Nat) (b : Bank) : List Byte :=
  let div := engineDiv sub
  let total := (upTo - b.openCore) / div
  let inWork := (b.endCore.getD upTo - b.openCore) / div
  let known := b.busy + ((List.range 8).map (fun r => SMap.get 0 b.stall r)).sum
  let stall := fun (r : Nat) => SMap.get 0 b.stall r + (if r = 7 then inWork - known else 0)
  leBytes 2 b.layer ++ leBytes 2 b.operator ++ leBytes 1 b.kind ++ leBytes 1 b.slot ++ zeros 2 ++ leBytes 8 b.cadence ++
    leBytes 8 b.openTime ++ leBytes 8 b.busy ++ leBytes 8 (total - max inWork known) ++
    (List.range 8).flatMap (fun r => leBytes 8 (stall r)) ++ zeros 24

/-- The wait an engine is in: its stall reason and the CORE cycle in which it began. -/
def State.waitNow (s : State) (sub e : Nat) : Option (Nat × Nat) :=
  if sub = 10 ∧ (s.coreOf e).wait.isSome then (s.coreOf e).wait.map (fun w => (w.reason, (s.coreOf e).waitFrom))
  else s.ccu.runs.findSome? (fun r =>
    let cls := Sd.cls (s.runDesc r)
    if r.waiting then (if (r.insts.flatMap (fun i => stageBanks cls i.unit)).contains (sub, e) then some (4, r.startCore) else none)
    else if cls = 4 ∧ sub = 8 then
      let x := s.mapStage r
      if r.insts.any (fun i => i.unit == e && !i.ended) && decide (x.free < s.core) then
        (match x.held with
         | some h => some (2, h)
         | none => some (4, x.free))
      else none
    else if classSub cls = sub then r.insts.findSome? (fun i => (i.stalls.find? (fun w => w.1 == e)).map (fun w => (w.2.1, w.2.2)))
    else none)

/-- Both banks of an engine: the completed one, then the active one, with the cycles of a wait in progress (R403, R404). -/
def State.bankPair (s : State) (sub e : Nat) : List Byte :=
  let b := (s.banksOf sub e)
  let now := match s.waitNow sub e with
    | some w => ((s.bankStall sub e w.1 (s.core - w.2)).banksOf sub e).active
    | none => b.active
  bankRecord sub b.closedAt b.completed ++ bankRecord sub s.core now

/-! ### OBS traffic: credits, tokens (R48, R51, R408) -/

/-- Flits of OBS traffic enter the NoC: those beyond the credits at hand wait for refills, which CREDIT_WAIT counts. -/
def State.obsFlits (s : State) (n : Nat) : State :=
  let c := s.ccu.obsCredit; let owed := s.ccu.obsOwed
  if owed + n ≤ c then { s with ccu := { s.ccu with obsCredit := c - n } }
  else
    let q := owed + n - c
    let wait := fun (q : Nat) => if q = 0 then 0 else 750 * ceilDiv q 30 - s.core % 750
    ((({ s with ccu := { s.ccu with obsCredit := 0, obsOwed := q } }).countN 15 6 (wait q - wait owed)).setBit Reg.OBS_STATUS 4)

/-- OBS_CREDIT_REFILL (R51): every 1,000 NOC cycles, 750 CORE cycles. -/
def obsRefill (s : State) : State :=
  let s1 := s.runTo ((s.core / 750 + 1) * 750)
  let g := min 30 s1.ccu.obsOwed
  { s1 with ccu := { s1.ccu with obsCredit := 30 - g, obsOwed := s1.ccu.obsOwed - g } }

/-! ### Monitors (R409 to R412) -/

def MonBank.bytes (b : MonBank) : List Byte :=
  leBytes 8 b.count ++ sleBytes 8 b.min ++ sleBytes 8 b.max ++ leBytes 8 b.cadence ++
    (List.range 32).flatMap (fun k => leBytes 4 (SMap.get 0 b.bins k))

/-- The 384-byte record of a monitor. -/
def Monitor.bytes (m : Monitor) : List Byte := m.desc ++ m.completed.bytes ++ m.active.bytes

/-- The selector of a source is valid (Table 18.6). -/
def selectorOk (source a b : Nat) : Bool :=
  match source with
  | 3 => decide (a < 64) && b == 0
  | 4 => decide (a < 3) && b == 0
  | 5 => decide (a < 8) && b == 0
  | 6 => (rng a 0x010 0x01F || rng a 0x058 0x05F || a == 0x073) && b == 0
  | 7 => decide (a < 5) && (if a < 3 then decide (b < 64) else b == 0)
  | 8 => decide (a < 11) && b == 0
  | 9 => a == 0 && b == 0
  | 10 => a == 0 && b == 0
  | _ => true

/-- MONITOR_CONFIG (R409). -/
def bodyMonitorConfig (p : CmdPacket) (s : State) : Reply × State :=
  let m := param p 16 1
  let d := p.ext
  let ok := decide (m < 64) && d.length == 64 && decide (leAt d 0 1 ≤ 10) && decide (leAt d 1 1 < 8) && decide (leAt d 2 1 ≤ 33) &&
    zeroIn d 32 64 && selectorOk (leAt d 0 1) (leAt d 4 2) (leAt d 6 2)
  if !ok then (Reply.bad 0xB9, s)
  else
    let b : MonBank := { MonBank.reset with cadence := s.ccu.cadence }
    let mon : Monitor := ⟨d, b, b, 0, false, none⟩
    (Reply.ok [(20, 1, m)], { s with obs := { s.obs with monitors := SMap.set s.obs.monitors m mon } })

/-- Swap a monitor's banks; the fresh one opens with a cadence. -/
def Monitor.swap (m : Monitor) (cadence : Nat) : Monitor :=
  { m with completed := m.active, active := { MonBank.reset with cadence := cadence }, age := 0 }

/-- PERIOD boundaries will have passed with the one to come. -/
def Monitor.due (m : Monitor) : Bool := leAt m.desc 3 1 != 0 && decide (leAt m.desc 3 1 ≤ m.age + 1)

/-- Step 1 of a boundary: every monitor's age and swap (R411); one already swapped at this boundary keeps its banks. -/
def State.monBoundary (s : State) : State :=
  { s with obs := { s.obs with monitors := s.obs.monitors.map (fun (e : Nat × Monitor) =>
      let m : Monitor := { e.2 with crossed := false }
      (e.1, if m.age = 256 then { m with age := 0 } else if m.due then m.swap (s.ccu.cadence + 1) else { m with age := m.age + 1 })) } }

/-- MONITOR_BANK_SWAP: in the cycle of step 1 of the next boundary, the monitors whose PERIOD ends there. -/
def monSwap (s : State) : State :=
  match s.nextInstant with
  | none => s
  | some t =>
    let s1 := s.runToTime t
    { s1 with obs := { s1.obs with monitors := s1.obs.monitors.map (fun (e : Nat × Monitor) =>
        (e.1, if e.2.age != 256 && e.2.due then { e.2.swap (s1.ccu.cadence + 1) with age := 256, crossed := false } else e.2)) } }

/-- Occupancy a LEVEL monitor samples (Table 18.6). -/
def State.occupancy (s : State) (a k : Nat) : Nat :=
  match a with
  | 0 => SMap.get 0 s.map.received k - SMap.get 0 s.map.run k
  | 1 => (SMap.get [] s.fus.queues k).length
  | 2 => (s.bsuCh k).queue.length
  | 3 => s.hif.out.length
  | _ => s.obs.trace.fifo.length

/-- MONITOR_LEVEL_SAMPLE: every 1,024 CORE cycles (R409). -/
def monLevels (s : State) : State :=
  let s1 := s.runTo ((s.core / 1024 + 1) * 1024)
  s1.obs.monitors.foldl (fun (st : State) e =>
    if leAt e.2.desc 0 1 = 7 then st.monTake e.1 (st.occupancy (leAt e.2.desc 4 2) (leAt e.2.desc 6 2) : Nat) else st) s1

/-! ### COUNTER_READ and the engine latch (R404, R406) -/

/-- The bytes COUNTER_READ writes for a subsystem. -/
def State.counterBlock (s : State) (sub : Nat) : List Byte :=
  let e := engineCount sub; let c := counterCount sub; let m := if sub = 15 then 64 else 0
  leBytes 4 0xC1E97E01 ++ leBytes 1 sub ++ zeros 1 ++ leBytes 2 e ++ leBytes 4 c ++ leBytes 4 m ++ leBytes 8 s.now ++
    leBytes 8 s.ccu.cadence ++ zeros 32 ++ (List.range e).flatMap (fun k => s.bankPair sub k) ++
    (List.range c).flatMap (fun k => leBytes 8 (s.counter sub k)) ++
    (List.range m).flatMap (fun k => (s.monitor k).bytes)

/-- COUNTER_READ (R406). -/
def bodyCounterRead (p : CmdPacket) (s : State) : Reply × State :=
  let sub := param p 16 1
  if !rng sub 1 15 then (Reply.bad 0xB8, s)
  else
    let s0 := s.bankOpen 15 0 p.layer p.operator 2 0xFF
    let bs := s0.counterBlock sub
    let beats := ceilDiv bs.length 64
    let s1 := (s0.obsFlits beats).chargePool 7 beats 0 (some s.longKey)
    let s2 := ((s1.hostSt (param p 24 8) bs).bankBusy 15 0 beats).bankEnd 15 0
    (Reply.accepted, s2.longDone s.longKey St.ok 0 (result [(20, 4, bs.length)]))

/-- A write of 1 to OBS_ENG_LATCH: both banks of the selected engine into OBS_ENG_HOLD. -/
def engLatch (s : State) : State :=
  let e := s.fld Reg.OBS_ENG_SEL 0 6; let sub := s.fld Reg.OBS_ENG_SEL 8 4
  if engineCount sub ≤ e then s.setBit Reg.OBS_STATUS 5
  else
    let bs := s.bankPair sub e
    s.each (List.range 64) (fun st w => st.setRegN (Reg.OBS_ENG_HOLD w) (leAt bs (4 * w) 4))

/-! ### Trace (R414 to R420) -/

namespace Td
def sel (d : List Byte) : Nat := leAt d 0 1
def toPort (d : List Byte) : Bool := (leAt d 1 1).testBit 0
def toMem (d : List Byte) : Bool := (leAt d 1 1).testBit 1
def pcLog2 (d : List Byte) : Nat := leAt d 2 1
def memStop (d : List Byte) : Bool := (leAt d 3 1).testBit 1
def pcCores (d : List Byte) : Nat := leAt d 8 8
def pcCtl (d : List Byte) : Nat := leAt d 16 1
def memBase (d : List Byte) : Nat := leAt d 24 8
def memSize (d : List Byte) : Nat := leAt d 32 4
end Td

def State.traceDesc (s : State) : List Byte := s.obs.trace.desc
def State.updTrace (s : State) (f : Trace → Trace) : State := { s with obs := { s.obs with trace := f s.obs.trace } }

/-- What TRACE_CONFIG refuses a descriptor for (Table 18.8, R414, R418). -/
def State.traceRefusal (s : State) (d : List Byte) : Option Reply :=
  let mem := !Td.toMem d || (Td.memBase d % 65536 == 0 && inDram (Td.memBase d) (Td.memSize d))
  let ok := d.length == 64 && decide (Td.sel d < 32) && rng (leAt d 1 1) 1 3 && (Td.pcLog2 d == 0 || rng (Td.pcLog2 d) 8 24) &&
    decide (leAt d 3 1 < 4) && zeroIn d 6 8 && decide (Td.pcCtl d < 16) && zeroIn d 17 24 && zeroIn d 36 64 &&
    rng (Td.memSize d) 65536 1073741824 && Td.memSize d % 65536 == 0 && mem
  let cores := popcount 64 (Td.pcCores d) + popcount 4 (Td.pcCtl d)
  if !ok then some (Reply.bad 0xBB)
  else if Td.pcLog2 d ≠ 0 ∧ 25000000 * 2 ^ Td.pcLog2 d < cores * 1200000000 then some (Reply.bad 0xBC)
  else if (s.func 0x086).life != Life.off then some (Reply.busy 0xBA)
  else none

/-- TRACE_CONFIG. -/
def bodyTraceConfig (p : CmdPacket) (s : State) : Reply × State :=
  match s.traceRefusal p.ext with
  | some r => (r, s)
  | none => (Reply.ok [], s.updTrace (fun t => { t with desc := p.ext }))

/-- The trace function enters STARTING, and ON (R416, R419). -/
def State.traceStart (s : State) : State := s.clrBit Reg.OBS_STATUS 3
def State.traceOn (s : State) : State :=
  let s1 := (s.updTrace (fun t => { t with beats := 0, onCore := s.core, group := [] })).setPair Reg.OBS_TRC_WR_LO Reg.OBS_TRC_WR_HI 0
  s1.emitSync.emitDevice

/-- Packets of a boundary: SYNC, RAW, BOUNDARY, and DEVICE at every 256th. -/
def State.traceBoundary (s : State) : State :=
  let s1 := s.emitSync.emit none 0x03 0 0 (leBytes 8 s.ccu.cadence) (some s.ctlEngines)
  if s.ccu.cadence % 256 = 0 then s1.emitDevice else s1

/-- A beat of the memory ring (R419): one DRAM token of the OBS class, one flit. -/
def State.traceBeat (s : State) (group : List (List Byte)) : State :=
  let d := s.traceDesc
  let a := Td.memBase d + 64 * (s.obs.trace.beats % (Td.memSize d / 64))
  let s1 := ((s.bankOpen 15 0 0 0 3 0xFF).drawPool 10 1 1).1.obsFlits 1
  let s2 := ((s1.stB a (group.flatMap id)).bankBusy 15 0 1).bankEnd 15 0
  let n := s.obs.trace.beats + 1
  let s3 := (s2.updTrace (fun t => { t with beats := n, group := [] })).setPair Reg.OBS_TRC_WR_LO Reg.OBS_TRC_WR_HI n
  if Td.memStop d && decide (Td.memSize d / 64 ≤ n) then s3.setBit Reg.OBS_STATUS 3 else s3

/-- The ring takes a beat now: credit, free tokens, and room under the cap of R51. -/
def State.traceBeatOk (s : State) : Bool :=
  decide (1 ≤ s.ccu.obsCredit) && decide ((s.drawPool 10 1 1).2 = (0, 0))

/-- The memory ring takes a packet; after MEM_FULL it discards it. -/
def State.traceToMem (s : State) (pkt : List Byte) : State :=
  if s.bitOf Reg.OBS_STATUS 3 then (s.count 15 3).setBit Reg.OBS_STATUS 2
  else
    let g := s.obs.trace.group ++ [pkt]
    if g.length < 4 then s.updTrace (fun t => { t with group := g }) else s.traceBeat g

/-- At the drain an incomplete group is completed with PAD packets (R419). -/
def State.traceFlush (s : State) : State :=
  let g := s.obs.trace.group
  if (s.func 0x086).life = Life.draining ∧ s.obs.trace.fifo.isEmpty ∧ !g.isEmpty then
    s.traceBeat (g ++ List.replicate (4 - g.length) (zeros 16))
  else s

/-- The oldest packet that waited behind the FIFO enters it: its unit goes on, and the cycles it waited count under DEBUG (R417). -/
def State.traceEnter (s : State) : State :=
  match s.obs.trace.waits with
  | [] => s
  | w :: rest =>
    let s1 := s.updTrace (fun t => { t with waits := rest })
    if s.obs.stopped then s1 else w.2.foldl (fun (y : State) e => y.bankStall e.1 e.2 6 (s.core - w.1)) s1

/-- The port begins a packet on a transfer whose centre edge is rising, an even raw TIME count, after the 16 transfers of the one before
it (R418; which counts rise: DESIGN CHOICE, assumption log 37). -/
def State.portStart (s : State) : Nat :=
  let r := match s.obs.trace.portAt with
    | some a => max s.raw (a + 16)
    | none => s.raw
  r + r % 2

/-- Levels of the trace port's pins. -/
structure TracePins where
  clk : Bool
  ctl : Bool
  d : Nat
  deriving DecidableEq, Repr

/-- TRC_CLK, TRC_CTL and TRC_D at this CORE cycle (R418, Table 18.10): a transfer each TIME cycle, a clock edge at its centre, rising in even
ones. -/
def State.tracePins (s : State) : TracePins :=
  let runs := (s.func 0x086).life != Life.off && Td.toPort s.traceDesc
  let k := match s.obs.trace.portAt with
    | some a => s.raw - a
    | none => 16
  let pkt := s.obs.trace.port.headD []
  ⟨runs && decide ((4 * s.core + 9) % 12 < 6), decide (k < 16), if k < 16 then leAt pkt k 1 else 0⟩

/-- TRACE_PACKET_TAKEN: every destination takes the FIFO's oldest packet. A stopped die's FIFO goes to the port alone. -/
def tracePacketTaken (s0 : State) : State :=
  let d := s0.traceDesc
  let start := s0.portStart
  let s := if Td.toPort d && !s0.obs.trace.fifo.isEmpty then s0.runTo (coreOfRaw start) else s0
  let toMem := Td.toMem d && !s.obs.stopped
  match s.obs.trace.fifo with
  | [] => s
  | pkt :: rest =>
    if !Td.toPort d && !toMem then s
    else if toMem && !s.bitOf Reg.OBS_STATUS 3 && s.obs.trace.group.length == 3 && !s.traceBeatOk then s
    else
      let s1 := (s.updTrace (fun t => { t with
        fifo := rest, port := if Td.toPort d then pkt :: t.port else t.port,
        portAt := if Td.toPort d then some start else t.portAt })).traceEnter
      if s.obs.stopped then s1 else (if toMem then s1.traceToMem pkt else s1).traceFlush

/-- The end of the drain: FIFO and group empty. -/
def State.traceDrained (s : State) : Bool := s.obs.trace.fifo.isEmpty && s.obs.trace.group.isEmpty

/-- TRACE_SYNC_TIMER: 2^30 TIME cycles since the last SYNC (R416). -/
def traceSyncTimer (s : State) : State :=
  if s.tracing then (s.runTo (ceilDiv (3 * (s.obs.trace.lastSync + 2 ^ 30)) 2)).emitSync else s

/-- A general core's state code in a PC packet (Table 18.9). -/
def State.pcState (s : State) (n : Nat) : Nat :=
  let c := s.coreOf n
  if c.state = 0 ∨ c.state = 3 then 1
  else
    match c.wait with
    | none => 0
    | some .io => 4
    | some (.flag _ _) => 6
    | some .sync => 7
    | some .submit => 3

/-- The next sample of the program counters: a packet for each control core and each core the descriptor names, a control core's values
free (R420). -/
def State.pcSampled (s : State) : State :=
  let d := s.traceDesc
  let per := 2 ^ Td.pcLog2 d
  let s1 := s.runTo (s.obs.trace.onCore + ((s.core - s.obs.trace.onCore) / per + 1) * per)
  let put := fun (st : State) (src arg pc cur : Nat) =>
    if (Td.sel d).testBit 3 then st.tracePut none (tracePacket 0x30 src arg st.now (leBytes 4 pc ++ leBytes 4 cur)) else st
  let s2 := s1.each (maskBits (Td.pcCores d)) (fun st n =>
    put st n (st.pcState n) (st.regN (Reg.GCR_CORE_PC n)) (st.regN (Reg.GCR_CORE_CUR n)))
  s2.each ((List.range 4).filter (fun i => (Td.pcCtl d).testBit i)) (fun st i =>
    ((put st (0x40 + i) (st.freeBelow 10) (Config.freeValue (st.free + 1) % 262144) 0)).drawFrees 2)

/-- PC_SAMPLE (R420): one PC packet for each selected core, at the next multiple of the period from entry into ON. A control
core's PC and state are the firmware's: free values (assumption log 37). -/
def pcSample (s : State) : State :=
  if !s.tracing || Td.pcLog2 s.traceDesc == 0 then s else s.pcSampled

/-! ### Named-tensor dump (R422, R423) -/

def State.showDumps (s : State) : State := s.setFld Reg.OBS_STATUS 8 3 s.obs.dumps.length

/-- TENSOR_DUMP (R422). -/
def bodyTensorDump (p : CmdPacket) (s : State) : Reply × State :=
  let n := param p 28 8
  if n ≤ s.ccu.cadence ∨ s.ccu.cadence + 65536 < n then (Reply.bad 0xBD, s)
  else if param p 24 4 < 16512 then (Reply.bad 0xBE, s)
  else if 4 ≤ s.obs.dumps.length ∨ s.obs.dumps.any (fun d => d.layer == p.layer && d.operator == p.operator && d.cadence == n) then
    (Reply.busy 0xBF, s)
  else
    let d : Dump := ⟨s.longKey, p.layer, p.operator, n, param p 16 8, param p 24 4, [], false⟩
    (Reply.accepted, ({ s with obs := { s.obs with dumps := s.obs.dumps ++ [d] } }).showDumps)

/-- Every stage with the LAYER has ended in cadence n, where some ran, a strided Route's in its own cadence n; or boundary n + 1 has opened
where none did (R423). -/
def State.dumpReady (s : State) (d : Dump) : Bool :=
  let stages := slotList.flatMap (fun n =>
    let sl := s.slot n
    ((List.range (Img.stageCount sl.image)).filter (fun k => Sd.layer (Img.desc sl.image k) == d.layer)).filterMap (fun k =>
      if sl.running && sl.runCadence == d.cadence && Sd.start (Img.desc sl.image k) != 0xFFFFFFFF then some (n, k) else none))
  let ended := fun (e : Nat × Nat) => match SMap.find (s.slot e.1).status e.2 with
    | some r => leAt r 8 8 == d.cadence
    | none => false
  if stages.isEmpty then decide (d.cadence < s.ccu.cadence) else stages.all ended

/-- Ascending insertion of an address. -/
def insertAddr (a : Nat) : List Nat → List Nat
  | [] => [a]
  | b :: r => if a ≤ b then a :: b :: r else b :: insertAddr a r

/-- The copy so far: bytes of the tiles, payload bytes for the CRC, copied, skipped, stopped for want of room. -/
structure DumpCopy where
  bytes : List Byte
  crc : List Byte
  copied : Nat
  skipped : Nat
  full : Bool

/-- One captured tile. -/
def State.dumpTile (s : State) (d : Dump) (c : DumpCopy) (a : Nat) : DumpCopy :=
  let h := s.ldB a 64
  if c.full then c
  else if leAt h 20 2 != d.layer || leAt h 22 2 != d.operator || leAt h 24 8 != d.cadence then { c with skipped := c.skipped + 1 }
  else if d.maxBytes < 64 + 16448 * (c.copied + 1) then { c with full := true }
  else
    let t := s.ldB a 16448
    { c with bytes := c.bytes ++ t, crc := c.crc ++ (t.drop 64).take (leAt h 6 2), copied := c.copied + 1 }

/-- The copy of dump `d` to its buffer (R422, R423): its tiles in address order until the buffer is full, behind the header; the beats and
tokens they take; the dump's reply. -/
def State.dumpCopied (s : State) (d : Dump) : State :=
  let tiles := d.tiles.foldr insertAddr []
  let c := tiles.foldl (fun x a => s.dumpTile d x a) ⟨[], [], 0, 0, false⟩
  let trunc := d.truncated || c.full
  let hdr := leBytes 4 0xC1E97E02 ++ leBytes 2 d.layer ++ leBytes 2 d.operator ++ leBytes 8 d.cadence ++ leBytes 2 d.tiles.length ++
    leBytes 2 c.copied ++ leBytes 2 c.skipped ++ leBytes 1 (b2n trunc) ++ zeros 41
  let out := hdr ++ c.bytes
  let beats := ceilDiv out.length 64
  let toks := ((tiles.take (c.copied + c.skipped)).map (fun a => memTok a 16448)).sum
  let s1 := { s with obs := { s.obs with dumps := s.obs.dumps.filter (fun x => x.key != d.key) } }
  let s2 := (((s1.showDumps.bankOpen 15 0 d.layer d.operator 2 0xFF).chargePool 10 toks toks (some d.key)).obsFlits beats).chargePool 7 beats 0
    (some d.key)
  let s3 := ((s2.bankBusy 15 0 beats).bankEnd 15 0).hostSt d.buffer out
  ((s3.countN 15 4 c.copied).countN 15 5 c.skipped).longDone d.key St.ok (b2n (trunc || c.skipped != 0))
    (result [(20, 4, out.length), (24, 4, crc32 c.crc)])

/-- DUMP_COPY of the oldest dump that can start (R423). -/
def dumpCopy (s : State) : State :=
  match s.obs.dumps.find? s.dumpReady with
  | none => s
  | some d => s.dumpCopied d

/-! ### The Brake (R424 to R426) -/

/-- BRAKE: registered in the cycle of acceptance, answered BRAKED by the hardware. -/
def bodyBrake (p : CmdPacket) (s : State) : Reply × State :=
  (⟨St.braked, 0, zeros 12⟩, s.brakeSource 0 (param p 16 1))

/-- BRK_IN_N low in 2 consecutive CORE cycles. -/
def brkIn (s : State) : State := if s.bitOf Reg.OBS_BRAKE_CTRL 1 then s.brakeSource 3 0xFD else s

/-- BRK_OUT_N is driven high: from reset until cycle S (R427). -/
def State.brkOutHigh (s : State) : Bool := !s.obs.stopped

/-- The level of CAM_TRIG pin `n`: active during its pulse (R36), inactive from cycle S (Table 18.14). -/
def State.camTrigActive (s : State) (n : Nat) : Bool := (SMap.find s.ccu.trigEnd n).isSome

/-- The stop of the Brake event `b` (R424 to R426): at its cycle the trigger packet is traced where a trace runs, and the source, the
reason, the cycles it took, the disciplined time and the cadence are shown. -/
def State.brakeStopped (s : State) (b : BrakeReq) : State :=
  let s1 := (s.runTo b.stopAt).bsuSync
  let t := s1.now
  let pkt := tracePacket 0x7F b.source b.reason t (leBytes 8 t)
  let s2 := if s1.tracing then s1.updTrace (fun x => { x with fifo := x.fifo ++ [pkt] }) else s1
  let st := 1 + 4 * b.source + 32 * (b.stopAt - b.core) + 256 * b.reason + 65536 * b.sources
  let s3 := ((s2.setRegN Reg.OBS_BRAKE_STATUS st).setPair Reg.OBS_BRAKE_TIME_LO Reg.OBS_BRAKE_TIME_HI t).setPair Reg.OBS_BRAKE_CAD_LO
    Reg.OBS_BRAKE_CAD_HI s.ccu.cadence
  let s4 : State := { s3 with
    obs := { s3.obs with stopped := true }, ccu := { s3.ccu with trigEnd := [], trigDue := [] } }
  let s5 := ((s4.runTo (b.stopAt + 1 + s4.freeBelow 15)).drawFree).setBit Reg.HIF_RING_STATUS 6
  s5.createRecord 0xFF09 St.braked 0x10 0x0F (leBytes 1 b.reason ++ leBytes 1 b.source ++ zeros 2 ++ leBytes 8 t) false false (some 12)

/-- BRAKE_STOP: cycle S, the latches and the Brake record. Its TIME lies 1 to 15 cycles after S: a free value. -/
def brakeStop (s : State) : State :=
  match s.obs.brake with
  | none => s
  | some b => if s.obs.stopped then s else s.brakeStopped b

/-- MEM_SETTLED: the memory requests queued at S have completed. -/
def memSettled (s : State) : State := if s.obs.stopped then s.setBit Reg.OBS_BRAKE_STATUS 1 else s

/-! ### Scan-out (R428, R429) -/

/-- A write of OBS_SCAN_CMD: KIND takes a value but 3; GO starts an access of that KIND at the address set, or has it wait for the TAP,
where none is in progress. -/
def scanCmd (new w : Nat) (s : State) : State :=
  let kind := if bits new 1 2 = 3 then s.fld Reg.OBS_SCAN_CMD 1 2 else bits new 1 2
  let s1 := s.setFld Reg.OBS_SCAN_CMD 1 2 kind
  if !w.testBit 0 || s.obs.scan.isSome then s1
  else
    let s2 := (s1.setBit Reg.OBS_SCAN_CMD 0).setBit Reg.OBS_SCAN_STATUS 0
    { s2 with obs := { s2.obs with scan := some (kind, s.pair Reg.OBS_SCAN_ADDR_LO Reg.OBS_SCAN_ADDR_HI, s.obs.stopped) } }

/-- The access ends with an ERR. -/
def State.scanDone (s : State) (err : Nat) : State :=
  ((((({ s with obs := { s.obs with scan := none } } : State)).clrBit Reg.OBS_SCAN_CMD 0).clrBit Reg.OBS_SCAN_STATUS 0).setBit Reg.OBS_SCAN_STATUS 1).setFld Reg.OBS_SCAN_STATUS 2 2 err

/-- Place data from OBS_SCAN_DATA0 on. -/
def State.scanData (s : State) (bs : List Byte) : State :=
  s.each (List.range (ceilDiv bs.length 4)) (fun st w => st.setRegN (Reg.OBS_SCAN_DATA w) (leAt bs (4 * w) 4))

/-- An instruction enters the TAP: IJTAG takes the instruments and ends with the error status before the Brake; pins and segments shift
out free values. -/
def State.tapTake (s : State) (ins : Nat) : State :=
  let open_ := decide (2 ≤ ins) && decide (ins ≤ 4)
  let err := ins == 4 && !s.obs.stopped
  let out := if ins = 1 then s.regN Reg.CRB_IDCODE else if open_ && !err then s.freeBelow (2 ^ 64) else 0
  let s1 := { s with obs := { s.obs with tap := ins, extest := ins == 3, tdo := out, tapError := err, tapWait := false } }
  (if open_ then s1.drawFree else s1).putBit Reg.OBS_SCAN_STATUS 4 (ins == 4)

/-- TAP instructions: 0 BYPASS, 1 IDCODE, 2 SAMPLE/PRELOAD, 3 EXTEST, 4 IJTAG; any other acts as BYPASS. An access to the instruments
waits while the host's path is busy (R429). -/
def tapInstruction (ins : Nat) (s : State) : State :=
  if ins = 4 ∧ s.obs.scan.isSome then { s with obs := { s.obs with tapWait := true } } else s.tapTake ins

/-- What the access in progress ends with: a segment's bits are free values, which only the device's ICL assigns (R428). -/
def State.scanResult (s : State) (kind a : Nat) (braked unmapped fault : Bool) : State :=
  if !braked then s.scanDone 1
  else if kind = 0 then
    if unmapped then s.scanDone 2 else if fault then s.scanDone 3
    else ((s.scanData (s.freeBytes 8)).drawFrees 8).scanDone 0
  else if a % 64 ≠ 0 ∨ !(if kind = 1 then inDram a 64 else inFlash a 64) then s.scanDone 2
  else if fault then s.scanDone 3
  else (s.scanData (s.ldB a 64)).scanDone 0

/-- SCAN_ACCESS_END. `unmapped`: the network has no such segment or bit; `fault`: the instrument failed. While the TAP holds the
instruments the access waits; an IJTAG that waited for it then takes them. -/
def scanEnd (unmapped fault : Bool) (s : State) : State :=
  match s.obs.scan with
  | none => s
  | some (kind, a, braked) =>
    if s.bitOf Reg.OBS_SCAN_STATUS 4 then s
    else
      let s1 := s.scanResult kind a braked unmapped fault
      if s1.obs.tapWait then s1.tapTake 4 else s1

/-! ### The rows -/

/-- TRACE_SYNC_TIMER (R416). -/
def execTraceSyncTimer (s : State) : Out := .next (s.act traceSyncTimer)
/-- PC_SAMPLE (R420). -/
def execPcSample (s : State) : Out := .next (s.act pcSample)
/-- MONITOR_LEVEL_SAMPLE (R409). -/
def execMonitorLevelSample (s : State) : Out := .next (s.act monLevels)
/-- MONITOR_BANK_SWAP (R411). -/
def execMonitorBankSwap (s : State) : Out := .next (s.act monSwap)
/-- DUMP_COPY (R423). -/
def execDumpCopy (s : State) : Out := .next (s.act dumpCopy)
/-- BRK_IN (R424). -/
def execBrkIn (s : State) : Out := .next (s.act brkIn)
/-- MEM_SETTLED (R425). -/
def execMemSettled (s : State) : Out := .next (memSettled s)
/-- SCAN_ACCESS_END (R429). -/
def execScanAccessEnd (unmapped fault : Bool) (s : State) : Out := .next (scanEnd unmapped fault s)
/-- OBS_CREDIT_REFILL (R51). -/
def execObsCreditRefill (s : State) : Out := .next (s.act obsRefill)
/-- TRACE_PACKET_TAKEN (R417): also the flush after the Brake. -/
def execTracePacketTaken (s : State) : Out := .next (s.when s.crb.released tracePacketTaken)
/-- TAP_INSTRUCTION (R428). -/
def execTapInstruction (ins : Nat) (s : State) : Out := .next (tapInstruction ins s)

end Sys2Proof.Machine
end

