-- ==== Sys2Proof/Machine/Crb.lean ====
section
/-! DEFINITION. Clocks, reset and start-up (ch. 19): reset sources and scopes, the secure boot, training and READY, PCIe link
and power state. -/

namespace Sys2Proof.Machine

/-! ### Reset (R434 to R437) -/

/-- The logical flash range of device memory (Table 15.1). -/
def flashPart (m : Memory) : Memory := m.filter (fun c => decide (0x4000000000 ≤ c.1))

/-- A device-scope reset (R435): everything returns to reset but flash, fuses, the host's memory, Oasis, the reset causes and
the sources asserted; `cold` leaves only its own cause. -/
def State.deviceReset (s : State) (source : Nat) (cold : Bool) : State :=
  let causes := if cold then 1 else s.fld Reg.CRB_RESET_CAUSE 0 6 ||| 2 ^ source
  let crb : Crb := { Crb.reset with fuses := s.crb.fuses, held := s.crb.held }
  let met : Met := { Met.reset with oasis := s.met.oasis }
  ({ State.reset with
      mem := flashPart s.mem, host := s.host, crb := crb, met := met, free := s.free, pending := s.pending }).setRegN
    Reg.CRB_RESET_CAUSE causes

/-- A device-scope source is asserted, or no longer. -/
def State.resetLevel (s : State) (source : Nat) (cold on : Bool) : State :=
  if on then
    if s.crb.held.contains source then s
    else
      let s1 := s.deviceReset source cold
      { s1 with crb := { s1.crb with held := s1.crb.held ++ [source] } }
  else { s with crb := { s.crb with held := s.crb.held.filter (· != source) } }

/-- SOFTWARE_RESET: a write of CRB_RESET_CTRL with the key and DEVICE 1 (R434); ignored on a braked device (R426). That it is asserted
for 1 µs is the sender's: RESET_RELEASE comes no sooner (assumption log 38). -/
def softwareReset (value : Nat) (s : State) : State :=
  if bits value 16 16 = 0xC1E9 ∧ value.testBit 0 then s.deviceReset 2 false else s

/-- Junction temperature at which the trip asserts, and below which it releases, 1/16 °C. -/
def tripAt : Int := if Config.gradeI then 1760 else 1600
def tripBelow : Int := if Config.gradeI then 1520 else 1360

/-- A temperature sample: CRB_TEMP, and the trip. -/
def thermal (t : Int) (s : State) : State :=
  let s1 := if tripAt < t then s.resetLevel 4 false true else if t < tripBelow then s.resetLevel 4 false false else s
  if s1.alive then s1.setRegN Reg.CRB_TEMP (unsgn 16 t) else s1

/-- Offsets of registers that a PCIe-scope reset resets: PCIe status, rings, MSI-X table and PBA, FPP ring (R436, R458). -/
def pcieScope (o : Nat) : Bool :=
  decide (o < 8) || rng o 0x100 0x153 || rng o 0x8000 0x9007 || rng o Reg.FPP_RING_CTRL (Reg.FPP_RING_SHADOW_HI + 3)

/-- Ring registers that keep their values in a PCIe-scope reset. -/
def pcieKept (o : Nat) : Bool := [Reg.HIF_NEXT_HSEQ, Reg.HIF_LAST_DSEQ, Reg.HIF_OLDEST_DSEQ, Reg.HIF_CONTEXT].contains o

/-- A PCIe-scope reset (R436): the endpoint comes up again with PCIE_LINK_UP. HIF_RING_STATUS keeps BRAKED, which shows the
state of the die. -/
def State.pcieReset (s : State) : State :=
  let braked := s.bitOf Reg.HIF_RING_STATUS 6
  let s1 : State := { s with
    regs := s.regs.filter (fun e => !pcieScope e.1 || pcieKept e.1),
    hif := { s.hif with holdoff := [], owed := [], owedOff := [] },
    crb := { s.crb with barUp := false } }
  (s1.putBit Reg.HIF_RING_STATUS 6 braked).setBit Reg.CRB_RESET_CAUSE 5

/-! ### PLLs and clocks (R431 to R433) -/

/-- Loss (or return) of a PHY PLL's lock: 1 LPDDR5X, 2 Ethernet, 3 Tandem, 4 PCIe. The interface loses its link; of a stopped die
PCIe alone still runs (R426). -/
def phyPll (pll : Nat) (locked : Bool) (s : State) : State :=
  if pll = 0 ∨ 4 < pll then s
  else if s.obs.stopped then (if pll = 4 ∧ !locked then s.pcieReset else s)
  else
    let s1 := s.putBit Reg.CRB_CLK_STATUS pll locked
    if locked then s1
    else
      match pll with
      | 2 => s1.each (List.range 4) (fun st p => if st.portLink p then netLinkLoss p st else st)
      | 3 => if s1.linkState = 0 then s1 else s1.linkLost 1
      | 4 => s1.pcieReset
      | _ => s1

/-- A divisor write (R432): the register takes the value at once, the clock at the next alignment point. `pdm`: CRB_PDM_DIV. -/
def divisorWrite (pdm : Bool) (value : Nat) (s : State) : State :=
  let range := if pdm then rng value 1200 4800 else rng value 480 2400
  let chans := if pdm then (List.range 32).map (· + 0x038) else (List.range 24).map (· + 0x020)
  let idle := chans.all (fun id => (s.func id).life == Life.off)
  if !range || value % 8 != 0 || !idle then s.setBit Reg.CRB_CLK_STATUS 5
  else
    let at_ := (s.core / 6 + 1) * 6
    let s1 := s.setRegN (if pdm then Reg.CRB_PDM_DIV else Reg.CRB_SDM_DIV) value
    { s1 with crb := if pdm then { s1.crb with pdmPhase := at_, pdmWas := s.clockNow true }
                     else { s1.crb with sdmPhase := at_, sdmWas := s.clockNow false } }

/-! ### Boot images (Table 19.5, R441, R442) -/
namespace Bi
def keyIndex (b : List Byte) : Nat := leAt b 6 1
def signed (b : List Byte) : Bool := keyIndex b != 0xFF
def svn (b : List Byte) : Nat := leAt b 8 4
def fwVersion (b : List Byte) : Nat := leAt b 12 4
def fwLen (b : List Byte) : Nat := leAt b 16 4
def fwBase (b : List Byte) : Nat := leAt b 20 4
def setCount (b : List Byte) : Nat := leAt b 28 4
def provLen (b : List Byte) : Nat := leAt b 32 4
def imageLen (b : List Byte) : Nat := leAt b 36 4
def pubKey (b : List Byte) : List Byte := (b.drop 40).take 96
def routeKey (b : List Byte) : List Byte := (b.drop 136).take 96
def firmware (b : List Byte) : List Byte := (b.drop 512).take (fwLen b)
def setting (b : List Byte) (k : Nat) : Nat × Nat := (leAt b (512 + fwLen b + 8 * k) 4, leAt b (512 + fwLen b + 8 * k + 4) 4)
def settings (b : List Byte) : List (Nat × Nat) := (List.range (setCount b)).map (setting b)
def provBlock (b : List Byte) : List Byte := (b.drop (512 + fwLen b + 8 * setCount b)).take (provLen b)
def body (b : List Byte) : List Byte := b.take (imageLen b)
def signature (b : List Byte) : List Byte := (b.drop (imageLen b)).take 96
end Bi

/-- Step 1: MAGIC, FORMAT, field ranges, reserved area, and an image that is there whole. -/
def bootHeaderOk (b : List Byte) : Bool :=
  leAt b 0 4 == 0xC1E9B001 && leAt b 4 2 == 1 && (decide (Bi.keyIndex b ≤ 3) || Bi.keyIndex b == 0xFF) && decide (leAt b 7 1 ≤ 1) &&
    decide (Bi.svn b ≤ 64) && rng (Bi.fwLen b) 4096 262144 && Bi.fwLen b % 64 == 0 && Bi.fwBase b % 65536 == 0 &&
    decide (Bi.fwBase b + 262144 ≤ 1048576) && decide (leAt b 24 4 < Bi.fwLen b) && decide (Bi.setCount b ≤ 1024) &&
    decide (Bi.provLen b ≤ 4096) && Bi.provLen b % 4 == 0 &&
    Bi.imageLen b == 512 + Bi.fwLen b + 8 * Bi.setCount b + Bi.provLen b && zeroIn b 236 512 &&
    decide (Bi.imageLen b + (if Bi.signed b then 96 else 0) ≤ b.length)

/-- Registers whose Reset column reads "boot" (R441). -/
def bootRegs : List Nat :=
  [Reg.CRB_PCI_SUBSYS, Reg.FPP_WIN_ADDR] ++ (List.range 4).map Reg.NET_PORT_MAC_LO ++ (List.range 4).map Reg.NET_PORT_MAC_HI

/-- SVN_FLOOR: bits set in the thermometer. -/
def Fuses.floor (f : Fuses) : Nat := popcount 64 f.svnFloor

/-- Set the bits of a fuse field. -/
def Fuses.blow (f : Fuses) (e : Nat × Nat) : Fuses :=
  match e.1 with
  | 4 => { f with keyRevoke := f.keyRevoke ||| e.2 % 16 }
  | 5 => { f with secureEn := f.secureEn || e.2.testBit 0 }
  | 6 => { f with routeSigned := f.routeSigned || e.2.testBit 0 }
  | 7 => { f with hostBootDis := f.hostBootDis || e.2.testBit 0 }
  | 8 => { f with svnFloor := f.svnFloor ||| e.2 % 2 ^ 64 }
  | k => { f with keyHash := SMap.upd 0 f.keyHash k (· ||| e.2 % 2 ^ 384) }

/-- Provisioning entries an image applies. -/
def bootProvision (b : List Byte) : List (Nat × Nat) := if (leAt b 7 1).testBit 0 then Config.provision (Bi.provBlock b) else []

/-- The failure code of an image, 0 for none (R442, Table 19.9). -/
def bootCode (f : Fuses) (b : List Byte) : Nat :=
  if !bootHeaderOk b then 1
  else if leAt b 232 4 ≠ crc32Without (Bi.body b) 232 then 2
  else if !Bi.signed b && f.secureEn then 6
  else if Bi.signed b && (f.keyRevoke.testBit (Bi.keyIndex b) ||
      beNat (sha384 (Bi.pubKey b)) != SMap.get 0 f.keyHash (Bi.keyIndex b)) then 3
  else if Bi.signed b && !P384.verify (Bi.pubKey b) (sha384 (Bi.body b)) (Bi.signature b) then 4
  else if Bi.signed b && decide (Bi.svn b < f.floor) then 5
  else if !(Bi.settings b).all (fun e => bootRegs.contains e.1) then 7
  else if (bootProvision b).any (fun e => decide (8 < e.1)) then 9
  else 0

/-- Show the fuses in CRB_BOOT_SVN. -/
def State.showFuses (s : State) : State :=
  let f := s.crb.fuses
  (s.setFld Reg.CRB_BOOT_SVN 8 8 f.floor).setFld Reg.CRB_BOOT_SVN 16 3
    (b2n f.secureEn + 2 * b2n f.routeSigned + 4 * b2n f.hostBootDis)

/-- The ROM turns to the host source, or stays in BOOT_FAIL (R444). -/
def State.bootHost (s : State) : State :=
  if s.crb.fuses.hostBootDis then
    { (s.setFld Reg.CRB_BOOT_STATUS 0 2 3).setFld Reg.CRB_BOOT_STATUS 4 2 3 with crb := { s.crb with trying := BootTry.none } }
  else { s.setBit Reg.CRB_BOOT_STATUS 2 with crb := { s.crb with trying := BootTry.hostWait } }

/-- The attempt in progress fails with a code; the next source is tried. -/
def State.bootFail (s : State) (code : Nat) : State :=
  match s.crb.trying with
  | .slotA => { s.setFld Reg.CRB_BOOT_STATUS 8 4 code with crb := { s.crb with trying := BootTry.slotB } }
  | .slotB => (s.setFld Reg.CRB_BOOT_STATUS 12 4 code).bootHost
  | .hostCheck => ((s.setFld Reg.CRB_BOOT_STATUS 16 4 code).clrBit Reg.CRB_HOST_BOOT_CTRL 0).bootHost
  | _ => s

/-- A setting's value reaches the writable bits of its register; RSV bits stay 0 (R11, R441). -/
def State.putBoot (s : State) (off v : Nat) : State :=
  match regAt off with
  | some (r, _, _) => s.setRegN off (v &&& r.rw)
  | none => s

/-- The firmware of a checked image starts on both pairs (R442). -/
def State.bootStart (s : State) (b : List Byte) (source : Nat) : State :=
  let s1 : State := { s with crb := { s.crb with
    fuses := (bootProvision b).foldl Fuses.blow s.crb.fuses, trying := BootTry.none, routeKey := Bi.routeKey b, fwBase := Bi.fwBase b } }
  let s2 : State := { s1 with mem := s1.mem.writeBytes (0x6F00000 + Bi.fwBase b) (Bi.firmware b) }
  let s3 := s2.each (Bi.settings b) (fun st e => st.putBoot e.1 e.2)
  let dg := sha384 (Bi.body b)
  let s4 := s3.each (List.range 12) (fun st w => st.setRegN (Reg.CRB_BOOT_DIGEST w) (leAt dg (4 * w) 4))
  let s5 := ((s4.setRegN Reg.CRB_FW_VERSION (Bi.fwVersion b)).setFld Reg.CRB_BOOT_SVN 0 8 (Bi.svn b)).showFuses
  let s6 := ((s5.setFld Reg.CRB_BOOT_STATUS 0 2 2).setFld Reg.CRB_BOOT_STATUS 4 2 source).putBit Reg.CRB_BOOT_STATUS 6 (Bi.signed b)
  let s7 := (s6.clrBit Reg.CRB_HOST_BOOT_CTRL 0).setBit Reg.CCU_STATUS 1
  (s7.setBit Reg.GCR_CTL_STATUS 1).setBit Reg.GCR_CTL_STATUS 2

/-- xSPI as used for a NOR slot (R443): the clock reached is open up to 200 MHz. -/
def State.xspiUsed (s : State) : State :=
  (s.setRegN Reg.HIF_XSPI_STATUS (3 + 256 * (25 + s.freeBelow 176))).drawFree

/-- What the ROM takes as the host's image: CRB_HOST_BOOT_LEN bytes from device address 0, nothing where the length lies outside its
range (R444), so that the check ends with code 1 (DESIGN CHOICE, assumption log 38). -/
def State.hostImage (s : State) : List Byte :=
  let n := s.regN Reg.CRB_HOST_BOOT_LEN
  if rng n 512 2097248 then s.ldB 0 n else []

/-- BOOT_IMAGE_CHECK: the ROM checks the image of the source it tries; `nor` is what it read of a NOR slot. -/
def bootImageCheck (nor : List Byte) (s : State) : State :=
  let go := fun (st : State) (b : List Byte) (source : Nat) =>
    let code := bootCode st.crb.fuses b
    if code = 0 then st.bootStart b source else st.bootFail code
  match s.crb.trying with
  | .slotA => go s.xspiUsed nor 0
  | .slotB => go s.xspiUsed nor 1
  | .hostCheck => go s s.hostImage 2
  | _ => s

/-- XSPI_READ_TIMEOUT: the slot being read fails with code 8. -/
def xspiTimeout (s : State) : State :=
  match s.crb.trying with
  | .slotA => s.bootFail 8
  | .slotB => s.bootFail 8
  | _ => s

/-- HOST_BOOT_GO: GO written while the ROM waits for the host. Written at another time GO is set and starts nothing; a later write of 1
does (DESIGN CHOICE, assumption log 38). -/
def hostBootGo (s : State) : State :=
  if s.crb.trying = BootTry.hostWait then
    { (s.setBit Reg.CRB_HOST_BOOT_CTRL 0).clrBit Reg.CRB_BOOT_STATUS 2 with crb := { s.crb with trying := BootTry.hostCheck } }
  else s.setBit Reg.CRB_HOST_BOOT_CTRL 0

/-! ### Start-up (R446, R447) -/

/-- RESET_RELEASE: every source is deasserted; BOOT_SEL is sampled, the PLLs lock, fuses are read, the clocks and raw TIME start
from 0 and the boot ROM runs. -/
def resetRelease (bootSel : Bool) (s : State) : State :=
  if s.crb.released || !s.crb.held.isEmpty then s
  else
    let s1 : State := { s with core := 0, crb := { s.crb with released := true, trying := BootTry.slotA } }
    let s2 := ((s1.putBit Reg.CRB_BOOT_STATUS 3 bootSel).setFld Reg.CRB_BOOT_STATUS 0 2 1).setFld Reg.CRB_CLK_STATUS 0 5 0x1F
    let s3 := s2.showFuses
    if bootSel then s3.bootHost else s3

/-- The training-failure record of R447. -/
def State.trainFail (s : State) (kind n : Nat) : State :=
  s.event 15 0xFF06 St.internalFault 0xDF 0 (leBytes 1 kind ++ leBytes 1 n ++ zeros 10)

/-- SRAM partitions but for the firmware's 256 KiB (Table 19.6, step 6). -/
def State.clearSram (s : State) : State :=
  let fw := 0x6F00000 + s.crb.fwBase
  { s with mem := s.mem.filter (fun c => decide (0x7000000 ≤ c.1) || (decide (fw ≤ c.1) && decide (c.1 < fw + 262144))) }

/-- Start-up's end (R446, R447): SRAM cleared, each tier trained or its failure reported, DONE shown. `dram` and `nand` name what fails. -/
def State.trained (s : State) (dram nand : List Nat) : State :=
  let s1 := s.clearSram
  let s2 := s1.each (List.range 8) (fun st c => if dram.contains c then st.trainFail 0 c else st.setBit (Reg.MEM_DRAM_STATUS c) 0)
  let s3 := s2.each (List.range 8) (fun st c =>
    if nand.contains c then st.trainFail 1 c else st.setBit Reg.MEM_FLASH_STATUS (8 + c))
  let df := (List.range 8).any dram.contains; let nf := (List.range 8).any nand.contains
  ((s3.putBit Reg.CRB_START_STATUS 1 df).putBit Reg.CRB_START_STATUS 2 nf).setBit Reg.CRB_START_STATUS 0

/-- READY: training has ended, `dram` the packages and `nand` the channels that failed; command fetch is enabled. -/
def ready (dram nand : List Nat) (s : State) : State :=
  if s.fld Reg.CRB_BOOT_STATUS 0 2 ≠ 2 ∨ s.bitOf Reg.CRB_START_STATUS 0 then s
  else
    let s4 := s.trained dram nand
    s4.event 11 0xFF01 St.ok 0x05 0 (result [(20, 4, s4.regN Reg.CRB_FW_VERSION)])

def State.isReady (s : State) : Bool := s.bitOf Reg.CRB_START_STATUS 0
/-- R447: commands of the memory, map, solver and Route families are refused. -/
def State.dramFailed (s : State) : Bool := s.bitOf Reg.CRB_START_STATUS 1

/-! ### PCIe link and power states (R448) -/

/-- PCIE_LINK_UP at ×1, ×4 or ×8 (a ×2 partner yields ×1) and speed code 1 to 5: the function is in D0 and BAR0 responds. -/
def pcieLinkUp (width speed : Nat) (s : State) : State :=
  if !([1, 2, 4, 8].contains width) || !rng speed 1 5 || !s.bitOf Reg.CRB_CLK_STATUS 4 then s
  else
    let w := if width = 2 then 1 else width
    let s1 := ((s.setFld Reg.HIF_PCIE_STATUS 0 4 w).setFld Reg.HIF_PCIE_STATUS 4 3 speed).setBit Reg.HIF_PCIE_STATUS 7
    { (s1.setFld Reg.HIF_PCIE_STATUS 8 2 0) with crb := { s1.crb with barUp := true } }

/-- D3HOT_ENTRY: BAR0 and MSI-X are inactive; the return to D0 is a PCIe-scope reset. -/
def d3hot (s : State) : State :=
  if s.crb.barUp then { (s.setFld Reg.HIF_PCIE_STATUS 8 2 3) with crb := { s.crb with barUp := false } } else s

/-! ### The rows -/

/-- PORST_N (R434): low asserts a cold reset, high ends it. -/
def execPorstN (low : Bool) (s : State) : Out := .next (s.resetLevel 0 true low)
/-- RST_N (R434): low for 1 µs, or high again. -/
def execRstN (low : Bool) (s : State) : Out := .next (s.resetLevel 1 false low)
/-- ROOT_PLL_UNLOCK (R433): loss of lock, or relock. -/
def execRootPllUnlock (lost : Bool) (s : State) : Out := .next (s.resetLevel 3 false lost)
/-- PHY_PLL_UNLOCK (R433). -/
def execPhyPllUnlock (pll : Nat) (locked : Bool) (s : State) : Out := .next (s.when s.crb.released (phyPll pll locked))
/-- THERMAL_TRIP (R434): the junction temperature, 1/16 °C. -/
def execThermalTrip (temp : Int) (s : State) : Out := .next (thermal temp s)
/-- PCIE_RESET (R436). -/
def execPcieReset (s : State) : Out := .next s.pcieReset
/-- RESET_RELEASE (R446). -/
def execResetRelease (bootSel : Bool) (s : State) : Out := .next (resetRelease bootSel s)
/-- BOOT_IMAGE_CHECK (R442). -/
def execBootImageCheck (nor : List Byte) (s : State) : Out := .next (s.act (bootImageCheck nor))
/-- XSPI_READ_TIMEOUT (R443). -/
def execXspiReadTimeout (s : State) : Out := .next (s.act xspiTimeout)
/-- PCIE_LINK_UP (R448). -/
def execPcieLinkUp (width speed : Nat) (s : State) : Out := .next (s.when s.crb.released (pcieLinkUp width speed))
/-- D3HOT_ENTRY (R448). -/
def execD3hotEntry (s : State) : Out := .next (d3hot s)

end Sys2Proof.Machine
end

