-- ==== Sys2Proof/Machine/Ptp.lean ====
section
/-! DEFINITION. The PTP instance (R97 to R100): the port descriptors, the messages of Table 4.5, the BMCA, the servo and
PTP_CONFIG. Message layouts are those of IEEE 1588-2019 and IEEE 802.1AS-2020, which the spec names (log 11). -/

namespace Sys2Proof.Machine

/-! ### Descriptor fields (Table 4.6) -/
namespace PtpPort
def profile (x : PtpPort) : Nat := leAt x.desc 0 1
def role (x : PtpPort) : Nat := leAt x.desc 1 1
def udp (x : PtpPort) : Bool := leAt x.desc 2 1 == 1
def domain (x : PtpPort) : Nat := leAt x.desc 3 1
def logSync (x : PtpPort) : Int := match x.intervals with | some i => i.2.1 | none => sleAt x.desc 4 1
def logAnnounce (x : PtpPort) : Int := match x.intervals with | some i => i.2.2 | none => sleAt x.desc 5 1
def logDelay (x : PtpPort) : Int := match x.intervals with | some i => i.1 | none => sleAt x.desc 6 1
end PtpPort

/-- Every field of a port descriptor in its range (R98, Table 4.6). -/
def ptpDescOk (d : List Byte) : Bool :=
  let i := fun (o : Nat) => sleAt d o 1
  rng (leAt d 0 1) 0 3 && rng (leAt d 1 1) 0 2 && rng (leAt d 2 1) 0 1 && decide (-7 ≤ i 4 ∧ i 4 ≤ 4) &&
    decide (-3 ≤ i 5 ∧ i 5 ≤ 4) && decide (-7 ≤ i 6 ∧ i 6 ≤ 5) && rng (leAt d 7 1) 2 10 && rng (leAt d 11 1) 0 1 &&
    (leAt d 2 1 == 0 || rng (leAt d 0 1) 1 2) && zeroIn d 24 64

/-- PTP_CONFIG's own refusals: DETAIL 0xE2, 0x35, 0x36, 0x37 (R98, R101, Table 4.6). DESIGN CHOICE (assumption log 61): TC_EN 1 on a sensor
port is a field out of range, 0x35, and 0x35 is found before 0x36 and 0x37. -/
def ptpRefusal (port : Nat) (d : List Byte) : Option Reply :=
  if d.length ≠ 64 then some (Reply.bad 0xE2)
  else if 3 < port ∨ ptpDescOk d = false ∨ (2 ≤ port ∧ (leAt d 11 1).testBit 0) then some (Reply.bad 0x35)
  else if 2 ≤ port ∧ leAt d 1 1 ≠ 0 then some (Reply.bad 0x36)
  else if leAt d 0 1 = 2 ∧ (leAt d 11 1).testBit 0 then some (Reply.bad 0x37)
  else none

/-- Take a port descriptor: the port restarts at INITIALIZING (R98). -/
def State.takePtp (s : State) (port : Nat) (d : List Byte) : State :=
  let was := (s.ptpPort port).follows
  let s1 := (s.putPtpState port PtpState.initializing).setPtp port { PtpPort.reset port with desc := d }
  if was then s1.leaveSlave port else s1

/-- PTP_CONFIG (R98). -/
def bodyPtpConfig (p : CmdPacket) (s : State) : Reply × State :=
  let port := param p 16 1
  match ptpRefusal port p.ext with
  | some r => (r, s)
  | none => (Reply.ok [(20, 1, port)], s.takePtp port p.ext)

/-! ### Message fields (IEEE 1588-2019) -/

def ptpType (m : List Byte) : Nat := leAt m 0 1 % 16
def ptpDomain (m : List Byte) : Nat := leAt m 4 1
def ptpTwoStep (m : List Byte) : Bool := (leAt m 6 1).testBit 1
def ptpCorrection (m : List Byte) : Int := sgn 64 (beAt m 8 8)
def ptpSource (m : List Byte) : List Byte := (m.drop 20).take 10
def ptpSeq (m : List Byte) : Nat := beAt m 30 2
/-- The timestamp at byte 34, in 2^−16 ns. -/
def ptpStamp (m : List Byte) : Int := ((beAt m 34 6 : Int) * 1000000000 + beAt m 40 4) * 65536
/-- requestingPortIdentity at byte 44. -/
def ptpRequesting (m : List Byte) : List Byte := (m.drop 44).take 10

/-- A time in 2^−16 ns as a PTP timestamp and the remainder that goes into the correctionField (R87, R100). -/
def stampBytes (t : Int) : List Byte × Int :=
  let ns := t / 65536
  (beBytes 6 (unsgn 48 (ns / 1000000000)) ++ beBytes 4 (unsgn 32 (ns % 1000000000)), t % 65536)

/-- clockIdentity of the instance: CLOCK_ID, or EUI-64 from the port 0 MAC (Table 4.6). -/
def State.clockIdentity (s : State) (x : PtpPort) : List Byte :=
  let id := (x.desc.drop 16).take 8
  if id.all (· == 0) then (s.macOf 0).take 3 ++ [0xFF, 0xFE] ++ (s.macOf 0).drop 3 else id

def State.portIdentity (s : State) (p : Nat) : List Byte := s.clockIdentity (s.ptpPort p) ++ beBytes 2 (p + 1)

/-- A message header and body. -/
def State.ptpMessage (s : State) (p type seq : Nat) (twoStep : Bool) (corr interval : Int) (body : List Byte) : List Byte :=
  let x := s.ptpPort p
  let sdo := if x.profile = 3 then 0x10 else 0x00
  let ctl := match type with | 0 => 0 | 1 => 1 | 8 => 2 | 9 => 3 | _ => 5
  [BitVec.ofNat 8 (sdo + type), 0x02] ++ beBytes 2 (34 + body.length) ++ leBytes 1 x.domain ++ [0] ++
    leBytes 1 (if twoStep then 2 else 0) ++ [0x08] ++ beBytes 8 (unsgn 64 corr) ++ zeros 4 ++ s.portIdentity p ++
    beBytes 2 seq ++ leBytes 1 ctl ++ sleBytes 1 interval ++ body

/-- Internet checksum of an even byte string. -/
def inetSum : List Byte → Nat
  | a :: b :: r => a.toNat * 256 + b.toNat + inetSum r
  | [a] => a.toNat * 256
  | [] => 0
def inetFold (x : Nat) : Nat := let y := x % 65536 + x / 65536; 65535 - (y % 65536 + y / 65536)

/-- The frame that carries a message by the port's TRANSPORT. -/
def State.ptpFrame (s : State) (p : Nat) (m : List Byte) : List Byte :=
  let x := s.ptpPort p
  let peer := x.profile == 3 || [2, 3, 10].contains (ptpType m)
  let mac : Nat := if x.udp then (if peer then 0x01005E00006B else 0x01005E000181)
    else if peer then 0x0180C200000E else 0x011B19000000
  let head := beBytes 6 mac ++ s.macOf p
  if x.udp then
    let port := if ptpType m < 8 then 319 else 320
    let src := leAt x.desc 12 4
    let ip0 := [0x45, 0] ++ beBytes 2 (28 + m.length) ++ zeros 4 ++ [1, 17]
    let addr := beBytes 4 src ++ beBytes 4 (if peer then 0xE000006B else 0xE0000181)
    let ip := ip0 ++ beBytes 2 (inetFold (inetSum (ip0 ++ zeros 2 ++ addr))) ++ addr
    head ++ beBytes 2 0x0800 ++ ip ++ beBytes 2 port ++ beBytes 2 port ++ beBytes 2 (8 + m.length) ++ zeros 2 ++ m
  else head ++ beBytes 2 0x88F7 ++ m

/-- Send a PTP message. -/
def State.ptpSend (s : State) (p : Nat) (m : List Byte) : State :=
  (s.netSend p (s.ptpFrame p m)).count 13 (netCnt p 10)

/-! ### The servo (R99) -/

/-- Clamp an offset to what one slew takes (Table 4.1). -/
def slewOf (offset : Int) : Int := clampI (-800000000) 800000000 (-(rneDiv offset 81920))

/-- A measured offset from the master, in 2^−16 ns: TIM_OFFSET_EST, step or slew, the trim of TIM_RATE (its amount is
a free value: the spec gives no servo gain) and the states of Table 4.7. -/
def State.servo (s : State) (p : Nat) (offset : Int) : State :=
  let s1 := (s.setRegN Reg.TIM_OFFSET_EST (unsgn 32 (satS 32 offset))).monOffer 9 0 0 (satS 32 offset)
  let s2 := if (s1.ptpPort p).state = PtpState.uncalibrated then s1.putPtpState p PtpState.slave else s1
  -- the servo does not act on a secondary (R359)
  if !s2.bitOf Reg.TIM_CTRL 0 || s2.noPins then s2
  else
    let big := decide (s2.regN Reg.TIM_STEP_THRESH * 81920 < offset.natAbs)
    let s3 := if big && s2.bitOf Reg.TIM_CTRL 1 then (s2.takeChange (.step (-(rneDiv offset 81920)))).1
      else (s2.takeChange (.slew (slewOf offset) (s2.regN Reg.TIM_SLEW_RATE))).1
    let trim : Int := (s3.freeBelow 1099511629 : Int) - 549755814
    let s4 := (s3.drawFree.takeChange (.rate trim)).1
    let good := decide (offset.natAbs ≤ s4.fld Reg.TIM_LOCK_THRESH 0 16 * 65536)
    let x := s4.ptpPort p
    let run := if good then x.lockRun + 1 else 0
    let s5 := s4.setPtp p { x with lockRun := run }
    let st := s5.syncState
    if st = 0 ∨ st = 3 then s5.setSync p 1
    else if st = 2 then (if 65536000 < offset.natAbs then s5.setSync p 3 else s5)
    else if 16 ≤ run then s5.setSync p 2
    else s5

/-- A Sync measured with its origin time: offset = t2 − t1 − path delay. -/
def State.measured (s : State) (p : Nat) (t1 t2 : Int) : State :=
  let x := s.ptpPort p
  (s.setPtp p { x with lastSync := some (t1, t2), syncWait := none }).servo p (t2 - t1 - x.delay)

/-- A measured path or link delay: TIM_PATH_DELAY (Table 4.9). -/
def State.putDelay (s : State) (p : Nat) (d : Int) : State :=
  (s.setPtp p { s.ptpPort p with delay := d }).setRegN Reg.TIM_PATH_DELAY (unsgn 32 (satU 32 d))

/-! ### Receiving (Table 4.5) -/

/-- A port leaves INITIALIZING when its engine next runs: PTP off, master-only, or listening. -/
def State.ptpWake (s : State) (p : Nat) : State :=
  let x := s.ptpPort p
  if x.state = PtpState.initializing then
    s.putPtpState p (if x.profile = 0 then .disabled else if x.role = 0 then .master else .listening)
  else s

/-- What passes between the chained fabric ports of the PTP frames TIM takes: broadcast and multicast frames are delivered and forwarded
alike, reserved destinations never (R96); a transparent clock forwards those to other nodes too (R101). Peer-delay messages are not
forwarded (Table 4.5). -/
def State.ptpForward (s : State) (p : Nat) (frame m : List Byte) (capture : Nat) : State :=
  if decide (p < 2) && s.chained && !reservedDest frame && !([2, 3, 10].contains (ptpType m)) &&
      (groupDest frame || (s.tcOn && destMac frame != s.macOf p)) then
    s.forward (1 - p) frame capture
  else s

/-- Receive a message on port `p`: counted, forwarded to the other fabric port, and, when it belongs to the port's domain and PTP is on,
handled by `f`; Management is dropped and counted in any case (Table 4.5). -/
def ptpTake (p : Nat) (frame : List Byte) (capture : Nat) (f : List Byte → State → State) (s : State) : State :=
  if !s.portLive p then s
  else
    match s.ptpOffset p frame with
    | none => s
    | some o =>
      let m := frame.drop o
      let s1 := (s.count 13 (netCnt p 9)).ptpForward p frame m capture
      let s2 := s1.ptpWake p
      let x := s2.ptpPort p
      if ptpType m = 13 ∨ (x.profile ≠ 0 ∧ ptpDomain m = x.domain) then f m s2 else s2

/-- Sync: one-step at once, two-step when its Follow_Up comes. -/
def ptpSyncMsg (p capture : Nat) (m : List Byte) (s : State) : State :=
  let x := s.ptpPort p
  if !x.follows then s
  else
    let t2 := s.rxTime p capture
    -- a port in HOLDOVER that receives a Sync returns to ACQUIRING (Table 4.7)
    let s1 := if s.syncState = 3 ∧ s.servoOwns ∧ !s.noPins then (s.setPtp p { x with lockRun := 0 }).setSync p 1 else s
    if ptpTwoStep m then s1.setPtp p { s1.ptpPort p with syncWait := some (ptpSeq m, t2, ptpCorrection m) }
    else s1.measured p (ptpStamp m + ptpCorrection m) t2

def ptpFollowUpMsg (p : Nat) (m : List Byte) (s : State) : State :=
  let x := s.ptpPort p
  match x.syncWait with
  | some w => if x.follows && w.1 == ptpSeq m then s.measured p (ptpStamp m + w.2.2 + ptpCorrection m) w.2.1 else s
  | none => s

/-- Delay_Req is answered in MASTER. -/
def ptpDelayReqMsg (p capture : Nat) (m : List Byte) (s : State) : State :=
  let x := s.ptpPort p
  if x.state ≠ PtpState.master then s
  else
    let t := stampBytes (s.rxTime p capture)
    s.ptpSend p (s.ptpMessage p 9 (ptpSeq m) false (ptpCorrection m - t.2) x.logDelay (t.1 ++ ptpSource m))

def ptpDelayRespMsg (p : Nat) (m : List Byte) (s : State) : State :=
  let x := s.ptpPort p
  match x.delayReq, x.lastSync with
  | some r, some y =>
    if r.1 = ptpSeq m ∧ ptpRequesting m = s.portIdentity p then
      let t4 := ptpStamp m - ptpCorrection m
      (s.putDelay p (rneDiv ((y.2 - r.2) + (t4 - y.1)) 2)).setPtp p
        { (s.putDelay p (rneDiv ((y.2 - r.2) + (t4 - y.1)) 2)).ptpPort p with delayReq := none }
    else s
  | _, _ => s

/-- Pdelay_Req is answered, two-step: Pdelay_Resp and its follow-up, whose correctionField carries the remainders of both timestamps
(R100). -/
def ptpPdelayReqMsg (p capture : Nat) (m : List Byte) (s : State) : State :=
  let t2 := stampBytes (s.rxTime p capture)
  let s1 := s.ptpSend p (s.ptpMessage p 3 (ptpSeq m) true 0 0x7F (t2.1 ++ ptpSource m))
  let t3 := stampBytes (s1.txTime p)
  s1.ptpSend p (s1.ptpMessage p 10 (ptpSeq m) false (ptpCorrection m + t3.2 - t2.2) 0x7F (t3.1 ++ ptpSource m))

/-- Mean link delay from the four instants. -/
def State.linkDelay (s : State) (p : Nat) (t1 t2 t3 t4 corr : Int) : State :=
  let s1 := s.putDelay p (rneDiv ((t4 - t1) - (t3 - t2) - corr) 2)
  s1.setPtp p { s1.ptpPort p with pdelayReq := none, pdelayWait := none }

def ptpPdelayRespMsg (p capture : Nat) (m : List Byte) (s : State) : State :=
  let x := s.ptpPort p
  match x.pdelayReq with
  | some r =>
    if r.1 = ptpSeq m ∧ ptpRequesting m = s.portIdentity p then
      let t4 := s.rxTime p capture
      if ptpTwoStep m then s.setPtp p { x with pdelayWait := some (r.1, ptpStamp m, t4, ptpCorrection m) }
      else s.linkDelay p r.2 0 0 t4 (ptpCorrection m)
    else s
  | none => s

def ptpPdelayFollowMsg (p : Nat) (m : List Byte) (s : State) : State :=
  let x := s.ptpPort p
  match x.pdelayReq, x.pdelayWait with
  | some r, some w =>
    if w.1 = ptpSeq m then s.linkDelay p r.2 w.2.1 (ptpStamp m) w.2.2.1 (w.2.2.2 + ptpCorrection m) else s
  | _, _ => s

/-! ### BMCA -/

/-- The data set an Announce offers, as bytes in order of importance: priority1, clock quality, priority2, identity,
stepsRemoved, sender. Smaller is better. -/
def announceKey (m : List Byte) : Nat := beNat ((m.drop 47).take 16 ++ ptpSource m)

/-- The instance's own data set on a port. -/
def State.ownKey (s : State) (p : Nat) : Nat :=
  let x := s.ptpPort p
  beNat (x.desc.drop 8 |>.take 1) * 256 ^ 25 +
    beNat ((x.desc.drop 10).take 1 ++ [0xFE, 0xFF, 0xFF] ++ (x.desc.drop 9).take 1 ++ s.clockIdentity x ++ zeros 2 ++
      s.portIdentity p)

/-- Follow the sender of an Announce on port `p`. -/
def State.followMaster (s : State) (p : Nat) (m : List Byte) : State :=
  let s1 := s.setPtp p { s.ptpPort p with parent := m.take 64 }
  let s2 := s1.setRegN Reg.TIM_UTC_OFFSET (beAt m 44 2 + 65536 * b2n ((leAt m 7 1).testBit 2))
  if (s2.ptpPort p).follows then s2
  else
    let s3 := s2.putPtpState p PtpState.uncalibrated
    if s3.bitOf Reg.TIM_CTRL 0 then s3.setSync p 1 else s3

/-- Announce: input to the BMCA (R97). At most one port follows a master at a time. -/
def ptpAnnounceMsg (p : Nat) (m : List Byte) (s : State) : State :=
  let x := s.ptpPort p
  if x.role = 0 then s
  else
    let key := announceKey m
    let better := x.role == 1 || decide (key < s.ownKey p)
    let parentKey := announceKey x.parent
    if x.follows && !(ptpSource m == ptpSource x.parent) && decide (parentKey ≤ key) then s
    else if !better then
      let s1 := s.putPtpState p PtpState.master
      if x.follows then s1.freeRun p else s1
    else
      match (List.range 4).find? (fun q => decide (q ≠ p) && (s.ptpPort q).follows) with
      | none => s.followMaster p m
      | some q =>
        if key < announceKey (s.ptpPort q).parent then
          (s.putPtpState q PtpState.passive).followMaster p m
        else s.putPtpState p PtpState.passive

/-- The TLVs of a message from a byte on, each with its header. -/
def ptpTlvs : Nat → List Byte → List (List Byte)
  | 0, _ => []
  | fuel + 1, t => if t.length < 4 then [] else t.take (4 + beAt t 2 2) :: ptpTlvs fuel (t.drop (4 + beAt t 2 2))

/-- The message interval request TLV of IEEE 802.1AS acts on the intervals of a port; other TLVs are ignored (Table 4.5). -/
def State.ptpTlv (s : State) (p : Nat) (t : List Byte) : State :=
  if beAt t 0 2 = 3 ∧ beAt t 4 3 = 0x0080C2 ∧ beAt t 7 3 = 2 then
    let x := s.ptpPort p
    let pick (o : Nat) (now deflt : Int) : Int :=
      let v := sleAt t o 1
      if v = -128 then now else if v = 126 then deflt else v
    let iv := (pick 10 x.logDelay (sleAt x.desc 6 1), pick 11 x.logSync (sleAt x.desc 4 1),
      pick 12 x.logAnnounce (sleAt x.desc 5 1))
    s.setPtp p { x with intervals := some iv }
  else s

/-- Signaling: its TLVs in order, behind targetPortIdentity, as far as messageLength goes. -/
def ptpSignalingMsg (p : Nat) (m : List Byte) (s : State) : State :=
  let body := (m.take (beAt m 2 2)).drop 44
  s.each (ptpTlvs body.length body) (fun st t => st.ptpTlv p t)

/-- The body of a Signaling message of profile 3: the target is every port, and the message interval request TLV asks for the intervals
of the port's own descriptor (assumption log 12). -/
def State.signalingBody (s : State) (p : Nat) : List Byte :=
  let d := (s.ptpPort p).desc
  List.replicate 10 0xFF ++ beBytes 2 3 ++ beBytes 2 12 ++ beBytes 3 0x0080C2 ++ beBytes 3 2 ++ (d.drop 6).take 1 ++ (d.drop 4).take 1 ++
    (d.drop 5).take 1 ++ zeros 3

/-- Management is dropped and counted (Table 4.5). -/
def ptpManagementMsg (p : Nat) (_m : List Byte) (s : State) : State := s.count 13 (netCnt p 11)

/-- A PTP frame by its messageType; other types are dropped and counted. -/
def ptpDispatch (p : Nat) (frame : List Byte) (capture : Nat) (s : State) : State :=
  let ty := match s.ptpOffset p frame with
    | some o => ptpType (frame.drop o)
    | none => 15
  match ty with
  | 0 => ptpTake p frame capture (ptpSyncMsg p capture) s
  | 1 => ptpTake p frame capture (ptpDelayReqMsg p capture) s
  | 2 => ptpTake p frame capture (ptpPdelayReqMsg p capture) s
  | 3 => ptpTake p frame capture (ptpPdelayRespMsg p capture) s
  | 8 => ptpTake p frame capture (ptpFollowUpMsg p) s
  | 9 => ptpTake p frame capture (ptpDelayRespMsg p) s
  | 10 => ptpTake p frame capture (ptpPdelayFollowMsg p) s
  | 11 => ptpTake p frame capture (ptpAnnounceMsg p) s
  | 12 => ptpTake p frame capture (ptpSignalingMsg p) s
  | 13 => ptpTake p frame capture (ptpManagementMsg p) s
  | _ => s.count 13 (netCnt p 3)

/-! ### Transmission and timeouts -/

/-- Announce body: origin timestamp 0, UTC offset, the own data set, stepsRemoved, timeSource. -/
def State.announceBody (s : State) (p : Nat) : List Byte :=
  let x := s.ptpPort p
  let up := (List.range 4).find? (fun q => (s.ptpPort q).follows)
  let ds := match up with
    | some q => ((s.ptpPort q).parent.drop 47).take 14 ++ beBytes 2 (beAt (s.ptpPort q).parent 61 2 + 1)
    | none => (x.desc.drop 8).take 1 ++ (x.desc.drop 10).take 1 ++ [0xFE, 0xFF, 0xFF] ++ (x.desc.drop 9).take 1 ++
        s.clockIdentity x ++ zeros 2
  zeros 10 ++ beBytes 2 (s.fld Reg.TIM_UTC_OFFSET 0 16) ++ [0] ++ ds ++ [0xA0]

/-- PTP_MESSAGE_INTERVAL: a message's interval on a port ends and it is sent if the port's role and profile send it
(Table 4.5): 0 Sync with its Follow_Up, 11 Announce, 1 Delay_Req, 2 Pdelay_Req, 12 Signaling. -/
def ptpInterval (p type : Nat) (s : State) : State :=
  let s0 := s.ptpWake p
  let x := s0.ptpPort p
  if !s0.portLive p || x.profile == 0 then s0
  else
    match type with
    | 0 =>
      if x.state = PtpState.master then
        let s1 := s0.ptpSend p (s0.ptpMessage p 0 x.seqSync true 0 x.logSync (zeros 10))
        let t := stampBytes (s1.txTime p)
        let s2 := s1.ptpSend p (s1.ptpMessage p 8 x.seqSync false t.2 x.logSync t.1)
        s2.setPtp p { s2.ptpPort p with seqSync := (x.seqSync + 1) % 65536 }
      else s0
    | 11 =>
      if x.state = PtpState.master then
        let s1 := s0.ptpSend p (s0.ptpMessage p 11 x.seqAnnounce false 0 x.logAnnounce (s0.announceBody p))
        s1.setPtp p { s1.ptpPort p with seqAnnounce := (x.seqAnnounce + 1) % 65536 }
      else s0
    | 1 =>
      if x.state == PtpState.slave && x.profile == 1 then
        let t3 := s0.txTime p
        let s1 := s0.ptpSend p (s0.ptpMessage p 1 x.seqDelay false 0 0x7F (zeros 10))
        s1.setPtp p { (s1.ptpPort p) with seqDelay := (x.seqDelay + 1) % 65536, delayReq := some (x.seqDelay, t3) }
      else s0
    | 2 =>
      if x.profile = 2 ∨ x.profile = 3 then
        let t1 := s0.txTime p
        let s1 := s0.ptpSend p (s0.ptpMessage p 2 x.seqPdelay false 0 0x7F (zeros 20))
        s1.setPtp p { s1.ptpPort p with seqPdelay := (x.seqPdelay + 1) % 65536, pdelayReq := some (x.seqPdelay, t1), pdelayWait := none }
      else s0
    | 12 =>
      if x.profile = 3 then
        let s1 := s0.ptpSend p (s0.ptpMessage p 12 x.seqSignal false 0 0x7F (s0.signalingBody p))
        s1.setPtp p { s1.ptpPort p with seqSignal := (x.seqSignal + 1) % 65536 }
      else s0
    | _ => s0

/-- Three Sync intervals without a Sync on the slave port (Table 4.7). -/
def ptpSyncTimeout (p : Nat) (s : State) : State :=
  if (s.ptpPort p).follows ∧ s.syncState = 2 then
    (s.setPtp p { s.ptpPort p with lockRun := 0 }).setSync p 3
  else s

/-- Announce receipt timeout: the port stops following its master (Table 4.7, R97). -/
def ptpAnnounceTimeout (p : Nat) (s : State) : State :=
  let x := s.ptpPort p
  if x.role = 0 ∨ x.profile = 0 then s
  else
    let s1 := s.putPtpState p (if x.role = 1 then .listening else .master)
    let s2 := s1.setPtp p { s1.ptpPort p with parent := [], lockRun := 0, syncWait := none }
    if x.follows then s2.leaveSlave p else s2

/-! ### The rows -/

/-- PTP_SYNC (R99). -/
def execPtpSync (port : Nat) (frame : List Byte) (capture : Nat) (s : State) : Out :=
  .next (s.act (ptpTake port frame capture (ptpSyncMsg port capture)))
/-- PTP_DELAY_REQ (R97). -/
def execPtpDelayReq (port : Nat) (frame : List Byte) (capture : Nat) (s : State) : Out :=
  .next (s.act (ptpTake port frame capture (ptpDelayReqMsg port capture)))
/-- PTP_PDELAY_REQ (R97). -/
def execPtpPdelayReq (port : Nat) (frame : List Byte) (capture : Nat) (s : State) : Out :=
  .next (s.act (ptpTake port frame capture (ptpPdelayReqMsg port capture)))
/-- PTP_PDELAY_RESP (R97). -/
def execPtpPdelayResp (port : Nat) (frame : List Byte) (capture : Nat) (s : State) : Out :=
  .next (s.act (ptpTake port frame capture (ptpPdelayRespMsg port capture)))
/-- PTP_FOLLOW_UP (R97). -/
def execPtpFollowUp (port : Nat) (frame : List Byte) (capture : Nat) (s : State) : Out :=
  .next (s.act (ptpTake port frame capture (ptpFollowUpMsg port)))
/-- PTP_DELAY_RESP (R97). -/
def execPtpDelayResp (port : Nat) (frame : List Byte) (capture : Nat) (s : State) : Out :=
  .next (s.act (ptpTake port frame capture (ptpDelayRespMsg port)))
/-- PTP_PDELAY_RESP_FOLLOW_UP (R97). -/
def execPtpPdelayRespFollowUp (port : Nat) (frame : List Byte) (capture : Nat) (s : State) : Out :=
  .next (s.act (ptpTake port frame capture (ptpPdelayFollowMsg port)))
/-- PTP_ANNOUNCE (R97). -/
def execPtpAnnounce (port : Nat) (frame : List Byte) (capture : Nat) (s : State) : Out :=
  .next (s.act (ptpTake port frame capture (ptpAnnounceMsg port)))
/-- PTP_SIGNALING (R97). -/
def execPtpSignaling (port : Nat) (frame : List Byte) (capture : Nat) (s : State) : Out :=
  .next (s.act (ptpTake port frame capture (ptpSignalingMsg port)))
/-- PTP_MANAGEMENT (R97). -/
def execPtpManagement (port : Nat) (frame : List Byte) (capture : Nat) (s : State) : Out :=
  .next (s.act (ptpTake port frame capture (ptpManagementMsg port)))
/-- PTP_MESSAGE_INTERVAL (R97). -/
def execPtpMessageInterval (port type : Nat) (s : State) : Out := .next (s.act (ptpInterval port type))
/-- SYNC_RECEIPT_TIMEOUT (R99). -/
def execSyncReceiptTimeout (port : Nat) (s : State) : Out := .next (s.act (ptpSyncTimeout port))
/-- ANNOUNCE_RECEIPT_TIMEOUT (R99). -/
def execAnnounceReceiptTimeout (port : Nat) (s : State) : Out := .next (s.act (ptpAnnounceTimeout port))

end Sys2Proof.Machine
end

