-- ==== Sys2Proof/Machine/Tandem.lean ====
section
/-! DEFINITION. Tandem pairs (ch. 16): roles, the link's frames, forwarded ingress on the secondary, digests, loss and
switchover. -/

namespace Sys2Proof.Machine

/-! ### Receiving on the link (R355) -/

/-- The frames of the replay buffer that ACK has not covered. -/
def unacked (ack : Nat) (l : List LinkFrame) : List LinkFrame :=
  match l.findIdx? (fun f => f.seq == ack) with
  | some i => l.drop (i + 1)
  | none => l

/-- Take a frame: it counts as link activity and acknowledges; a sequenced frame is handled when it is the next in order, once. -/
def State.linkTake (s : State) (sequenced : Bool) (f : LinkIn) (g : State → State) : State :=
  if s.linkState < 2 then s
  else
    let s1 := ({ s with tdm := { s.tdm with lastRx := s.core, replay := unacked f.ack s.tdm.replay } }).count 13 55
    if !sequenced then g s1
    else if f.seq = (s1.tdm.recvSeq + 1) % 65536 then g { s1 with tdm := { s1.tdm with recvSeq := f.seq, naksSent := (0, 0) } }
    else s1

/-- An item the primary forwarded: taken by a secondary whose link is ON. -/
def State.item (s : State) (f : LinkIn) (g : State → State) : State := s.linkTake true f (fun t => if t.noPins then g t else t)

/-- Put an item that spans frames together: `g` takes it when its last frame is there. -/
def State.spanned (s : State) (f : LinkIn) (g : List Byte → State → State) : State :=
  let all := s.tdm.line ++ f.payload
  if f.payload.length < 4096 || f.flags.testBit 0 then g all { s with tdm := { s.tdm with line := [] } }
  else { s with tdm := { s.tdm with line := all } }

/-- Run `g` with the valid instant and the TAG's cadence in place of those of the arrival (R357). -/
def State.tagged (s : State) (valid tag : Nat) (g : State → State) : State :=
  let t := g { s with tdm := { s.tdm with tag := some (valid, tag) } }
  { t with tdm := { t.tdm with tag := none } }

/-- Send a NAK for the frame expected (R355, R356). -/
def State.sendNak (s : State) : State :=
  let want := (s.tdm.recvSeq + 1) % 65536
  let n := if s.tdm.naksSent.1 = want then s.tdm.naksSent.2 + 1 else 1
  let s1 := (({ s with tdm := { s.tdm with naksSent := (want, n) } }).linkSend 0x02 0 s.ccu.cadence (leBytes 2 want)).count 13 56
  if 16 ≤ n then s1.linkLost 2 else s1

/-- TDM_CRC_FAIL (R355). -/
def tdmCrcFail (s : State) : State :=
  if s.linkState < 2 then s else ({ s with tdm := { s.tdm with lastRx := s.core } }).sendNak

/-- A frame sent again acknowledges what has come by then (R355). -/
def State.relink (s : State) (b : List Byte) : List Byte :=
  let x := b.take 6 ++ leBytes 2 s.tdm.recvSeq ++ (b.take (b.length - 4)).drop 8
  x ++ leBytes 4 (crc32 x)

/-- A NAK: everything after ACK goes out again. -/
def tdmNak (f : LinkIn) (s : State) : State :=
  s.linkTake false f (fun t =>
    let want := leAt f.payload 0 2
    let n := if t.tdm.naks.1 = want then t.tdm.naks.2 + 1 else 1
    let s1 := ({ t with tdm := { t.tdm with naks := (want, n), wire := (t.tdm.replay.map (fun (x : LinkFrame) => t.relink x.bytes)).reverse ++ t.tdm.wire, lastTx := t.core } }).count 13 57
    let s2 := s1.countN 13 54 t.tdm.replay.length
    if 16 ≤ n then s2.linkLost 2 else s2)

/-- TDM_IDLE_SEND: a µs has passed in which no frame was sent (R355). -/
def tdmIdleSend (s : State) : State :=
  if s.linkState < 2 then s
  else
    let s1 := s.runTo (s.tdm.lastTx + usCore 1)
    s1.linkSend 0x00 0 s1.ccu.cadence []

/-- TDM_IDLE: its ACK is all it carries. -/
def tdmIdle (f : LinkIn) (s : State) : State := s.linkTake false f (fun t => t)

/-! ### Pairing (R354) -/

/-- CRC32 of the image in a slot, 0 where it holds none. -/
def State.routeCrc (s : State) (n : Nat) : Nat := leAt (s.img n) 200 4

def State.pairPayload (s : State) : List Byte :=
  leBytes 2 s.role ++ zeros 2 ++ leBytes 4 (s.regN Reg.CRB_FW_VERSION) ++ leBytes 4 (s.regN Reg.CCU_CADENCE_PERIOD) ++ zeros 4 ++
    slotList.flatMap (fun n => leBytes 4 (s.routeCrc n))

def State.sendPair (s : State) : State := s.linkSend 0x01 0 s.ccu.cadence s.pairPayload

/-- The link function enters STARTING: the lanes train. -/
def State.tdmStart (s : State) : State :=
  let s1 := (s.setFld Reg.TDM_STATUS 2 2 1).setFld Reg.TDM_STATUS 16 4 0
  { s1 with tdm := { s1.tdm with sentSeq := 0, recvSeq := 0, replay := [], naks := (0, 0), naksSent := (0, 0), peer := none, boundaries := [],
                                 peerDigest := [], ownDigest := [], lanes := [], line := [], comparing := none } }

/-- The link function is OFF. -/
def State.tdmOff (s : State) : State :=
  let s1 := (s.setFld Reg.TDM_STATUS 2 2 0).setFld Reg.TDM_STATUS 16 4 0
  { s1 with tdm := { s1.tdm with replay := [], peer := none, boundaries := [], comparing := none } }

/-- LINK_TRAINING_COMPLETE. -/
def linkTrainingComplete (s : State) : State :=
  if (s.func tdmFunc).life != Life.starting || s.linkState != 1 || !s.bitOf Reg.CRB_CLK_STATUS 3 then s
  else
    let s1 := (s.setFld Reg.TDM_STATUS 2 2 2).setFld Reg.TDM_STATUS 16 4 15
    ({ s1 with tdm := { s1.tdm with lastRx := s1.core, lastTx := s1.core } }).sendPair

/-- PAIR. -/
def tdmPair (f : LinkIn) (s : State) : State :=
  s.linkTake true f (fun t => { t with tdm := { t.tdm with peer := some f.payload } })

/-- The start condition of the link (R354). A secondary must also know the primary's boundary (assumption log 34). -/
def State.tdmReady (s : State) : Bool :=
  let mine := s.pairPayload
  decide (s.fld Reg.TDM_STATUS 16 4 = 15) && s.linkState == 2 && s.allSlotsOff && (s.role != 2 || !s.tdm.boundaries.isEmpty) &&
    (match s.tdm.peer with
     | none => false
     | some p => ((s.role == 1 && leAt p 0 2 == 2) || (s.role == 2 && leAt p 0 2 == 1)) && (p.drop 4).take 8 == (mine.drop 4).take 8 &&
         (p.drop 16).take 64 == (mine.drop 16).take 64)

/-- The pairing boundary: PAIRED, comparison from this cadence on; the secondary has taken the primary's cadence. -/
def State.tdmPaired (s : State) : State :=
  let s1 := s.setFld Reg.TDM_STATUS 2 2 3
  { s1 with tdm := { s1.tdm with comparing := some s1.ccu.cadence, matched := true } }

/-! ### Boundaries and time (R359) -/

/-- BOUNDARY n: the secondary may open it, and answers with its time. -/
def tdmBoundary (f : LinkIn) (s : State) : State :=
  s.linkTake true f (fun t =>
    if t.role != 2 then t
    else
      let b := (leAt f.payload 0 8, leAt f.payload 8 8)
      let keep := if t.linkOn then t.tdm.boundaries ++ [b] else [b]
      ({ t with tdm := { t.tdm with boundaries := keep } }).linkSend 0x05 0 t.ccu.cadence (leBytes 8 t.raw))

/-- The primary's TIME frame answers an echo. -/
def State.sendTime (s : State) : State := s.linkSend 0x04 0 s.ccu.cadence (leBytes 8 s.now ++ leBytes 8 s.tdm.echo)

/-- TIME: the link delay is half the round trip; the secondary's disciplined time follows, stepped where it is far away, else
slewed with a trim whose amount is a free value (the spec gives no control law), while the link is ON. -/
def tdmTime (f : LinkIn) (s : State) : State :=
  s.linkTake true f (fun t =>
    if t.role != 2 then t
    else
      let echo := leAt f.payload 8 8
      let s1 := if echo = 0 then t else t.setRegN Reg.TDM_LINK_DELAY ((t.raw - echo) / 2)
      if !s1.linkOn then s1
      else
      let ofs : Int := (leAt f.payload 0 8 : Int) + s1.regN Reg.TDM_LINK_DELAY - s1.now
      if s1.regN Reg.TIM_STEP_THRESH < ofs.natAbs then (s1.takeChange (.step ofs)).1
      else
        let s2 := (s1.takeChange (s1.changeOf 0 (clampI (-800000000) 800000000 ofs) 0)).1
        let trim : Int := (s2.freeBelow 1099511629 : Int) - 549755814
        (s2.drawFree.takeChange (.rate trim)).1)

/-- TIME_ECHO: the primary answers. -/
def tdmTimeEcho (f : LinkIn) (s : State) : State :=
  s.linkTake true f (fun t =>
    if t.role != 1 then t else ({ t with tdm := { t.tdm with echo := leAt f.payload 0 8 } }).sendTime)

/-! ### Forwarded ingress (R357, Table 16.3) -/

/-- Pixels packed LSB first (Table 16.2). -/
def unpackPixels (b : Nat) : Nat → Nat → List Nat
  | 0, _ => []
  | n + 1, v => v % 2 ^ b :: unpackPixels b n (v / 2 ^ b)

/-- Routes whose VIS stages name a camera stream: the least STRIDE of those that run or will, `extra` among them; 1 without one. -/
def State.streamStride (s : State) (extra : List Nat) (i : Nat) : Nat :=
  let ks := slotList.filterMap (fun n =>
    if ((s.slot n).life.active || (s.slot n).startPending || extra.contains n) && (visStreams (s.img n)).contains (camFunc i) then
      some (max 1 (Img.stride (s.img n))) else none)
  match ks with
  | [] => 1
  | k :: r => r.foldl min k

/-- A whole LINE item: prefix and pixel bytes. -/
def State.lineItem (s : State) (tag : Nat) (b : List Byte) : State :=
  let i := leAt b 0 2 - camFunc 0; let k := leAt b 2 2; let bpp := leAt b 5 1
  let c := s.cam i
  let data := b.drop 6
  let px := if bpp = 16 then unpackYuv data else unpackPixels bpp c.width (leNat data)
  let got := !(leAt b 4 1).testBit 0
  let fresh : Frame := match c.window with
    | some w => ⟨0, s.now, w.cadence, w.trigTime, 0, 0, [], [], [], false, false, w.ends⟩
    | none => ⟨0, s.now, tag, 0, 0, 0, [], [], [], false, false, tag + s.streamStride [] i⟩
  let f := match c.frame with
    | some f => if f.closed || f.absent || k == 0 then fresh else f
    | none => fresh
  s.setCam i { c with frame := some (f.addLine c px data got 0), window := c.window.map (fun w => { w with taken := true }) }

/-- LINE, over as many frames as it takes (R355). -/
def tdmLine (f : LinkIn) (s : State) : State :=
  s.item f (fun t =>
    let all := t.tdm.line ++ f.payload
    let c := t.cam (leAt all 0 2 - camFunc 0)
    let need := 6 + ceilDiv (c.width * leAt all 5 1) 8
    if all.length < need && !f.flags.testBit 0 then { t with tdm := { t.tdm with line := all } }
    else ({ t with tdm := { t.tdm with line := [] } }).lineItem f.tag all)

/-- The frame of a stream that lines still join; an empty one where none is open. -/
def Cam.openFrame (c : Cam) : Frame :=
  match c.frame with
  | some x => if x.closed || x.absent then ⟨0, 0, 0, 0, 0, 0, [], [], [], false, false, 0⟩ else x
  | none => ⟨0, 0, 0, 0, 0, 0, [], [], [], false, false, 0⟩

/-- A forwarded frame's closing item: the frame it describes is put in place of the one being received, complete or absent (R357). -/
def frameItem (f : LinkIn) (t : State) : State :=
  let r := f.payload
  let i := leAt r 0 2 - camFunc 0
  let c := t.cam i
  let fl := leAt r 3 1
  let base := c.openFrame
  let absent := fl.testBit 0
  let x : Frame := { base with number := leAt r 4 2, fsTime := leAt r 16 8, cadence := leAt r 8 8, trigTime := leAt r 24 8, flags := fl,
                               received := leAt r 6 2, closed := true, absent := absent,
                               lines := if absent then [] else base.lines }
  let s1 := (t.setCam i { c with extra := false, window := none }).putFrame i x
  if absent then
    (s1.event 1 0xFF03 St.sensorAbsent 0x41 (camFunc i) (result [(20, 2, camFunc i), (22, 1, s1.voteState (camFunc i)), (24, 8, x.cadence)])).visRecord i
  else
    let s2 := (s1.count 1 (camCnt i 0)).monStamp (camFunc i) x.fsTime
    s2.setCam i { s2.cam i with seq := (s2.cam i).seq + 1 }

/-- FRAME: the frame record closes the frame, as the primary's own receiver closed it. -/
def tdmFrame (f : LinkIn) (s : State) : State := s.item f (frameItem f)

/-- INERTIAL: each record with its valid instant. -/
def tdmInertial (f : LinkIn) (s : State) : State :=
  s.item f (fun t => t.each (List.range (f.payload.length / 24)) (fun st k =>
    let r := (f.payload.drop (24 * k)).take 16
    st.tagged (leAt f.payload (24 * k + 16) 8) f.tag (fppRecord r)))

/-- AUDIO: samples as VALUE with the stamps of R131. -/
def tdmAudio (f : LinkIn) (s : State) : State :=
  s.item f (fun t =>
    let c := leAt f.payload 0 1
    t.each (List.range ((f.payload.length - 8) / 12)) (fun st k =>
      let ch := st.ch c
      let s1 := (st.setCh c { ch with first := false, n := leAt f.payload 4 4 + k }).count 2 (decCnt c 0)
      s1.audioSample c (sleAt f.payload (8 + 12 * k) 4) (leAt f.payload (12 + 12 * k) 8) 0 false ch.first))

/-- ENCODER: records for FUS; the record instants are those of the own cadence (R116). -/
def tdmEncoder (f : LinkIn) (s : State) : State :=
  s.item f (fun t => t.each (List.range (f.payload.length / 32)) (fun st k =>
    let r := (f.payload.drop (32 * k)).take 32
    let n := leAt r 0 1
    let e := st.enc n
    let at_ := st.ccu.boundaryTime + e.records * usTime e.recordPeriod
    let s1 := (st.setEnc n { e with records := e.records + 1, count := leAt r 4 4 }).setRegN (Reg.ING_ENC_COUNT n) (leAt r 4 4)
    s1.tagged at_ f.tag (fun x => (x.toFus (encFunc n) at_ r).monStamp (encFunc n) at_)))

/-- POINTS: records for FUS. -/
def tdmPoints (f : LinkIn) (s : State) : State :=
  s.item f (fun t => t.each (List.range (f.payload.length / 32)) (fun st k =>
    let r := (f.payload.drop (32 * k)).take 32
    let j := leAt r 14 1 % 8
    (st.toFus (lidarFunc j) (leAt r 16 8) r).count 1 (lidarCnt j 1)))

/-- FUS_COUNT (R361). -/
def tdmFusCount (f : LinkIn) (s : State) : State :=
  s.item f (fun t =>
    let b := f.payload
    let ctx := leAt b 0 1
    let c := t.fusCtx ctx
    let image := t.img c.slot
    let opened := f.tag - (f.tag + max 1 (Img.stride image) - Img.phase image) % max 1 (Img.stride image)
    t.setFus ctx { c with counts := SMap.set c.counts (64 * opened + leAt b 1 1) ((List.range (leAt b 2 2)).map (fun k => leAt b (8 + 2 * k) 2)) })

/-- TILE: a Peloton tile with the boundary that applies it (R371). -/
def tdmTile (f : LinkIn) (s : State) : State :=
  s.item f (fun t => t.spanned f (fun b x => { x with pel := { x.pel with due := x.pel.due ++ [(leAt b 0 8, b.drop 8)] } }))

/-! ### Digests (R362, R363) -/

/-- Compare the closed digests of a cadence once both are there. -/
def State.compareDigest (s : State) (n : Nat) : State :=
  match SMap.find s.tdm.ownDigest n, SMap.find s.tdm.peerDigest n, s.tdm.comparing with
  | some own, some peer, some from_ =>
    let s1 : State := { s with tdm := { s.tdm with ownDigest := SMap.erase s.tdm.ownDigest n, peerDigest := SMap.erase s.tdm.peerDigest n } }
    if n < from_ then s1
    else
      let mask := maskOf ((List.range 16).filter (fun l => own.getD l 0 != peer.getD l 0))
      if mask = 0 then
        ({ s1 with tdm := { s1.tdm with matched := true } }).setPair Reg.TDM_CMP_CAD_LO Reg.TDM_CMP_CAD_HI n
      else
        let s2 := ((s1.setFld Reg.TDM_DIV_LANES 0 16 mask).count 13 58).setBit Reg.TDM_STATUS 4
        if s1.tdm.matched then
          (({ s2 with tdm := { s2.tdm with matched := false } }).setPair Reg.TDM_DIV_CAD_LO Reg.TDM_DIV_CAD_HI n).event 13 0xFF08
            St.tandemDiverged 0xA8 tdmFunc (leBytes 8 n ++ leBytes 2 mask ++ zeros 2)
        else s2
  | _, _, _ => s

/-- DIGEST. -/
def tdmDigest (f : LinkIn) (s : State) : State :=
  s.linkTake true f (fun t =>
    let n := leAt f.payload 0 8
    let lanes := (List.range 16).map (fun l => leAt f.payload (8 + 8 * l) 8)
    ({ t with tdm := { t.tdm with peerDigest := SMap.set t.tdm.peerDigest n lanes } }).compareDigest n)

/-- Step 1 of the boundary that ends cadence `n`: its digest closes and is sent (R363); the twin's digest of the cadence before must
have come (R356). -/
def State.closeDigest (s : State) (n : Nat) : State :=
  if !s.linkOn then s
  else
    let lanes := (List.range 16).map (fun l => SMap.get 0 s.tdm.lanes (16 * n + l))
    let s1 := s.each (List.range 16) (fun st l => st.setPair (Reg.TDM_DIGEST_LO l) (Reg.TDM_DIGEST_HI l) (lanes.getD l 0))
    let s2 : State := { s1 with tdm := { s1.tdm with lanes := s1.tdm.lanes.keep (fun k => n < k / 16) } }
    if s2.tdm.comparing.isNone then s2
    else
      let s3 : State := { s2 with tdm := { s2.tdm with ownDigest := SMap.set s2.tdm.ownDigest n lanes } }
      let s4 := (s3.linkSend 0x30 0 n (leBytes 8 n ++ lanes.flatMap (leBytes 8))).compareDigest n
      if n ≠ 0 ∧ (SMap.find s4.tdm.ownDigest (n - 1)).isSome then s4.linkLost 4 else s4

/-! ### Loss and switchover (R356, R364, R365) -/

/-- LINK_LOST for a reason of R356. -/
def linkLostRow (reason : Nat) (s : State) : State :=
  match reason with
  | 1 => if s.linkState < 2 then s else (s.runTo (s.tdm.lastRx + usCore 10)).linkLost 1
  | 2 => if 16 ≤ s.tdm.naks.2 ∨ 16 ≤ s.tdm.naksSent.2 then s.linkLost 2 else s
  | 3 => if 2 ^ 20 < (s.tdm.replay.map (fun f => f.bytes.length)).sum then s.linkLost 3 else s
  | 4 => if s.tdm.ownDigest.any (fun e => decide (e.1 + 2 ≤ s.ccu.cadence)) then s.linkLost 4 else s
  | _ => s

/-- SWITCH. -/
def tdmSwitch (f : LinkIn) (s : State) : State :=
  s.linkTake true f (fun t => { t with tdm := { t.tdm with switchAt := some (leAt f.payload 0 8) } })

/-- Roles at step 2 of the boundary that opens the cadence: TANDEM_CONFIG, switchover, takeover. -/
def State.tdmRoles (s : State) : State :=
  let n := s.ccu.cadence
  let s1 : State := match s.tdm.roleDue with
    | some r => ({ s with tdm := { s.tdm with roleDue := none } }).setFld Reg.TDM_STATUS 0 2 r
    | none => s
  let turn : Bool := s1.tdm.switchAt.any (fun b => decide (b ≤ n))
  if turn || s1.tdm.takeover then
    let r : Nat := if turn then 3 - s1.role else 1
    (({ s1 with tdm := { s1.tdm with switchAt := none, takeover := false, boundaries := [] } }).setFld Reg.TDM_STATUS 0 2 r).event 13 0xFF08
      St.ok 0xAA tdmFunc (leBytes 1 r ++ zeros 3 ++ leBytes 8 n)
  else s1

/-! ### Host commands (R352, R365) and the forwarded load (R360) -/

/-- TANDEM_CONFIG. -/
def bodyTandemConfig (p : CmdPacket) (s : State) : Reply × State :=
  let r := param p 16 1
  if 2 < r then (Reply.bad 0x55, s)
  else if (s.func tdmFunc).life != Life.off then (Reply.busy 0x56, s)
  else if r != s.role && !s.allSlotsOff then (Reply.busy 0x57, s)
  else (Reply.ok [(20, 1, r)], { s with tdm := { s.tdm with roleDue := some r } })

/-- TANDEM_STATUS. -/
def bodyTandemStatus (_p : CmdPacket) (s : State) : Reply × State :=
  (Reply.ok [(20, 1, s.role), (21, 1, s.linkState), (24, 8, s.pair Reg.TDM_CMP_CAD_LO Reg.TDM_CMP_CAD_HI)], s)

/-- TANDEM_SWITCHOVER. -/
def bodyTandemSwitchover (_p : CmdPacket) (s : State) : Reply × State :=
  if s.role = 0 ∨ (s.func tdmFunc).life = Life.off then (Reply.bad 0x59, s)
  else if s.linkState = 3 then
    let b := s.ccu.cadence + 2
    (Reply.ok [(20, 1, 3 - s.role)],
      ({ s with tdm := { s.tdm with switchAt := some b } }).linkSend 0x31 0 s.ccu.cadence (leBytes 8 b))
  else if s.linkState = 0 ∧ s.role = 2 then (Reply.ok [(20, 1, 1)], { s with tdm := { s.tdm with takeover := true } })
  else (Reply.ok [(20, 1, s.role)], s)

/-- The forwarded camera load: bits per period P, scaled by 720,720, which every STRIDE divides. -/
def State.fwdBits (s : State) (slots cams : List Nat) : Nat :=
  ((List.range 16).map (fun i =>
    let f := s.func (camFunc i)
    if f.life.active || f.enablePending || f.accepted == some true || cams.contains i then
      let c := s.cam i
      c.width * c.height * lineBits c.dataType * (720720 / s.streamStride slots i)
    else 0)).sum

/-- The load would exceed 110 Gb/s on a primary (R360). -/
def State.fwdTooMuch (s : State) (slots cams : List Nat) : Bool :=
  s.role == 1 && decide (106000 * 720720 * s.regN Reg.CCU_CADENCE_PERIOD < s.fwdBits slots cams * 800)

/-- TDM_FWD_RATE in Mb/s. -/
def State.fwdRate (s : State) : Nat :=
  s.fwdBits [] [] * 800 / (720720 * max 1 (s.regN Reg.CCU_CADENCE_PERIOD)) + 4000

/-- Commands a secondary's own host may issue (R353). -/
def secondaryAllows (opcode : Nat) : Bool :=
  [0x0101, 0x0102, 0x0103, 0x0104, 0x0105, 0x0112, 0x0206, 0x0302, 0x0701, 0x0802, 0x0803, 0x0807, 0x0901, 0x0902, 0x0903, 0x0904,
    0x0905, 0x0601, 0x0401, 0x0402, 0x0A01, 0x0A02, 0x0A04].contains opcode

/-! ### The rows -/

/-- LINK_TRAINING_COMPLETE (R354). -/
def execLinkTrainingComplete (s : State) : Out := .next (s.act linkTrainingComplete)
/-- LINK_LOST (R356). -/
def execLinkLost (reason : Nat) (s : State) : Out := .next (s.act (linkLostRow reason))
/-- TDM_IDLE (R355). -/
def execTdmIdle (f : LinkIn) (s : State) : Out := .next (s.act (tdmIdle f))
/-- TDM_PAIR (R354). -/
def execTdmPair (f : LinkIn) (s : State) : Out := .next (s.act (tdmPair f))
/-- TDM_NAK (R355). -/
def execTdmNak (f : LinkIn) (s : State) : Out := .next (s.act (tdmNak f))
/-- TDM_BOUNDARY (R359). -/
def execTdmBoundary (f : LinkIn) (s : State) : Out := .next (s.act (tdmBoundary f))
/-- TDM_TIME (R359). -/
def execTdmTime (f : LinkIn) (s : State) : Out := .next (s.act (tdmTime f))
/-- TDM_TIME_ECHO (R359). -/
def execTdmTimeEcho (f : LinkIn) (s : State) : Out := .next (s.act (tdmTimeEcho f))
/-- TDM_LINE (R357). -/
def execTdmLine (f : LinkIn) (s : State) : Out := .next (s.act (tdmLine f))
/-- TDM_FRAME (R357). -/
def execTdmFrame (f : LinkIn) (s : State) : Out := .next (s.act (tdmFrame f))
/-- TDM_INERTIAL (R357). -/
def execTdmInertial (f : LinkIn) (s : State) : Out := .next (s.act (tdmInertial f))
/-- TDM_AUDIO (R357). -/
def execTdmAudio (f : LinkIn) (s : State) : Out := .next (s.act (tdmAudio f))
/-- TDM_ENCODER (R357). -/
def execTdmEncoder (f : LinkIn) (s : State) : Out := .next (s.act (tdmEncoder f))
/-- TDM_POINTS (R357). -/
def execTdmPoints (f : LinkIn) (s : State) : Out := .next (s.act (tdmPoints f))
/-- TDM_FUS_COUNT (R361). -/
def execTdmFusCount (f : LinkIn) (s : State) : Out := .next (s.act (tdmFusCount f))
/-- TDM_TILE (R371). -/
def execTdmTile (f : LinkIn) (s : State) : Out := .next (s.act (tdmTile f))
/-- TDM_DIGEST (R363). -/
def execTdmDigest (f : LinkIn) (s : State) : Out := .next (s.act (tdmDigest f))
/-- TDM_SWITCH (R365). -/
def execTdmSwitch (f : LinkIn) (s : State) : Out := .next (s.act (tdmSwitch f))
/-- TDM_CRC_FAIL (R355). -/
def execTdmCrcFail (s : State) : Out := .next (s.act tdmCrcFail)
/-- TDM_IDLE_SEND (R355). -/
def execTdmIdleSend (s : State) : Out := .next (s.act tdmIdleSend)

end Sys2Proof.Machine
end

