-- ==== Sys2Proof/Machine/Peloton.lean ====
section
/-! DEFINITION. The Peloton (ch. 16): membership, barrier rounds, map tile exchange, and armed operations. -/

namespace Sys2Proof.Machine

/-! ### Headers (Tables 16.5 and 16.6) -/
namespace Ph
def type (b : List Byte) : Nat := leAt b 1 1
def src (b : List Byte) : Nat := leAt b 4 2
def dst (b : List Byte) : Nat := leAt b 6 2
def root (b : List Byte) : Nat := leAt b 8 2
def len (b : List Byte) : Nat := leAt b 10 2
def instant (b : List Byte) : Nat := leAt b 16 8
def payload (b : List Byte) : List Byte := (b.drop 32).take (len b)
/-- Payload bytes of a type. -/
def typeLen (t : Nat) : Nat :=
  match t with
  | 1 => 33 | 2 => 33 | 3 => 8 | 4 => 2 | 5 => 1040 | _ => 0
end Ph

/-- EVENT_SRC of Peloton records: the NET unit index (R376). -/
def pelSrc : Nat := 0x0D

def State.pelEvent (s : State) (status detail : Nat) (fs : List (Nat × Nat × Nat)) : State :=
  let s1 := if status = St.pelotonTimeout then s.setBit Reg.PEL_STATUS 2 else s
  s1.event 13 0xFF08 status detail pelSrc (result fs)

/-- A frame of type `t` is taken: the header agrees (R367); otherwise it is dropped and counted, as is one whose DST names another member.
A secondary takes none. The latter two are the model's choice (assumption log 35). -/
def State.pelTake (s : State) (t : Nat) (b : List Byte) (f : State → State) : State :=
  if s.role = 2 then s
  else if s.joined && leAt b 0 1 == 1 && Ph.type b == t && leAt b 2 2 == s.pel.domain && leAt b 24 4 == s.listCrc &&
      Ph.len b == Ph.typeLen t && decide (32 + Ph.typeLen t ≤ b.length) && (Ph.dst b == 0xFFFF || Ph.dst b == s.pel.me) then
    f (s.count 13 60)
  else s.count 13 61

/-! ### Membership (R366) -/

/-- Fabric port `p` is ON or DRAINING. -/
def State.fabricOn (s : State) : Bool := (s.func 0x080).life == Life.on || (s.func 0x081).life == Life.on

/-- The member entries of an extension. -/
def memberEntries (ext : List Byte) : List (List Byte) := (List.range (ext.length / 16)).map (fun k => (ext.drop (16 * k)).take 16)

/-- TANDEM, SECONDARY and TWIN of the entries name each other. -/
def twinsOk (es : List (List Byte)) : Bool :=
  (List.range es.length).all (fun i =>
    let e := es.getD i []
    let fl := leAt e 6 1; let t := leAt e 7 1
    let o := es.getD t []
    zeroIn e 8 16 && decide (fl < 4) &&
      (if fl.testBit 0 then decide (t < es.length) && t != i && (leAt o 6 1).testBit 0 && leAt o 7 1 == i &&
          (fl.testBit 1 != (leAt o 6 1).testBit 1)
        else !fl.testBit 1))

/-- PELOTON_JOIN. -/
def bodyPelotonJoin (p : CmdPacket) (s : State) : Reply × State :=
  let domain := param p 16 2; let me := param p 18 1
  let es := memberEntries p.ext
  let n := es.length
  if p.ext.length % 16 != 0 || decide (n < 2) || decide (n ≤ me) || (es.getD me []).take 6 != s.macOf 0 || !twinsOk es || !s.fabricOn then
    (Reply.bad 0x5A, s)
  else if s.joined || s.pel.joinDue.isSome then (Reply.busy 0x5B, s)
  else (Reply.ok [(20, 2, domain), (22, 1, me)], { s with pel := { s.pel with joinDue := some (es, domain, me), leaveDue := false } })

/-- PELOTON_LEAVE. -/
def bodyPelotonLeave (_p : CmdPacket) (s : State) : Reply × State :=
  if !s.joined then (Reply.bad 0x5C, s) else (Reply.ok [], { s with pel := { s.pel with leaveDue := true } })

/-- The last bitmap. -/
def State.presentBits (s : State) : Nat :=
  ((List.range 8).map (fun w => s.regN (Reg.PEL_PRESENT w) * 2 ^ (32 * w))).sum
def State.setPresent (s : State) (bits_ : Nat) : State :=
  s.each (List.range 8) (fun st w => st.setRegN (Reg.PEL_PRESENT w) (bits bits_ (32 * w) 32))

/-- PELOTON_STATUS: the count of members present saturates at 255. -/
def bodyPelotonStatus (_p : CmdPacket) (s : State) : Reply × State :=
  (Reply.ok [(20, 2, s.pel.domain), (22, 1, s.pel.me), (23, 1, min 255 (maskBits256 s.presentBits)),
    (24, 8, s.pair Reg.PEL_LAST_BARRIER_LO Reg.PEL_LAST_BARRIER_HI)], s)
where
  maskBits256 (m : Nat) : Nat := ((List.range 256).filter (fun i => m.testBit i)).length

/-- Step 2 of a boundary: a join or a leave applies (R366). Operations that are armed, tiles in assembly and tiles due stay: nothing
in the spec ends them with the membership (assumption log 35). -/
def State.pelMembership (s : State) : State :=
  let s1 := if s.pel.leaveDue then
      let s0 := ((s.setFld Reg.PEL_STATUS 0 2 0).setFld Reg.PEL_STATUS 8 18 0).setPresent 0
      { s0 with pel := { s0.pel with members := [], domain := 0, me := 0, leaveDue := false, round := none } }
    else s
  match s1.pel.joinDue with
  | none => s1
  | some (es, domain, me) =>
    let s2 : State := { s1 with pel := { s1.pel with members := es, domain := domain, me := me, joinDue := none } }
    (((s2.setBit Reg.PEL_STATUS 0).setFld Reg.PEL_STATUS 8 8 me).setFld Reg.PEL_STATUS 24 2 s2.treeDepth).setPresent 0

/-! ### Barrier rounds (R369) -/

/-- The own bit, and the twin's while the primary holds its link (R366). -/
def State.ownBits (s : State) : Nat :=
  let e := s.memberOf s.pel.me
  2 ^ s.pel.me ||| (if (leAt e 6 1).testBit 0 && s.paired then 2 ^ leAt e 7 1 else 0)

/-- A fabric port in use runs at 10GBASE-R. -/
def State.pelSlow (s : State) : Bool :=
  (List.range 2).any (fun p => s.portLive p && s.fld (Reg.NET_PORT_CTRL p) 0 2 == 1)

/-- Root of a round: the lowest member of the last bitmap. -/
def State.roundRoot (s : State) : Option Nat := s.treeOrder.head?

/-- Open the round of an instant. -/
def State.openRound (s : State) (t : Nat) : State :=
  { s with pel := { s.pel with round := some ⟨t, s.ownBits, s.pelSlow, false, false, false⟩ } }

/-- The next round instant: k × PEL_BARRIER_PERIOD, not before now and after the last round. -/
def State.nextRound (s : State) : Nat :=
  let p := max 1 (s.regN Reg.PEL_BARRIER_PERIOD)
  max (ceilDiv s.now p) (s.pel.lastRound / p + 1) * p

/-- Disciplined time of `k` hops after an instant. -/
def State.afterHops (s : State) (t k : Nat) : Nat := t + usTime (k * s.hop)

/-- The member takes part as root: the lowest of a bitmap it is in, or with an empty bitmap when no lower member spoke (R369). -/
def State.isRoot (s : State) (r : Round) : Bool :=
  if s.present s.pel.me then s.roundRoot == some s.pel.me else s.presentBits == 0 && !r.lower

/-- The round a barrier report falls in: the one that is open, else the next one, opened now (R369). -/
def State.barrierOpen (s : State) : State := if s.pel.round.isNone then s.openRound s.nextRound else s

/-- The member's report in round `r` at its depth's time: to its parent on the tree, or to all at the instant where its bitmap is empty
(R369) or holds others but not itself (DESIGN CHOICE: the spec says nothing of that member; assumption log 35). -/
def State.reportRound (s1 : State) (r : Round) : State :=
  let depth := match s1.roundRoot.bind (fun q => s1.treePos q s1.pel.me) with
    | some q => State.posDepth 4 q
    | none => s1.treeDepth
  let s2 := s1.runToTime (s1.afterHops r.instant (s1.treeDepth - depth))
  let r2 := s2.pel.round.getD r
  let s3 : State := { s2 with pel := { s2.pel with round := some { r2 with reported := true } } }
  let body := leBytes 32 r2.bits ++ leBytes 1 (b2n r2.slow)
  if s3.present s3.pel.me then
    match s3.roundRoot with
    | some q => (match s3.treeParent q with
      | some p => s3.pelSend 1 p q r.instant body
      | none => s3)
    | none => s3
  else s3.pelSend 1 0xFFFF s3.pel.me r.instant body

/-- BARRIER_ROUND: the member's report to its parent, or by broadcast. -/
def barrierRound (s : State) : State :=
  if !s.joined || s.role == 2 then s
  else
    let s1 := s.barrierOpen
    match s1.pel.round with
    | none => s1
    | some r => if r.reported then s1 else s1.reportRound r

/-- BARRIER_UP: a subtree's bits. -/
def barrierUp (b : List Byte) (s : State) : State :=
  s.pelTake 1 b (fun t =>
    let i := Ph.instant b
    let t1 := if t.pel.round.isNone && decide (t.pel.lastRound < i) then t.openRound i else t
    match t1.pel.round with
    | none => t1
    | some r =>
      if r.instant ≠ i then t1
      else
        let y := Ph.payload b
        let r1 : Round := { r with bits := r.bits ||| leAt y 0 32, slow := r.slow || (leAt y 32 1).testBit 0,
                                   lower := r.lower || (Ph.dst b == 0xFFFF && decide (Ph.src b < t1.pel.me)) }
        { t1 with pel := { t1.pel with round := some r1 } })

/-- A round completes with a bitmap: the members gone, the registers, H. -/
def State.completeRound (s : State) (root t bits_ h : Nat) : State :=
  let gone := (List.range s.pel.members.length).filter (fun m => s.present m && !bits_.testBit m)
  let s1 := (s.setPresent bits_).setPair Reg.PEL_LAST_BARRIER_LO Reg.PEL_LAST_BARRIER_HI t
  let s2 := ((s1.setFld Reg.PEL_STATUS 16 8 root).putBit Reg.PEL_STATUS 1 (bits_.testBit s.pel.me)).setFld Reg.PEL_HOP 0 8 h
  let s3 : State := { s2 with pel := { s2.pel with round := none, lastRound := t } }
  s3.each gone (fun st m => st.pelEvent St.pelotonTimeout 0xAB [(20, 1, m), (24, 8, t)])

/-- Send the DOWN to the children in the tree of the released bitmap. -/
def State.sendDown (s : State) (root t : Nat) (body : List Byte) : State :=
  s.each (s.treeChildren root) (fun st c => st.pelSend 2 c root t body)

/-- BARRIER_RELEASE: the root ends the round. -/
def barrierRelease (s : State) : State :=
  match s.pel.round with
  | none => s
  | some r =>
    if !s.joined || s.role == 2 || !r.reported || !s.isRoot r then s
    else
      let s1 := s.runToTime (s.afterHops r.instant s.treeDepth)
      let h := if r.slow then 24 else 12
      (s1.completeRound s.pel.me r.instant r.bits h).sendDown s.pel.me r.instant (leBytes 32 r.bits ++ leBytes 1 h)

/-- BARRIER_DOWN: the released bitmap; it goes on to the children. -/
def barrierDown (b : List Byte) (s : State) : State :=
  s.pelTake 2 b (fun t =>
    let y := Ph.payload b
    if Ph.instant b ≤ t.pel.lastRound then t
    else
      let s1 := t.completeRound (Ph.root b) (Ph.instant b) (leAt y 0 32) (leAt y 32 1)
      let n := (s1.treeChildren (Ph.root b)).length
      (s1.sendDown (Ph.root b) (Ph.instant b) y).countN 13 62 n)

/-- BARRIER_TIMEOUT: no DOWN came. -/
def barrierTimeout (s : State) : State :=
  match s.pel.round with
  | none => s
  | some r =>
    let s1 := s.runToTime (s.afterHops r.instant (2 * s.treeDepth) + usTime 50)
    let s2 := (s1.setPresent 0).setFld Reg.PEL_STATUS 1 1 0
    ({ s2 with pel := { s2.pel with round := none, lastRound := r.instant } }).pelEvent St.pelotonTimeout 0xAB
      [(20, 1, s.pel.me), (24, 8, r.instant)]

/-! ### Map tiles (R371) -/

/-- A received tile is dropped. -/
def State.tileDrop (s : State) (key reason : Nat) : State :=
  ((s.count 13 64).setBit Reg.PEL_STATUS 3).pelEvent St.degraded 0xAF [(20, 8, key), (28, 1, reason)]

/-- Fragment `k` of the tile with a key joins its assembly, begun now where it is the first; the sixteenth makes a tile, which falls due
at the next boundary and goes to the other twin, or is dropped where its header or CRC32 is wrong; an assembly that is more than 1 ms old
is dropped and begins again (R371). -/
def State.assemble (t1 : State) (root key k : Nat) (data : List Byte) : State :=
  let old := (t1.pel.tiles.find? (fun x => x.key == key)).getD ⟨key, t1.core, root, []⟩
  if old.first + usCore 1000 < t1.core then
    let again : PelTile := ⟨key, t1.core, root, [(k, data)]⟩
    ({ t1 with pel := { t1.pel with tiles := t1.pel.tiles.filter (fun (z : PelTile) => z.key != key) ++ [again] } }).tileDrop key 2
  else
  let x : PelTile := { old with frags := SMap.set old.frags k data }
  let rest := t1.pel.tiles.filter (fun z => z.key != key)
  if x.frags.length < 16 then { t1 with pel := { t1.pel with tiles := rest ++ [x] } }
  else
    let tile := x.frags.flatMap (fun e => e.2)
    let t2 : State := { t1 with pel := { t1.pel with tiles := rest } }
    if !tileOk key tile then t2.tileDrop key 2
    else ({ t2 with pel := { t2.pel with due := t2.pel.due ++ [(t2.ccu.cadence + 1, tile)] } }).forwardLong 0x22
      (leBytes 8 (t2.ccu.cadence + 1) ++ tile)

/-- TILE_FRAG: assembled, and relayed to the children. -/
def tileFrag (b : List Byte) (s : State) : State :=
  s.pelTake 5 b (fun t =>
    let y := Ph.payload b
    let key := leAt y 0 8; let k := leAt y 8 1
    if Ph.root b = t.pel.me ∨ 15 < k then t
    else
      let cs := t.treeChildren (Ph.root b)
      let t1 := (t.each cs (fun st c => st.pelSend 5 c (Ph.root b) (Ph.instant b) y)).countN 13 62 cs.length
      if t1.bitOf Reg.PEL_CTRL 17 then t1.assemble (Ph.root b) key k (y.drop 12) else t1)

/-- TILE_ASSEMBLY_TIMEOUT. -/
def tileAssemblyTimeout (key : Nat) (s : State) : State :=
  match s.pel.tiles.find? (fun x => x.key == key) with
  | none => s
  | some x =>
    let s1 := s.runTo (x.first + usCore 1000)
    ({ s1 with pel := { s1.pel with tiles := s1.pel.tiles.filter (fun z => z.key != key) } }).tileDrop key 2

/-- Step 2 of the boundary that opens the cadence: complete tiles are applied by the rules of TILE_IMPORT. -/
def State.pelTiles (s : State) : State :=
  let n := s.ccu.cadence
  let now := s.pel.due.filter (fun e => decide (e.1 ≤ n))
  let s1 : State := { s with pel := { s.pel with due := s.pel.due.filter (fun e => !decide (e.1 ≤ n)) } }
  s1.each now (fun st e =>
    let key := leAt e.2 8 8
    if st.mapNotReady then st.tileDrop key 3
    else if st.tileBusy key then st.tileDrop key 1
    else match st.importTile key e.2 with
      | some x => x.count 13 63
      | none => st.tileDrop key 3)

/-! ### Time-triggered operations (R372, R373) -/

/-- Another operation is armed within 1 ms of `t`. -/
def State.opNear (s : State) (t : Nat) : Bool :=
  s.pel.ops.any (fun o => o.armed && decide (o.instant ≤ t + usTime 1000) && decide (t ≤ o.instant + usTime 1000))

/-- t lies too early or too far ahead for a lead of `lead` TIME cycles (0x5E). -/
def State.opTime (s : State) (t lead : Nat) : Bool := decide (t < s.now + lead) || decide (s.now + 48000000000 < t)

/-- Arm an operation. -/
def State.arm (s : State) (o : PelOp) : State :=
  ({ s with pel := { s.pel with ops := s.pel.ops ++ [o] } }).setBit Reg.PEL_STATUS 5

/-- The payload of a SCHEDULE. -/
def opPayload (op dis en : Nat) : List Byte := leBytes 1 op ++ zeros 3 ++ leBytes 2 dis ++ leBytes 2 en

/-- The SCHEDULE item for the twin: the Peloton header and payload (assumption log 35). -/
def State.scheduleItem (s : State) (src t : Nat) (y : List Byte) : State :=
  s.forwardItem 0x23 (leBytes 1 1 ++ leBytes 1 3 ++ leBytes 2 s.pel.domain ++ leBytes 2 src ++ leBytes 2 s.pel.me ++ leBytes 2 src ++
    leBytes 2 8 ++ zeros 4 ++ leBytes 8 t ++ leBytes 4 s.listCrc ++ zeros 4 ++ y)

/-- PELOTON_SCHEDULE; `masks` gives the DETAIL that refuses Route switch masks (R473). -/
def bodyPelotonSchedule (masks : State → Nat → Nat → Option Reply) (p : CmdPacket) (s : State) : Reply × State :=
  let op := param p 16 1; let t := param p 24 8; let dis := param p 32 2; let en := param p 34 2
  let refusal := if op = 3 then masks s dis en else none
  if !s.joined then (Reply.bad 0x5C, s)
  else if op = 0 ∨ 3 < op then (Reply.bad 0x5D, s)
  else match refusal with
  | some r => (r, s)
  | none =>
    if s.opTime t (usTime (s.treeDepth * s.hop + 50)) then (Reply.bad 0x5E, s)
    else if s.opNear t then (Reply.busy 0x5F, s)
    else
      let s1 := s.arm ⟨op, dis, en, t, some s.pel.me, [], true⟩
      let y := opPayload op dis en
      let s2 := s1.each (s1.treeChildren s1.pel.me) (fun st c => st.pelSend 3 c st.pel.me t y)
      (Reply.ok [(20, 1, op), (24, 8, t)], s2.scheduleItem s.pel.me t y)

/-- The member cannot perform an operation it was told of. -/
def State.opRefused (s : State) (issuer op t : Nat) : State :=
  s.pelEvent St.pelotonTimeout 0xAD [(20, 1, issuer), (21, 1, op), (24, 8, t)]

/-- PELOTON_SCHEDULE_FRAME. -/
def pelotonScheduleFrame (b : List Byte) (s : State) : State :=
  s.pelTake 3 b (fun t =>
    let y := Ph.payload b
    let op := leAt y 0 1; let at_ := Ph.instant b; let src := Ph.src b
    if Ph.root b = t.pel.me then t
    else if at_ < t.now + usTime 50 then t.opRefused (Ph.root b) op at_
    else
      let near := t.opNear at_
      let t1 := if near then t.opRefused (Ph.root b) op at_ else t.arm ⟨op, leAt y 4 2, leAt y 6 2, at_, some (Ph.root b), [], true⟩
      let cs := t1.treeChildren (Ph.root b)
      let t2 := (t1.each cs (fun st c => st.pelSend 3 c (Ph.root b) at_ y)).countN 13 62 cs.length
      ((t2.scheduleItem src at_ y).pelSend 4 (Ph.root b) (Ph.root b) at_ (leBytes 1 op ++ leBytes 1 (b2n (!near)))))

/-- TDM_SCHEDULE: the secondary arms what its primary relays. -/
def tdmSchedule (f : LinkIn) (s : State) : State :=
  s.item f (fun t =>
    let b := f.payload; let y := Ph.payload b
    let op := leAt y 0 1; let at_ := Ph.instant b
    if at_ < t.now + usTime 50 || t.opNear at_ then t.opRefused (Ph.root b) op at_
    else t.arm ⟨op, leAt y 4 2, leAt y 6 2, at_, some (Ph.root b), [], true⟩)

/-- SCHED_ACK. -/
def schedAck (b : List Byte) (s : State) : State :=
  s.pelTake 4 b (fun t =>
    let y := Ph.payload b
    { t with pel := { t.pel with ops := t.pel.ops.map (fun o =>
        if o.instant = Ph.instant b ∧ o.issuer = some t.pel.me ∧ o.op = leAt y 0 1 ∧ (leAt y 1 1).testBit 0 then
          { o with acks := insertOnce (Ph.src b) o.acks } else o) } })

/-- The operation due first. -/
def State.nextOp (s : State) : Option PelOp :=
  s.pel.ops.foldl (fun best o => match best with
    | some x => if o.instant < x.instant then some o else some x
    | none => some o) none

/-- The operation leaves the armed list; its issuer names the present members whose acknowledgement has not come. A secondary sends no
frame (R366) and owes none: DEDUCED (assumption log 35). -/
def State.opDue (s : State) (o : PelOp) : State :=
  let ops := s.pel.ops.filter (fun x => x.instant != o.instant)
  let s1 := ({ s with pel := { s.pel with ops := ops } }).putBit Reg.PEL_STATUS 5 (!ops.isEmpty)
  if o.issuer ≠ some s.pel.me || s.role == 2 then s1
  else
    let miss := (List.range s.pel.members.length).filter (fun m =>
      m != s.pel.me && s.present m && !s.memberSecondary m && !o.acks.contains m)
    s1.each miss (fun st m => st.pelEvent St.pelotonTimeout 0xAC [(20, 1, m), (21, 1, o.op), (24, 8, o.instant)])

/-- The record of an operation performed (R374). -/
def State.opDone (s : State) (o : PelOp) : State :=
  s.pelEvent St.ok 0xAE [(20, 1, o.op), (21, 1, b2n (s.syncAt (o.instant - usTime 50) != 2)), (24, 8, s.ccu.cadence)]

/-- Snapshot (R374): the set in the live path, whose cycle 0 has passed, takes the next SEQ. -/
def State.snapshot (s : State) : State :=
  let s1 := (s.setPair Reg.PEL_SNAP_CAD_LO Reg.PEL_SNAP_CAD_HI s.ccu.cadence).setPair Reg.PEL_SNAP_TIME_LO Reg.PEL_SNAP_TIME_HI s.now
  (s1.setPair Reg.PEL_SNAP_SEQ_LO Reg.PEL_SNAP_SEQ_HI (s.pair Reg.FPP_SEQ_LO Reg.FPP_SEQ_HI + b2n s.fpp.set.isSome)).setRegN Reg.PEL_SNAP_COMMIT (s.regN Reg.MAP_LAST_COMMIT)

/-! ### Frames at the fabric ports (R95, R367) -/

/-- A frame is a Peloton frame by its EtherType. -/
def State.pelFrame (s : State) (f : List Byte) : Bool := etherType f == s.fld Reg.PEL_CTRL 0 16

/-- Peloton services by type. -/
def pelDispatch (f : List Byte) (s : State) : State :=
  let b := etherBody f
  match Ph.type b with
  | 1 => barrierUp b s
  | 2 => barrierDown b s
  | 3 => pelotonScheduleFrame b s
  | 4 => schedAck b s
  | 5 => tileFrag b s
  | _ => s.count 13 61

/-! ### The rows -/

/-- ETHERNET_FRAME_RECEIVE (R93, R95). -/
def execEthernetFrameReceive (port : Nat) (fcsOk : Bool) (frame : List Byte) (capture fifo : Nat) (s : State) : Out :=
  .next (s.act (fun t => netReceive port fcsOk frame capture fifo (t.pelFrame frame) (pelDispatch frame) (ptpDispatch port frame capture) t))
/-- TDM_SCHEDULE (R373). -/
def execTdmSchedule (f : LinkIn) (s : State) : Out := .next (s.act (tdmSchedule f))
/-- BARRIER_ROUND (R369). -/
def execBarrierRound (s : State) : Out := .next (s.act barrierRound)
/-- BARRIER_UP (R369). -/
def execBarrierUp (body : List Byte) (s : State) : Out := .next (s.act (barrierUp body))
/-- BARRIER_RELEASE (R369). -/
def execBarrierRelease (s : State) : Out := .next (s.act barrierRelease)
/-- BARRIER_DOWN (R369). -/
def execBarrierDown (body : List Byte) (s : State) : Out := .next (s.act (barrierDown body))
/-- BARRIER_TIMEOUT (R369). -/
def execBarrierTimeout (s : State) : Out := .next (s.act barrierTimeout)
/-- PELOTON_SCHEDULE_FRAME (R373). -/
def execPelotonScheduleFrame (body : List Byte) (s : State) : Out := .next (s.act (pelotonScheduleFrame body))
/-- SCHED_ACK (R373). -/
def execSchedAck (body : List Byte) (s : State) : Out := .next (s.act (schedAck body))
/-- TILE_FRAG (R371). -/
def execTileFrag (body : List Byte) (s : State) : Out := .next (s.act (tileFrag body))
/-- TILE_ASSEMBLY_TIMEOUT (R371). -/
def execTileAssemblyTimeout (key : Nat) (s : State) : Out := .next (s.act (tileAssemblyTimeout key))

end Sys2Proof.Machine
end

