-- ==== Sys2Proof/Machine/Route.lean ====
section
/-! DEFINITION. What ROUTE_LOAD and ROUTE_ENABLE check of a Route image (R37 to R40, R46, R49, R445) and the class capacities. -/

namespace Sys2Proof.Machine

/-! ### The image itself (Tables 2.1 and 2.2) -/

/-- Every field of the header lies in its range and every reserved byte and bit is 0 (R37). -/
def headerOk (m : List Byte) : Bool :=
  rng (Img.stageCount m) 1 256 && rng (Img.basePeriod m) 800000 204800000 && rng (Img.stride m) 1 16 &&
    decide (Img.phase m < Img.stride m) && decide (Img.commitLag m ≤ 3) && decide (leAt m 15 1 < 4) && zeroIn m 17 20 &&
    (List.range 8).all (fun n => decide (Img.trigOffset m n < Img.basePeriod m)) && rng (Img.imageLen m) 512 16777216 &&
    zeroIn m 204 256

/-- Every field of a stage descriptor lies in its range (R37, Table 2.2). -/
def descOk (m d : List Byte) : Bool :=
  decide (Sd.cls d ≤ 10) && decide (Sd.flags d < 8) && zeroIn d 6 8 && decide (0 < Sd.unitMask d) &&
    decide (Sd.start d < Img.period m) && rng (Sd.deadline d) (Sd.start d + 1) (Img.period m) && rng (Sd.cycLimit d) 1 307200000 &&
    decide (Sd.tokLimit d ≤ 2184448000) && decide (Sd.tidy d ≤ 4096) && decide (Sd.inputCount d ≤ 64) &&
    decide (Sd.freewheelStage d < Img.stageCount m) && zeroIn d 48 64

/-- The SIGNED image's signature, or its want of one, under the secure-boot policy (R39, R445). -/
def State.signatureOk (s : State) (m sig : List Byte) : Bool :=
  if Img.signed m then !s.crb.routeKey.all (· == 0) && P384.verify s.crb.routeKey (sha384 m) sig
  else !s.crb.fuses.routeSigned

/-- ROUTE_LOAD's checks of the `length` bytes at the buffer, in the order of R39, R37, and of the units' own programs: the
DETAIL of the first that fails. `others` are the images of the other slots. -/
def State.loadRefusal (s : State) (bs : List Byte) (length : Nat) (others : List (List Byte)) : Option Nat :=
  let m := bs.take (Img.imageLen bs)
  if leAt bs 0 4 != 0xC1E97200 || leAt bs 4 2 != 3 then some 0x10
  else if length != Img.imageLen bs + (if Img.signed bs then 96 else 0) then some 0x13
  else if crc32Without m 200 != leAt bs 200 4 then some 0x11
  else if !s.signatureOk m (bs.drop (Img.imageLen bs)) then some 0x12
  else if !headerOk m || !(imgStages m).all (descOk m) then some 0x13
  else
    [s.visLoadRefusal m, fstLoadRefusal m, s.fusLoadRefusal m, bsuLoadRefusal m, mapLoadRefusal m, mxLoadRefusal m, gcrLoadRefusal m,
      memLoadRefusal m others].findSome? id

/-! ### Capacities and the DRAM plan (R46, R49) -/

/-- Beats of a fabric port in `p` TIME cycles at the SPEED in effect: 25GBASE-R or 10GBASE-R (R46). -/
def State.fabricBeats (s : State) (port p : Nat) : Nat :=
  if s.fld (Reg.NET_PORT_CTRL port) 0 2 = 0 then 125 * p / 2048 else 50 * p / 2048

/-- The cycle capacity of a class in a cadence of `p` TIME cycles (R46, Table 2.4). -/
def State.capacity (s : State) (cls p : Nat) : Nat :=
  match cls with
  | 0 => 4 * (3 * p) / 4
  | 1 => 2 * (3 * p) / 4
  | 2 => 2 * (3 * p) / 2
  | 3 => 64 * (3 * p) / 2
  | 4 => 2 * (3 * p) / 2
  | 5 => 8 * (3 * p) / 2
  | 6 => 64 * (3 * p) / 2
  | 7 => 4 * (3 * p) / 2
  | 8 => s.fabricBeats 0 p + s.fabricBeats 1 p
  | 9 => 3 * p / 8
  | 10 => 3 * p / 2
  | _ => 3 * p / 2

/-- The DRAM plan of a cadence of `p` TIME cycles: PLAN_PCT percent of the nominal tokens, rounded down (R49). -/
def State.dramPlan (s : State) (p : Nat) : Nat := s.fld Reg.CCU_DRAM_PLAN 0 7 * p * 8533 / 80000

/-- The budget classes that have walls: 0 to 10 (R50). -/
def classList : List Nat := List.range 11

/-- ALLOC tokens of an image over classes 0 to 10. -/
def allocTokens (m : List Byte) : Nat := (classList.map (Img.allocTok m)).sum

/-! ### ROUTE_ENABLE (R40, Table 2.3) -/

/-- A descriptor that some stage names as its Freewheel variant: it runs only in that stage's place (R53; assumption log 39). -/
def isVariant (m : List Byte) (k : Nat) : Bool :=
  (imgStages m).any (fun d => (Sd.flags d).testBit 1 && Sd.freewheelStage d == k)

/-- The stages that start by themselves. -/
def ownStages (m : List Byte) : List (List Byte) :=
  ((List.range (Img.stageCount m)).filter (fun k => !isVariant m k)).map (Img.desc m)

/-- Two stages name an engine instance in common. -/
def shareUnit (d e : List Byte) : Bool := Sd.cls d == Sd.cls e && Sd.unitMask d &&& Sd.unitMask e != 0

/-- Windows of one Route, as given (R40). -/
def windowsMeet (d e : List Byte) : Bool := decide (Sd.start d < Sd.deadline e) && decide (Sd.start e < Sd.deadline d)

/-- Windows of two Routes, folded onto one device cadence of `p` (R40). -/
def foldedMeet (p : Nat) (d e : List Byte) : Bool :=
  let la := Sd.deadline d - Sd.start d; let lb := Sd.deadline e - Sd.start e
  let a := Sd.start d % p; let b := Sd.start e % p
  decide ((b + p - a) % p < la) || decide ((a + p - b) % p < lb)

/-- Some pair of a list meets. -/
def anyPair {α : Type} (f : α → α → Bool) : List α → Bool
  | [] => false
  | x :: r => r.any (f x) || anyPair f r

/-- DETAIL 0x02. -/
def unitClash (m : List Byte) (others : List (List Byte)) : Bool :=
  anyPair (fun d e => shareUnit d e && windowsMeet d e) (ownStages m) ||
    others.any (fun o => (ownStages o).any (fun e => (ownStages m).any (fun d =>
      shareUnit d e && foldedMeet (max 1 (Img.basePeriod m)) d e)))

/-- Level-0 pixels of an image's camera streams in a cadence (R24). -/
def State.levelPixels (s : State) (m : List Byte) : Nat :=
  ((visStreams m).map (fun f => (s.cam (f - 0x010)).width * (s.cam (f - 0x010)).height)).sum

/-- The images of these slots. -/
def State.imgs (s : State) (slots : List Nat) : List (List Byte) := slots.map s.img

/-- A slot counts among "the other Routes in STARTING, ON, DRAINING or with an enable pending" (R40). -/
def Slot.counts (sl : Slot) : Bool := sl.life.active || sl.startPending

/-- The DETAIL with which ROUTE_ENABLE of a slot is refused beside the Routes of `others` (Table 2.3 and the units' chapters), in
ascending order. -/
def State.enableRefusal (s : State) (slot : Nat) (others : List Nat) : Option Nat :=
  let m := s.img slot
  let os := s.imgs others
  let p := Img.basePeriod m
  let all := m :: os
  let names := fun (l : List Nat) (f : List Byte → List Nat) => l.any (os.flatMap f).contains
  if p ≠ s.regN Reg.CCU_CADENCE_PERIOD ∧ !others.isEmpty then some 0x01
  else if unitClash m os then some 0x02
  else if classList.any (fun c => decide (s.capacity c p < (all.map (fun o => Img.allocCyc o c)).sum)) then some 0x03
  else if s.dramPlan p < (all.map allocTokens).sum then some 0x04
  else if os.any (fun o => Img.trigClaim o &&& Img.trigClaim m != 0) then some 0x05
  else if 204800000 < Img.period m * ((if Img.estimator m then Img.commitLag m else 0) + 1) then some 0x06
  else if 6 * p < (all.map s.levelPixels).sum then some 0x07
  else if names (visStreams m) visStreams then some 0x08
  else if names (fstNames m) fstNames then some 0x09
  else match fusEnableRefusal m os with
  | some d => some d
  | none =>
    if names (bsuNames m) bsuNames then some 0x0C
    else [mapEnableRefusal m os, mxEnableRefusal m os, gcrEnableRefusal m os, s.memEnableRefusal slot,
      if s.fwdTooMuch [slot] [] then some 0x14 else none].findSome? id

end Sys2Proof.Machine
end

