-- ==== Sys2Proof/Machine/Runs.lean ====
section
/-! DEFINITION. Stages at run time (R43 to R45, R52, R53): start, deadline, end, the stage status record and its events. -/

namespace Sys2Proof.Machine

/-- Writes a stage's engine makes at its start, deadline or end belong to the engine's digest lane (Table 16.4). -/
def State.stageWrites (s : State) (cls cadence : Nat) (f : State → State) : State :=
  match cls with
  | 0 => s.writing 1 cadence f
  | 1 => s.writing 2 cadence f
  | 2 => s.writing 3 cadence f
  | _ => f s

/-- The engine of a class begins a stage. -/
def State.unitStart (s : State) (r : Run) : State :=
  let cls := Sd.cls (s.runDesc r)
  s.stageWrites cls r.cadence (fun t =>
    match cls with
    | 0 => t.visStart r
    | 1 => t.fstStart r
    | 2 => t.fusStart r
    | 3 => t.bsuStart r
    | 4 => t.mapStart r
    | 5 => t.mxStart r
    | 6 => t.gcrStart r
    | _ => t)

/-- The engine of a class aborts a stage: the records of R44 are written. -/
def State.unitDeadline (s : State) (r : Run) : State :=
  let cls := Sd.cls (s.runDesc r)
  s.stageWrites cls r.cadence (fun t =>
    match cls with
    | 0 => t.visDeadline r
    | 1 => t.fstDeadline r
    | 2 => t.fusDeadline r
    | 3 => t.bsuStageDeadline r
    | 4 => t.mapDeadline r
    | 5 => t.mxDeadline r
    | 6 => t.gcrDeadline r
    | _ => t)

/-- The engine of a class lets go of a stage that has ended. -/
def State.unitEnd (s : State) (r : Run) : State :=
  let cls := Sd.cls (s.runDesc r)
  s.stageWrites cls r.cadence (fun t =>
    match cls with
    | 2 => t.fusEnd r
    | 3 => t.bsuEnd r
    | 4 => t.mapEnd r
    | 5 => t.mxEnd r
    | _ => t)

/-! ### The stage status record (R45, Table 2.6) -/

/-- An input of the stage is CUT or STALE (DETAIL[7]). -/
def State.inputDegraded (s : State) (r : Run) : Bool :=
  r.degraded || (inputFlags (s.img r.slot) r.variant).any (fun i =>
    let f := s.flagOf r.slot i
    f == Flag.cut || f == Flag.stale)

/-- Limits reached: bit 0 cycles, bit 1 tokens. -/
def Run.limits (r : Run) : Nat := r.insts.foldl (fun a i => a ||| i.limit) 0

/-- Position within UNIT_MASK of the lowest cut instance; 0xFFFF if none. -/
def Run.firstCut (r : Run) : Nat := (r.insts.findIdx? (fun i => i.cut)).getD 0xFFFF

/-- The STATUS of a stage that has ended (R44, R52, R53, R320); several grounds: in this order (assumption log 39). -/
def State.stageStatus (s : State) (r : Run) : Nat :=
  if r.missed then St.deadlineMiss
  else if r.fault then St.internalFault
  else if r.limits ≠ 0 ∨ (Sd.cls (s.runDesc r) = 6 ∧ s.gcrBoundHit r) then St.budgetExceeded
  else if r.freewheel then St.freewheelTaken
  else St.ok

/-- The 32 bytes of Table 2.6. -/
def statusRecord (status detail layer operator first cadence cyc tok items : Nat) : List Byte :=
  leBytes 1 status ++ leBytes 1 detail ++ leBytes 2 layer ++ leBytes 2 operator ++ leBytes 2 first ++ leBytes 8 cadence ++
    leBytes 8 cyc ++ leBytes 4 (min tok (2 ^ 32 - 1)) ++ leBytes 4 items

/-- The counter of walls of a stage (Table 18.4, No. 11). -/
def wallCnt (slot index : Nat) : Nat := 8 + 256 * slot + index

/-- A stage met its wall: CCU_WALL_COUNT, the counters, CUT_SEEN (R52, Table 2.13). -/
def State.countWall (s : State) (r : Run) : State :=
  if r.limits = 0 then s
  else
    let s1 := s.setRegN Reg.CCU_WALL_COUNT (min (s.regN Reg.CCU_WALL_COUNT + 1) (2 ^ 32 - 1))
    ((s1.count 11 4).count 11 (wallCnt r.slot r.index)).setBit (Reg.CCU_CLASS_STAT (Sd.cls (s.runDesc r))) 1

/-- The event of a stage status other than OK; a cut whose EVENT_ON_CUT is 0 is only counted (R45). -/
def State.stageEvent (s : State) (r : Run) (status detail : Nat) : State :=
  if status = St.ok then s
  else if status = St.budgetExceeded ∧ !(Sd.flags (s.runDesc r)).testBit 0 then s.countStatus 11 status
  else s.event 11 0xFF02 status detail (stageSrc (s.runLayer r) (s.runOperator r)) (result [(20, 8, r.cadence), (28, 1, r.slot)])

/-- The stage ends with a status: its record, counters, event and trace packet; its Route in DRAINING writes back what it left
dirty (R42, R45). -/
def State.stageDone (s : State) (r : Run) (status : Nat) : State :=
  let la := s.runLayer r; let op := s.runOperator r
  let detail := r.limits % 4 + 128 * b2n (s.inputDegraded r)
  let cyc := (r.insts.map (fun i => i.cyc)).sum; let tok := (r.insts.map (fun i => i.tok)).sum
  let rec_ := statusRecord status detail la op r.firstCut r.cadence cyc tok r.items
  let s1 := s.updSlot r.slot (fun sl => { sl with status := SMap.set sl.status r.index rec_ })
  let s2 := (s1.digest 0 r.cadence (Config.statusAddr r.slot r.index) rec_).countWall r
  let s3 := if status = St.deadlineMiss then s2.count 11 5 else s2
  let s4 := (s3.stageEvent r status detail).emitSlot 1 r.slot 0x11 la
    (leBytes 2 op ++ leBytes 1 status ++ leBytes 1 detail ++ leBytes 4 r.items) (some (s3.stageEngines r.slot la op))
  let s5 : State := { s4 with ccu := { s4.ccu with runs := s4.ccu.runs.filter (fun x => !(x.slot == r.slot && x.index == r.index)) } }
  if (s5.slot r.slot).life = Life.draining then s5.memDrain r.slot else s5

/-! ### Start (R43, R53) -/

/-- A stage starts on the descriptor `variant`: its instances' buckets are full but for what was prefetched for them (R47). -/
def State.launch (s : State) (slot index variant : Nat) (outFlags : List Nat) (freewheel : Bool) : State :=
  let sl := s.slot slot
  let d := s.sd slot variant
  let inst := fun (u : Nat) => (⟨u, 0, SMap.get 0 s.memt.precharge (64 * flagKey slot index + u), 0, false, false, 0, []⟩ : Inst)
  let waiting := (inputFlags sl.image variant).any (fun i => s.flagOf slot i == Flag.empty)
  let r : Run := ⟨slot, index, variant, sl.runCadence, sl.runInstant, s.core, (maskBits (Sd.unitMask d)).map inst, outFlags, waiting,
    0, false, freewheel, false, false⟩
  let s1 : State := { s with ccu := { s.ccu with runs := s.ccu.runs ++ [r] } }
  let la := s1.runLayer r; let op := s1.runOperator r
  let banks := (maskBits (Sd.unitMask d)).flatMap (instBanks (Sd.cls d))
  ((s1.each banks (fun st e => st.bankOpen e.1 e.2 la op 1 slot)).unitStart r).mapSync

/-- A stage that runs nothing: it ends in the cycle of its start with its output flags set. -/
def State.launchNone (s : State) (slot index : Nat) (outFlags : List Nat) (f : Flag) (status : Nat) : State :=
  let sl := s.slot slot
  let r : Run := ⟨slot, index, index, sl.runCadence, sl.runInstant, s.core, [], outFlags, false, 0, false, false, false, false⟩
  let s1 := s.each outFlags (fun st i => st.setFlag slot i f (st.runLayer r) (st.runOperator r))
  (s1.stageDone r status).mapSync

/-- The stage may start: its Route is ON and runs its stages, the descriptor is a stage of its own, it has not run in this
cadence of the Route. -/
def State.startable (s : State) (slot index : Nat) : Bool :=
  let sl := s.slot slot
  sl.life == Life.on && sl.running && decide (index < Img.stageCount sl.image) && !isVariant sl.image index &&
    (s.runOf slot index).isNone && leAt (SMap.get [] sl.status index) 8 8 != sl.runCadence

/-- STAGE_START (R43, R53). -/
def stageStart (slot index : Nat) (outFlags others : List Nat) (s : State) : State :=
  if !s.startable slot index then s
  else
    let sl := s.slot slot
    let d := Img.desc sl.image index
    let la := Sd.layer d; let op := Sd.operator d
    let s0 := (s.runToTime (sl.runInstant + Sd.start d)).emitSlot 1 slot 0x10 la (leBytes 2 op ++ zeros 2 ++ leBytes 4 sl.runCadence)
    let s1 := s0.each outFlags (fun st i => st.setFlag slot i Flag.empty la op)
    let late := (weightFlags sl.image d others).filter (fun i => s1.flagOf slot i != Flag.ready)
    if late.isEmpty then s1.launch slot index index outFlags false
    else if (Sd.flags d).testBit 1 then
      let s2 := (s1.lateEvent slot la op St.freewheelTaken late).count 11 6
      if (Sd.flags d).testBit 2 then s2.launchNone slot index outFlags Flag.ready St.freewheelTaken
      else s2.launch slot index (Sd.freewheelStage d) outFlags true
    else ((s1.lateEvent slot la op St.staleResult late).count 11 7).launchNone slot index outFlags Flag.stale St.staleResult

/-! ### Deadline and end (R44, R45) -/

/-- A stage still running is aborted: the records its unit's chapter names are written, every other flag it has not set becomes
CUT, and it ends with DEADLINE_MISS (R44). -/
def State.abortRun (s0 : State) (r0 : Run) : State :=
  let s := s0.inputWaited r0.slot r0.index
  let r := (s.runOf r0.slot r0.index).getD r0
  let live := (r.insts.filter (fun i => !i.ended)).map (fun i => i.unit)
  let s1 := s.unitDeadline r
  let s2 := s1.each live (fun st u => st.cutInst r.slot r.index u 0)
  let s3 := s2.updRun r.slot r.index (fun x => { x with missed := true, insts := x.insts.map (fun i =>
    if live.contains i.unit then { i with cut := true } else i) })
  match s3.runOf r.slot r.index with
  | none => s3
  | some x =>
    let s4 := (s3.cutFlags x x.outFlags).unitEnd x
    match s4.runOf r.slot r.index with
    | none => s4
    | some y => (s4.stageDone y St.deadlineMiss).mapSync

/-- DEADLINE_ABORT (R44): a deadline equal to the Route's period is reached in the CORE cycle before step 1 of the boundary. -/
def deadlineAbort (slot index : Nat) (s : State) : State :=
  match s.runOf slot index with
  | none => s
  | some r =>
    let d := s.runDesc r
    let due := r.instant + Sd.deadline d
    let s0 := if Sd.deadline d = Img.period (s.img slot) then s.runTo (s.coreAt due - 1) else s.runToTime due
    s0.abortRun r

/-- STAGE_END (R45): all instances have ended. The classes without a stage program of their own end with the event. -/
def stageEnd (slot index : Nat) (s : State) : State :=
  let s0 := s.mapSync
  match s0.runOf slot index with
  | none => s0
  | some r0 =>
    if r0.waiting || !(r0.insts.all (fun i => i.ended) || decide (7 ≤ Sd.cls (s0.runDesc r0))) then s0
    else
      let s1 := s0.unitEnd r0
      match s1.runOf slot index with
      | none => s1
      | some r => (s1.stageDone r (s1.stageStatus r)).mapSync

/-! ### The rows -/

/-- STAGE_START (R43, R53). -/
def execStageStart (slot index : Nat) (outFlags weightFlags : List Nat) (s : State) : Out :=
  .next (s.act (stageStart slot index outFlags weightFlags))
/-- DEADLINE_ABORT (R44). -/
def execDeadlineAbort (slot index : Nat) (s : State) : Out := .next (s.act (deadlineAbort slot index))
/-- STAGE_END (R45). -/
def execStageEnd (slot index : Nat) (s : State) : Out := .next (s.act (stageEnd slot index))

end Sys2Proof.Machine
end

