-- ==== Sys2Proof/Machine/Epoch.lean ====
section
/-! DEFINITION. Draft epochs (R20, R42, R221, R222): what a boundary decides of them, their resolution and its acknowledgement. -/

namespace Sys2Proof.Machine

/-- Slots whose estimator Route is ON (R20). -/
def State.estimators (s : State) : List Nat :=
  slotList.filter (fun n => (s.slot n).life == Life.on && Img.estimator (s.img n))

/-- An epoch's resolution has been issued and waits for acknowledgements. -/
def State.issued (s : State) (e : Nat) : Bool :=
  match s.ccu.resolving with
  | some (x, _) => x == e
  | none => false

/-- The unit index of the CCU (Table 1.2), the EVENT_SRC of its own events (R80). -/
def ccuUnit : Nat := 11

/-- Decide SQUASH of an epoch at step 4: from here on the set of squashed epochs that MAP's views and handle checks use is fixed for
the cadence, whether or not MAP holds shadows of it (R269, R274, R275). -/
def State.squash (s : State) (e : Nat) : State :=
  { s with
    ccu := { s.ccu with epochs := s.ccu.epochs.map (fun x => if x.1 = e then (e, some false) else x) },
    map := { s.map with data := { s.map.data with squashed := insertOnce e s.map.data.squashed } } }

/-- Epochs not yet resolved of which SQUASH is not decided and whose resolution is not issued, up to `last`. -/
def State.openUpTo (s : State) (last : Nat) : List Nat :=
  (s.ccu.epochs.filter (fun x => decide (x.1 ≤ last) && x.2 != some false && !s.issued x.1)).map (fun x => x.1)

/-- The squash of a drain or of a global reset, with its event (R42). -/
def State.squashDrain (s : State) (source e : Nat) : State :=
  (s.squash e).event 11 0xFF02 St.ok 0x02 source (result [(20, 4, e % 2 ^ 32)])

/-- Step 4 of the boundary that opens cadence n: the epochs a draining estimator Route or a global reset squashes, the ones R20
forces, epoch n (R18, R20, R42). `drained`: slots of estimator Routes that entered DRAINING at this boundary. -/
def State.stepEpochs (s : State) (drained : List Nat) (reset : Bool) : State :=
  let n := s.ccu.cadence
  let s1 := match s.commitLag, drained with
    | some k, _ =>
      if reset then s.each (s.openUpTo (n - 1)) (fun st e => st.squashDrain ccuUnit e)
      else
        s.each (if n < k + 1 then [] else s.openUpTo (n - 1 - k)) (fun st e =>
          (st.squash e).event 11 0xFF02 St.deadlineMiss 0x04 (st.estimators.headD 0) (result [(20, 4, e % 2 ^ 32)]))
    | none, d :: _ => s.each (s.openUpTo (n - 1)) (fun st e => st.squashDrain d e)
    | none, [] =>
      s.each (s.openUpTo (n - 1)) (fun st e => if reset then st.squashDrain ccuUnit e else st.squash e)
  let s2 : State := { s1 with ccu := { s1.ccu with epochs := s1.ccu.epochs ++ [(n, none)] } }
  s2.setRegN Reg.FPP_EPOCH_OPEN (n % 2 ^ 32)

/-- EPOCH_RESOLUTION (R222): the oldest unresolved epoch, once it is decided and every older one is acknowledged. -/
def epochResolution (epoch : Nat) (commit : Bool) (s : State) : State :=
  match s.ccu.resolving, s.ccu.epochs with
  | none, (e, some c) :: _ =>
    if e ≠ epoch ∨ c ≠ commit then s
    else
      let r := s.fppResolve e commit
      let hs := (if r.2 then [] else [0]) ++ (if r.1.mapHolds e then [1] else [])
      let s1 : State := { r.1 with ccu := { r.1.ccu with resolving := some (e, commit, hs, s.ccu.cadence, []) } }
      let s2 := if s1.mapHolds e then s1
        else s1.setRegN (if commit then Reg.MAP_LAST_COMMIT else Reg.MAP_LAST_SQUASH) (e % 2 ^ 32)
      if hs.isEmpty then s2.ackEpoch 0 else s2
  | _, _ => s

/-- RESOLUTION_ACK (R222): FPP acknowledges within 1 µs; MAP once it holds nothing of the epoch that is to be applied. -/
def resolutionAck (unit epoch : Nat) (s : State) : State :=
  match s.ccu.resolving with
  | some (e, _, hs, _, _) =>
    if e ≠ epoch ∨ !hs.contains unit ∨ (unit = 1 ∧ s.mapHolds e) then s else s.ackEpoch unit
  | none => s

/-- RESOLUTION_ACK_TIMEOUT (R222): the next boundary has opened without the acknowledgement. -/
def resolutionAckTimeout (unit epoch : Nat) (s : State) : State :=
  match s.ccu.resolving with
  | some (e, c, hs, cad, late) =>
    if e ≠ epoch ∨ !hs.contains unit ∨ late.contains unit ∨ s.ccu.cadence ≤ cad then s
    else
      ({ s with ccu := { s.ccu with resolving := some (e, c, hs, cad, unit :: late) } }).event 11 0xFF02 St.internalFault 0x08
        0x073 (result [(20, 4, e % 2 ^ 32), (24, 1, unit)])
  | none => s

/-! ### The rows -/

/-- EPOCH_RESOLUTION (R222). -/
def execEpochResolution (epoch : Nat) (commit : Bool) (s : State) : Out := .next (s.act (epochResolution epoch commit))
/-- RESOLUTION_ACK (R222). -/
def execResolutionAck (unit epoch : Nat) (s : State) : Out := .next (s.act (resolutionAck unit epoch))
/-- RESOLUTION_ACK_TIMEOUT (R222). -/
def execResolutionAckTimeout (unit epoch : Nat) (s : State) : Out := .next (s.act (resolutionAckTimeout unit epoch))

end Sys2Proof.Machine
end

