-- ==== Sys2Proof/Machine/Ccu.lean ====
section
/-! DEFINITION. The Cadence Controller (ch. 2): the boundary and its six steps (R18, R32 to R36), lifecycles of functions and Routes
(R41, R42, R83, R84, R449), camera triggers, control-core mismatches (R322), global operations (R374). -/

namespace Sys2Proof.Machine

/-! ### Lifecycle commands (R41, R83) -/

/-- An enable is accepted; true: it waits for a drain. -/
def State.funcEnable (s : State) (id : Nat) : State × Bool :=
  match (s.func id).life with
  | .off => (s.updFunc id (fun f => { f with accepted := some true }), false)
  | .draining => (s.updFunc id (fun f => { f with enablePending := true }), true)
  | _ => (s.updFunc id (fun f => { f with accepted := none }), false)

/-- A disable is accepted: a waiting enable is cancelled at once. -/
def State.funcDisable (s : State) (id : Nat) : State :=
  s.updFunc id (fun f => { f with
    enablePending := false,
    accepted := match f.life with
      | .starting => some false
      | .on => some false
      | _ => none })

/-- ROUTE_ENABLE of a slot that holds an image. -/
def State.slotEnable (s : State) (n : Nat) : State × Bool :=
  match (s.slot n).life with
  | .off => (s.updSlot n (fun f => { f with accepted := some true }), false)
  | .draining => (s.updSlot n (fun f => { f with enablePending := true }), true)
  | _ => (s.updSlot n (fun f => { f with accepted := none }), false)

/-- ROUTE_DISABLE. -/
def State.slotDisable (s : State) (n : Nat) : State :=
  s.updSlot n (fun f => { f with
    enablePending := false,
    accepted := match f.life with
      | .starting => some false
      | .on => some false
      | _ => none })

/-- Slots of a mask. -/
def slotsOf (mask : Nat) : List Nat := slotList.filter (fun n => mask.testBit n)

/-- The disables and enables of a Route switch; the mask of the slots whose enable a drain leaves waiting (R473). -/
def State.switchRoutes (s : State) (disable enable : Nat) : State × Nat :=
  let s1 := s.each (slotsOf disable) (fun st n => st.slotDisable n)
  (slotsOf enable).foldl (fun (acc : State × Nat) n =>
    if (acc.1.slot n).image.isEmpty then acc
    else
      let r := acc.1.slotEnable n
      (r.1, if r.2 then acc.2 ||| 2 ^ n else acc.2)) (s1, 0)

/-! ### Functions at step 2 (R83, R449) -/

/-- FUNC_IDs of Table 3.12 but the Route slots, ascending. -/
def funcIds : List Nat :=
  (List.range 0x58).map (· + 0x10) ++ (List.range 8).map (· + 0x70) ++ (List.range 8).map (· + 0x80)

/-- The start condition of a function (R83, R121, Tables 3.12 and 5.11). The sensors of a secondary see no pins of their own: theirs
holds (assumption log 40). -/
def State.funcReady (s : State) (id : Nat) : Bool :=
  if isSensor id && s.noPins then true
  else if id < 0x020 then
    let c := s.cam (id - 0x010)
    c.fsSeen && (decide (s.regN (Reg.ING_CSI_RATE c.port) ≤ 1500) || s.bitOf (Reg.ING_CSI_STATUS c.port) 2)
  else if id < 0x058 then (s.func id).ready || s.decReady (id - 0x020)
  else if id < 0x060 then
    let e := s.enc (id - 0x058)
    e.seenA && e.seenB && e.seenZ
  else if id < 0x068 then (s.func id).ready
  else if id = 0x073 then s.fppReady
  else if id = 0x075 then s.bitOf Reg.MAP_STATUS 2
  else if 0x080 ≤ id ∧ id ≤ 0x083 then s.netReady (id - 0x080)
  else if id = 0x084 then s.tdmReady
  else if id = 0x087 then s.metPresent
  else true

/-- A function enters STARTING. -/
def State.funcStarting (s : State) (id : Nat) : State :=
  let n := s.ccu.cadence
  let s1 := s.updFunc id (fun f => { f with
    life := .starting, enablePending := false, accepted := none, startedAt := n, lastTransition := n, ready := false, boundAt := 0 })
  let s2 := if isSensor id then s1.fusSensorStarting id else s1
  if id < 0x020 then s2.setCam (id - 0x010) { s2.cam (id - 0x010) with fsSeen := false }
  else if id < 0x058 then s2.decClear (id - 0x020)
  else if id < 0x060 then
    s2.setEnc (id - 0x058) { s2.enc (id - 0x058) with seenA := false, seenB := false, seenZ := false }
  else if id = 0x084 then s2.tdmStart
  else if id = 0x086 then s2.traceStart
  else if id = 0x087 then s2.metStart
  else s2

/-- A function enters ON at a boundary of instant `t`. -/
def State.funcOn (s : State) (t id : Nat) : State :=
  let s1 := s.updFunc id (fun f => { f with life := .on, accepted := none, lastTransition := s.ccu.cadence })
  if id < 0x020 then s1.setCam (id - 0x010) { s1.cam (id - 0x010) with seq := 0 }
  else if id < 0x058 then
    ingStuckRun (id - 0x020) (s1.setCh (id - 0x020) { s1.ch (id - 0x020) with onInstant := some t, first := true })
  else if id < 0x060 then s1.setEnc (id - 0x058) { s1.enc (id - 0x058) with indexTime := 0 }
  else if id < 0x068 then s1.setLidar (id - 0x060) { s1.lidar (id - 0x060) with seq := 0, silentFrom := t }
  else if id = 0x073 then s1.fppEnterOn.loadSeed
  else if id = 0x084 then s1.tdmPaired
  else if id = 0x086 then s1.traceOn
  else s1

/-- The drain bound of Table 3.14, CORE cycles. -/
def State.drainBound (s : State) (id : Nat) : Nat :=
  let period := ceilDiv (3 * s.regN Reg.CCU_CADENCE_PERIOD) 2
  if id < 0x020 ∨ id = 0x087 then period
  else if id < 0x058 then ceilDiv (3 * (s.groupDelay (id - 0x020) 0).toNat) 2 + s.outputPeriod (id - 0x020)
  else if id < 0x060 ∨ id = 0x085 then usCore 1
  else if id < 0x068 then usCore 20
  else if id < 0x080 then usCore 50
  else if id < 0x084 then usCore 100
  else usCore 1000

/-- A function enters DRAINING at a boundary of instant `t`. -/
def State.funcDraining (s : State) (t id : Nat) : State :=
  let s1 := s.updFunc id (fun f => { f with
    life := .draining, accepted := none, lastTransition := s.ccu.cadence, drainBy := s.core + s.drainBound id, overran := false })
  if 0x020 ≤ id ∧ id < 0x058 then s1.setCh (id - 0x020) { s1.ch (id - 0x020) with drainInstant := t }
  else if id = 0x073 then s1.fppDrain
  else if id = 0x086 then s1.traceFlush
  else s1

/-- Step 2 of one function. -/
def State.funcStep (s : State) (t id : Nat) : State :=
  let f := s.func id
  match f.life with
  | .off => if f.accepted = some true ∨ f.enablePending then s.funcStarting id else s
  | .starting =>
    if f.accepted = some false then s.funcDraining t id else if s.funcReady id then s.funcOn t id
    else if id = 0x084 then s.sendPair else s
  | .on => if f.accepted = some false then s.funcDraining t id else s
  | .draining => s

/-! ### Routes at step 2 (R34, R41, R42) -/

/-- The trigger registers of the pins a Route claims. -/
def State.showTriggers (s : State) (slot : Nat) (claimed : Bool) : State :=
  let m := s.img slot
  s.each ((List.range 8).filter (fun n => (Img.trigClaim m).testBit n)) (fun st n =>
    (st.setFld (Reg.CCU_TRIG_CTRL n) 0 5 (if claimed then slot + 16 else 0)).setRegN (Reg.CCU_TRIG_OFFSET n)
      (if claimed then Img.trigOffset m n else 0))

/-- A Route enters STARTING at a boundary of instant `t`; another base period comes into effect (R34). Of two Routes of different base
periods that enter STARTING at one boundary (the second enabled while the enable of the first waited), the higher slot's period stays:
DESIGN CHOICE (assumption log 61). -/
def State.routeStarting (s : State) (t slot : Nat) : State :=
  let n := s.ccu.cadence
  let m := s.img slot
  let s1 := s.updSlot slot (fun f => { f with
    life := .starting, enablePending := false, accepted := none, lastTransition := n, runCadence := n, runInstant := t, running := false })
  let s2 : State := { s1 with ccu := { s1.ccu with flags := s1.ccu.flags.keep (fun k => k / 65536 != slot) } }
  let s3 := if Img.basePeriod m = s2.regN Reg.CCU_CADENCE_PERIOD then s2
    else (s2.setRegN Reg.CCU_CADENCE_PERIOD (Img.basePeriod m)).setPair Reg.CCU_CADENCE_ANCHOR_LO Reg.CCU_CADENCE_ANCHOR_HI t
  let s4 := (((s3.showTriggers slot true).memRouteStart slot).visRouteStart slot).fstActive slot true
  ((((s4.fusRouteStart slot).bsuRouteStart slot).mapRouteStart slot).mxRouteStart slot).gcrRouteStart slot

/-- A Route enters DRAINING: it starts no stages, and its dirty tiles are written back (R42). -/
def State.routeDraining (s : State) (slot : Nat) : State :=
  (s.updSlot slot (fun f => { f with
    life := .draining, accepted := none, lastTransition := s.ccu.cadence, running := false, overran := false })).memDrain slot

/-- Step 2 of one Route. -/
def State.routeStep (s : State) (t slot : Nat) : State :=
  let f := s.slot slot
  match f.life with
  | .off =>
    if (f.accepted = some true ∨ f.enablePending) ∧ !f.image.isEmpty then s.routeStarting t slot else s
  | .starting =>
    if f.accepted = some false then s.routeDraining slot
    else s.updSlot slot (fun x => { x with life := .on, accepted := none, lastTransition := s.ccu.cadence })
  | .on => if f.accepted = some false then s.routeDraining slot else s
  | .draining => s

/-! ### The boundary (R18) -/

/-- What the boundary to come is: its instant, whether it is realigned (R35), the cadence number a secondary takes. -/
structure Opening where
  instant : Nat
  realigned : Bool
  number : Option Nat
  deriving DecidableEq, Repr

/-- The secondary follows its primary's boundaries: paired, or about to pair (R354, R359). -/
def State.follows (s : State) : Bool :=
  s.pairSecondary || (s.role == 2 && (s.func tdmFunc).life == Life.starting && s.tdmReady)

/-- The next boundary; none while RUN is 0, and on a secondary until BOUNDARY has come (R32, R35, R359, R449). -/
def State.opening (s : State) : Option Opening :=
  match s.ccu.lastInstant with
  | none => none
  | some last =>
    if !s.bitOf Reg.CCU_CTRL 0 then none
    else if s.follows then
      match s.tdm.boundaries with
      | b :: _ => some ⟨b.2, false, some b.1⟩
      | [] => none
    else if s.ccu.stepped = 1 then some ⟨s.disc (rawOf (s.coreAt (s.gridAfter last))), true, none⟩
    else if s.ccu.stepped = 2 then some ⟨s.gridAfter last, true, none⟩
    else some ⟨s.gridAfter last, false, none⟩

/-- The control cores of the pairs that run take up a command fetch or a boundary sequence (Table 18.1); the cycles they issue in it
are a free value. -/
def State.ctlWork (s : State) (layer operator kind : Nat) : State :=
  (s.each s.ctlEngines (fun st e => (st.bankOpen e.1 e.2 layer operator kind 0xFF).bankBusy e.1 e.2 (s.freeBelow 4096))).drawFree

/-- Step 1: what ends with the cadence, then the counter (R18, R35, R363, R409, R416). -/
def State.stepCount (s : State) (o : Opening) : State :=
  let n := o.number.getD (s.ccu.cadence + 1)
  let s1 := ((s.ctlWork 0 0 3).gcrBoundary.monBoundary.each classList (fun st c => st.monOffer 8 c 0 st.ccu.poolTok)).closeDigest s.ccu.cadence
  let s2 : State := { s1 with
    ccu := { s1.ccu with cadence := n, boundaryTime := o.instant, lastInstant := some o.instant, stepped := 0 },
    tdm := { s1.tdm with boundaries := if o.number.isSome then s1.tdm.boundaries.drop 1 else s1.tdm.boundaries } }
  let s3 := if !o.realigned then s2
    else
      let x := (s2.setBit Reg.CCU_STATUS 2).count 11 2
      if x.bitOf Reg.CCU_CTRL 1 then x.event 11 0xFF02 St.ok 0x01 ccuUnit (result [(20, 8, o.instant)]) else x
  let s4 := if o.number.isSome ∧ !s3.linkOn then s3.setPair Reg.CCU_CADENCE_ANCHOR_LO Reg.CCU_CADENCE_ANCHOR_HI o.instant else s3
  let s4 := s4.traceBoundary
  if s4.role == 1 then s4.linkSend 0x03 0 n (leBytes 8 n ++ leBytes 8 o.instant) else s4

/-- Frames whose Route's cadence has ended close, but those of a stream that enters DRAINING (R106, Table 3.14). -/
def State.closeFrames (s : State) : State :=
  s.each (List.range 16) (fun st i =>
    if (st.func (camFunc i)).accepted = some false ∨ (st.func (camFunc i)).life = Life.draining then st
    else
      match (st.cam i).frame with
      | some f => if f.ends ≤ st.ccu.cadence then st.closeFrame i else st
      | none => st)

/-- Windows whose Route's cadence has ended close (R109). -/
def State.closeWindows (s : State) : State :=
  s.each (List.range 16) (fun st i =>
    match (st.cam i).window with
    | some w => if w.ends ≤ st.ccu.cadence then (st.closeWindow i w).visRecord i else st
    | none => st)

/-- The encoders' record instants count from this boundary: from every boundary, or, where Routes that are ON name the encoder, from
those that open a cadence of one of them (R116, Table 5.7). -/
def State.encBoundary (s : State) (t : Nat) : State :=
  s.each (List.range 8) (fun st n =>
    let named := slotList.filter (fun k => (st.slot k).life == Life.on && (fusReads (st.img k)).contains (encFunc n))
    let opens := named.isEmpty || named.any (fun k => st.ccu.cadence % max 1 (Img.stride (st.img k)) == Img.phase (st.img k))
    if opens then st.setEnc n { st.enc n with base := t, records := 0 } else st)

/-- What the ports saw in the cadence that has ended; the counts of the one that begins. -/
def State.ingBoundary (s : State) : State :=
  let s1 := s.each (List.range 8) (fun st p => st.setFld (Reg.ING_CSI_STATUS p) 8 4 (SMap.get 0 st.ing.vcNow p))
  { s1 with ing := { s1.ing with
      vcNow := [],
      cams := s1.ing.cams.map (fun (e : Nat × Cam) => (e.1, { e.2 with fsSeen := false })) } }

/-- Step 2: roles, membership, Route switch, then the lifecycles in ascending FUNC_ID order (R18, R449). -/
def State.stepLife (s : State) (t : Nat) (masks : Option (Nat × Nat)) : State :=
  let s1 := s.tdmRoles.pelMembership
  let s2 := if s1.role ≠ s.role ∨ s1.pel.members ≠ s.pel.members then s1.emitDevice else s1
  let s3 := match masks with
    | some m => (s2.switchRoutes m.1 m.2).1
    | none => s2
  let s4 := s3.visBoundary.closeFrames.closeWindows.fusBoundary
  let s5 := s4.each slotList (fun st n => st.routeStep t n)
  let s6 := s5.each funcIds (fun st id => st.funcStep t id)
  (((s6.ingBoundary.encBoundary t).pelTiles.mapBoundary.metBoundary).fppBoundary)

/-- Routes that run their stages from the boundary that opens the cadence. -/
def State.runners (s : State) : List Nat :=
  slotList.filter (fun n => (s.slot n).life == Life.on && s.ccu.cadence % max 1 (Img.stride (s.img n)) == Img.phase (s.img n))

/-- The engines a charge waits on, by subsystem and number in their counter banks (Table 18.1): the DMA engine of a HOST_DMA charge's
command, the lanes of a solver problem, the dump and trace engine. The other classes' command work keeps no bank. -/
def State.waitBanks (s : State) (w : PoolWait) : List (Nat × Nat) :=
  match w.cls with
  | 7 => ((s.hif.longs.find? (fun (l : Long) => w.long == some l.key)).bind (fun l => l.engine)).toList.map (fun e => (14, e))
  | 3 => s.bsu.chs.flatMap (fun c => match c.2.run with
      | some r => if r.desc.host.isSome && r.desc.host == w.long then (chanLanes c.1 (Bp.cluster r.hdr)).map (fun l => (7, l)) else []
      | none => [])
  | 10 => [(15, 0)]
  | _ => []

/-- A solver problem that waited `n` cycles for its charge goes on that much later. -/
def State.shiftProblem (s : State) (w : PoolWait) (n : Nat) : State :=
  if w.cls ≠ 3 then s
  else { s with bsu := { s.bsu with chs := s.bsu.chs.map (fun (c : Nat × BsuCh) => (c.1, { c.2 with run := c.2.run.map (fun r =>
      if r.desc.host.isSome && r.desc.host == w.long then { r with at_ := r.at_ + n } else r) })) } }

/-- Charges that waited for the refill take what the pools hold now, in their order; their wait counts under BUDGET (R48). -/
def State.serveWaits (s : State) : State :=
  ({ s with ccu := { s.ccu with poolWaits := [] } }).each s.ccu.poolWaits (fun st w =>
    let n := s.core - w.since
    (((st.waitBanks w).foldl (fun (y : State) (e : Nat × Nat) => y.bankStall e.1 e.2 3 n) st).shiftProblem w n).chargePool w.cls w.cyc w.tok w.long)

/-- Step 3: the free pools are refilled (R48). -/
def State.stepPools (s : State) : State :=
  let p := s.regN Reg.CCU_CADENCE_PERIOD
  let ms := s.imgs s.runners
  let cyc := fun (c : Nat) => if c = 11 then s.capacity c p else s.capacity c p - (ms.map (fun m => Img.allocCyc m c)).sum
  let s1 : State := { s with ccu := { s.ccu with
    poolCyc := (List.range 12).map (fun c => (c, cyc c)), poolTok := s.dramPlan p - (ms.map allocTokens).sum,
    usedPrev := s.ccu.usedTok, usedTok := [], obsTok := 0 } }
  ((s1.serveWaits.each (slotList.filter (fun n => (s1.slot n).life.active)) (fun st n => st.memRefill n))).each s1.runners (fun st n =>
    st.memOpen n)

/-- Step 5: the Routes run from here (R41). -/
def State.stepRoutes (s : State) (t : Nat) : State :=
  s.each s.runners (fun st n =>
    (st.updSlot n (fun f => { f with runCadence := st.ccu.cadence, runInstant := t, running := true })).mxBoundary n)

/-- The slot of a Route that is ON and names a camera stream. -/
def State.streamRoute (s : State) (i : Nat) : Option Nat :=
  slotList.find? (fun n => (s.slot n).life == Life.on && (visStreams (s.img n)).contains (camFunc i))

/-- Step 6: the trigger instants of this cadence, the search-window poses due at them (R220), and the windows of free-running
streams (R109). -/
def State.stepTriggers (s : State) (t : Nat) : State :=
  let rs := s.runners
  let n := s.ccu.cadence
  let due := (List.range 8).filterMap (fun pin =>
    (rs.find? (fun r => (Img.trigClaim (s.img r)).testBit pin)).map (fun r => (pin, t + Img.trigOffset (s.img r) pin)))
  let wins := (List.range 16).filterMap (fun i =>
    if (s.func (camFunc i)).configured then
      (due.find? (fun d => d.1 == (s.cam i).trigger)).map (fun d => (camFunc i, d.2, n))
    else none)
  let s1 : State := { s with ccu := { s.ccu with trigDue := due }, fpp := { s.fpp with winDue := s.fpp.winDue ++ (if s.fppOn then wins else []) } }
  s1.each (List.range 16) (fun st i =>
    if (st.func (camFunc i)).life != Life.on || (st.cam i).trigger != 0xFF then st
    else
      let p := st.regN Reg.CCU_CADENCE_PERIOD
      match st.streamRoute i with
      | some r => if rs.contains r then
          st.openWindow i t (t + Img.stride (st.img r) * p) n 0 (n + max 1 (Img.stride (st.img r))) else st
      | none => st.openWindow i t (t + p) n 0 (n + 1))

/-- A boundary opens: the six steps of R18. `reset` and `masks` are those of a global operation (R374). -/
def State.openBoundary (s : State) (o : Opening) (reset : Bool) (masks : Option (Nat × Nat)) : State :=
  let t := o.instant
  let s1 := s.stepCount o
  let s2 := s1.stepLife t masks
  let drained := slotList.filter (fun n =>
    (s2.slot n).life == Life.draining && (s1.slot n).life != Life.draining && Img.estimator (s2.img n))
  ((s2.stepPools.stepEpochs drained reset).stepRoutes t).stepTriggers t

/-- CADENCE_BOUNDARY (R18, R32, R35): the clock comes to the first CORE cycle in which disciplined time has reached the instant. -/
def cadenceBoundary (s : State) : State :=
  match s.opening with
  | none => s
  | some o => (s.runToTime o.instant).openBoundary o false none

/-! ### RUN (R449) -/

/-- A write of CCU_CTRL.RUN: 1 starts the grid after this cycle's disciplined time; 0 stops it while every slot is OFF. -/
def cadenceRun (run : Bool) (s : State) : State :=
  if run then
    let s1 := (s.setBit Reg.CCU_CTRL 0).setBit Reg.CCU_STATUS 0
    if s.bitOf Reg.CCU_CTRL 0 then s else { s1 with ccu := { s1.ccu with lastInstant := some s1.now, stepped := 0 } }
  else if !s.bitOf Reg.CCU_CTRL 0 then s
  else if !s.allSlotsOff then s.setBit Reg.CCU_STATUS 3
  else
    let s1 := (s.clrBit Reg.CCU_CTRL 0).clrBit Reg.CCU_STATUS 0
    { s1 with ccu := { s1.ccu with lastInstant := none, stepped := 0, trigDue := [] } }

/-! ### Bounds and drains (R42, R83, R84) -/

/-- START_BOUND_EXCEEDED: at every 16th boundary of STARTING (R83). -/
def startBoundExceeded (func : Nat) (s : State) : State :=
  let f := s.func func
  let n := s.ccu.cadence
  let k := n - f.startedAt
  if f.life = Life.starting ∧ 16 ≤ k ∧ k % 16 = 0 ∧ f.boundAt ≠ n then
    (s.updFunc func (fun x => { x with boundAt := n })).event (if isSensor func then 1 else 11) 0xFF01
      (if isSensor func then St.sensorAbsent else St.internalFault) 0x04 func (result [(20, 2, func), (22, 1, Life.code .starting)])
  else s

/-- The drain work of a function is done (Table 3.14). -/
def State.funcDrained (s : State) (id : Nat) : Bool :=
  if id < 0x020 then
    match (s.cam (id - 0x010)).frame with
    | some f => f.closed || f.absent
    | none => true
  else if 0x020 ≤ id ∧ id < 0x058 then s.decDrained (id - 0x020)
  else if id = 0x074 then s.bsu.chs.all (fun c => c.2.run.isNone)
  else if 0x080 ≤ id ∧ id ≤ 0x083 then (s.netPort (id - 0x080)).fwd.isEmpty && (s.netPort (id - 0x080)).hold.isEmpty
  else if id = 0x084 then s.linkState < 2 || s.tdm.replay.isEmpty
  else if id = 0x086 then s.traceDrained
  else if id = 0x087 then s.metDrained
  else true

/-- FUNCTION_DRAIN_COMPLETE (R84); at the earliest in the CORE cycle after the step 2 at which the drain began (R135). -/
def functionDrainComplete (func : Nat) (s0 : State) : State :=
  if (s0.func func).life != Life.draining || !s0.funcDrained func then s0
  else
    let s := s0.runTo (max (s0.coreAt s0.ccu.boundaryTime + 1) (if func = posePort then s0.poseEnd else 0))
    let s0 := if func = 0x073 then s.fppOff else if 0x020 ≤ func ∧ func < 0x058 then s.audioClose (func - 0x020) else s
    let s1 := s0.updFunc func (fun f => { f with life := .off, lastTransition := s.ccu.cadence, overran := false })
    let s2 := if func < 0x020 then s1.setCam (func - 0x010) { s1.cam (func - 0x010) with window := none }
      else if func < 0x058 then s1.decClear (func - 0x020)
      else if func = 0x084 then s1.tdmOff
      else if func = 0x087 then s1.metOff
      else s1
    s2.event 11 0xFF01 St.ok 0x03 func (result [(20, 2, func), (22, 1, Life.code .off)])

/-- ROUTE_DRAIN_COMPLETE (R42). -/
def routeDrainComplete (slot : Nat) (s : State) : State :=
  if (s.slot slot).life != Life.draining || !s.memDrained slot || s.ccu.runs.any (fun r => r.slot == slot) then s
  else
    let s1 := s.updSlot slot (fun f => { f with life := .off, lastTransition := s.ccu.cadence, overran := false })
    let s2 := ((((s1.memRouteOff slot).visRouteOff slot).fstActive slot false).fusRouteOff slot).bsuRouteOff slot
    let s3 := ((s2.mapRouteOff slot).mxRouteOff slot).showTriggers slot false
    s3.event 11 0xFF02 St.ok 0x03 slot (result [(20, 1, slot)])

/-- DRAIN_OVERRUN (R42, R84): a Route is still DRAINING at the boundary after the one at which it began; a function when its bound
has passed. -/
def drainOverrun (func : Nat) (s : State) : State :=
  if func < 16 then
    let f := s.slot func
    if f.life = Life.draining ∧ f.lastTransition < s.ccu.cadence ∧ !f.overran then
      (s.updSlot func (fun x => { x with overran := true })).count 11 3
    else s
  else
    let f := s.func func
    if f.life = Life.draining ∧ !f.overran then
      let s1 := ((s.runTo f.drainBy).updFunc func (fun x => { x with overran := true })).count 11 3
      if 0x020 ≤ func ∧ func < 0x058 then s1.count 2 (decCnt (func - 0x020) 2) else s1
    else s

/-! ### Camera triggers (R36) -/

/-- CAMERA_TRIGGER: the pin goes active, and the windows of the ON streams it exposes open (R109). -/
def cameraTrigger (pin : Nat) (s : State) : State :=
  match SMap.find s.ccu.trigDue pin with
  | none => s
  | some t =>
    let s1 := s.runToTime t
    let w := 16 * max 1 (s1.fld (Reg.CCU_TRIG_CTRL pin) 16 16)
    let s2 : State := { s1 with ccu := { s1.ccu with
      trigDue := SMap.erase s1.ccu.trigDue pin, trigEnd := SMap.set s1.ccu.trigEnd pin (s1.raw + w) } }
    let sl := s2.slot (s2.fld (Reg.CCU_TRIG_CTRL pin) 0 4)
    let last := sl.runInstant + Img.stride sl.image * s2.regN Reg.CCU_CADENCE_PERIOD
    s2.each (List.range 16) (fun st i =>
      if (st.func (camFunc i)).life == Life.on && (st.cam i).trigger == pin then
        st.openWindow i t last sl.runCadence t (sl.runCadence + max 1 (Img.stride sl.image)) else st)

/-- TRIGGER_PULSE_END (R36): WIDTH × 16 TIME cycles, whatever disciplined time does meanwhile. -/
def triggerPulseEnd (pin : Nat) (s : State) : State :=
  match SMap.find s.ccu.trigEnd pin with
  | none => s
  | some r =>
    let s1 := s.runTo (coreOfRaw r)
    { s1 with ccu := { s1.ccu with trigEnd := SMap.erase s1.ccu.trigEnd pin } }

/-! ### Control cores (R322) -/

/-- A control-core pair that runs mismatches and stops; where the other has stopped, the Brake follows, reason 0xFE. -/
def lockstepMismatch (pairB : Bool) (s : State) : State :=
  let own := if pairB then 2 else 1
  let other := if pairB then 1 else 2
  if !s.bitOf Reg.GCR_CTL_STATUS own then s
  else
    let s1 := (s.clrBit Reg.GCR_CTL_STATUS own).setBit Reg.GCR_CTL_STATUS (if pairB then 4 else 3)
    if !s.bitOf Reg.GCR_CTL_STATUS other then s1.brakeSource 4 0xFE
    else
      let s2 := (if pairB then s1 else s1.setBit Reg.GCR_CTL_STATUS 0).clrBit Reg.CCU_STATUS 1
      s2.event 10 0xFF02 St.internalFault (if pairB then 0x09 else 0x0A) ccuUnit (result [(20, 1, b2n pairB)])

/-! ### Global operations (R374) -/

/-- GLOBAL_OPERATION: the operation due first. A reset or a Route switch opens a boundary at its instant; off the grid it shortens
the cadence, and the running stages of the Routes whose cadence ends with it are aborted. The record is issued for a local ROUTE_SWITCH
as well (assumption log 35). -/
def globalOperation (s : State) : State :=
  match s.nextOp with
  | none => s
  | some o =>
    let s0 := (s.runToTime o.instant).opDue o
    let s1 := s0.emit none 0x05 o.op 0 (leBytes 8 o.instant) (some s0.ctlEngines)
    if !o.armed then s0
    else if o.op = 1 then s1.snapshot.opDone o
    else if s1.ccu.lastInstant.isNone then s1.opDone o
    else
      let regular := match s1.opening with
        | some x => x.instant == o.instant && !x.realigned
        | none => false
      let s2 := if regular then s1
        else s1.each (s1.ccu.runs.filter (fun r => decide (r.cadence + max 1 (Img.stride (s1.img r.slot)) ≤ s1.ccu.cadence + 1)))
          (fun st r => st.abortRun r)
      let s3 := s2.setPair Reg.CCU_CADENCE_ANCHOR_LO Reg.CCU_CADENCE_ANCHOR_HI o.instant
      (s3.openBoundary ⟨o.instant, false, none⟩ (o.op == 2) (if o.op = 3 then some (o.disable, o.enable) else none)).opDone o

/-! ### The rows -/

/-- CADENCE_BOUNDARY (R18). -/
def execCadenceBoundary (s : State) : Out := .next (s.act cadenceBoundary)
/-- START_BOUND_EXCEEDED (R83). -/
def execStartBoundExceeded (func : Nat) (s : State) : Out := .next (s.act (startBoundExceeded func))
/-- CAMERA_TRIGGER (R36). -/
def execCameraTrigger (pin : Nat) (s : State) : Out := .next (s.act (cameraTrigger pin))
/-- TRIGGER_PULSE_END (R36). -/
def execTriggerPulseEnd (pin : Nat) (s : State) : Out := .next (s.act (triggerPulseEnd pin))
/-- FUNCTION_DRAIN_COMPLETE (R84). -/
def execFunctionDrainComplete (func : Nat) (s : State) : Out := .next (s.act (functionDrainComplete func))
/-- ROUTE_DRAIN_COMPLETE (R42). -/
def execRouteDrainComplete (slot : Nat) (s : State) : Out := .next (s.act (routeDrainComplete slot))
/-- DRAIN_OVERRUN (R84). -/
def execDrainOverrun (func : Nat) (s : State) : Out := .next (s.act (drainOverrun func))
/-- LOCKSTEP_MISMATCH (R322). -/
def execLockstepMismatch (pairB : Bool) (s : State) : Out := .next (s.act (lockstepMismatch pairB))
/-- GLOBAL_OPERATION (R374). -/
def execGlobalOperation (s : State) : Out := .next (s.act globalOperation)

end Sys2Proof.Machine
end

