-- ==== Sys2Proof/Machine/HostBody.lean ====
section
/-! DEFINITION. What the session, function, Route and sensor commands do once the common checks have passed (Table 3.9; ch. 2, 3, 5,
6). -/

namespace Sys2Proof.Machine

/-! ### Sessions (R74 to R77) -/

/-- HIF_CONTEXT of the open session; 0 without one. -/
def State.context (s : State) : Nat := s.fld Reg.HIF_CONTEXT 0 16

/-- SESSION_OPEN (R75). -/
def bodySessionOpen (p : CmdPacket) (s : State) : Reply × State :=
  let t := param p 16 1
  if 1 < t then (Reply.bad 0x01, s)
  else if s.context ≠ 0 ∧ t = 0 then (Reply.busy 0, s)
  else
    let c := if s.hif.lastContext = 65535 then 1 else s.hif.lastContext + 1
    let s1 := (({ s with hif := { s.hif with lastContext := c } }).setRegN Reg.HIF_CONTEXT c).setRegN Reg.HIF_NEXT_HSEQ ((p.hseq + 1) % 2 ^ 32)
    (Reply.ok [(20, 2, c), (22, 2, 1), (24, 4, s.regN Reg.CRB_FW_VERSION), (28, 4, s.regN Reg.HIF_OLDEST_DSEQ)], s1)

/-- SESSION_CLOSE (R76). -/
def bodySessionClose (_p : CmdPacket) (s : State) : Reply × State := (Reply.ok [], s.setRegN Reg.HIF_CONTEXT 0)

/-- Slots that hold an image. -/
def State.residentMask (s : State) : Nat := maskOf (slotList.filter (fun n => !(s.slot n).image.isEmpty))

/-- ENABLE_PENDING of a FUNC_ID. -/
def State.pendingOf (s : State) (id : Nat) : Bool := if id < 16 then (s.slot id).enablePending else (s.func id).enablePending

/-- The 256 bytes of Table 3.11. -/
def State.snapshotBytes (s : State) : List Byte :=
  let flags := b2n (s.context != 0) + 2 * b2n (s.bitOf Reg.HIF_RING_STATUS 6) + 4 * b2n (s.bitOf Reg.HIF_RING_STATUS 3)
  let states := (List.range 64).map (fun k =>
    BitVec.ofNat 8 ((List.range 4).map (fun j => (s.lifeOf (4 * k + j)).code * 4 ^ j)).sum)
  let pend := (List.range 32).map (fun k => BitVec.ofNat 8 ((List.range 8).map (fun j => b2n (s.pendingOf (8 * k + j)) * 2 ^ j)).sum)
  leBytes 4 (s.regN Reg.HIF_NEXT_HSEQ) ++ leBytes 4 (s.regN Reg.HIF_LAST_DSEQ) ++ leBytes 4 (s.regN Reg.HIF_OLDEST_DSEQ) ++
    leBytes 2 s.context ++ leBytes 1 flags ++ leBytes 1 s.hif.longs.length ++ leBytes 8 s.ccu.cadence ++ leBytes 8 s.ccu.boundaryTime ++
    states ++ pend ++ slotList.flatMap (fun n => leBytes 4 (s.routeCrc n)) ++ leBytes 2 s.residentMask ++ zeros 62

/-- SESSION_QUERY (R77). -/
def bodySessionQuery (p : CmdPacket) (s : State) : Reply × State :=
  let a := param p 16 8
  let r := Reply.ok [(20, 4, s.regN Reg.HIF_NEXT_HSEQ), (24, 4, s.regN Reg.HIF_LAST_DSEQ), (28, 2, s.context), (30, 2, s.residentMask)]
  (r, if a = 0 then s else s.hostSt a s.snapshotBytes)

/-- Put copies of retained records into the delivery order (R73). -/
def State.copies (s : State) (quiet : Bool) (rs : List Record) : State :=
  { s with hif := { s.hif with out := s.hif.out ++ rs.map (fun r => (⟨r, true, if quiet then none else some 0⟩ : Delivery)) } }

/-- REPLAY (R74). -/
def bodyReplay (p : CmdPacket) (s : State) : Reply × State :=
  let first := param p 16 4; let count := param p 20 2
  let oldest := s.regN Reg.HIF_OLDEST_DSEQ
  let k := (first + 2 ^ 32 - oldest) % 2 ^ 32
  if count = 0 ∨ 4096 < count then (Reply.bad 0x03, s)
  else if k < s.hif.buf.length then
    let rs := (s.hif.buf.drop k).take count
    (⟨St.ok, 0, result [(20, 4, first), (24, 2, rs.length)]⟩, s.copies (p.flags.testBit 0) rs)
  else if 2 ^ 31 ≤ k then
    let rs := s.hif.buf.take count
    (⟨St.ok, 1, result [(20, 4, oldest), (24, 2, rs.length)]⟩, s.copies (p.flags.testBit 0) rs)
  else (⟨St.ok, 2, zeros 12⟩, s)

/-- NOP: bytes 16 to 27 come back. -/
def bodyNop (p : CmdPacket) (s : State) : Reply × State := (⟨St.ok, 0, (p.params ++ zeros 12).take 12⟩, s)

/-! ### Functions (R83) -/

/-- The Result of the function commands. -/
def State.funcFields (s : State) (id : Nat) : List (Nat × Nat × Nat) :=
  [(20, 2, id), (22, 1, (s.lifeOf id).code), (23, 1, b2n (s.pendingOf id))]

/-- The Route period is a whole multiple of an encoder's RECORD_PERIOD (Table 5.7): STRIDE × base period of each resident Route that
names the encoder; the base period where none does. -/
def State.recordPeriodOk (s : State) (n : Nat) : Bool :=
  let p := s.regN Reg.CCU_CADENCE_PERIOD
  let named := slotList.filter (fun k => (fusReads (s.img k)).contains (encFunc n))
  let periods := if named.isEmpty then [p] else named.map (fun k => max 1 (Img.stride (s.img k)) * p)
  periods.all (fun q => q % max 1 (usTime (s.enc n).recordPeriod) == 0)

/-- FUNC_ENABLE's refusals. -/
def State.funcEnableRefusal (s : State) (id : Nat) : Option Reply :=
  if !funcDefined id then some (Reply.bad 0xE7)
  else if id < 16 then some (Reply.bad 0x21)
  else if isSensor id ∧ !(s.func id).configured then some (Reply.bad 0x23)
  else if rng id 0x058 0x05F ∧ !s.recordPeriodOk (id - 0x058) then some (Reply.bad 0x42)
  else if rng id 0x020 0x057 then s.decEnableRefusal (id - 0x020)
  else if id = 0x073 then s.fppEnableRefusal
  else if id = 0x075 ∧ !s.mapBases.set then some (Reply.bad 0x27)
  else if id = 0x084 ∧ s.role = 0 then some (Reply.bad 0x59)
  else if rng id 0x010 0x01F ∧ s.fwdTooMuch [] [id - 0x010] then some (Reply.bad 0x14)
  else none

/-- FUNC_ENABLE. -/
def bodyFuncEnable (p : CmdPacket) (s : State) : Reply × State :=
  let id := param p 16 2
  match s.funcEnableRefusal id with
  | some r => (r, s)
  | none =>
    let t := s.funcEnable id
    (⟨if t.2 then St.pending else St.ok, 0, result (t.1.funcFields id)⟩, t.1)

/-- A Route's image uses a function: an engine or a fabric port of a stage, FPP of an estimator Route (0x22, R212). -/
def usesFunc (m : List Byte) (id : Nat) : Bool :=
  let engine := fun (c : Nat) => if c < 3 then 0x070 + c else if c < 7 then 0x071 + c else 0
  (imgStages m).any (fun d => engine (Sd.cls d) == id ||
    (Sd.cls d == 8 && rng id 0x080 0x081 && (Sd.unitMask d).testBit (id - 0x080))) || (id == 0x073 && Img.estimator m)

/-- FUNC_DISABLE. -/
def bodyFuncDisable (p : CmdPacket) (s : State) : Reply × State :=
  let id := param p 16 2
  if !funcDefined id then (Reply.bad 0xE7, s)
  else if id < 16 then (Reply.bad 0x21, s)
  else if slotList.any (fun n => (s.slot n).life.active && usesFunc (s.img n) id) then (Reply.bad 0x22, s)
  else
    let t := s.funcDisable id
    (Reply.ok (t.funcFields id), t)

/-- FUNC_QUERY. -/
def bodyFuncQuery (p : CmdPacket) (s : State) : Reply × State :=
  let id := param p 16 2
  let last := if id < 16 then (s.slot id).lastTransition else (s.func id).lastTransition
  if !funcDefined id then (Reply.bad 0xE7, s) else (Reply.ok (s.funcFields id ++ [(24, 8, last)]), s)

/-! ### Routes (R39 to R42, R473) -/

/-- A long command of the list names the slot: ROUTE_LOAD or ROUTE_QUERY (R68). -/
def slotIn (longs : List Long) (n : Nat) : Bool :=
  longs.any (fun l => (l.opcode == 0x0201 || l.opcode == 0x0206) && param l.packet 16 1 == n)

/-- An outstanding long command names the slot (R68). -/
def State.slotHeld (s : State) (n : Nat) : Bool := slotIn s.hif.longs n

/-- The other slots whose Routes count in R40's checks. -/
def State.countingSlots (s : State) (n : Nat) : List Nat := slotList.filter (fun k => k != n && (s.slot k).counts)

/-- ROUTE_LOAD: accepted, the image is fetched and checked; a failure leaves the slot empty (R39). DESIGN CHOICE (assumption log 61): a
length outside its range, DETAIL 0x13, is found before a slot that is occupied. -/
def bodyRouteLoad (p : CmdPacket) (s : State) : Reply × State :=
  let n := param p 16 1; let len := param p 32 4
  if 15 < n then (Reply.bad 0x16, s)
  else if !rng len 512 16777312 then (Reply.bad 0x13, s)
  else if slotIn s.hif.longs.dropLast n then (Reply.busy 0xE6, s)
  else if !(s.slot n).image.isEmpty then (Reply.busy 0x18, s)
  else
    let bs := s.hostLd (param p 24 8) len
    let s1 := s.chargePool 7 (ceilDiv len 64) 0 (some s.longKey)
    match s.loadRefusal bs len (s.imgs (slotList.filter (fun k => !(s.slot k).image.isEmpty))) with
    | some d => (Reply.accepted, s1.longDone s.longKey St.badParam d (zeros 12))
    | none =>
      let s2 := (s1.updSlot n (fun x => { x with image := bs.take (Img.imageLen bs), status := [] })).memLoad n
      (Reply.accepted, s2.longDone s.longKey St.ok 0 (result [(20, 1, n), (24, 4, leAt bs 200 4)]))

/-- The slot is emptied. -/
def State.unload (s : State) (n : Nat) : State :=
  (s.updSlot n (fun _ => { Slot.reset with lastTransition := (s.slot n).lastTransition })).memTidy

/-- ROUTE_UNLOAD. -/
def bodyRouteUnload (p : CmdPacket) (s : State) : Reply × State :=
  let n := param p 16 1
  let sl := s.slot n
  if 15 < n then (Reply.bad 0x16, s)
  else if s.slotHeld n then (Reply.busy 0xE6, s)
  else if sl.image.isEmpty then (Reply.ok [(20, 1, n)], s)
  else if sl.life != Life.off || sl.startPending then (Reply.busy 0x19, s)
  else (Reply.ok [(20, 1, n)], s.unload n)

/-- The Result of ROUTE_ENABLE and ROUTE_DISABLE. -/
def State.slotFields (s : State) (n : Nat) : List (Nat × Nat × Nat) :=
  [(20, 1, n), (21, 1, (s.slot n).life.code), (22, 1, b2n (s.slot n).enablePending)]

/-- ROUTE_ENABLE. -/
def bodyRouteEnable (p : CmdPacket) (s : State) : Reply × State :=
  let n := param p 16 1
  if 15 < n then (Reply.bad 0x16, s)
  else if s.slotHeld n then (Reply.busy 0xE6, s)
  else if (s.slot n).image.isEmpty then (Reply.bad 0x17, s)
  else match s.enableRefusal n (s.countingSlots n) with
    | some d => (Reply.bad d, s)
    | none =>
      let t := s.slotEnable n
      (⟨if t.2 then St.pending else St.ok, 0, result (t.1.slotFields n)⟩, t.1)

/-- ROUTE_DISABLE. -/
def bodyRouteDisable (p : CmdPacket) (s : State) : Reply × State :=
  let n := param p 16 1
  if 15 < n then (Reply.bad 0x16, s)
  else if s.slotHeld n then (Reply.busy 0xE6, s)
  else
    let t := if (s.slot n).image.isEmpty then s else s.slotDisable n
    (Reply.ok (t.slotFields n), t)

/-- The refusal of Route switch masks (R473); the slots the switch disables count as they stand after its disables. -/
def switchRefusal (s : State) (disable enable : Nat) : Option Reply :=
  if disable &&& enable ≠ 0 ∨ (slotsOf enable).any (fun n => (s.slot n).image.isEmpty) then some (Reply.bad 0x5D)
  else if (slotsOf (disable ||| enable)).any s.slotHeld then some (Reply.busy 0xE6)
  else
    let s1 := s.each (slotsOf disable) (fun st n => st.slotDisable n)
    (slotsOf enable).findSome? (fun n =>
      let others := slotList.filter (fun k => k != n && ((s1.slot k).counts || enable.testBit k))
      (s1.enableRefusal n others).map Reply.bad)

/-- ROUTE_SWITCH (R372, R473). -/
def bodyRouteSwitch (p : CmdPacket) (s : State) : Reply × State :=
  let dis := param p 16 2; let en := param p 18 2; let t := param p 24 8
  match switchRefusal s dis en with
  | some r => (r, s)
  | none =>
    if t = 0 then
      let r := s.switchRoutes dis en
      (Reply.ok [(20, 2, dis), (22, 2, en), (24, 2, r.2)], r.1)
    else if s.opTime t (usTime 50) then (Reply.bad 0x5E, s)
    else if s.opNear t then (Reply.busy 0x5F, s)
    else (Reply.ok [(20, 2, dis), (22, 2, en)], s.arm ⟨3, dis, en, t, none, [], true⟩)

/-- CCU_ROUTE_STATEn (Table 2.12). -/
def State.routeState (s : State) (n : Nat) : Nat :=
  let sl := s.slot n
  let m := sl.image
  let r := !m.isEmpty
  sl.life.code + 4 * b2n r + 8 * b2n sl.enablePending +
    (if r then
      16 * (Img.stride m - 1) + 256 * Img.phase m + 4096 * (if Img.estimator m then Img.commitLag m else 0) +
        16384 * b2n (Img.estimator m) + 65536 * Img.stageCount m
     else 0)

/-- ROUTE_QUERY: the stage status records in index order (R45). -/
def bodyRouteQuery (p : CmdPacket) (s : State) : Reply × State :=
  let n := param p 16 1
  let sl := s.slot n
  if 15 < n then (Reply.bad 0x16, s)
  else if sl.image.isEmpty then (Reply.bad 0x17, s)
  else
    let k := Img.stageCount sl.image
    let bs := (List.range k).flatMap (fun i => SMap.get (zeros 32) sl.status i)
    let s1 := s.chargePool 7 (ceilDiv bs.length 64) 0 (some s.longKey)
    (Reply.accepted, (s1.hostSt (param p 24 8) bs).longDone s.longKey St.ok 0 (result [(20, 1, n), (22, 2, k), (24, 4, s.routeState n)]))

/-! ### Sensors (R108, R118, R128) -/

/-- SENSOR_CONFIG. -/
def bodySensorConfig (p : CmdPacket) (s : State) : Reply × State :=
  let id := param p 16 2
  if !funcDefined id then (Reply.bad 0xE7, s)
  else match s.sensorRefusal id p.ext with
    | some r => (r, s)
    | none => (Reply.ok [(20, 2, id)], s.takeSensor id p.ext)

/-- LIDAR_TEMPLATE (R118). The rule gives no order of its refusals: a set that does not exist, then BUSY 0x24, then the descriptor
(DESIGN CHOICE, assumption log 61). -/
def bodyLidarTemplate (p : CmdPacket) (s : State) : Reply × State :=
  let j := param p 16 1
  if 7 < j then (Reply.bad 0x45, s)
  else if (s.func (lidarFunc j)).life != Life.off then (Reply.busy 0x24, s)
  else if !lidarDescOk p.ext then (Reply.bad 0x45, s)
  else (Reply.ok [(20, 1, j)],
    (s.setLidar j { s.lidar j with desc := p.ext }).updFunc (lidarFunc j) (fun f => { f with configured := true }))

/-- DEC_CONFIG: the Result holds GD_0. -/
def bodyDecConfig (p : CmdPacket) (s : State) : Reply × State :=
  let c := param p 16 1
  match s.decRefusal c p.ext with
  | some r => (r, s)
  | none =>
    let t := s.takeSetting c p.ext
    (Reply.ok [(20, 1, c), (24, 4, (t.groupDelay c 0).toNat)], t)

end Sys2Proof.Machine
end

