-- ==== Sys2Proof/Machine/HostCmd.lean ====
section
/-! DEFINITION. Host commands (ch. 3): the opcode table, the acceptance checks of Table 3.5, sequencing, replies, duplicates, long
commands, forwarding to the twin (R358). -/

namespace Sys2Proof.Machine

/-! ### The opcode table (R67, R79) -/

/-- The kinds of R67. -/
inductive OpKind where
  | immediate | boundary | long | unsequenced
  deriving DecidableEq, Repr

/-- What the common checks and the forwarding need of an opcode: its kind, the parameter bytes it defines (packet offset, width), the
extension it takes (0 none, 16 a multiple of 16, else that length), its host buffers, its length, whether a primary forwards it. -/
structure OpSpec where
  kind : OpKind
  used : List (Nat × Nat)
  ext : Nat
  buffer : Option Nat
  length : Option Nat
  forwarded : Bool
  deriving DecidableEq, Repr

/-- Table 3.9. -/
def opSpec (code : Nat) : Option OpSpec :=
  let i := fun (used : List (Nat × Nat)) (ext : Nat) (fwd : Bool) => some (⟨.immediate, used, ext, none, none, fwd⟩ : OpSpec)
  let b := fun (used : List (Nat × Nat)) (ext : Nat) (fwd : Bool) => some (⟨.boundary, used, ext, none, none, fwd⟩ : OpSpec)
  let l := fun (used : List (Nat × Nat)) (buffer length : Option Nat) (fwd : Bool) => some (⟨.long, used, 0, buffer, length, fwd⟩ : OpSpec)
  match code with
  | 0x0101 => some ⟨.unsequenced, [(16, 1), (20, 4)], 0, none, none, false⟩
  | 0x0102 => i [] 0 true
  | 0x0103 => some ⟨.unsequenced, [(16, 8)], 0, some 16, none, false⟩
  | 0x0104 => i [(16, 4), (20, 2)] 0 false
  | 0x0105 => i [(16, 12)] 0 false
  | 0x0110 => b [(16, 2)] 0 true
  | 0x0111 => b [(16, 2)] 0 true
  | 0x0112 => i [(16, 2)] 0 false
  | 0x0201 => l [(16, 1), (24, 8), (32, 4)] (some 24) (some 32) true
  | 0x0202 => i [(16, 1)] 0 true
  | 0x0203 => b [(16, 1)] 0 true
  | 0x0204 => b [(16, 1)] 0 true
  | 0x0205 => b [(16, 2), (18, 2), (24, 8)] 0 true
  | 0x0206 => l [(16, 1), (24, 8)] (some 24) none false
  | 0x0301 => i [(16, 2)] 64 true
  | 0x0302 => i [(16, 2)] 0 false
  | 0x0303 => b [(16, 2), (18, 1), (19, 1)] 0 true
  | 0x0304 => i [(16, 1)] 320 true
  | 0x0305 => i [(16, 1)] 64 true
  | 0x0401 => l [(16, 1), (20, 8), (28, 4), (32, 8)] (some 32) none false
  | 0x0402 => l [(16, 8), (24, 8)] (some 24) none false
  | 0x0403 => l [(16, 8), (24, 8)] (some 24) none true
  | 0x0404 => l [(16, 8), (24, 1)] none none true
  | 0x0501 => l [(16, 1), (24, 8), (32, 4)] (some 24) none true
  | 0x0502 => i [(16, 48)] 0 true
  | 0x0503 => i [(16, 48)] 0 true
  | 0x0601 => l [(16, 8), (24, 8), (32, 4)] (some 24) (some 32) false
  | 0x0602 => l [(16, 8), (24, 8), (32, 4)] (some 24) (some 32) true
  | 0x0603 => l [(16, 8), (24, 8), (32, 4)] none (some 32) true
  | 0x0604 => i [(16, 1)] 0 true
  | 0x0605 => l [(16, 8), (24, 1)] none none true
  | 0x0606 => l [(16, 8), (24, 1)] none none true
  | 0x0607 => l [(16, 8), (32, 4)] none (some 32) true
  | 0x0701 => i [] 0 false
  | 0x0702 => i [(16, 1), (24, 8), (32, 4)] 0 true
  | 0x0703 => i [(16, 1)] 64 true
  | 0x0801 => b [(16, 1)] 0 false
  | 0x0802 => i [] 0 false
  | 0x0803 => b [] 0 false
  | 0x0804 => b [(16, 2), (18, 1)] 16 false
  | 0x0805 => b [] 0 false
  | 0x0806 => i [(16, 1), (24, 8), (32, 2), (34, 2)] 0 false
  | 0x0807 => i [] 0 false
  | 0x0901 => l [(16, 1), (24, 8)] (some 24) none false
  | 0x0902 => i [(16, 1)] 64 true
  | 0x0903 => i [] 64 true
  | 0x0904 => l [(16, 8), (24, 4), (28, 8)] (some 16) none false
  | 0x0905 => i [(16, 1)] 0 true
  | 0x0A01 => i [] 0 false
  | 0x0A02 => i [] 0 false
  | 0x0A03 => b [(16, 2), (18, 1)] 0 true
  | 0x0A04 => l [(16, 8), (24, 2)] (some 16) none false
  | _ => none

/-- The meaning of an opcode once the common checks have passed. -/
def opBody (code : Nat) (p : CmdPacket) (s : State) : Reply × State :=
  match code with
  | 0x0101 => bodySessionOpen p s
  | 0x0102 => bodySessionClose p s
  | 0x0103 => bodySessionQuery p s
  | 0x0104 => bodyReplay p s
  | 0x0105 => bodyNop p s
  | 0x0110 => bodyFuncEnable p s
  | 0x0111 => bodyFuncDisable p s
  | 0x0112 => bodyFuncQuery p s
  | 0x0201 => bodyRouteLoad p s
  | 0x0202 => bodyRouteUnload p s
  | 0x0203 => bodyRouteEnable p s
  | 0x0204 => bodyRouteDisable p s
  | 0x0205 => bodyRouteSwitch p s
  | 0x0206 => bodyRouteQuery p s
  | 0x0301 => bodySensorConfig p s
  | 0x0302 => bodySensorQuery p s
  | 0x0303 => bodyMirageConfig p s
  | 0x0304 => bodyLidarTemplate p s
  | 0x0305 => bodyDecConfig p s
  | 0x0401 => bodyMapRead p s
  | 0x0402 => bodyTileExport p s
  | 0x0403 => bodyTileImport p s
  | 0x0404 => bodyMapArchive p s
  | 0x0501 => bodySolveSubmit p s
  | 0x0502 => bodyChannelConfig p s
  | 0x0503 => bodyChannelReset p s
  | 0x0601 => bodyMemRead p s
  | 0x0602 => bodyMemWrite p s
  | 0x0603 => bodyMemCopy p s
  | 0x0604 => bodySramWindow p s
  | 0x0605 => bodyMemPromote p s
  | 0x0606 => bodyMemEvict p s
  | 0x0607 => bodyMemFlush p s
  | 0x0701 => bodyTimeRead p s
  | 0x0702 => bodyTimeAdjust p s
  | 0x0703 => bodyPtpConfig p s
  | 0x0801 => bodyTandemConfig p s
  | 0x0802 => bodyTandemStatus p s
  | 0x0803 => bodyTandemSwitchover p s
  | 0x0804 => bodyPelotonJoin p s
  | 0x0805 => bodyPelotonLeave p s
  | 0x0806 => bodyPelotonSchedule switchRefusal p s
  | 0x0807 => bodyPelotonStatus p s
  | 0x0901 => bodyCounterRead p s
  | 0x0902 => bodyMonitorConfig p s
  | 0x0903 => bodyTraceConfig p s
  | 0x0904 => bodyTensorDump p s
  | 0x0905 => bodyBrake p s
  | 0x0A01 => bodyMetIdent p s
  | 0x0A02 => bodyMetCounter p s
  | 0x0A03 => bodyMetSelect p s
  | 0x0A04 => bodyMetResultRead p s
  | _ => (⟨St.badOpcode, 0, zeros 12⟩, s)

/-! ### Replies -/

/-- Statuses of a command that was not accepted (Table 3.8). -/
def refusal (st : Nat) : Bool := [St.busy, St.badOpcode, St.badParam, St.badContext, St.seqGap, St.seqDuplicate, St.sealed_].contains st

/-- The subsystem whose ERRORS and WARNINGS count a reply of an opcode (R78; Tables 1.2, 3.9, 18.4): the family's unit. -/
def opUnit (code : Nat) : Nat :=
  match code / 256 with
  | 1 => 14 | 2 => 11 | 3 => 1 | 4 => 8 | 5 => 7 | 7 => 12 | 8 => 13 | _ => 15

/-- A reply's record and, of an Error or Warning, its count (R78); nothing is counted once the die is stopped (R425). -/
def State.replyRecord (s : State) (code status detail hseq : Nat) (res : List Byte) (consumed quiet : Bool) : State :=
  let s1 := s.createRecord code status detail hseq res consumed quiet (if quiet then none else some 0)
  if s.obs.stopped then s1 else s1.countStatus (opUnit code) status

/-- Create a command's reply; QUIET signals no vector. -/
def State.answer (s : State) (code : Nat) (p : CmdPacket) (r : Reply) (consumed : Bool) : State :=
  let s1 := if refusal r.status && !s.obs.stopped then s.count 14 3 else s
  s1.replyRecord code r.status r.detail p.hseq r.result consumed (p.flags.testBit 0)

/-- The bytes of Table 3.6 a digest takes of a reply: 0 to 3 and 20 to 31. -/
def replyDigest (code : Nat) (r : Reply) : List Byte :=
  leBytes 2 code ++ leBytes 1 r.status ++ leBytes 1 r.detail ++ (r.result ++ zeros 12).take 12

/-! ### Checks of Table 3.5 from step 4 on -/

/-- The device answers BRAKED: stopped, or a BRAKE command has been accepted (R79). -/
def State.isBraked (s : State) : Bool :=
  s.obs.stopped || s.obs.brake.any (fun b => b.command)

/-- Parameter bytes the opcode does not define are 0. -/
def paramsOk (used : List (Nat × Nat)) (p : CmdPacket) : Bool :=
  (List.range 48).all (fun k => used.any (fun u => decide (u.1 ≤ k + 16) && decide (k + 16 < u.1 + u.2)) || p.params.getD k 0 == 0)

/-- PAYLOAD_LEN matches the opcode. -/
def extOk (ext n : Nat) : Bool := if ext = 16 then true else n == ext

/-- Step 4: HDR_VER, FLAGS and parameter bytes, PAYLOAD_LEN, addresses and lengths (Table 3.7). Of an undefined opcode the spec names no
parameter byte and no extension: DESIGN CHOICE, none is refused here, so that step 5 answers BAD_OPCODE (assumption log 61). -/
def headerRefusal (spec : Option OpSpec) (p : CmdPacket) : Option Nat :=
  let used := match spec with | some o => o.used | none => [(16, 48)]
  if p.hdrVer ≠ 1 then some 0xE0
  else if 3 < p.flags ∨ !paramsOk used p then some 0xE1
  else if 4096 < p.payloadLen ∨ spec.any (fun o => !extOk o.ext p.payloadLen) then some 0xE2
  else if spec.any (fun o => o.buffer.any (fun a => param p a 8 % 64 != 0) || o.length.any (fun a => param p a 4 == 0)) then some 0xE3
  else none

/-- Refusals that hold for whole families: the secondary's own host (R353), a failed DRAM package (R447). -/
def State.familyRefusal (s : State) (own : Bool) (code : Nat) : Option Reply :=
  if own && s.role == 2 && (s.func tdmFunc).life != Life.off && !secondaryAllows code then some (Reply.busy 0x58)
  else if s.dramFailed && (code == 0x0110 || [2, 4, 5, 6].contains (code / 256)) then some (Reply.busy 0x28)
  else none

/-! ### Long commands (R67) -/

/-- Enter a long command; a transfer to or from host memory starts on a DMA engine, which one is a free value (Table 20.9). -/
def State.enterLong (s : State) (code : Nat) (p : CmdPacket) (o : OpSpec) : State :=
  let e := if o.buffer.isSome then some (s.freeBelow 4) else none
  let s1 := match e with
    | some e => ((s.drawFree.setFld (Reg.HIF_DMA_STATUS e) 16 16 code).setBit (Reg.HIF_DMA_STATUS e) 0).bankOpen 14 e p.layer p.operator 2 0xFF
    | none => s
  { s1 with hif := { s1.hif with
      longs := s1.hif.longs ++ [⟨p.hseq + 2 ^ 32 * s1.hif.longCount, code, p, none, e⟩], longCount := s1.hif.longCount + 1 } }

/-- Host-memory bytes a command reads: address and length. -/
def hostReads (code : Nat) (p : CmdPacket) : Option (Nat × Nat) :=
  if code = 0x0201 ∨ code = 0x0501 ∨ code = 0x0602 then some (param p 24 8, param p 32 4)
  else if code = 0x0403 then some (param p 24 8, tileLen)
  else none

/-- HIF_PCIE_ERR bit of a failed read (Table 20.8). -/
def fetchBit : FetchCause → Nat
  | .timeout => 0
  | .completion => 1
  | .poisoned => 2

/-- A long command whose reads of host memory fail (DETAIL 0xE4): accepted as far as its parameters and the state allow, it ends with
no other effect. What only its bytes could refuse (0x97 of TILE_IMPORT and what follows it) is not found. -/
def State.readFails (s : State) (code : Nat) (p : CmdPacket) (t : Reply × State) : Reply × State :=
  match p.fault with
  | none => t
  | some c =>
    if (hostReads code p).isSome &&
        (t.1.status == St.accepted || (code == 0x0403 && [0x97, 0x98, 0x99].contains t.1.detail)) then
      (Reply.accepted, (s.setBit Reg.HIF_PCIE_ERR (fetchBit c)).longDone s.longKey St.badParam 0xE4 (zeros 12))
    else t

/-- Run an opcode whose common checks have passed. A refused long command leaves nothing behind. DESIGN CHOICE (assumption log 61): the
64 outstanding long commands, DETAIL 0xE5, are found before the opcode's own parameters and state. -/
def State.runBody (s : State) (code : Nat) (p : CmdPacket) (o : OpSpec) : Reply × State :=
  if o.kind = .long then
    if 64 ≤ s.hif.longs.length then (Reply.busy 0xE5, s)
    else
      let x := s.enterLong code p o
      let t := x.readFails code p (opBody code p x)
      if t.1.status = St.accepted then
        let moved := t.2.counter 14 6 - s.counter 14 6
        let l := t.2.hif.longs.getLast?
        match l.bind (fun x => x.engine) with
        | some e => (t.1, t.2.bankBusy 14 e moved)
        | none => t
      else (t.1, s)
  else opBody code p s

/-! ### Forwarding (R358, Table 16.2) -/

/-- A command packet with its extension. -/
def packetBytes (code : Nat) (p : CmdPacket) : List Byte :=
  leBytes 2 code ++ leBytes 1 p.flags ++ leBytes 1 p.hdrVer ++ leBytes 4 p.hseq ++ leBytes 2 p.context ++ leBytes 2 p.layer ++
    leBytes 2 p.operator ++ leBytes 2 p.payloadLen ++ (p.params ++ zeros 48).take 48 ++ p.ext

/-- The packet at the head of a byte list. -/
def packetOf (b ext : List Byte) : CmdPacket :=
  ⟨leAt b 2 1, leAt b 3 1, leAt b 4 4, leAt b 8 2, leAt b 10 2, leAt b 12 2, leAt b 14 2, (b.drop 16).take 48, ext.take (leAt b 14 2), none⟩

/-- The primary of a pair forwards an accepted command, and its reply enters lane 9; `primary`: what the device was at acceptance. -/
def State.forwardCommand (s : State) (primary : Bool) (code : Nat) (p : CmdPacket) (o : OpSpec) (r : Reply) : State :=
  if !o.forwarded || !primary || (p.fault.isSome && (hostReads code p).isSome) then s
  else
    let read := match hostReads code p with
      | some a => s.hostLd a.1 a.2
      | none => []
    let s1 := s.forwardLong 0x20 (packetBytes code p ++ read)
    if o.kind = .long then s1 else s1.digest 9 s1.ccu.cadence p.hseq (replyDigest code r)

/-! ### Acceptance (R66) -/

/-- The packet of R416 for an accepted command. -/
def State.traceCommand (s : State) (code : Nat) (p : CmdPacket) : State :=
  if s.obs.stopped then s
  else (s.count 14 2).emit (some 2) 0x20 0 code (leBytes 4 p.hseq ++ leBytes 4 ((s.regN Reg.HIF_LAST_DSEQ + 1) % 2 ^ 32))
    (some s.ctlEngines)

/-- Steps 3 to 6 and the reply. `own`: the command is the own host's; `consumed`: its HSEQ is consumed (R71). -/
def State.checked (s : State) (own consumed : Bool) (code : Nat) (p : CmdPacket) : State :=
  let spec := opSpec code
  if s.isBraked then s.answer code p ⟨St.braked, 0, zeros 12⟩ consumed
  else match headerRefusal spec p, spec with
  | some d, _ => s.answer code p (Reply.bad d) consumed
  | none, none => s.answer code p ⟨St.badOpcode, 0, zeros 12⟩ consumed
  | none, some o =>
    match s.familyRefusal own code with
    | some r => (if r.detail = 0x58 then s.setBit Reg.TDM_STATUS 6 else s).answer code p r consumed
    | none =>
      let t := s.runBody code p o
      let opened := consumed || (code == 0x0101 && t.1.status == St.ok)
      if refusal t.1.status then t.2.answer code p t.1 consumed
      else ((t.2.traceCommand code p).answer code p t.1 (if o.kind = .unsequenced then opened && code == 0x0101 else opened)).forwardCommand
        s.pairPrimary code p o t.1

/-- A duplicate (R71): SEQ_DUPLICATE and a copy of the original reply where it is retained. -/
def State.duplicate (s : State) (code : Nat) (p : CmdPacket) : State :=
  match s.hif.buf.reverse.find? (fun r => r.consumed && r.hseq == p.hseq) with
  | some r =>
    let s1 := s.answer code p ⟨St.seqDuplicate, if r.opcode = code then 0 else 2,
      result [(20, 4, r.dseq), (24, 1, r.status), (25, 1, r.detail), (26, 2, r.opcode)]⟩ false
    s1.copies (p.flags.testBit 0) [r]
  | none => s.answer code p ⟨St.seqDuplicate, 1, result [(20, 4, 0xFFFFFFFF)]⟩ false

/-- A FENCE must wait: an earlier long command has not completed (Table 3.4); a braked device answers at once (R79). -/
def State.fenced (s : State) (p : CmdPacket) : Bool := p.flags.testBit 1 && !s.hif.longs.isEmpty && !s.isBraked

/-- Hold a command behind what it waits for. -/
def State.hold (s : State) (code : Nat) (p : CmdPacket) : State :=
  { s with hif := { s.hif with waiting := s.hif.waiting ++ [(code, p)] } }

/-- The acceptance checks on a fetched command (Table 3.5). -/
def State.take (s : State) (code : Nat) (p : CmdPacket) : State :=
  if code = 0x0101 ∨ code = 0x0103 then
    if s.fenced p then s.hold code p else s.checked true false code p
  else
    let ctx := s.context
    if ctx = 0 then s.answer code p ⟨St.badContext, 1, zeros 12⟩ false
    else if p.context ≠ ctx then s.answer code p ⟨St.badContext, 0, zeros 12⟩ false
    else
      let next := s.regN Reg.HIF_NEXT_HSEQ
      let d := (p.hseq + 2 ^ 32 - next) % 2 ^ 32
      if d = 0 then
        if s.fenced p then s.hold code p
        else (s.setRegN Reg.HIF_NEXT_HSEQ ((next + 1) % 2 ^ 32)).checked true true code p
      else if d < 2 ^ 31 then s.answer code p ⟨St.seqGap, 0, result [(20, 4, next)]⟩ false
      else s.duplicate code p

/-- A command is fetched: it goes behind those that already wait. -/
def State.fetched (s : State) (code : Nat) (p : CmdPacket) : State :=
  let s1 := if s.obs.stopped then s else s.ctlWork p.layer p.operator 2
  if s1.hif.waiting.isEmpty then s1.take code p else s1.hold code p

/-- Take the held commands in order until one must still wait. -/
def State.release : List (Nat × CmdPacket) → State → State
  | [], s => s
  | c :: rest, s =>
    if s.hif.waiting.isEmpty then State.release rest (s.take c.1 c.2) else s.hold c.1 c.2 |> State.release rest

/-- The wait of a FENCE may have ended. -/
def State.unfence (s : State) : State := State.release s.hif.waiting { s with hif := { s.hif with waiting := [] } }

/-- A command row: commands are fetched from READY on (R446), with the PCIe function in D0. -/
def command (code : Nat) (p : CmdPacket) (s : State) : State :=
  if s.crb.released && s.isReady && s.crb.barUp then s.fetched code p else s

/-! ### Completion of long commands -/

/-- Remove the first long command that satisfies `f`. -/
def dropFirst (f : Long → Bool) : List Long → List Long
  | [] => []
  | l :: r => if f l then r else l :: dropFirst f r

/-- An archive read still under way for the long command of `hseq` ends with it. -/
def State.longRead (s : State) (hseq : Nat) : State :=
  match s.hif.longs.find? (fun l => l.packet.hseq == hseq && l.effect.isNone && !s.poolWaiting l.key) with
  | some l => s.archiveRead l.key
  | none => s

/-- The long command `l` of `hseq` can complete: its effect is done and its pool charge paid. -/
def State.longDue (s : State) (hseq : Nat) (l : Long) : Bool :=
  l.packet.hseq == hseq && l.effect.isSome && !s.poolWaiting l.key

/-- The DMA engine of a long command that ends is idle unless another command holds it, with its error bit (R63). -/
def State.dmaEnd (s : State) (engine : Option Nat) (failed : Bool) : State :=
  match engine with
  | none => s
  | some e =>
    let x := s.bankEnd 14 e
    let y := if x.hif.longs.any (fun k => k.engine == some e) then x else x.clrBit (Reg.HIF_DMA_STATUS e) 0
    if failed then y.setBit (Reg.HIF_DMA_STATUS e) 1 else y

/-- LONG_COMMAND_COMPLETION (R67): the completion reply of a command whose effect has taken place. A charge that waits for a refill
delays it (R48). -/
def longCompletion (hseq : Nat) (s0 : State) : State :=
  let s := s0.longRead hseq
  match s.hif.longs.find? (s.longDue hseq) with
  | none => s
  | some l =>
    let r : Reply := match l.effect with
      | some e => ⟨e.status, e.detail, e.result⟩
      | none => Reply.bad 0xE4
    let s1 : State := { s with hif := { s.hif with longs := dropFirst (s.longDue hseq) s.hif.longs } }
    let s2 := s1.dmaEnd l.engine (r.detail == 0xE4)
    (s2.replyRecord l.opcode r.status r.detail hseq r.result false (l.packet.flags.testBit 0)).unfence

/-! ### A forwarded command (R358) -/

/-- A forwarded command whose whole item `b` has come: the host memory it reads goes with it, it is checked and carried out as the
primary did, and a reply other than a long one's enters digest lane 9 (R358, R362). -/
def tdmRepeat (tag : Nat) (b : List Byte) (x : State) : State :=
  let code := leAt b 0 2
  let n := leAt b 14 2
  let p := packetOf b (b.drop 64)
  let bytes := b.drop (64 + n)
  let x1 : State := match hostReads code p with
    | some a => { x with host := x.host.writeBytes a.1 bytes }
    | none => x
  let dseq := x.regN Reg.HIF_LAST_DSEQ
  let y := x1.checked false false code p
  let z : State := { y with host := x.host }
  match opSpec code, y.hif.buf.find? (fun r => r.dseq == (dseq + 1) % 2 ^ 32) with
  | some o, some r => if o.kind = .long then z else z.digest 9 tag p.hseq (replyDigest code ⟨r.status, r.detail, r.result⟩)
  | _, _ => z

/-- TDM_COMMAND: the secondary runs the command with the forwarded host bytes in place of host memory. -/
def tdmCommand (f : LinkIn) (s : State) : State := s.item f (fun t => t.spanned f (tdmRepeat f.tag))

/-! ### The rows -/

/-- SESSION_OPEN (R75). -/
def execSessionOpen (p : CmdPacket) (s : State) : Out := .next (command 0x0101 p s)
/-- SESSION_CLOSE (R76). -/
def execSessionClose (p : CmdPacket) (s : State) : Out := .next (command 0x0102 p s)
/-- SESSION_QUERY (R77). -/
def execSessionQuery (p : CmdPacket) (s : State) : Out := .next (command 0x0103 p s)
/-- REPLAY (R74). -/
def execReplay (p : CmdPacket) (s : State) : Out := .next (command 0x0104 p s)
/-- NOP (R79). -/
def execNop (p : CmdPacket) (s : State) : Out := .next (command 0x0105 p s)
/-- FUNC_ENABLE (R83). -/
def execFuncEnable (p : CmdPacket) (s : State) : Out := .next (command 0x0110 p s)
/-- FUNC_DISABLE (R83). -/
def execFuncDisable (p : CmdPacket) (s : State) : Out := .next (command 0x0111 p s)
/-- FUNC_QUERY (R83). -/
def execFuncQuery (p : CmdPacket) (s : State) : Out := .next (command 0x0112 p s)
/-- ROUTE_LOAD (R39). -/
def execRouteLoad (p : CmdPacket) (s : State) : Out := .next (command 0x0201 p s)
/-- ROUTE_UNLOAD (R39). -/
def execRouteUnload (p : CmdPacket) (s : State) : Out := .next (command 0x0202 p s)
/-- ROUTE_ENABLE (R40, R41). -/
def execRouteEnable (p : CmdPacket) (s : State) : Out := .next (command 0x0203 p s)
/-- ROUTE_DISABLE (R41). -/
def execRouteDisable (p : CmdPacket) (s : State) : Out := .next (command 0x0204 p s)
/-- ROUTE_SWITCH (R473). -/
def execRouteSwitch (p : CmdPacket) (s : State) : Out := .next (command 0x0205 p s)
/-- ROUTE_QUERY (R45). -/
def execRouteQuery (p : CmdPacket) (s : State) : Out := .next (command 0x0206 p s)
/-- SENSOR_CONFIG (R108). -/
def execSensorConfig (p : CmdPacket) (s : State) : Out := .next (command 0x0301 p s)
/-- SENSOR_QUERY (Table 3.9). -/
def execSensorQuery (p : CmdPacket) (s : State) : Out := .next (command 0x0302 p s)
/-- MIRAGE_CONFIG (Table 3.9). -/
def execMirageConfig (p : CmdPacket) (s : State) : Out := .next (command 0x0303 p s)
/-- LIDAR_TEMPLATE (R118). -/
def execLidarTemplate (p : CmdPacket) (s : State) : Out := .next (command 0x0304 p s)
/-- DEC_CONFIG (R128). -/
def execDecConfig (p : CmdPacket) (s : State) : Out := .next (command 0x0305 p s)
/-- MAP_READ (Table 3.9). -/
def execMapRead (p : CmdPacket) (s : State) : Out := .next (command 0x0401 p s)
/-- TILE_EXPORT (Table 3.9). -/
def execTileExport (p : CmdPacket) (s : State) : Out := .next (command 0x0402 p s)
/-- TILE_IMPORT (Table 3.9). -/
def execTileImport (p : CmdPacket) (s : State) : Out := .next (command 0x0403 p s)
/-- MAP_ARCHIVE (Table 3.9). -/
def execMapArchive (p : CmdPacket) (s : State) : Out := .next (command 0x0404 p s)
/-- SOLVE_SUBMIT (R240). -/
def execSolveSubmit (p : CmdPacket) (s : State) : Out := .next (command 0x0501 p s)
/-- CHANNEL_CONFIG (R239). -/
def execChannelConfig (p : CmdPacket) (s : State) : Out := .next (command 0x0502 p s)
/-- CHANNEL_RESET (R239). -/
def execChannelReset (p : CmdPacket) (s : State) : Out := .next (command 0x0503 p s)
/-- MEM_READ (R345). -/
def execMemRead (p : CmdPacket) (s : State) : Out := .next (command 0x0601 p s)
/-- MEM_WRITE (R345). -/
def execMemWrite (p : CmdPacket) (s : State) : Out := .next (command 0x0602 p s)
/-- MEM_COPY (R345). -/
def execMemCopy (p : CmdPacket) (s : State) : Out := .next (command 0x0603 p s)
/-- SRAM_WINDOW (R326). -/
def execSramWindow (p : CmdPacket) (s : State) : Out := .next (command 0x0604 p s)
/-- MEM_PROMOTE (R340). -/
def execMemPromote (p : CmdPacket) (s : State) : Out := .next (command 0x0605 p s)
/-- MEM_EVICT (R342). -/
def execMemEvict (p : CmdPacket) (s : State) : Out := .next (command 0x0606 p s)
/-- MEM_FLUSH (R345). -/
def execMemFlush (p : CmdPacket) (s : State) : Out := .next (command 0x0607 p s)
/-- TIME_READ (Table 3.9). -/
def execTimeRead (p : CmdPacket) (s : State) : Out := .next (command 0x0701 p s)
/-- TIME_ADJUST (R88, R90). -/
def execTimeAdjust (p : CmdPacket) (s : State) : Out := .next (command 0x0702 p s)
/-- PTP_CONFIG (Table 3.9). -/
def execPtpConfig (p : CmdPacket) (s : State) : Out := .next (command 0x0703 p s)
/-- TANDEM_CONFIG (R352). -/
def execTandemConfig (p : CmdPacket) (s : State) : Out := .next (command 0x0801 p s)
/-- TANDEM_STATUS (Table 3.9). -/
def execTandemStatus (p : CmdPacket) (s : State) : Out := .next (command 0x0802 p s)
/-- TANDEM_SWITCHOVER (R365). -/
def execTandemSwitchover (p : CmdPacket) (s : State) : Out := .next (command 0x0803 p s)
/-- PELOTON_JOIN (R366). -/
def execPelotonJoin (p : CmdPacket) (s : State) : Out := .next (command 0x0804 p s)
/-- PELOTON_LEAVE (R366). -/
def execPelotonLeave (p : CmdPacket) (s : State) : Out := .next (command 0x0805 p s)
/-- PELOTON_SCHEDULE (R372). -/
def execPelotonSchedule (p : CmdPacket) (s : State) : Out := .next (command 0x0806 p s)
/-- PELOTON_STATUS (Table 3.9). -/
def execPelotonStatus (p : CmdPacket) (s : State) : Out := .next (command 0x0807 p s)
/-- COUNTER_READ (R406). -/
def execCounterRead (p : CmdPacket) (s : State) : Out := .next (command 0x0901 p s)
/-- MONITOR_CONFIG (R409). -/
def execMonitorConfig (p : CmdPacket) (s : State) : Out := .next (command 0x0902 p s)
/-- TRACE_CONFIG (R414). -/
def execTraceConfig (p : CmdPacket) (s : State) : Out := .next (command 0x0903 p s)
/-- TENSOR_DUMP (R422). -/
def execTensorDump (p : CmdPacket) (s : State) : Out := .next (command 0x0904 p s)
/-- BRAKE (R79, R424). -/
def execBrake (p : CmdPacket) (s : State) : Out := .next (command 0x0905 p s)
/-- MET_IDENT (Table 3.9). -/
def execMetIdent (p : CmdPacket) (s : State) : Out := .next (command 0x0A01 p s)
/-- MET_COUNTER (Table 3.9). -/
def execMetCounter (p : CmdPacket) (s : State) : Out := .next (command 0x0A02 p s)
/-- MET_SELECT (Table 3.9). -/
def execMetSelect (p : CmdPacket) (s : State) : Out := .next (command 0x0A03 p s)
/-- MET_RESULT_READ (Table 3.9). -/
def execMetResultRead (p : CmdPacket) (s : State) : Out := .next (command 0x0A04 p s)
/-- BAD_OPCODE (R79): an opcode Table 3.9 does not define; one it defines is no such packet. -/
def execBadOpcode (opcode : Nat) (p : CmdPacket) (s : State) : Out :=
  .next (if (opSpec opcode).isSome ∨ 65536 ≤ opcode then s else command opcode p s)
/-- LONG_COMMAND_COMPLETION (R67). -/
def execLongCommandCompletion (hseq : Nat) (s : State) : Out := .next (s.act (longCompletion hseq))
/-- BRAKE_STOP (R425): a FENCE that waited is answered BRAKED (R79). -/
def execBrakeStop (s : State) : Out := .next (s.act (fun t => (brakeStop t).unfence))
/-- TDM_COMMAND (R358). -/
def execTdmCommand (f : LinkIn) (s : State) : Out := .next (s.act (tdmCommand f))

end Sys2Proof.Machine
end

