-- ==== Sys2Proof/Machine/Hif.lean ====
section
/-! DEFINITION. The host interface's rings and interrupts (ch. 3, ch. 20): command fetch, reply delivery, their faults, MSI-X
holdoff and masking, bus mastering. -/

namespace Sys2Proof.Machine

/-! ### Command fetch (R57, R58, R65) -/

/-- Bus Master Enable is 1 with the function in D0 (R448, R459). -/
def State.busMaster (s : State) : Bool := s.crb.released && s.crb.barUp && s.bitOf Reg.HIF_PCIE_STATUS 10

/-- The device fetches commands: READY (R446), ENABLE (R61), Bus Master Enable (R459). -/
def State.canFetch (s : State) : Bool := s.busMaster && s.isReady && s.bitOf Reg.HIF_RING_CTRL 0

/-- Slots of the command ring. -/
def State.cmdSlots (s : State) : Nat := 2 ^ s.fld Reg.HIF_CMD_SIZE 0 5

/-- The bytes of the command slot an index addresses. -/
def State.cmdSlot (s : State) (index : Nat) : List Byte :=
  s.hostLd (s.pair Reg.HIF_CMD_BASE_LO Reg.HIF_CMD_BASE_HI + 64 * (index % s.cmdSlots)) 64

/-- Slots between the head and the tail. -/
def State.cmdWaiting (s : State) : Nat := (s.regN Reg.HIF_CMD_TAIL + 2 ^ 32 - s.regN Reg.HIF_CMD_HEAD) % 2 ^ 32

/-- Extension slots of a packet; a PAYLOAD_LEN above 4,096 is refused (Table 3.5) and brings none. -/
def extSlots (packet : List Byte) : Nat :=
  let n := leAt packet 14 2
  if n ≤ 4096 then ceilDiv n 64 else 0

/-- Fetch the command at the head, with its extension slots, once all of them lie before the tail. -/
def State.fetchOne (s : State) : Option State :=
  let head := s.regN Reg.HIF_CMD_HEAD
  let b := s.cmdSlot head
  let n := extSlots b
  if s.cmdWaiting < 1 + n then none
  else
    let ext := (List.range n).flatMap (fun k => s.cmdSlot (head + 1 + k))
    some ((s.setRegN Reg.HIF_CMD_HEAD ((head + 1 + n) % 2 ^ 32)).fetched (leAt b 0 2) (packetOf b ext))

/-- Fetch up to `fuel` commands. -/
def State.fetchLoop : Nat → State → State
  | 0, s => s
  | fuel + 1, s =>
    if s.canFetch then s.fetchOne.elim s (State.fetchLoop fuel) else s

/-- Fetch what lies before the tail. -/
def State.fetchAll (s : State) : State := State.fetchLoop s.cmdWaiting s

/-- A write of HIF_CMD_TAIL (R58). -/
def State.doorbell (s : State) (tail : Nat) : State :=
  if s.cmdSlots < (tail + 2 ^ 32 - s.regN Reg.HIF_CMD_HEAD) % 2 ^ 32 then s.setBit Reg.HIF_RING_STATUS 4
  else (s.setRegN Reg.HIF_CMD_TAIL tail).fetchAll

/-! ### Ring control (R61, R62) -/

/-- A change of ENABLE by the host. A fetch is one unit of work of the model, so none is in progress and IDLE stays 1. -/
def State.ringSwitch (s : State) (was on : Bool) : State :=
  if on && !was then
    (s.setRegN Reg.HIF_CMD_HEAD (s.regN Reg.HIF_CMD_TAIL)).setRegN Reg.HIF_RPL_TAIL (s.regN Reg.HIF_RPL_HEAD)
  else s

/-- ENABLE is cleared on an access error, and vector 13 signalled. -/
def State.ringError (s : State) (statusBit errBit : Nat) : State :=
  (((s.clrBit Reg.HIF_RING_CTRL 0).setBit Reg.HIF_RING_STATUS statusBit).setBit Reg.HIF_PCIE_ERR errBit).signal 13

/-- REPLY_WRITE_ERROR (R62). -/
def replyWriteError (s : State) : State :=
  if s.busMaster && s.bitOf Reg.HIF_RING_CTRL 0 then s.ringError 2 4 else s

/-! ### Reply delivery (R59) -/

/-- The reply ring holds a free slot. -/
def State.replyRoom (s : State) : Bool :=
  decide ((s.regN Reg.HIF_RPL_TAIL + 2 ^ 32 - s.regN Reg.HIF_RPL_HEAD) % 2 ^ 32 < 2 ^ s.fld Reg.HIF_RPL_SIZE 0 5)

/-- Write records in delivery order while slots are free; the vectors of the records written follow in `vs`. -/
def State.deliverAll : List Delivery → List Nat → State → State × List Nat
  | [], vs, s => ({ s with hif := { s.hif with out := [] } }, vs)
  | d :: rest, vs, s =>
    if s.replyRoom then
      let tail := s.regN Reg.HIF_RPL_TAIL
      let slot := tail % 2 ^ s.fld Reg.HIF_RPL_SIZE 0 5
      let t := (s.hostSt (s.pair Reg.HIF_RPL_BASE_LO Reg.HIF_RPL_BASE_HI + 32 * slot) d.record.bytes).setRegN Reg.HIF_RPL_TAIL
        ((tail + 1) % 2 ^ 32)
      State.deliverAll rest (match d.vector with | some v => insertOnce v vs | none => vs) t
    else ({ s with hif := { s.hif with out := d :: rest } }, vs)

/-- REPLY_DELIVERY (R59): the records, the tail, the shadow, the vectors. A braked die's HIF delivers too (R426). -/
def replyDelivery (s : State) : State :=
  if s.busMaster && s.bitOf Reg.HIF_RING_CTRL 0 && s.replyRoom && !s.hif.out.isEmpty then
    let t := State.deliverAll s.hif.out [] s
    let t1 := if t.1.bitOf Reg.HIF_RING_CTRL 1 then
        t.1.hostSt (t.1.pair Reg.HIF_RPL_SHADOW_LO Reg.HIF_RPL_SHADOW_HI) (leBytes 4 (t.1.regN Reg.HIF_RPL_TAIL))
      else t.1
    t1.each t.2 State.signal
  else s

/-! ### Interrupts (R82, R459) -/

/-- Vector `v` is pending in the PBA. -/
def State.msiPending (s : State) (v : Nat) : Bool := if v < 32 then s.bitOf Reg.HIF_MSIX_PBA_LO v else s.bitOf Reg.HIF_MSIX_PBA_HI (v - 32)

/-- A pending message of an unmasked vector is sent. -/
def State.msiRelease (s : State) (v : Nat) : State :=
  if s.msiPending v && s.bitOf Reg.HIF_PCIE_STATUS 11 && !s.bitOf Reg.HIF_PCIE_STATUS 12 && !s.bitOf (Reg.HIF_MSIX_CTRL v) 0 then
    (if v < 32 then s.clrBit Reg.HIF_MSIX_PBA_LO v else s.clrBit Reg.HIF_MSIX_PBA_HI (v - 32)).msiSend v
  else s

/-- IRQ_HOLDOFF_EXPIRY (R82): one message where records were written during the holdoff. -/
def holdoffExpiry (v : Nat) (s : State) : State :=
  match SMap.find s.hif.holdoff v with
  | none => s
  | some end_ =>
    let s1 := s.runTo end_
    let s2 : State := { s1 with hif := { s1.hif with
      holdoff := SMap.erase s1.hif.holdoff v, owed := s1.hif.owed.filter (· != v) } }
    if s.hif.owed.contains v then s2.signal v else s2

/-- MSIX_ENABLE (R459): MSI-X Enable and Function Mask of the capability. -/
def msixEnable (on functionMask : Bool) (s : State) : State :=
  let s1 := (s.putBit Reg.HIF_PCIE_STATUS 11 on).putBit Reg.HIF_PCIE_STATUS 12 functionMask
  if on then
    let s2 : State := { s1 with hif := { s1.hif with owedOff := [] } }
    (s2.each s1.hif.owedOff State.signal).each (List.range 64) State.msiRelease
  else s1

/-- BUS_MASTER_ENABLE (R459): fetch resumes when it returns to 1. -/
def busMasterEnable (on : Bool) (s : State) : State :=
  let s1 := s.putBit Reg.HIF_PCIE_STATUS 10 on
  if on then s1.fetchAll else s1

/-- The link is up, so the host reaches configuration space. -/
def State.cfgUp (s : State) : Bool := s.crb.released && s.bitOf Reg.HIF_PCIE_STATUS 7

/-! ### The rows -/

/-- REPLY_DELIVERY (R59). -/
def execReplyDelivery (s : State) : Out := .next (replyDelivery s)
/-- REPLY_WRITE_ERROR (R62). -/
def execReplyWriteError (s : State) : Out := .next (replyWriteError s)
/-- IRQ_HOLDOFF_EXPIRY (R82). -/
def execIrqHoldoffExpiry (vector : Nat) (s : State) : Out := .next (holdoffExpiry vector s)
/-- BUS_MASTER_ENABLE (R459). -/
def execBusMasterEnable (on : Bool) (s : State) : Out := .next (s.when s.cfgUp (busMasterEnable on))
/-- MSIX_ENABLE (R459). -/
def execMsixEnable (on functionMask : Bool) (s : State) : Out := .next (s.when s.cfgUp (msixEnable on functionMask))
/-- READY (R446): commands waiting in the ring are fetched from then on. -/
def execReady (dram nand : List Nat) (s : State) : Out := .next (s.act (fun t => (ready dram nand t).fetchAll))

end Sys2Proof.Machine
end

