-- ==== Sys2Proof/Machine/RegView.lean ====
section
/-! DEFINITION. What a read of BAR0 finds (ch. 20): the registers whose values the units hold elsewhere, the latches of the LO/HI
pairs, RC fields. -/

namespace Sys2Proof.Machine

/-- FUNC_STATE of a function. -/
def State.code (s : State) (id : Nat) : Nat := (s.func id).life.code

/-- Bit mask of the first `n` numbers that satisfy `p`. -/
def maskBelow (n : Nat) (p : Nat → Bool) : Nat := maskOf ((List.range n).filter p)

def capped (v : Nat) : Nat := min v (2 ^ 32 - 1)

/-- MAP_Qq_STATE bits 15 and 19:16: bound, and the owning slot. -/
def State.queueView (s : State) (q : Nat) : Nat :=
  match (slotList.filter (fun n => (s.slot n).life.active)).find? (fun n => (mapQueues (s.img n)).any (fun e => e.queue == q)) with
  | some n => 2 ^ 15 + 65536 * n
  | none => 0xF0000

/-- The commit engine is applying shadows (R271). -/
def State.committing (s : State) : Bool :=
  match s.ccu.resolving with
  | some (_, true, hs, _, _) => hs.contains 1
  | _ => false

/-- A class register of the CCU: 1 FREE_CYC, 2 FREE_TOK, 3 USED_TOK. -/
def State.classView (s : State) (c k : Nat) : Option Nat :=
  match k with
  | 1 => some (capped (SMap.get 0 s.ccu.poolCyc c))
  | 2 => some (capped s.ccu.poolTok)
  | 3 => some (capped (SMap.get 0 s.ccu.usedPrev c))
  | _ => none

/-- DEC_CHc_STATUS: FUNC_STATE, PRIMED and SAT_SEEN as stored, the setting's K and RS_EN (Table 6.12). -/
def State.decView (s : State) (c stored : Nat) : Nat :=
  let d := s.setting c
  s.code (decFunc c) + bits stored 2 2 * 4 + 256 * Fs.stages d + 4096 * b2n (Fs.rsEn d)

/-- The values of CCU and HIF registers that are computed (Tables 2.7 to 2.13, 3.3). -/
def State.viewHost (s : State) (off stored : Nat) : Nat :=
  if off = Reg.HIF_RING_STATUS then
    putBits (putBits stored 5 1 (b2n (s.context != 0))) 8 8 s.hif.longs.length
  else if off = Reg.CCU_STATUS then putBits stored 8 16 (maskBelow 16 (fun n => (s.slot n).life == Life.on))
  else if off = Reg.CCU_CADENCE_COUNT_LO then s.ccu.cadence % 2 ^ 32
  else if off = Reg.CCU_CADENCE_COUNT_HI then s.ccu.cadence / 2 ^ 32 % 2 ^ 32
  else if off = Reg.CCU_BOUNDARY_TIME_LO then s.ccu.boundaryTime % 2 ^ 32
  else if off = Reg.CCU_BOUNDARY_TIME_HI then s.ccu.boundaryTime / 2 ^ 32 % 2 ^ 32
  else if rng off (Reg.CCU_ROUTE_STATE 0) (Reg.CCU_ROUTE_STATE 15) then s.routeState ((off - Reg.CCU_ROUTE_STATE 0) / 4)
  else if rng off (Reg.CCU_CLASS_STAT 0) (Reg.CCU_CLASS_USED_TOK 11) then
    (s.classView ((off - Reg.CCU_CLASS_STAT 0) / 16) ((off - Reg.CCU_CLASS_STAT 0) % 16 / 4)).getD stored
  else stored

/-- The values of TIM and NET registers that are computed (Tables 4.9, 4.14). -/
def State.viewTime (s : State) (off stored : Nat) : Nat :=
  let diff := unsgn 64 ((s.now : Int) - s.raw)
  if off = Reg.TIM_RAW_LO then s.raw % 2 ^ 32
  else if off = Reg.TIM_RAW_HI then s.raw / 2 ^ 32 % 2 ^ 32
  else if off = Reg.TIM_DISC_LO then s.now % 2 ^ 32
  else if off = Reg.TIM_DISC_HI then s.now / 2 ^ 32 % 2 ^ 32
  else if off = Reg.TIM_OFFSET_LO then diff % 2 ^ 32
  else if off = Reg.TIM_OFFSET_HI then diff / 2 ^ 32 % 2 ^ 32
  else if off = Reg.TIM_SLEW_REMAIN then
    match s.tim.slew with
    | some w => unsgn 32 (w.remain s.raw)
    | none => 0
  else if rng off (Reg.NET_PORT_STATUS 0) (Reg.NET_PORT_STATUS 3) ∧ (off - Reg.NET_PORT_STATUS 0) % 64 = 0 then
    putBits stored 8 2 (s.code (netFunc ((off - Reg.NET_PORT_STATUS 0) / 64)))
  else stored

/-- The control-core program counters and the CSI-2 line states are free values: no rule gives what a read finds of them
while the firmware runs, or of a port's lanes. -/
def State.viewFree (s : State) (off stored : Nat) : Nat :=
  if rng off (Reg.GCR_CTL_PC 0) (Reg.GCR_CTL_PC 3) ∧ s.fld Reg.CRB_BOOT_STATUS 0 2 = 2 then s.freeBelow 262144
  else if rng off (Reg.ING_CSI_STATUS 0) (Reg.ING_CSI_STATUS 7) ∧ (off - Reg.ING_CSI_STATUS 0) % 32 = 0 ∧
      s.regN (Reg.ING_CSI_RATE ((off - Reg.ING_CSI_STATUS 0) / 32)) ≠ 0 then
    putBits stored 0 2 (s.freeBelow 4)
  else stored

/-- A read of the register draws a free value. -/
def drawsFree (off : Nat) : Bool :=
  rng off (Reg.GCR_CTL_PC 0) (Reg.GCR_CTL_PC 3) ||
    (rng off (Reg.ING_CSI_STATUS 0) (Reg.ING_CSI_STATUS 7) && (off - Reg.ING_CSI_STATUS 0) % 32 == 0)

/-- The values of the remaining computed registers. -/
def State.viewUnits (s : State) (off stored : Nat) : Nat :=
  if off = Reg.DEC_STATUS then putBits stored 16 16 (maskBelow 16 s.bankLocked)
  else if rng off (Reg.DEC_CH_STATUS 0) (Reg.DEC_CH_GD 55) then
    let c := (off - Reg.DEC_CH_STATUS 0) / 8
    if (off - Reg.DEC_CH_STATUS 0) % 8 = 0 then s.decView c stored else unsgn 32 (s.groupDelay c 0)
  else if off = Reg.VIS_STATUS then putBits stored 0 4 (maskBelow 4 s.pipeBusy)
  else if off = Reg.MXA_STATUS then putBits stored 0 8 (maskBelow 8 s.mxBusy)
  else if off = Reg.FPP_STATUS then putBits (putBits (putBits stored 0 2 (s.code fppFunc)) 4 1 (b2n s.axisPhase)) 8 3 s.fpp.queue.length
  else if off = Reg.MAP_STATUS then putBits (putBits stored 0 2 (s.code mapFunc)) 7 1 (b2n s.committing)
  else if rng off (Reg.MAP_Q_STATE 0) (Reg.MAP_Q_STATE 63) then bits stored 0 15 + s.queueView ((off - Reg.MAP_Q_STATE 0) / 4)
  else if off = Reg.TDM_STATUS then putBits stored 8 2 (s.code tdmFunc)
  else if off = Reg.TDM_FWD_RATE then (if s.role = 1 then capped s.fwdRate else 0)
  else if off = Reg.MET_GW_STATUS then putBits (putBits stored 0 2 (s.code 0x087)) 2 1 (b2n s.metPresent)
  else if off = Reg.MET_IDENT_STATE then putBits stored 4 1 (b2n s.metPresent)
  else if off = Reg.OBS_STATUS then putBits stored 0 2 (s.code 0x086)
  else s.viewFree off ((s.memView off).getD stored)

/-- What a full read of a register finds; WO and RSV bits read 0 (R11). -/
def State.readReg (s : State) (off : Nat) : Nat :=
  match regAt off with
  | none => 0
  | some (r, _, _) =>
    let stored := s.regN off
    let v := if off / 0x100000 ≤ 1 then s.viewHost off stored else if off / 0x100000 ≤ 3 then s.viewTime off stored else s.viewUnits off stored
    v &&& (r.rw ||| r.ro ||| r.w1c ||| r.w1s ||| r.rc)

/-! ### Latches (R453) -/

/-- The LO registers whose read latches their HI, at the next offset. -/
def latchingLo : List String :=
  ["CCU_CADENCE_COUNT_LO", "CCU_BOUNDARY_TIME_LO", "TIM_RAW_LO", "TIM_DISC_LO", "TIM_OFFSET_LO", "VIS_STRM_LAST_CAD_LO",
   "FST_FLOW_REF_CAD_LO", "FST_PAIR_LAST_CAD_LO", "FUS_CTX_LAST_TIME_LO", "FPP_SEQ_LO", "MXA_ARR_LAST_CAD_LO", "MEM_FLASH_WRITTEN_LO",
   "TDM_CMP_CAD_LO", "TDM_DIV_CAD_LO", "PEL_LAST_BARRIER_LO", "PEL_SNAP_CAD_LO", "OBS_TRC_WR_LO", "OBS_BRAKE_TIME_LO",
   "OBS_BRAKE_CAD_LO", "CRB_UID_LO"]

/-- The HI registers a read at `off` latches. -/
def latchedBy (off : Nat) : List Nat :=
  if off = Reg.PEL_SNAP_CAD_LO then [Reg.PEL_SNAP_CAD_HI, Reg.PEL_SNAP_TIME_HI, Reg.PEL_SNAP_SEQ_HI]
  else
    match regAt off with
    | some (r, _, _) => if latchingLo.contains r.name then [off + 4] else []
    | none => []

/-- The register at `off` is read through its latch. -/
def latchedHi (off : Nat) : Bool :=
  off == Reg.PEL_SNAP_TIME_HI || off == Reg.PEL_SNAP_SEQ_HI || (decide (4 ≤ off) && (latchedBy (off - 4)).contains off)

/-! ### Reads (R11, R13, R452, R453, R455) -/

/-- The enabled bytes of a register value. -/
def enabledBytes (v : Nat) (en : List Bool) : List Byte :=
  ((leBytes 4 v).zip en).filterMap (fun e => if e.2 then some e.1 else none)

/-- A register whose whole field is RC, all of its bytes enabled, is cleared by the read (R13). -/
def State.readClear (s : State) (off : Nat) (en : List Bool) : State :=
  match regAt off with
  | some (r, _, _) => if r.rc ≠ 0 ∧ (en.take 4).all id ∧ 4 ≤ en.length then s.setRegN off (s.regN off &&& (2 ^ 32 - 1 - r.rc)) else s
  | none => s

/-- In BOOT_FAIL blocks other than CRB and HIF return 0 (Table 20.2). -/
def State.bootFailed (s : State) : Bool := s.fld Reg.CRB_BOOT_STATUS 0 2 == 3
def earlyBlock (off : Nat) : Bool := off / 0x100000 == 0 || off / 0x100000 == 17

/-- The device address a BAR0 offset of the window reaches (R456). -/
def State.windowAddr (s : State) (off : Nat) : Nat := s.fld Reg.MEM_WINDOW 0 2 * 0x2000000 + (off - 0x2000000)

/-- A DW through the window; beyond on-die SRAM it reads 0 (R326). -/
def State.windowDw (s : State) (off : Nat) : Nat × State :=
  let a := s.windowAddr off
  if off < 0x4000000 ∧ a < 0x7000000 then (leNat (s.see a 4).1, (s.see a 4).2) else (0, s)

/-- A read of one DW with its byte enables: the enabled bytes, and the read's side effects. A braked device has none but the
latches (R426). -/
def State.readDw (s : State) (off : Nat) (en : List Bool) : List Byte × State :=
  if !(en.take 4).any id then ([], s)
  else if s.bootFailed && !earlyBlock off then (enabledBytes 0 en, s)
  else if 0x2000000 ≤ off then (enabledBytes (s.windowDw off).1 en, (s.windowDw off).2)
  else
    let v := if latchedHi off then (SMap.get 0 s.hif.latch off).toNat else s.readReg off
    let s1 : State := { s with hif := { s.hif with
      latch := (latchedBy off).foldl (fun m h => SMap.set m h (BitVec.ofNat 32 (s.readReg h))) s.hif.latch } }
    if s.obs.stopped then (enabledBytes v en, s1)
    else
      let s2 := s1.readClear off en
      (enabledBytes v en, if drawsFree off then s2.drawFree else s2)

/-- Deliver read completion data. -/
def State.completion (r : List Byte × State) : State := { r.2 with hif := { r.2.hif with readData := r.1 } }

/-- The register interface answers: the part is released and the function is in D0. -/
def State.barAnswers (s : State) : Bool := s.crb.released && s.crb.barUp

def allBytes : List Bool := [true, true, true, true]

/-- A read of one DW by the host. -/
def hostRead (off : Nat) (en : List Bool) (s : State) : State :=
  if s.barAnswers then s.hostTurn (fun t => State.completion (t.readDw (off / 4 * 4) en)) else s

/-- A read of a LO register, or of LO and HI in one request. -/
def pairRead (off : Nat) (both : Bool) (s : State) : State :=
  if !s.barAnswers then s
  else
    s.hostTurn (fun t =>
      let lo := t.readDw (off / 4 * 4) allBytes
      if both then
        let hi := lo.2.tick.readDw (off / 4 * 4 + 4) allBytes
        State.completion (lo.1 ++ hi.1, hi.2)
      else State.completion lo)

/-! ### The rows -/

/-- RC_FIELD_READ (R13): a read of one register with its byte enables. -/
def execRcFieldRead (offset : Nat) (enables : List Bool) (s : State) : Out := .next (hostRead offset enables s)
/-- LATCHED_PAIR_READ (R453). -/
def execLatchedPairRead (offset : Nat) (both : Bool) (s : State) : Out := .next (pairRead offset both s)

end Sys2Proof.Machine
end

