-- ==== Sys2Proof/Machine/RegAccess.lean ====
section
/-! DEFINITION. BAR0 writes (ch. 20): access codes, the registers with behaviour or conditions of their own, the limits of
Table 20.2, the SRAM window, forwarded register writes. -/

namespace Sys2Proof.Machine

/-! ### Fields (R11) -/

/-- Bytes a write enables, as a mask of register bits. -/
def byteMask (en : List Bool) : Nat :=
  b2n (en.getD 0 false) * 0xFF + b2n (en.getD 1 false) * 0xFF00 + b2n (en.getD 2 false) * 0xFF0000 + b2n (en.getD 3 false) * 0xFF000000

/-- The register after a write of `v` to the bits of mask `m`, by the access codes of its fields. -/
def RegRow.merge (r : RegRow) (old v m : Word) : Word :=
  let rw := BitVec.ofNat 32 r.rw &&& m
  let taken := (old &&& ~~~rw) ||| (v &&& rw)
  (taken &&& ~~~(v &&& m &&& BitVec.ofNat 32 r.w1c)) ||| (v &&& m &&& BitVec.ofNat 32 r.w1s)

/-- Take a register's new value where `ok`; elsewhere set bit `bit` (CTRL_IGNORED) of `status`. -/
def State.takeIf (s : State) (ok : Bool) (off new status bit : Nat) : State :=
  if ok then s.setRegN off new else s.setBit status bit

/-! ### Registers with conditions of their own; `new` is the merged value, `w` the bits written -/

/-- Ring base, size and shadow registers (R61). -/
def ringConfig : List Nat :=
  [Reg.HIF_CMD_BASE_LO, Reg.HIF_CMD_BASE_HI, Reg.HIF_CMD_SIZE, Reg.HIF_RPL_BASE_LO, Reg.HIF_RPL_BASE_HI, Reg.HIF_RPL_SIZE,
   Reg.HIF_RPL_SHADOW_LO, Reg.HIF_RPL_SHADOW_HI]

/-- A 2^n-slot ring size (R57). -/
def sizeOk (off new : Nat) : Bool := (off != Reg.HIF_CMD_SIZE && off != Reg.HIF_RPL_SIZE && off != Reg.FPP_RING_SIZE) || rng new 7 16

def writeHif (off new : Nat) (s : State) : State :=
  if ringConfig.contains off then s.takeIf (!s.bitOf Reg.HIF_RING_CTRL 0 && sizeOk off new) off new Reg.HIF_RING_STATUS 4
  else if off = Reg.HIF_RING_CTRL then (s.setRegN off new).ringSwitch (s.bitOf Reg.HIF_RING_CTRL 0) (new.testBit 0)
  else if off = Reg.HIF_CMD_TAIL then s.doorbell new
  else if Reg.HIF_MSIX_CTRL 0 ≤ off ∧ off ≤ Reg.HIF_MSIX_CTRL 63 ∧ off % 16 = 12 then
    (s.setRegN off new).msiRelease ((off - Reg.HIF_MSIX_CTRL 0) / 16)
  else s.setRegN off new

def writeCcu (off new m : Nat) (s : State) : State :=
  if off = Reg.CCU_CTRL then
    if m.testBit 0 then cadenceRun (new.testBit 0) (s.putBit off 1 (new.testBit 1)) else s
  else if off = Reg.CCU_CADENCE_PERIOD then s.takeIf (s.allSlotsOff && rng new 800000 204800000) off new Reg.CCU_STATUS 3
  else if off = Reg.CCU_CADENCE_ANCHOR_LO ∨ off = Reg.CCU_CADENCE_ANCHOR_HI then s.takeIf s.allSlotsOff off new Reg.CCU_STATUS 3
  else if off = Reg.CCU_DRAM_PLAN then s.takeIf (s.allSlotsOff && rng (bits new 0 7) 50 90) off new Reg.CCU_STATUS 3
  else s.setRegN off new

def writeTim (off new : Nat) (s : State) : State :=
  if off = Reg.TIM_SLEW_RATE then s.takeIf (rng new 1099512 549755814) off new Reg.TIM_STATUS 4
  else if off = Reg.TIM_CTRL then
    let s1 := s.setRegN off new
    -- without the servo no port is followed with SERVO_EN 1 (Table 4.7)
    if s.bitOf off 0 && !new.testBit 0 then s1.freeRun ((List.range 4).find? (fun p => (s.ptpPort p).follows) |>.getD 0) else s1
  else if off = Reg.TIM_STEP_THRESH then s.takeIf (rng new 8000 800000000) off new Reg.TIM_STATUS 4
  else s.setRegN off new

/-- The fields of NET_PORTp_CTRL that a port takes (Table 4.13): values a field does not allow leave it. -/
def portCtrl (p old new : Nat) : Nat :=
  let keep := fun (v lo n : Nat) (ok : Bool) => if ok then v else putBits v lo n (bits old lo n)
  let v1 := keep new 0 2 (if p < 2 then decide (bits new 0 2 ≤ 1) else bits new 0 2 == 2)
  let v2 := keep v1 2 2 (if p < 2 then bits new 2 2 ≤ 1 || (bits new 2 2 == 2 && bits v1 0 2 == 0) else bits new 2 2 == 0)
  let v3 := keep v2 4 1 (decide (2 ≤ p))
  let v4 := keep v3 5 1 (decide (p < 2))
  keep v4 8 14 (rng (bits new 8 14) 64 9216)

def writeNet (off new : Nat) (s : State) : State :=
  let p := (off - Reg.NET_PORT_CTRL 0) / 64
  if (off - Reg.NET_PORT_CTRL 0) % 64 = 0 then
    s.takeIf ((s.func (netFunc p)).life == Life.off) off (portCtrl p (s.regN off) new) (Reg.NET_PORT_STATUS p) 4
  else s.setRegN off new

/-- Every camera stream on a CSI-2 port is OFF (R105). -/
def State.csiIdle (s : State) (p : Nat) : Bool :=
  (List.range 16).all (fun i => (s.cam i).port != p || (s.func (camFunc i)).life == Life.off)

/-- A clock output that a channel that is not OFF names: 0 to 3 SDM_CLK, 4 and 5 PDM_CLK (R111). -/
def State.clockUsed (s : State) (k : Nat) : Bool :=
  (List.range 56).any (fun c => (s.func (decFunc c)).life.active &&
    (if c < 24 then leAt (s.bitIn c).desc 1 1 == k else 4 + (c - 24) / 16 == k))

def writeIng (off new : Nat) (s : State) : State :=
  let p := (off - Reg.ING_CSI_CTRL 0) / 32
  if off = Reg.ING_CLK_CTRL then
    let bad := (List.range 6).any (fun k => s.bitOf off k && !new.testBit k && s.clockUsed k)
    if bad then s.setBit off 8 else (s.setRegN off new).armSamples (s.regN off) new
  else if off < Reg.ING_CLK_CTRL ∧ (off - Reg.ING_CSI_CTRL 0) % 32 = 0 then
    let v := if rng (bits new 0 3) 1 4 then new else putBits new 0 3 (s.fld off 0 3)
    s.takeIf (s.csiIdle p) off v (Reg.ING_CSI_STATUS p) 3
  else s.setRegN off new

def writeDec (off new : Nat) (s : State) : State :=
  if Reg.DEC_COEF 0 0 ≤ off then s.takeIf (!s.bankLocked ((off - Reg.DEC_COEF 0 0) / 4096)) off new Reg.DEC_STATUS 0
  else if rng off (Reg.DEC_BANK_CENTRE 0) (Reg.DEC_BANK_CENTRE 15) then
    s.takeIf (!s.bankLocked ((off - Reg.DEC_BANK_CENTRE 0) / 4) && decide (new ≤ 2046)) off new Reg.DEC_STATUS 0
  else s.setRegN off new

def writeVis (off new w : Nat) (s : State) : State :=
  let i := (off - Reg.VIS_STRM_STATUS 0) / 32
  let k := (off - Reg.VIS_STRM_STATUS 0) % 32
  if off < Reg.VIS_STRM_STATUS 0 then s.setRegN off new
  else if k = 4 ∨ k = 8 then s.takeIf (!s.bitOf (Reg.VIS_STRM_STATUS i) 6) off new Reg.VIS_STATUS 4
  else if k = 12 then
    match bits w 0 2 with
    | 0 => s
    | 3 => s.setBit Reg.VIS_STATUS 4
    | which => visGridAsk i which s
  else s.setRegN off new

def writeFus (off new : Nat) (s : State) : State :=
  if rng off (Reg.FUS_CTX_WIN_START_LO 0) (Reg.FUS_CTX_WIN_START_LO 7) ∧ (off - Reg.FUS_CTX_WIN_START_LO 0) % 32 = 0 then
    fusWinStart ((off - Reg.FUS_CTX_WIN_START_LO 0) / 32) new s
  else s.setRegN off new

/-- FPP registers written only while FPP is OFF. -/
def fppIdleRegs (off : Nat) : Bool :=
  rng off (Reg.FPP_AXIS 0) (Reg.FPP_SCALE 5) || off == Reg.FPP_GRAVITY_Z || off == Reg.FPP_SKEW_MAX || off == Reg.FPP_GAP_MAX

/-- FPP ring registers written only while its ring is not enabled (R218). -/
def fppRingConfig : List Nat :=
  [Reg.FPP_RING_BASE_LO, Reg.FPP_RING_BASE_HI, Reg.FPP_RING_SIZE, Reg.FPP_RING_SHADOW_LO, Reg.FPP_RING_SHADOW_HI]

def writeFpp (off new w : Nat) (s : State) : State :=
  if off = Reg.FPP_CTRL then (if w.testBit 0 then fppSeedReq s else s)
  else if fppIdleRegs off && (s.func fppFunc).life != Life.off then s.setBit Reg.FPP_STATUS 2
  else if fppRingConfig.contains off then s.takeIf (!s.bitOf Reg.FPP_RING_CTRL 0 && sizeOk off new) off new Reg.FPP_RING_STATUS 2
  else if off = Reg.FPP_GAP_MAX then s.takeIf (rng new 8000 80000000) off new Reg.FPP_STATUS 2
  else if off = Reg.FPP_REPLAY_LEAD then s.takeIf (rng new 40000 1600000) off new Reg.FPP_STATUS 2
  else if rng off (Reg.FPP_AXIS 0) (Reg.FPP_AXIS 5) && (off - Reg.FPP_AXIS 0) % 8 == 0 && decide (23 < bits new 0 5) then
    (s.putBit off 5 (new.testBit 5)).setBit Reg.FPP_STATUS 2
  else s.setRegN off new

def writeMap (off new w : Nat) (s : State) : State :=
  if off = Reg.MAP_CTRL then (if w.testBit 0 then mapInit s else s)
  else if rng off Reg.MAP_STORE_BASE_LO Reg.MAP_ARC_BASE_HI then s.takeIf ((s.func mapFunc).life == Life.off) off new Reg.MAP_STATUS 4
  else if off = Reg.MAP_ARC_SLOTS then s.takeIf (decide (new ≤ 917504)) off new Reg.MAP_STATUS 4
  else s.setRegN off new

/-- PEL_CTRL.ETHERTYPE and PEL_BARRIER_PERIOD are written only while not joined; a PEL_CTRL write takes its other fields. -/
def writeTdm (off new m : Nat) (s : State) : State :=
  let joined := s.bitOf Reg.PEL_STATUS 0
  if off = Reg.PEL_CTRL then
    if joined && (m &&& 0xFFFF) != 0 && bits new 0 16 != s.fld off 0 16 then
      (s.setRegN off (putBits new 0 16 (s.fld off 0 16))).setBit Reg.PEL_STATUS 4
    else s.setRegN off new
  else if off = Reg.PEL_BARRIER_PERIOD then s.takeIf (!joined && rng new 8000000 800000000) off new Reg.PEL_STATUS 4
  else s.setRegN off new

def writeObs (off new w : Nat) (s : State) : State :=
  if off = Reg.OBS_ENG_LATCH then (if w.testBit 0 then engLatch s else s)
  else if off = Reg.OBS_BRAKE_CTRL then
    let s1 := s.setRegN off new
    if w.testBit 0 then s1.brakeSource 1 (bits w 8 8) else s1
  else if off = Reg.OBS_SCAN_CMD then scanCmd new w s
  else s.setRegN off new

def writeCrb (off new w : Nat) (s : State) : State :=
  if off = Reg.CRB_RESET_CTRL then softwareReset w s
  else if off = Reg.CRB_SDM_DIV then divisorWrite false (bits new 0 12) s
  else if off = Reg.CRB_PDM_DIV then divisorWrite true (bits new 0 13) s
  else if off = Reg.CRB_HOST_BOOT_CTRL then (if w.testBit 0 then hostBootGo s else s)
  else s.setRegN off new

def writeMet (off new : Nat) (s : State) : State :=
  if off = Reg.MET_STAGE_BASE_LO ∨ off = Reg.MET_STAGE_BASE_HI then s.takeIf ((s.func 0x087).life == Life.off) off new Reg.MET_GW_STATUS 4
  else s.setRegN off new

/-- A write of one DW reaches its register: `v` in the bits of mask `m`. An offset without a register ignores it (R451). -/
def State.regWrite (s : State) (off v m : Nat) : State :=
  match regAt off with
  | none => s
  | some (r, _, _) =>
    let new := (r.merge (s.reg off) (BitVec.ofNat 32 v) (BitVec.ofNat 32 m)).toNat
    let w := v &&& m
    match off / 0x100000 with
    | 0 => writeHif off new s
    | 1 => writeCcu off new m s
    | 2 => writeTim off new s
    | 3 => writeNet off new s
    | 4 => writeIng off new s
    | 5 => writeDec off new s
    | 6 => writeVis off new w s
    | 8 => writeFus off new s
    | 9 => writeFpp off new w s
    | 11 => writeMap off new w s
    | 15 => writeTdm off new m s
    | 16 => writeObs off new w s
    | 17 => writeCrb off new w s
    | 18 => writeMet off new s
    | _ => s.setRegN off new

/-! ### Who may write (R426, R455) and what is forwarded (R358) -/

/-- The blocks whose writes a primary forwards and a secondary's own host may not make: CCU, and ING to MEM. -/
def pairedBlock (off : Nat) : Bool := off / 0x100000 == 1 || rng (off / 0x100000) 4 14 || decide (0x2000000 ≤ off)

/-- Secondary role with the Tandem link not OFF (Table 20.2). -/
def State.secondaryHost (s : State) : Bool := s.role == 2 && (s.func tdmFunc).life != Life.off

/-- Why a write is not carried out: nothing set on a braked device, else the bit of CRB_BAR_STATUS. -/
inductive WriteLimit where
  | carried | braked | early | secondary
  deriving DecidableEq, Repr

/-- Table 20.2 for a write at `off`. -/
def State.writeLimit (s : State) (off : Nat) : WriteLimit :=
  if s.obs.stopped then .braked
  else if s.bootFailed && !earlyBlock off then .early
  else if !s.isReady && !earlyBlock off && decide (off < 0x2000000) then .early
  else if s.secondaryHost && pairedBlock off then .secondary
  else .carried

/-- The writes a braked device takes: BRK_IN_EN, OBS_SCAN_CMD and OBS_SCAN_ADDR (R426). -/
def State.brakedWrite (s : State) (off v m : Nat) : State :=
  if off = Reg.OBS_BRAKE_CTRL then s.regWrite off v (m &&& 2)
  else if off = Reg.OBS_SCAN_CMD ∨ off = Reg.OBS_SCAN_ADDR_LO ∨ off = Reg.OBS_SCAN_ADDR_HI then s.regWrite off v m
  else s

/-- REGWRITE (Table 16.1): offset, value, byte enables. -/
def State.forwardWrite (s : State) (off v m : Nat) : State :=
  if pairedBlock off then
    s.forwardItem 0x21 (leBytes 4 off ++ leBytes 4 v ++
      leBytes 1 (b2n (m.testBit 0) + 2 * b2n (m.testBit 8) + 4 * b2n (m.testBit 16) + 8 * b2n (m.testBit 24)))
  else s

/-- A write of one DW by the host. -/
def State.hostDw (s : State) (off v m : Nat) : State :=
  if m = 0 || !s.barAnswers then s
  else match s.writeLimit off with
    | .braked => s.brakedWrite off v m
    | .early => s.setBit Reg.CRB_BAR_STATUS 0
    | .secondary => s.setBit Reg.CRB_BAR_STATUS 1
    | .carried => (s.forwardWrite off v m).regWrite off v m

/-- A host write of a whole register. -/
def hostSet (off v : Nat) (s : State) : State := s.hostTurn (fun t => t.hostDw off v 0xFFFFFFFF)

/-! ### Requests of several DW (R452, R454) -/

/-- The DWs of a request: offset, value, bit mask. -/
def requestDws (off : Nat) (data : List Byte) (en : List Bool) : List (Nat × Nat × Nat) :=
  let pad := off % 4
  let d := zeros pad ++ data
  let e := List.replicate pad false ++ (List.range data.length).map (fun k => en.getD k false)
  (List.range (ceilDiv d.length 4)).map (fun k =>
    (off / 4 * 4 + 4 * k, leAt d (4 * k) 4, byteMask ((e.drop (4 * k)).take 4)))

/-- FUS_CTXf_WIN_START_LO. -/
def winStartLo (off : Nat) : Bool :=
  rng off (Reg.FUS_CTX_WIN_START_LO 0) (Reg.FUS_CTX_WIN_START_LO 7) && (off - Reg.FUS_CTX_WIN_START_LO 0) % 32 == 0

/-- A request that covers both halves of a WIN_START pair applies HI first (R454). -/
def winStartOrder : List (Nat × Nat × Nat) → List (Nat × Nat × Nat)
  | a :: b :: rest => if winStartLo a.1 then b :: a :: winStartOrder rest else a :: winStartOrder (b :: rest)
  | l => l

/-- A register request is 1 to 16 DW inside one block (R452). -/
def requestOk (off n : Nat) : Bool := rng n 1 16 && off / 0x100000 == (off / 4 * 4 + 4 * n - 1) / 0x100000

/-- The DWs in order, in consecutive CORE cycles. -/
def State.hostDws : List (Nat × Nat × Nat) → State → State
  | [], s => s
  | [a], s => s.hostDw a.1 a.2.1 a.2.2
  | a :: rest, s => State.hostDws rest (s.hostDw a.1 a.2.1 a.2.2).tick

/-- A request broke R452: OVERSIZE, unless the device is braked. -/
def State.oversize (s : State) : State := if s.obs.stopped then s else s.setBit Reg.CRB_BAR_STATUS 2

/-- A host write to the register space. -/
def registerWrite (off : Nat) (data : List Byte) (en : List Bool) (s : State) : State :=
  if 0x2000000 ≤ off ∨ !s.barAnswers ∨ data.isEmpty then s
  else
    let dws := requestDws off data en
    if requestOk off dws.length then s.hostTurn (State.hostDws (winStartOrder dws)) else s.oversize

/-- BAR0_OVERSIZE (R452): a read's data are 0, a write changes nothing. A request that keeps the rules is no such event. -/
def barOversize (write : Bool) (off dw : Nat) (s : State) : State :=
  if 0x2000000 ≤ off ∨ !s.barAnswers ∨ requestOk off dw then s
  else
    let s1 := s.oversize
    if write then s1 else { s1 with hif := { s1.hif with readData := zeros (4 * dw) } }

/-! ### The SRAM window (R456) -/

/-- A write through the window lands in SRAM; bytes beyond it are ignored (R326). -/
def State.windowLand (s : State) (off : Nat) (data : List Byte) (en : List Bool) : State :=
  let a := s.windowAddr off
  let e := (List.range data.length).map (fun k => en.getD k false && decide (a + k < 0x7000000) && decide (off + k < 0x4000000))
  if e.any id then s.windowLanded a data e else s

/-- A host write through the window. -/
def windowWrite (off : Nat) (data : List Byte) (en : List Bool) (s : State) : State :=
  if off < 0x2000000 ∨ 0x4000000 ≤ off ∨ !s.barAnswers ∨ !((en.take data.length).any id) then s
  else match s.writeLimit off with
    | .braked => s
    | .early => s.setBit Reg.CRB_BAR_STATUS 0
    | .secondary => s.setBit Reg.CRB_BAR_STATUS 1
    | .carried =>
      s.hostTurn (fun x =>
        (x.each ((requestDws off data en).filter (fun d => d.2.2 != 0)) (fun t d => t.forwardWrite d.1 d.2.1 d.2.2)).windowLand off data en)

/-- TDM_REGWRITE (R358): the secondary applies a forwarded write; Table 20.2's row for its own host does not hold it up. -/
def tdmRegwrite (f : LinkIn) (s : State) : State :=
  s.item f (fun t =>
    let off := leAt f.payload 0 4
    let v := leAt f.payload 4 4
    let k := leAt f.payload 8 1
    let en := (List.range 4).map (fun i => k.testBit i)
    if 0x2000000 ≤ off then t.windowLand off (leBytes 4 v) en
    else if byteMask en = 0 then t
    else t.regWrite off v (byteMask en))

/-! ### The rows -/

/-- BAR0_OVERSIZE (R452): a request of `dw` DW. -/
def execBar0Oversize (write : Bool) (offset dw : Nat) (s : State) : Out := .next (barOversize write offset dw s)
/-- REGISTER_WRITE (R11, R454). -/
def execRegisterWrite (offset : Nat) (data : List Byte) (enables : List Bool) (s : State) : Out :=
  .next (registerWrite offset data enables s)
/-- WINDOW_WRITE (R456). -/
def execWindowWrite (offset : Nat) (data : List Byte) (enables : List Bool) (s : State) : Out :=
  .next (windowWrite offset data enables s)
/-- TDM_REGWRITE (R358). -/
def execTdmRegwrite (f : LinkIn) (s : State) : Out := .next (s.act (tdmRegwrite f))
/-- HIF_CMD_TAIL (R58): the host stores commands into its memory, then writes the tail. -/
def execHifCmdTail (tail : Nat) (writes : HostWrites) (s : State) : Out :=
  .next (hostSet Reg.HIF_CMD_TAIL tail { s with host := s.host.writeAll writes })
/-- COMMAND_FETCH_ERROR (R62): the host stores commands and writes the tail as in HIF_CMD_TAIL, and the fetch of the command at the head
fails, so that none is accepted. Where the device fetches nothing, the write acts as HIF_CMD_TAIL. -/
def commandFetchError (cause : FetchCause) (tail : Nat) (writes : HostWrites) (s : State) : State :=
  let s1 : State := { s with host := s.host.writeAll writes }
  let s2 := hostSet Reg.HIF_CMD_TAIL tail (s1.clrBit Reg.HIF_RING_CTRL 0)
  if s1.canFetch && s2.cmdWaiting != 0 then s2.ringError 1 (fetchBit cause) else hostSet Reg.HIF_CMD_TAIL tail s1
/-- COMMAND_FETCH_ERROR (R62). -/
def execCommandFetchError (cause : FetchCause) (tail : Nat) (writes : HostWrites) (s : State) : Out :=
  .next (commandFetchError cause tail writes s)
/-- HIF_RPL_HEAD (R59). -/
def execHifRplHead (head : Nat) (s : State) : Out := .next (hostSet Reg.HIF_RPL_HEAD head s)
/-- RING_ENABLE (R61): ENABLE 1, SHADOW_EN as it stands. -/
def execRingEnable (s : State) : Out := .next (hostSet Reg.HIF_RING_CTRL (s.regN Reg.HIF_RING_CTRL ||| 1) s)
/-- RING_DISABLE (R61). -/
def execRingDisable (s : State) : Out := .next (hostSet Reg.HIF_RING_CTRL (putBits (s.regN Reg.HIF_RING_CTRL) 0 1 0) s)
/-- MSIX_UNMASK (R82). -/
def execMsixUnmask (vector : Nat) (s : State) : Out :=
  .next (if vector < 64 then hostSet (Reg.HIF_MSIX_CTRL vector) 0 s else s)
/-- CADENCE_RUN (R449): CCU_CTRL with RUN, REALIGN_EVENT as it stands. -/
def execCadenceRun (run : Bool) (s : State) : Out :=
  .next (hostSet Reg.CCU_CTRL (putBits (s.regN Reg.CCU_CTRL) 0 1 (b2n run)) s)
/-- SEED_REQ (R212). -/
def execSeedReq (s : State) : Out := .next (hostSet Reg.FPP_CTRL 1 s)
/-- WIN_START_WRITE (R454). -/
def execWinStartWrite (ctx value : Nat) (s : State) : Out :=
  .next (if ctx < 8 then hostSet (Reg.FUS_CTX_WIN_START_LO ctx) (value % 2 ^ 32) s else s)
/-- INIT (R263). -/
def execInit (s : State) : Out := .next (hostSet Reg.MAP_CTRL 1 s)
/-- GRID_REQUEST (R146). -/
def execGridRequest (stream : Nat) (s : State) : Out :=
  .next (if stream < 16 then hostSet (Reg.VIS_STRM_GRID_CTRL stream) 1 s else s)
/-- GRID_REVERT (R146). -/
def execGridRevert (stream : Nat) (s : State) : Out :=
  .next (if stream < 16 then hostSet (Reg.VIS_STRM_GRID_CTRL stream) 2 s else s)
/-- OBS_ENG_LATCH (R404). -/
def execObsEngLatch (s : State) : Out := .next (hostSet Reg.OBS_ENG_LATCH 1 s)
/-- OBS_BRAKE_CTRL_BRAKE (R424): BRK_IN_EN as it stands. -/
def execObsBrakeCtrlBrake (reason : Nat) (s : State) : Out :=
  .next (hostSet Reg.OBS_BRAKE_CTRL (1 + 2 * s.fld Reg.OBS_BRAKE_CTRL 1 1 + 256 * (reason % 256)) s)
/-- SCAN_SEGMENT_READ (R429). -/
def execScanSegmentRead (s : State) : Out := .next (hostSet Reg.OBS_SCAN_CMD 1 s)
/-- SCAN_DRAM_READ (R429). -/
def execScanDramRead (s : State) : Out := .next (hostSet Reg.OBS_SCAN_CMD 3 s)
/-- SCAN_FLASH_READ (R429). -/
def execScanFlashRead (s : State) : Out := .next (hostSet Reg.OBS_SCAN_CMD 5 s)
/-- SOFTWARE_RESET (R434): the value written to CRB_RESET_CTRL. -/
def execSoftwareReset (value : Nat) (s : State) : Out := .next (hostSet Reg.CRB_RESET_CTRL value s)
/-- HOST_BOOT_GO (R444). -/
def execHostBootGo (s : State) : Out := .next (hostSet Reg.CRB_HOST_BOOT_CTRL 1 s)
/-- CLOCK_DIVISOR_WRITE (R432). -/
def execClockDivisorWrite (pdm : Bool) (value : Nat) (s : State) : Out :=
  .next (hostSet (if pdm then Reg.CRB_PDM_DIV else Reg.CRB_SDM_DIV) value s)

end Sys2Proof.Machine
end

