-- ==== Sys2Proof/Machine/Dispatch.lean ====
section
/-! DEFINITION. Which meaning each command and event has: one arm per constructor of Instr. -/

namespace Sys2Proof.Machine

def exec (i : Instr) (s : State) : Host.Outcome State Fault Refusal :=
  match i with
  | .cadenceRun run => Sys2Proof.Machine.execCadenceRun run s
  | .cadenceBoundary => Sys2Proof.Machine.execCadenceBoundary s
  | .startBoundExceeded func => Sys2Proof.Machine.execStartBoundExceeded func s
  | .cameraTrigger pin => Sys2Proof.Machine.execCameraTrigger pin s
  | .triggerPulseEnd pin => Sys2Proof.Machine.execTriggerPulseEnd pin s
  | .stageStart slot index outFlags weightFlags => Sys2Proof.Machine.execStageStart slot index outFlags weightFlags s
  | .deadlineAbort slot index => Sys2Proof.Machine.execDeadlineAbort slot index s
  | .stageEnd slot index => Sys2Proof.Machine.execStageEnd slot index s
  | .functionDrainComplete func => Sys2Proof.Machine.execFunctionDrainComplete func s
  | .routeDrainComplete slot => Sys2Proof.Machine.execRouteDrainComplete slot s
  | .drainOverrun func => Sys2Proof.Machine.execDrainOverrun func s
  | .epochResolution epoch commit => Sys2Proof.Machine.execEpochResolution epoch commit s
  | .resolutionAck unit epoch => Sys2Proof.Machine.execResolutionAck unit epoch s
  | .resolutionAckTimeout unit epoch => Sys2Proof.Machine.execResolutionAckTimeout unit epoch s
  | .lockstepMismatch pairB => Sys2Proof.Machine.execLockstepMismatch pairB s
  | .sessionOpen p => Sys2Proof.Machine.execSessionOpen p s
  | .sessionClose p => Sys2Proof.Machine.execSessionClose p s
  | .sessionQuery p => Sys2Proof.Machine.execSessionQuery p s
  | .replay p => Sys2Proof.Machine.execReplay p s
  | .nop p => Sys2Proof.Machine.execNop p s
  | .badOpcode opcode p => Sys2Proof.Machine.execBadOpcode opcode p s
  | .funcEnable p => Sys2Proof.Machine.execFuncEnable p s
  | .funcDisable p => Sys2Proof.Machine.execFuncDisable p s
  | .funcQuery p => Sys2Proof.Machine.execFuncQuery p s
  | .routeLoad p => Sys2Proof.Machine.execRouteLoad p s
  | .routeUnload p => Sys2Proof.Machine.execRouteUnload p s
  | .routeEnable p => Sys2Proof.Machine.execRouteEnable p s
  | .routeDisable p => Sys2Proof.Machine.execRouteDisable p s
  | .routeSwitch p => Sys2Proof.Machine.execRouteSwitch p s
  | .routeQuery p => Sys2Proof.Machine.execRouteQuery p s
  | .sensorConfig p => Sys2Proof.Machine.execSensorConfig p s
  | .sensorQuery p => Sys2Proof.Machine.execSensorQuery p s
  | .mirageConfig p => Sys2Proof.Machine.execMirageConfig p s
  | .lidarTemplate p => Sys2Proof.Machine.execLidarTemplate p s
  | .decConfig p => Sys2Proof.Machine.execDecConfig p s
  | .mapRead p => Sys2Proof.Machine.execMapRead p s
  | .tileExport p => Sys2Proof.Machine.execTileExport p s
  | .tileImport p => Sys2Proof.Machine.execTileImport p s
  | .mapArchive p => Sys2Proof.Machine.execMapArchive p s
  | .solveSubmit p => Sys2Proof.Machine.execSolveSubmit p s
  | .channelConfig p => Sys2Proof.Machine.execChannelConfig p s
  | .channelReset p => Sys2Proof.Machine.execChannelReset p s
  | .memRead p => Sys2Proof.Machine.execMemRead p s
  | .memWrite p => Sys2Proof.Machine.execMemWrite p s
  | .memCopy p => Sys2Proof.Machine.execMemCopy p s
  | .sramWindow p => Sys2Proof.Machine.execSramWindow p s
  | .memPromote p => Sys2Proof.Machine.execMemPromote p s
  | .memEvict p => Sys2Proof.Machine.execMemEvict p s
  | .memFlush p => Sys2Proof.Machine.execMemFlush p s
  | .timeRead p => Sys2Proof.Machine.execTimeRead p s
  | .timeAdjust p => Sys2Proof.Machine.execTimeAdjust p s
  | .ptpConfig p => Sys2Proof.Machine.execPtpConfig p s
  | .tandemConfig p => Sys2Proof.Machine.execTandemConfig p s
  | .tandemStatus p => Sys2Proof.Machine.execTandemStatus p s
  | .tandemSwitchover p => Sys2Proof.Machine.execTandemSwitchover p s
  | .pelotonJoin p => Sys2Proof.Machine.execPelotonJoin p s
  | .pelotonLeave p => Sys2Proof.Machine.execPelotonLeave p s
  | .pelotonSchedule p => Sys2Proof.Machine.execPelotonSchedule p s
  | .pelotonStatus p => Sys2Proof.Machine.execPelotonStatus p s
  | .counterRead p => Sys2Proof.Machine.execCounterRead p s
  | .monitorConfig p => Sys2Proof.Machine.execMonitorConfig p s
  | .traceConfig p => Sys2Proof.Machine.execTraceConfig p s
  | .tensorDump p => Sys2Proof.Machine.execTensorDump p s
  | .brake p => Sys2Proof.Machine.execBrake p s
  | .metIdent p => Sys2Proof.Machine.execMetIdent p s
  | .metCounter p => Sys2Proof.Machine.execMetCounter p s
  | .metSelect p => Sys2Proof.Machine.execMetSelect p s
  | .metResultRead p => Sys2Proof.Machine.execMetResultRead p s
  | .longCommandCompletion hseq => Sys2Proof.Machine.execLongCommandCompletion hseq s
  | .hifCmdTail tail writes => Sys2Proof.Machine.execHifCmdTail tail writes s
  | .hifRplHead head => Sys2Proof.Machine.execHifRplHead head s
  | .ringEnable => Sys2Proof.Machine.execRingEnable s
  | .ringDisable => Sys2Proof.Machine.execRingDisable s
  | .replyDelivery => Sys2Proof.Machine.execReplyDelivery s
  | .commandFetchError cause tail writes => Sys2Proof.Machine.execCommandFetchError cause tail writes s
  | .replyWriteError => Sys2Proof.Machine.execReplyWriteError s
  | .irqHoldoffExpiry vector => Sys2Proof.Machine.execIrqHoldoffExpiry vector s
  | .msixUnmask vector => Sys2Proof.Machine.execMsixUnmask vector s
  | .busMasterEnable on => Sys2Proof.Machine.execBusMasterEnable on s
  | .msixEnable on functionMask => Sys2Proof.Machine.execMsixEnable on functionMask s
  | .bar0Oversize write offset dw => Sys2Proof.Machine.execBar0Oversize write offset dw s
  | .registerWrite offset data enables => Sys2Proof.Machine.execRegisterWrite offset data enables s
  | .rcFieldRead offset enables => Sys2Proof.Machine.execRcFieldRead offset enables s
  | .latchedPairRead offset both => Sys2Proof.Machine.execLatchedPairRead offset both s
  | .windowWrite offset data enables => Sys2Proof.Machine.execWindowWrite offset data enables s
  | .ethernetFrameReceive port fcsOk frame capture fifo => Sys2Proof.Machine.execEthernetFrameReceive port fcsOk frame capture fifo s
  | .arpRequest port frame => Sys2Proof.Machine.execArpRequest port frame s
  | .pauseFrame port quanta => Sys2Proof.Machine.execPauseFrame port quanta s
  | .forwardEgress port => Sys2Proof.Machine.execForwardEgress port s
  | .ethernetLinkUp port => Sys2Proof.Machine.execEthernetLinkUp port s
  | .ethernetLinkLoss port => Sys2Proof.Machine.execEthernetLinkLoss port s
  | .ptpSync port frame capture => Sys2Proof.Machine.execPtpSync port frame capture s
  | .ptpDelayReq port frame capture => Sys2Proof.Machine.execPtpDelayReq port frame capture s
  | .ptpPdelayReq port frame capture => Sys2Proof.Machine.execPtpPdelayReq port frame capture s
  | .ptpPdelayResp port frame capture => Sys2Proof.Machine.execPtpPdelayResp port frame capture s
  | .ptpFollowUp port frame capture => Sys2Proof.Machine.execPtpFollowUp port frame capture s
  | .ptpDelayResp port frame capture => Sys2Proof.Machine.execPtpDelayResp port frame capture s
  | .ptpPdelayRespFollowUp port frame capture => Sys2Proof.Machine.execPtpPdelayRespFollowUp port frame capture s
  | .ptpAnnounce port frame capture => Sys2Proof.Machine.execPtpAnnounce port frame capture s
  | .ptpSignaling port frame capture => Sys2Proof.Machine.execPtpSignaling port frame capture s
  | .ptpManagement port frame capture => Sys2Proof.Machine.execPtpManagement port frame capture s
  | .ptpMessageInterval port type => Sys2Proof.Machine.execPtpMessageInterval port type s
  | .syncReceiptTimeout port => Sys2Proof.Machine.execSyncReceiptTimeout port s
  | .announceReceiptTimeout port => Sys2Proof.Machine.execAnnounceReceiptTimeout port s
  | .heldTimeChange => Sys2Proof.Machine.execHeldTimeChange s
  | .slewEnd => Sys2Proof.Machine.execSlewEnd s
  | .frameStart port head number => Sys2Proof.Machine.execFrameStart port head number s
  | .linePacket port vc vcx dataType ecc rate crcOk payload => Sys2Proof.Machine.execLinePacket port vc vcx dataType ecc rate crcOk payload s
  | .frameEnd port head number => Sys2Proof.Machine.execFrameEnd port head number s
  | .fsWindowClose stream => Sys2Proof.Machine.execFsWindowClose stream s
  | .stuckRun channel => Sys2Proof.Machine.execStuckRun channel s
  | .encoderEdge channel a b z time => Sys2Proof.Machine.execEncoderEdge channel a b z time s
  | .encoderRecord channel => Sys2Proof.Machine.execEncoderRecord channel s
  | .lidarPacket port srcIpv4 udpPort payload stamp => Sys2Proof.Machine.execLidarPacket port srcIpv4 udpPort payload stamp s
  | .lidarSilence template => Sys2Proof.Machine.execLidarSilence template s
  | .initialDeskew port rate => Sys2Proof.Machine.execInitialDeskew port rate s
  | .sotError port vc => Sys2Proof.Machine.execSotError port vc s
  | .decOutput channel before last => Sys2Proof.Machine.execDecOutput channel before last s
  | .rectBand stream band => Sys2Proof.Machine.execRectBand stream band s
  | .pyrBand stream level band => Sys2Proof.Machine.execPyrBand stream level band s
  | .crnBand stream level band => Sys2Proof.Machine.execCrnBand stream level band s
  | .dscRow stream level row => Sys2Proof.Machine.execDscRow stream level row s
  | .gridRequest stream => Sys2Proof.Machine.execGridRequest stream s
  | .gridRevert stream => Sys2Proof.Machine.execGridRevert stream s
  | .stereoBand pair level band => Sys2Proof.Machine.execStereoBand pair level band s
  | .flowCopy stream level band => Sys2Proof.Machine.execFlowCopy stream level band s
  | .flowCarry stream => Sys2Proof.Machine.execFlowCarry stream s
  | .trackBand stream band => Sys2Proof.Machine.execTrackBand stream band s
  | .closeUnit engine ctx => Sys2Proof.Machine.execCloseUnit engine ctx s
  | .instantEmission ctx => Sys2Proof.Machine.execInstantEmission ctx s
  | .prjBlock ctx => Sys2Proof.Machine.execPrjBlock ctx s
  | .pixelGrid ctx => Sys2Proof.Machine.execPixelGrid ctx s
  | .featureRecord ctx => Sys2Proof.Machine.execFeatureRecord ctx s
  | .stateRecord ctx => Sys2Proof.Machine.execStateRecord ctx s
  | .instantRecord ctx => Sys2Proof.Machine.execInstantRecord ctx s
  | .delayedRecord ctx => Sys2Proof.Machine.execDelayedRecord ctx s
  | .silentEncoder ctx entry => Sys2Proof.Machine.execSilentEncoder ctx entry s
  | .quarantine func => Sys2Proof.Machine.execQuarantine func s
  | .readmission func => Sys2Proof.Machine.execReadmission func s
  | .winStartWrite ctx value => Sys2Proof.Machine.execWinStartWrite ctx value s
  | .noSampleSet => Sys2Proof.Machine.execNoSampleSet s
  | .livePath ringFault => Sys2Proof.Machine.execLivePath ringFault s
  | .replayComplete => Sys2Proof.Machine.execReplayComplete s
  | .seedReq => Sys2Proof.Machine.execSeedReq s
  | .problemIssue channel => Sys2Proof.Machine.execProblemIssue channel s
  | .chainedPacket channel => Sys2Proof.Machine.execChainedPacket channel s
  | .problemComplete channel => Sys2Proof.Machine.execProblemComplete channel s
  | .solverDeadline channel => Sys2Proof.Machine.execSolverDeadline channel s
  | .insert pipe => Sys2Proof.Machine.execInsert pipe s
  | .update pipe => Sys2Proof.Machine.execUpdate pipe s
  | .miss pipe => Sys2Proof.Machine.execMiss pipe s
  | .retire pipe => Sys2Proof.Machine.execRetire pipe s
  | .kfInsert pipe => Sys2Proof.Machine.execKfInsert pipe s
  | .kfUpdate pipe => Sys2Proof.Machine.execKfUpdate pipe s
  | .loop pipe => Sys2Proof.Machine.execLoop pipe s
  | .kfRetire pipe => Sys2Proof.Machine.execKfRetire pipe s
  | .activate pipe => Sys2Proof.Machine.execActivate pipe s
  | .read pipe => Sys2Proof.Machine.execRead pipe s
  | .search pipe => Sys2Proof.Machine.execSearch pipe s
  | .select pipe => Sys2Proof.Machine.execSelect pipe s
  | .graph pipe => Sys2Proof.Machine.execGraph pipe s
  | .mapCommit => Sys2Proof.Machine.execMapCommit s
  | .mapSquash => Sys2Proof.Machine.execMapSquash s
  | .init => Sys2Proof.Machine.execInit s
  | .initComplete => Sys2Proof.Machine.execInitComplete s
  | .tileOperation array => Sys2Proof.Machine.execTileOperation array s
  | .outputUnit array => Sys2Proof.Machine.execOutputUnit array s
  | .softmaxUnit array => Sys2Proof.Machine.execSoftmaxUnit array s
  | .get core pc ofs addr len => Sys2Proof.Machine.execGet core pc ofs addr len s
  | .put core pc ofs addr len => Sys2Proof.Machine.execPut core pc ofs addr len s
  | .beatCompletion core beat => Sys2Proof.Machine.execBeatCompletion core beat s
  | .waitio core pc => Sys2Proof.Machine.execWaitio core pc s
  | .flagWait core pc index rd => Sys2Proof.Machine.execFlagWait core pc index rd s
  | .flagSet core pc o => Sys2Proof.Machine.execFlagSet core pc o s
  | .sync core pc => Sys2Proof.Machine.execSync core pc s
  | .submit core pc channel addr len tag => Sys2Proof.Machine.execSubmit core pc channel addr len tag s
  | .mapPost core pc queue ofs rd => Sys2Proof.Machine.execMapPost core pc queue ofs rd s
  | .statePost core pc queue ofs rd => Sys2Proof.Machine.execStatePost core pc queue ofs rd s
  | .fppCorrect core pc ofs rd => Sys2Proof.Machine.execFppCorrect core pc ofs rd s
  | .items core pc n => Sys2Proof.Machine.execItems core pc n s
  | .rand core pc rd => Sys2Proof.Machine.execRand core pc rd s
  | .info core pc rd => Sys2Proof.Machine.execInfo core pc rd s
  | .endStage core pc => Sys2Proof.Machine.execEndStage core pc s
  | .coreInstruction core step => Sys2Proof.Machine.execCoreInstruction core step s
  | .wallTrap core => Sys2Proof.Machine.execWallTrap core s
  | .tidyReserveExhausted core => Sys2Proof.Machine.execTidyReserveExhausted core s
  | .boundHit core pc => Sys2Proof.Machine.execBoundHit core pc s
  | .prefetchIssue slot entry => Sys2Proof.Machine.execPrefetchIssue slot entry s
  | .copyComplete n fault retries corrected => Sys2Proof.Machine.execCopyComplete n fault retries corrected s
  | .writeBackComplete n => Sys2Proof.Machine.execWriteBackComplete n s
  | .promotionComplete done => Sys2Proof.Machine.execPromotionComplete done s
  | .evictionComplete home => Sys2Proof.Machine.execEvictionComplete home s
  | .copyLatencyOverrun n => Sys2Proof.Machine.execCopyLatencyOverrun n s
  | .flashSlotWrite failed spareLeft mean top spare gcBeats gcActive => Sys2Proof.Machine.execFlashSlotWrite failed spareLeft mean top spare gcBeats gcActive s
  | .wearWarning mean top spare => Sys2Proof.Machine.execWearWarning mean top spare s
  | .writeLock mean top spare => Sys2Proof.Machine.execWriteLock mean top spare s
  | .dramUncorrectable addr => Sys2Proof.Machine.execDramUncorrectable addr s
  | .refreshRatePoll mults => Sys2Proof.Machine.execRefreshRatePoll mults s
  | .linkTrainingComplete => Sys2Proof.Machine.execLinkTrainingComplete s
  | .linkLost reason => Sys2Proof.Machine.execLinkLost reason s
  | .tdmIdle f => Sys2Proof.Machine.execTdmIdle f s
  | .tdmPair f => Sys2Proof.Machine.execTdmPair f s
  | .tdmNak f => Sys2Proof.Machine.execTdmNak f s
  | .tdmBoundary f => Sys2Proof.Machine.execTdmBoundary f s
  | .tdmTime f => Sys2Proof.Machine.execTdmTime f s
  | .tdmTimeEcho f => Sys2Proof.Machine.execTdmTimeEcho f s
  | .tdmLine f => Sys2Proof.Machine.execTdmLine f s
  | .tdmFrame f => Sys2Proof.Machine.execTdmFrame f s
  | .tdmInertial f => Sys2Proof.Machine.execTdmInertial f s
  | .tdmAudio f => Sys2Proof.Machine.execTdmAudio f s
  | .tdmEncoder f => Sys2Proof.Machine.execTdmEncoder f s
  | .tdmPoints f => Sys2Proof.Machine.execTdmPoints f s
  | .tdmFusCount f => Sys2Proof.Machine.execTdmFusCount f s
  | .tdmCommand f => Sys2Proof.Machine.execTdmCommand f s
  | .tdmRegwrite f => Sys2Proof.Machine.execTdmRegwrite f s
  | .tdmTile f => Sys2Proof.Machine.execTdmTile f s
  | .tdmSchedule f => Sys2Proof.Machine.execTdmSchedule f s
  | .tdmDigest f => Sys2Proof.Machine.execTdmDigest f s
  | .tdmSwitch f => Sys2Proof.Machine.execTdmSwitch f s
  | .barrierRound => Sys2Proof.Machine.execBarrierRound s
  | .barrierUp body => Sys2Proof.Machine.execBarrierUp body s
  | .barrierRelease => Sys2Proof.Machine.execBarrierRelease s
  | .barrierDown body => Sys2Proof.Machine.execBarrierDown body s
  | .barrierTimeout => Sys2Proof.Machine.execBarrierTimeout s
  | .pelotonScheduleFrame body => Sys2Proof.Machine.execPelotonScheduleFrame body s
  | .schedAck body => Sys2Proof.Machine.execSchedAck body s
  | .globalOperation => Sys2Proof.Machine.execGlobalOperation s
  | .tileFrag body => Sys2Proof.Machine.execTileFrag body s
  | .tileAssemblyTimeout key => Sys2Proof.Machine.execTileAssemblyTimeout key s
  | .snapshotComplete => Sys2Proof.Machine.execSnapshotComplete s
  | .metrologyFrame => Sys2Proof.Machine.execMetrologyFrame s
  | .frameTruncated got => Sys2Proof.Machine.execFrameTruncated got s
  | .frameProcessed => Sys2Proof.Machine.execFrameProcessed s
  | .sealChange high => Sys2Proof.Machine.execSealChange high s
  | .identPeriod => Sys2Proof.Machine.execIdentPeriod s
  | .oasisStart => Sys2Proof.Machine.execOasisStart s
  | .identReq => Sys2Proof.Machine.execIdentReq s
  | .logReq => Sys2Proof.Machine.execLogReq s
  | .paramRead => Sys2Proof.Machine.execParamRead s
  | .paramWrite block => Sys2Proof.Machine.execParamWrite block s
  | .paramCommit => Sys2Proof.Machine.execParamCommit s
  | .imageLoad offset bytes => Sys2Proof.Machine.execImageLoad offset bytes s
  | .imageCommit len sig => Sys2Proof.Machine.execImageCommit len sig s
  | .resultRecord => Sys2Proof.Machine.execResultRecord s
  | .identificationRecord => Sys2Proof.Machine.execIdentificationRecord s
  | .resultPathDiscard => Sys2Proof.Machine.execResultPathDiscard s
  | .identTimeout => Sys2Proof.Machine.execIdentTimeout s
  | .metRxDiscard => Sys2Proof.Machine.execMetRxDiscard s
  | .tdmCrcFail => Sys2Proof.Machine.execTdmCrcFail s
  | .tdmIdleSend => Sys2Proof.Machine.execTdmIdleSend s
  | .traceSyncTimer => Sys2Proof.Machine.execTraceSyncTimer s
  | .pcSample => Sys2Proof.Machine.execPcSample s
  | .monitorLevelSample => Sys2Proof.Machine.execMonitorLevelSample s
  | .monitorBankSwap => Sys2Proof.Machine.execMonitorBankSwap s
  | .obsEngLatch => Sys2Proof.Machine.execObsEngLatch s
  | .dumpCopy => Sys2Proof.Machine.execDumpCopy s
  | .obsBrakeCtrlBrake reason => Sys2Proof.Machine.execObsBrakeCtrlBrake reason s
  | .brkIn => Sys2Proof.Machine.execBrkIn s
  | .brakeStop => Sys2Proof.Machine.execBrakeStop s
  | .memSettled => Sys2Proof.Machine.execMemSettled s
  | .scanSegmentRead => Sys2Proof.Machine.execScanSegmentRead s
  | .scanDramRead => Sys2Proof.Machine.execScanDramRead s
  | .scanFlashRead => Sys2Proof.Machine.execScanFlashRead s
  | .scanAccessEnd unmapped fault => Sys2Proof.Machine.execScanAccessEnd unmapped fault s
  | .obsCreditRefill => Sys2Proof.Machine.execObsCreditRefill s
  | .tracePacketTaken => Sys2Proof.Machine.execTracePacketTaken s
  | .tapInstruction ins => Sys2Proof.Machine.execTapInstruction ins s
  | .porstN low => Sys2Proof.Machine.execPorstN low s
  | .rstN low => Sys2Proof.Machine.execRstN low s
  | .softwareReset value => Sys2Proof.Machine.execSoftwareReset value s
  | .rootPllUnlock lost => Sys2Proof.Machine.execRootPllUnlock lost s
  | .phyPllUnlock pll locked => Sys2Proof.Machine.execPhyPllUnlock pll locked s
  | .thermalTrip temp => Sys2Proof.Machine.execThermalTrip temp s
  | .pcieReset => Sys2Proof.Machine.execPcieReset s
  | .resetRelease bootSel => Sys2Proof.Machine.execResetRelease bootSel s
  | .bootImageCheck nor => Sys2Proof.Machine.execBootImageCheck nor s
  | .xspiReadTimeout => Sys2Proof.Machine.execXspiReadTimeout s
  | .hostBootGo => Sys2Proof.Machine.execHostBootGo s
  | .ready dram nand => Sys2Proof.Machine.execReady dram nand s
  | .clockDivisorWrite pdm value => Sys2Proof.Machine.execClockDivisorWrite pdm value s
  | .pcieLinkUp width speed => Sys2Proof.Machine.execPcieLinkUp width speed s
  | .d3hotEntry => Sys2Proof.Machine.execD3hotEntry s

end Sys2Proof.Machine
end

