-- ==== Sys2Proof/Safety.lean ====
section
/-! DEFINITION. What claims about runs are stated in: a record as the one effect beside a named state, the conditions under which a host
command is taken, what a braked and an unreleased part hold, the fuses. -/

namespace Sys2Proof.Machine

/-! ### Records -/

/-- The registers the host interface writes by itself when it reports: MSI-X pending bits, record numbers, ring status, trace loss. -/
def reportRegs : List Nat :=
  [Reg.HIF_MSIX_PBA_LO, Reg.HIF_MSIX_PBA_HI, Reg.HIF_LAST_DSEQ, Reg.HIF_OLDEST_DSEQ, Reg.HIF_RING_STATUS, Reg.OBS_STATUS]

/-- `t` is `e` but for the host interface's report: the replay buffer and the delivery order, the interrupt bookkeeping, the report
registers, counters with their banks, and the trace. -/
def SameButReport (e t : State) : Prop :=
  t = { e with
    hif := { e.hif with buf := t.hif.buf, out := t.hif.out, sent := t.hif.sent, holdoff := t.hif.holdoff, owed := t.hif.owed,
                        owedOff := t.hif.owedOff },
    regs := t.regs,
    obs := { e.obs with counters := t.obs.counters, banks := t.obs.banks, trace := t.obs.trace } } ∧
  ∀ o, o ∉ reportRegs → t.reg o = e.reg o

/-- `t` is `e` with one more record, the newest of the replay buffer (R60, R72). -/
def Recorded (e : State) (opcode status detail hseq : Nat) (res : List Byte) (consumed quiet : Bool) (t : State) : Prop :=
  t.hif.buf.getLast? = some ⟨opcode, status, detail, hseq, (e.regN Reg.HIF_LAST_DSEQ + 1) % 2 ^ 32, e.now, (res ++ zeros 12).take 12,
    consumed, quiet⟩ ∧ SameButReport e t

/-- `t` is `e` with an event record (R80). -/
def Reported (e : State) (opcode status detail src : Nat) (res : List Byte) (t : State) : Prop :=
  Recorded e opcode status detail src res false false t

/-- `t` is `e` with the reply of a command that consumed its HSEQ (R69, R71). -/
def Replied (e : State) (code : Nat) (p : CmdPacket) (status detail : Nat) (res : List Byte) (t : State) : Prop :=
  Recorded e code status detail p.hseq res true (p.flags.testBit 0) t

/-! ### Host commands -/

/-- SESSION_OPEN and SESSION_QUERY: accepted outside the sequence (R67). -/
def outOfSequence (code : Nat) : Bool := code == 0x0101 || code == 0x0103

/-- The packet passes the checks of Table 3.5 in a part that runs, is not the primary of a pair and holds no command back: session,
sequence, header, family and room for a long command. What the opcode itself checks is not among them. -/
def State.passes (s : State) (code : Nat) (p : CmdPacket) : Bool :=
  s.alive && s.isReady && s.crb.barUp && s.hif.waiting.isEmpty && !s.isBraked && !s.pairPrimary && !s.fenced p &&
    (outOfSequence code || (s.context != 0 && p.context == s.context && p.hseq == s.regN Reg.HIF_NEXT_HSEQ)) &&
    (headerRefusal (opSpec code) p).isNone && (s.familyRefusal true code).isNone &&
    (match opSpec code with
     | some o => o.kind != .long || decide (s.hif.longs.length < 64)
     | none => true)

/-- The packet passes the checks, and what it reads of host memory comes. -/
def State.admits (s : State) (code : Nat) (p : CmdPacket) : Bool :=
  s.passes code p && (p.fault.isNone || (hostReads code p).isNone)

/-- The state in which an admitted command's own meaning runs: the control cores have taken up the fetch, its HSEQ is consumed, and a
long command is entered. -/
def State.entry (s : State) (code : Nat) (p : CmdPacket) : State :=
  let s1 := s.ctlWork p.layer p.operator 2
  let s2 := if outOfSequence code then s1
    else s1.setRegN Reg.HIF_NEXT_HSEQ ((s.regN Reg.HIF_NEXT_HSEQ + 1) % 2 ^ 32)
  match opSpec code with
  | some o => if o.kind = .long then s2.enterLong code p o else s2
  | none => s2

/-- The host commands that step 1 of Table 3.5 checks, by opcode: all but SESSION_OPEN and SESSION_QUERY. -/
def sequencedRows (p : CmdPacket) : List (Nat × Instr) := [
  (0x0102, .sessionClose p), (0x0104, .replay p), (0x0105, .nop p), (0x0110, .funcEnable p), (0x0111, .funcDisable p),
  (0x0112, .funcQuery p), (0x0201, .routeLoad p), (0x0202, .routeUnload p), (0x0203, .routeEnable p), (0x0204, .routeDisable p),
  (0x0205, .routeSwitch p), (0x0206, .routeQuery p), (0x0301, .sensorConfig p), (0x0302, .sensorQuery p), (0x0303, .mirageConfig p),
  (0x0304, .lidarTemplate p), (0x0305, .decConfig p), (0x0401, .mapRead p), (0x0402, .tileExport p), (0x0403, .tileImport p),
  (0x0404, .mapArchive p), (0x0501, .solveSubmit p), (0x0502, .channelConfig p), (0x0503, .channelReset p), (0x0601, .memRead p),
  (0x0602, .memWrite p), (0x0603, .memCopy p), (0x0604, .sramWindow p), (0x0605, .memPromote p), (0x0606, .memEvict p),
  (0x0607, .memFlush p), (0x0701, .timeRead p), (0x0702, .timeAdjust p), (0x0703, .ptpConfig p), (0x0801, .tandemConfig p),
  (0x0802, .tandemStatus p), (0x0803, .tandemSwitchover p), (0x0804, .pelotonJoin p), (0x0805, .pelotonLeave p),
  (0x0806, .pelotonSchedule p), (0x0807, .pelotonStatus p), (0x0901, .counterRead p), (0x0902, .monitorConfig p),
  (0x0903, .traceConfig p), (0x0904, .tensorDump p), (0x0905, .brake p), (0x0A01, .metIdent p), (0x0A02, .metCounter p),
  (0x0A03, .metSelect p), (0x0A04, .metResultRead p)]

/-! ### Host writes -/

/-- A host write at `off` is carried out (Table 20.2). -/
def State.takes (s : State) (off : Nat) : Bool := s.barAnswers && s.writeLimit off == .carried

/-! ### Own pins -/

/-- The part runs and its own pins feed its units: it is not the secondary of a link that is ON (R357, R364). -/
def State.solo (s : State) : Bool := s.alive && !s.noPins

/-! ### PTP messages -/

/-- A live port of `s` takes message `m` of the frame, of its domain; `x` is the state once the frame is counted and forwarded. -/
def PtpTaken (s : State) (p : Nat) (frame : List Byte) (capture : Nat) (m : List Byte) (x : State) : Prop :=
  s.alive = true ∧ s.portLive p = true ∧ (∃ o, s.ptpOffset p frame = some o ∧ m = frame.drop o) ∧
    x = ((s.count 13 (netCnt p 9)).ptpForward p frame m capture).ptpWake p ∧
    (x.ptpPort p).profile ≠ 0 ∧ ptpDomain m = (x.ptpPort p).domain

/-! ### Units of work -/

/-- The state in which a unit of FUS context `f` works: its writes go to lane 3, and what has reached FUS is handled. -/
def State.fusTurn (s : State) (f : Nat) : State :=
  ({ s with tdm := { s.tdm with writer := some (3, (s.fusCtx f).cadence) } }).fusHandle f

/-- GCR core `n` issues at `pc` in run `r` of a stage with program header `h`; `x` is the state with its program counter shown: the run
does not wait, the core runs or tidies up within its reserve, holds no intrinsic back and has met no wall, and `pc` is in its code. -/
def CoreIssues (s : State) (n pc : Nat) (r : Run) (h : List Byte) (x : State) : Prop :=
  (∃ i, s.coreInst n = some (r, i)) ∧ h = Gp.header (s.img r.slot) (s.runDesc r) ∧ r.waiting = false ∧
    ((s.coreOf n).state = 1 ∨ (s.coreOf n).state = 2 ∧ (s.coreOf n).tidy < Sd.tidy (s.runDesc r)) ∧ (s.coreOf n).wait = none ∧
    (s.coreOf n).walled = 0 ∧ inRange (Gp.codeAddr h) (Gp.codeLen h) pc = true ∧ x = s.setRegN (Reg.GCR_CORE_PC n) pc

/-- A twin whose link is UP or PAIRED takes a frame, in sequence where it is sequenced; `x` is the state with the frame counted, its
acknowledgement applied and its SEQ received. -/
def LinkTakes (s : State) (sequenced : Bool) (f : LinkIn) (x : State) : Prop :=
  s.alive = true ∧ 2 ≤ s.linkState ∧
    (let y := ({ s with tdm := { s.tdm with lastRx := s.core, replay := unacked f.ack s.tdm.replay } }).count 13 55
     (sequenced = false → x = y) ∧
     (sequenced = true → f.seq = (y.tdm.recvSeq + 1) % 65536 ∧
       x = { y with tdm := { y.tdm with recvSeq := f.seq, naksSent := (0, 0) } }))

/-- A Peloton frame of type `t` whose header agrees (R367) is taken by a member that is no secondary; `x` counts it. -/
def PelTakes (s : State) (t : Nat) (b : List Byte) (x : State) : Prop :=
  s.alive = true ∧ s.role ≠ 2 ∧ s.joined = true ∧ leAt b 0 1 = 1 ∧ Ph.type b = t ∧ leAt b 2 2 = s.pel.domain ∧
    leAt b 24 4 = s.listCrc ∧ Ph.len b = Ph.typeLen t ∧ 32 + Ph.typeLen t ≤ b.length ∧
    (Ph.dst b = 0xFFFF ∨ Ph.dst b = s.pel.me) ∧ x = s.count 13 60

/-! ### Held states -/

/-- Every part of `s` that Table 18.14 stops stands in `t` as it stood: memory, every unit, counters, monitors and fuses. ROOT's count of
CORE cycles, from which raw TIME goes on, only rises. -/
def HeldAs (s t : State) : Prop :=
  s.core ≤ t.core ∧ t.mem = s.mem ∧ t.ccu = s.ccu ∧ t.tim = s.tim ∧ t.net = s.net ∧ t.ing = s.ing ∧ t.dec = s.dec ∧ t.vis = s.vis ∧
    t.fst = s.fst ∧ t.fus = s.fus ∧ t.fpp = s.fpp ∧ t.bsu = s.bsu ∧ t.map = s.map ∧ t.mxa = s.mxa ∧ t.gcr = s.gcr ∧
    t.memt = s.memt ∧ t.tdm = s.tdm ∧ t.pel = s.pel ∧ t.obs.counters = s.obs.counters ∧ t.obs.monitors = s.obs.monitors ∧
    t.crb.fuses = s.crb.fuses

/-- The rows that can reset the device (Table 19.2). -/
def Instr.isReset : Instr → Bool
  | .porstN low => low
  | .rstN low => low
  | .rootPllUnlock lost => lost
  | .thermalTrip _ => true
  | _ => false

/-- Every fuse bit that is 1 in `f` is 1 in `g` (R440). -/
def FusesWithin (f g : Fuses) : Prop :=
  (∀ i, f.keyRevoke.testBit i = true → g.keyRevoke.testBit i = true) ∧ (∀ i, f.svnFloor.testBit i = true → g.svnFloor.testBit i = true) ∧
    (∀ k i, (SMap.get 0 f.keyHash k).testBit i = true → (SMap.get 0 g.keyHash k).testBit i = true) ∧
    (f.secureEn = true → g.secureEn = true) ∧ (f.routeSigned = true → g.routeSigned = true) ∧ (f.hostBootDis = true → g.hostBootDis = true)

/-- A part stopped by the Brake as `s0` stood, with no reset waiting (R425, R426, Table 18.14). -/
def BrakedAs (s0 s : State) : Prop :=
  s.crb.released = true ∧ s.obs.stopped = true ∧ HeldAs s0 s ∧ ∀ c ∈ s.pending, Instr.isReset c = false

/-- A part that no release waits for stands at reset (R434, R435): each unit, and each register but the causes kept through a reset and
the TAP's lock of scan-out. -/
def InReset (s : State) : Prop :=
  s.crb.released = false ∧ (∀ b, Instr.resetRelease b ∉ s.pending) ∧ s.crb.barUp = false ∧ s.obs.stopped = false ∧ s.core = 0 ∧
    s.hif = Hif.reset ∧ s.ccu = Ccu.reset ∧ s.tim = Tim.reset ∧ s.net = Net.reset ∧ s.ing = Ing.reset ∧ s.dec = Dec.reset ∧
    s.vis = Vis.reset ∧ s.fst = Fst.reset ∧ s.fus = Fus.reset ∧ s.fpp = Fpp.reset ∧ s.bsu = Bsu.reset ∧ s.map = Map.reset ∧
    s.mxa = Mxa.reset ∧ s.gcr = Gcr.reset ∧ s.memt = Memt.reset ∧ s.tdm = Tdm.reset ∧ s.pel = Pel.reset ∧
    s.obs.counters = Obs.reset.counters ∧ s.obs.monitors = Obs.reset.monitors ∧ s.obs.scan = none ∧
    ∀ o, o ≠ Reg.CRB_RESET_CAUSE → o ≠ Reg.OBS_SCAN_STATUS → s.reg o = resetWord o

end Sys2Proof.Machine
end

