-- ==== Sys2Proof/Certificates/Slice0/Obligations.lean ====
section
/-! DEFINITION. The statements for the provers. -/

open Sys2Proof Sys2Proof.Machine

/-- A step takes the command at the front of the queue and runs it with the rest; with an empty queue one CORE cycle passes in a part
out of reset, of which a braked one shows only raw TIME, and none in one held in reset (the model's choice, assumption log 7: the spec gives a block no idle step). -/
def Obligations.StepRunsFrontCommand : Prop :=
  (∀ (s : State) (c : Instr) (rest : List Instr), step { s with pending := c :: rest } = exec c { s with pending := rest }) ∧
  (∀ (s : State), s.pending = [] → s.crb.released = true → step s = .next { s with core := s.core + 1 }) ∧
  (∀ (s : State), s.pending = [] → s.crb.released = false → step s = .next s)

/-- Every command answers a next state: nothing the spec gives a row stops the block; and no word spells a command, since the table gives its
rows no bits. -/
def Obligations.EveryCommandAnswers : Prop :=
  (∀ (c : Instr) (s : State), ∃ t, exec c s = .next t) ∧ (∀ (n w : Nat), decodeTableWord n w = none) ∧
    (∀ (s : State) (n w : Nat), s.withFetchWord n w = s)

/-- The state after reset is such a state: every field and every register at its reset value (R14); its empty fields are the spec's, the
values the spec leaves open are the model's choice (assumption log 3 and 5). -/
def Obligations.ResetHoldAtReset : Prop :=
  InReset State.reset ∧ (∀ o, State.reset.reg o = resetWord o) ∧ State.reset.pending = [] ∧ State.reset.mem = []

/-- A part held in reset stays at reset (R434, R435): while no release of the reset waits, every step leaves each unit and each register
where the reset put them, but for the cause of reset and the TAP's lock. -/
def Obligations.ResetHoldKept : Prop := ∀ (s t : State), InReset s → step s = .next t → InReset t

/-- The Brake holds (R425, R426, Table 18.14): while no reset waits, every step of a stopped part leaves memory, units,
counters, monitors and fuses as they stood in `s0`, takes no cycle back, and leaves the part stopped. -/
def Obligations.BrakeHoldKept : Prop := ∀ (s0 s t : State), BrakedAs s0 s → step s = .next t → BrakedAs s0 t

/-- A device-scope reset (R434, R435): the source's code is added to the causes kept, a cold one alone remains; every other register is at
its reset value, flash and Oasis are kept, every function is OFF, no Route is resident, no session is open, no record has been made, the
cadence and the raw time are 0 and a Brake ends. That SRAM and DRAM read 0 afterwards is the model's choice (assumption log 3). -/
def Obligations.DeviceResetLeaves : Prop :=
  ∀ (s : State) (k : Nat) (cold : Bool) (row : Bool → Instr),
    (k, cold, row) ∈ [(0, true, Instr.porstN), (1, false, .rstN), (3, false, .rootPllUnlock)] → k ∉ s.crb.held →
    ∃ t, exec (row true) s = .next t ∧ k ∈ t.crb.held ∧ t.crb.released = false ∧
      t.regN Reg.CRB_RESET_CAUSE = (if cold then 1 else s.fld Reg.CRB_RESET_CAUSE 0 6 ||| 2 ^ k) ∧
      (∀ o, o ≠ Reg.CRB_RESET_CAUSE → t.reg o = resetWord o) ∧ (∀ a, inFlash a 1 = true → t.ldB a 1 = s.ldB a 1) ∧
      (∀ a, inFlash a 1 = false → t.ldB a 1 = zeros 1) ∧ t.met.oasis = s.met.oasis ∧ t.crb.fuses = s.crb.fuses ∧
      (∀ id, (t.func id).life = .off) ∧ (∀ n, (t.slot n).image = []) ∧ t.context = 0 ∧ t.hif.buf = [] ∧ t.ccu.cadence = 0 ∧ t.core = 0 ∧
      t.obs.stopped = false ∧ t.obs.brake = none

/-- Sequence checks (R66, R70, R71): a sequenced command of a part that is ready and holds none back is answered, and nothing else of it is
carried out, where no session is open, where its CONTEXT is another session's, where its HSEQ lies ahead, and where it lies behind: then
with the original reply's numbers and a copy of it, if that is retained. -/
def Obligations.SequenceChecks : Prop :=
  ∀ (s : State) (code : Nat) (p : CmdPacket) (row : Instr), (code, row) ∈ sequencedRows p → s.alive = true → s.isReady = true →
    s.crb.barUp = true → s.hif.waiting = [] →
    (let e := s.ctlWork p.layer p.operator 2
     let next := s.regN Reg.HIF_NEXT_HSEQ
     let d := (p.hseq + 2 ^ 32 - next) % 2 ^ 32
     let quiet := p.flags.testBit 0
     ∃ t, exec row s = .next t ∧
       (s.context = 0 → Recorded e code St.badContext 1 p.hseq (zeros 12) false quiet t) ∧
       (s.context ≠ 0 → p.context ≠ s.context → Recorded e code St.badContext 0 p.hseq (zeros 12) false quiet t) ∧
       (s.context ≠ 0 → p.context = s.context → 0 < d → d < 2 ^ 31 →
         Recorded e code St.seqGap 0 p.hseq (result [(20, 4, next)]) false quiet t) ∧
       (s.context ≠ 0 → p.context = s.context → 2 ^ 31 ≤ d → s.hif.buf.reverse.find? (fun r => r.consumed && r.hseq == p.hseq) = none →
         Recorded e code St.seqDuplicate 1 p.hseq (result [(20, 4, 0xFFFFFFFF)]) false quiet t) ∧
       (∀ r, s.context ≠ 0 → p.context = s.context → 2 ^ 31 ≤ d →
         s.hif.buf.reverse.find? (fun r => r.consumed && r.hseq == p.hseq) = some r →
         ∃ u, t = u.copies quiet [r] ∧ Recorded e code St.seqDuplicate (if r.opcode = code then 0 else 2) p.hseq
           (result [(20, 4, r.dseq), (24, 1, r.status), (25, 1, r.detail), (26, 2, r.opcode)]) false quiet u))

/-- Refusals of the header, the family and the opcode (R66, R69, R78): a command in sequence that one of them meets is answered with that
DETAIL or status and a Result of 0; its HSEQ is consumed, and nothing else changes. -/
def Obligations.RefusedCommandsChangeNothing : Prop :=
  ∀ (s : State) (code : Nat) (p : CmdPacket) (row : Instr), (code, row) ∈ sequencedRows p → s.alive = true → s.isReady = true →
    s.crb.barUp = true → s.hif.waiting = [] → s.isBraked = false → s.fenced p = false → s.context ≠ 0 → p.context = s.context →
    p.hseq = s.regN Reg.HIF_NEXT_HSEQ →
    (let e := (s.ctlWork p.layer p.operator 2).setRegN Reg.HIF_NEXT_HSEQ ((p.hseq + 1) % 2 ^ 32)
     (∀ d, headerRefusal (opSpec code) p = some d →
       ∃ t, exec row s = .next t ∧ Replied e code p St.badParam d (zeros 12) t) ∧
     (∀ r, headerRefusal (opSpec code) p = none → s.familyRefusal true code = some r → r.detail ≠ 0x58 →
       ∃ t, exec row s = .next t ∧ Replied e code p r.status r.detail r.result t))

/-- R76: SESSION_CLOSE ends the session and touches neither Routes, sensors, ports nor the pose path; without a session, each command but
SESSION_OPEN and SESSION_QUERY is refused at step 1, and those two are answered OK. -/
def Obligations.SessionCloseEnds : Prop :=
  (∀ (p : CmdPacket) (s : State), s.admits 0x0102 p = true →
    ∃ t, exec (.sessionClose p) s = .next t ∧ t.regN Reg.HIF_CONTEXT = 0 ∧ t.ccu = s.ccu ∧ t.ing = s.ing ∧ t.dec = s.dec ∧ t.net = s.net ∧
      t.tim = s.tim ∧ t.vis = s.vis ∧ t.fst = s.fst ∧ t.fus = s.fus ∧ t.fpp = s.fpp ∧ t.bsu = s.bsu ∧ t.map = s.map ∧ t.mxa = s.mxa ∧
      t.gcr = s.gcr ∧ t.memt = s.memt ∧ t.mem = s.mem) ∧
  (∀ (s : State) (code : Nat) (p : CmdPacket) (row : Instr), (code, row) ∈ sequencedRows p → s.alive = true → s.isReady = true →
    s.crb.barUp = true → s.hif.waiting = [] → s.context = 0 →
    ∃ t, exec row s = .next t ∧
      Recorded (s.ctlWork p.layer p.operator 2) code St.badContext 1 p.hseq (zeros 12) false (p.flags.testBit 0) t) ∧
  (∀ (p : CmdPacket) (s : State), s.context = 0 → s.admits 0x0101 p = true → param p 16 1 ≤ 1 →
    ∃ t r, exec (.sessionOpen p) s = .next t ∧ t.hif.buf.getLast? = some r ∧ r.status = St.ok) ∧
  (∀ (p : CmdPacket) (s : State), s.context = 0 → s.admits 0x0103 p = true →
    ∃ t r, exec (.sessionQuery p) s = .next t ∧ t.hif.buf.getLast? = some r ∧ r.status = St.ok)

/-- R72: a record takes the DSEQ after the last one, modulo 2^32, and the time of the cycle it is made in; the replay buffer keeps the 4,096
most recent records; HIF_OLDEST_DSEQ is HIF_LAST_DSEQ less 4,095 once 4,096 are kept, and 1 before; the first record after reset has
DSEQ 1, and a command that opens or closes a session goes on with the next. -/
def Obligations.RecordsNumbered : Prop :=
  (∀ (s : State) (opcode status detail hseq : Nat) (res : List Byte) (consumed quiet : Bool) (vector : Option Nat),
    s.hif.buf.length ≤ 4096 →
    (let t := s.createRecord opcode status detail hseq res consumed quiet vector
     let n := (s.regN Reg.HIF_LAST_DSEQ + 1) % 2 ^ 32
     t.regN Reg.HIF_LAST_DSEQ = n ∧
     t.hif.buf = s.hif.buf.drop (s.hif.buf.length - 4095) ++
       [⟨opcode, status, detail, hseq, n, s.now, (res ++ zeros 12).take 12, consumed, quiet⟩] ∧
     (t.hif.buf.length = 4096 → t.regN Reg.HIF_OLDEST_DSEQ = (n + 2 ^ 32 - 4095) % 2 ^ 32) ∧
     (t.hif.buf.length < 4096 → t.regN Reg.HIF_OLDEST_DSEQ = 1))) ∧
  (∀ (p : CmdPacket) (s : State) (code : Nat) (row : Instr), (code, row) ∈ [(0x0101, Instr.sessionOpen p), (0x0102, .sessionClose p)] →
    s.admits code p = true →
    ∃ t, exec row s = .next t ∧ t.regN Reg.HIF_LAST_DSEQ = (s.regN Reg.HIF_LAST_DSEQ + 1) % 2 ^ 32) ∧
  State.reset.regN Reg.HIF_LAST_DSEQ = 0 ∧ State.reset.hif.buf = []

/-- R453: a read of a LO that latches copies its HI of the same cycle into that HI's latch and touches no other latch, but PEL_SNAP_CAD_LO
latches every PEL_SNAP HI; a read of a latched HI returns the latch and leaves it; latches hold 0 after reset; a read of both halves that
starts at LO reads LO first. `n` is the CORE cycle of the read. -/
def Obligations.LatchesHold : Prop :=
  (∀ (s : State) (off : Nat) (en : List Bool), s.barAnswers = true → s.bootFailed = false → off % 4 = 0 → off < 0x2000000 →
    (en.take 4).any id = true →
    ∃ n t, s.core ≤ n ∧ exec (.rcFieldRead off en) s = .next t ∧
      (∀ h, h ∈ latchedBy off → SMap.get 0 t.hif.latch h = BitVec.ofNat 32 (({ s with core := n } : State).readReg h)) ∧
      (∀ h, h ∉ latchedBy off → SMap.get 0 t.hif.latch h = SMap.get 0 s.hif.latch h) ∧
      (latchedHi off = false → t.hif.readData = enabledBytes (({ s with core := n } : State).readReg off) en) ∧
      (latchedHi off = true → t.hif.readData = enabledBytes (SMap.get 0 s.hif.latch off).toNat en ∧
        SMap.get 0 t.hif.latch off = SMap.get 0 s.hif.latch off)) ∧
  (∀ off, off ≠ Reg.PEL_SNAP_CAD_LO → ∀ h, h ∈ latchedBy off → h = off + 4 ∧ latchedHi h = true) ∧
  latchedBy Reg.PEL_SNAP_CAD_LO = [Reg.PEL_SNAP_CAD_HI, Reg.PEL_SNAP_TIME_HI, Reg.PEL_SNAP_SEQ_HI] ∧
  (∀ h, SMap.get 0 State.reset.hif.latch h = 0) ∧
  (∀ (s : State) (off : Nat), s.barAnswers = true → s.bootFailed = false → off % 4 = 0 → off + 4 < 0x2000000 → off + 4 ∈ latchedBy off →
    ∃ n t, s.core ≤ n ∧ exec (.latchedPairRead off true) s = .next t ∧
      (let x : State := { s with core := n }
       latchedHi off = false → t.hif.readData = leBytes 4 (x.readReg off) ++ leBytes 4 (x.readReg (off + 4) % 2 ^ 32)))

/-- R13: a read clears an RC field only where every byte of it is enabled; one that enables some bytes returns them and clears nothing; a
braked device has no read-side effect but on the latches. `n` is the CORE cycle of the read. -/
def Obligations.ReadsClear : Prop :=
  (∀ (s : State) (off : Nat) (en : List Bool) (r : RegRow × Nat × Nat), s.barAnswers = true → s.bootFailed = false → s.obs.stopped = false →
    off % 4 = 0 → off < 0x2000000 → en.length = 4 → regAt off = some r → r.1.rc ≠ 0 → latchedHi off = false → latchedBy off = [] →
    drawsFree off = false →
    ∃ n t, s.core ≤ n ∧ exec (.rcFieldRead off en) s = .next t ∧
      t.hif.readData = enabledBytes (({ s with core := n } : State).readReg off) en ∧
      (en = [true, true, true, true] → t.reg off = s.reg off &&& BitVec.ofNat 32 (2 ^ 32 - 1 - r.1.rc)) ∧
      (en ≠ [true, true, true, true] → t.reg off = s.reg off) ∧ (∀ o, o ≠ off → t.reg o = s.reg o) ∧
      t = { s with
        core := t.core
        regs := t.regs
        hif := { s.hif with readData := t.hif.readData } }) ∧
  (∀ (s : State) (off : Nat) (en : List Bool), s.barAnswers = true → s.obs.stopped = true →
    ∃ t, exec (.rcFieldRead off en) s = .next t ∧ t = { s with
      core := t.core
      hif := { s.hif with
        latch := t.hif.latch
        readData := t.hif.readData } })

/-- R318: at its stage's start each core's sequence state is what the cadence, its position in UNIT_MASK and the stage's LAYER give; a RAND
of a core that may issue advances it and returns its upper half. -/
def Obligations.RandSequence : Prop :=
  (∀ (s : State) (r : Run) (n k : Nat), (maskBits (Sd.unitMask (s.runDesc r)))[k]? = some n →
    ((s.gcrStart r).coreOf n).seq = (r.cadence * 65536 + 256 * k + s.runLayer r % 256) % 2 ^ 64) ∧
  (∀ (s : State) (n pc rd : Nat) (r : Run) (h : List Byte) (x : State), s.alive = true → CoreIssues s n pc r h x →
    (let v := ((s.coreOf n).seq * 6364136223846793005 + 1442695040888963407) % 2 ^ 64
     ∃ t, exec (.rand n pc rd) s = .next t ∧ (t.coreOf n).seq = v ∧
       SMap.get 0 (t.coreOf n).x rd = v / 2 ^ 32))

/-- Fuses (R440): a check of a boot image leaves every fuse bit that was 1 at 1, and changes none unless the image tried passes every check;
no reset changes a fuse. -/
def Obligations.FusesOnlyGain : Prop :=
  (∀ (s t : State) (nor : List Byte), s.alive = true → exec (.bootImageCheck nor) s = .next t →
    FusesWithin s.crb.fuses t.crb.fuses ∧
    ((∀ b, bootCode s.crb.fuses b = 0 → b ≠ nor ∧ b ≠ s.hostImage) → t.crb.fuses = s.crb.fuses)) ∧
  (∀ (s : State) (k : Nat) (cold on : Bool) (row : Bool → Instr),
    (k, cold, row) ∈ [(0, true, Instr.porstN), (1, false, .rstN), (3, false, .rootPllUnlock)] →
    ∃ t, exec (row on) s = .next t ∧ t.crb.fuses = s.crb.fuses)

/-- Sessions (R74 to R77): SESSION_OPEN assigns the next CONTEXT and restarts the sequence behind its own HSEQ; SESSION_CLOSE ends the
session; SESSION_QUERY writes the snapshot where an address is given; REPLAY puts copies of the retained records asked for into the
delivery order; NOP hands its parameter bytes back; an undefined opcode is answered BAD_OPCODE. Each answers one record and leaves the
rest as the entry state had it. -/
def Obligations.SessionCommandsComplete : Prop :=
  (∀ (p : CmdPacket) (s : State), s.admits 0x0101 p = true → param p 16 1 ≤ 1 → (s.context = 0 ∨ param p 16 1 = 1) →
    ∃ t, exec (.sessionOpen p) s = .next t ∧
      (let e := s.entry 0x0101 p
       let c := if s.hif.lastContext = 65535 then 1 else s.hif.lastContext + 1
       Replied ((({ e with hif := { e.hif with lastContext := c } }).setRegN Reg.HIF_CONTEXT c).setRegN Reg.HIF_NEXT_HSEQ
           ((p.hseq + 1) % 2 ^ 32)) 0x0101 p St.ok 0
         (result [(20, 2, c), (22, 2, 1), (24, 4, s.regN Reg.CRB_FW_VERSION), (28, 4, s.regN Reg.HIF_OLDEST_DSEQ)]) t)) ∧
  (∀ (p : CmdPacket) (s : State), s.admits 0x0102 p = true →
    ∃ t, exec (.sessionClose p) s = .next t ∧
      Replied ((s.entry 0x0102 p).setRegN Reg.HIF_CONTEXT 0) 0x0102 p St.ok 0 (zeros 12) t) ∧
  (∀ (p : CmdPacket) (s : State), s.admits 0x0103 p = true →
    ∃ t, exec (.sessionQuery p) s = .next t ∧
      (let e := s.entry 0x0103 p
       Recorded (if param p 16 8 = 0 then e else e.hostSt (param p 16 8) e.snapshotBytes) 0x0103 St.ok 0 p.hseq
         (result [(20, 4, s.regN Reg.HIF_NEXT_HSEQ), (24, 4, s.regN Reg.HIF_LAST_DSEQ), (28, 2, s.context), (30, 2, s.residentMask)])
         false (p.flags.testBit 0) t)) ∧
  (∀ (p : CmdPacket) (s : State), s.admits 0x0104 p = true →
    (let first := param p 16 4; let count := param p 20 2; let k := (first + 2 ^ 32 - s.regN Reg.HIF_OLDEST_DSEQ) % 2 ^ 32
     1 ≤ count → count ≤ 4096 →
     ∃ t, exec (.replay p) s = .next t ∧
       (k < s.hif.buf.length →
         Replied ((s.entry 0x0104 p).copies (p.flags.testBit 0) ((s.hif.buf.drop k).take count)) 0x0104 p St.ok 0
           (result [(20, 4, first), (24, 2, ((s.hif.buf.drop k).take count).length)]) t) ∧
       (s.hif.buf.length ≤ k → 2 ^ 31 ≤ k →
         Replied ((s.entry 0x0104 p).copies (p.flags.testBit 0) (s.hif.buf.take count)) 0x0104 p St.ok 1
           (result [(20, 4, s.regN Reg.HIF_OLDEST_DSEQ), (24, 2, (s.hif.buf.take count).length)]) t) ∧
       (s.hif.buf.length ≤ k → k < 2 ^ 31 → Replied (s.entry 0x0104 p) 0x0104 p St.ok 2 (zeros 12) t))) ∧
  (∀ (p : CmdPacket) (s : State), s.admits 0x0105 p = true →
    ∃ t, exec (.nop p) s = .next t ∧ Replied (s.entry 0x0105 p) 0x0105 p St.ok 0 (p.params.take 12) t) ∧
  (∀ (code : Nat) (p : CmdPacket) (s : State), s.admits code p = true → opSpec code = none → code < 65536 →
    ∃ t, exec (.badOpcode code p) s = .next t ∧ Replied (s.entry code p) code p St.badOpcode 0 (zeros 12) t)

/-- Functions (R83): FUNC_ENABLE of a function that none of its refusals meets notes the enable, in DRAINING as pending, and answers
its state; FUNC_DISABLE cancels a waiting enable and notes the disable of a function that runs; FUNC_QUERY answers the state, the
pending flag and the cadence of the last transition. -/
def Obligations.FunctionCommandsComplete : Prop :=
  (∀ (p : CmdPacket) (s : State), s.admits 0x0110 p = true →
    (let e := s.entry 0x0110 p; let id := param p 16 2; let f := e.func id
     let reply := fun (g : Func) => result [(20, 2, id), (22, 1, g.life.code), (23, 1, b2n g.enablePending)]
     e.funcEnableRefusal id = none →
     ∃ t, exec (.funcEnable p) s = .next t ∧
       (f.life = .off → Replied (e.updFunc id (fun g => { g with accepted := some true })) 0x0110 p St.ok 0 (reply f) t) ∧
       (f.life = .starting ∨ f.life = .on →
         Replied (e.updFunc id (fun g => { g with accepted := none })) 0x0110 p St.ok 0 (reply f) t) ∧
       (f.life = .draining → Replied (e.updFunc id (fun g => { g with enablePending := true })) 0x0110 p St.pending 0
         (reply { f with enablePending := true }) t))) ∧
  (∀ (p : CmdPacket) (s : State), s.admits 0x0111 p = true →
    (let e := s.entry 0x0111 p; let id := param p 16 2; let f := e.func id
     funcDefined id = true → 16 ≤ id → (∀ n, n < 16 → (e.slot n).life = .off) →
     ∃ t, exec (.funcDisable p) s = .next t ∧
       (f.life = .starting ∨ f.life = .on →
         Replied (e.updFunc id (fun g => { g with enablePending := false, accepted := some false })) 0x0111 p St.ok 0
           (result [(20, 2, id), (22, 1, f.life.code), (23, 1, 0)]) t) ∧
       (f.life = .off ∨ f.life = .draining →
         Replied (e.updFunc id (fun g => { g with enablePending := false, accepted := none })) 0x0111 p St.ok 0
           (result [(20, 2, id), (22, 1, f.life.code), (23, 1, 0)]) t))) ∧
  (∀ (p : CmdPacket) (s : State), s.admits 0x0112 p = true → funcDefined (param p 16 2) = true → 16 ≤ param p 16 2 →
    (let e := s.entry 0x0112 p; let id := param p 16 2; let f := e.func id
     ∃ t, exec (.funcQuery p) s = .next t ∧
       Replied e 0x0112 p St.ok 0
         (result [(20, 2, id), (22, 1, f.life.code), (23, 1, b2n f.enablePending), (24, 8, f.lastTransition)]) t))

/-- Routes (R39, R41, R45, R473): ROUTE_LOAD of an image that passes its checks leaves it in the empty slot and ends with its CRC;
ROUTE_UNLOAD empties an OFF slot; ROUTE_ENABLE and ROUTE_DISABLE note the transition for the next boundary; ROUTE_SWITCH applies its
masks, or arms them for its instant; ROUTE_QUERY writes the stage status records in index order. -/
def Obligations.RouteCommandsComplete : Prop :=
  (∀ (p : CmdPacket) (s : State), s.admits 0x0201 p = true →
    (let e := s.entry 0x0201 p; let n := param p 16 1; let len := param p 32 4
     let bs := e.hostLd (param p 24 8) len
     n ≤ 15 → 512 ≤ len → len ≤ 16777312 → s.slotHeld n = false → (e.slot n).image = [] →
     e.loadRefusal bs len (e.imgs (slotList.filter (fun k => !(e.slot k).image.isEmpty))) = none →
     ∃ t, exec (.routeLoad p) s = .next t ∧
       Replied ((((e.chargePool 7 (ceilDiv len 64) 0 (some e.longKey)).updSlot n
           (fun x => { x with image := bs.take (Img.imageLen bs), status := [] })).memLoad n).longDone e.longKey St.ok 0
           (result [(20, 1, n), (24, 4, leAt bs 200 4)])) 0x0201 p St.accepted 0 (zeros 12) t)) ∧
  (∀ (p : CmdPacket) (s : State), s.admits 0x0202 p = true →
    (let e := s.entry 0x0202 p; let n := param p 16 1
     n ≤ 15 → e.slotHeld n = false → (e.slot n).life = .off → (e.slot n).startPending = false →
     ∃ t, exec (.routeUnload p) s = .next t ∧
       Replied (if (e.slot n).image = [] then e else (e.updSlot n (fun _ => { Slot.reset with lastTransition := (e.slot n).lastTransition })).memTidy) 0x0202 p St.ok 0
         (result [(20, 1, n)]) t)) ∧
  (∀ (p : CmdPacket) (s : State), s.admits 0x0203 p = true →
    (let e := s.entry 0x0203 p; let n := param p 16 1; let f := e.slot n
     let reply := fun (g : Slot) => result [(20, 1, n), (21, 1, g.life.code), (22, 1, b2n g.enablePending)]
     n ≤ 15 → e.slotHeld n = false → f.image ≠ [] → e.enableRefusal n (e.countingSlots n) = none →
     ∃ t, exec (.routeEnable p) s = .next t ∧
       (f.life = .off → Replied (e.updSlot n (fun g => { g with accepted := some true })) 0x0203 p St.ok 0 (reply f) t) ∧
       (f.life = .starting ∨ f.life = .on →
         Replied (e.updSlot n (fun g => { g with accepted := none })) 0x0203 p St.ok 0 (reply f) t) ∧
       (f.life = .draining → Replied (e.updSlot n (fun g => { g with enablePending := true })) 0x0203 p St.pending 0
         (reply { f with enablePending := true }) t))) ∧
  (∀ (p : CmdPacket) (s : State), s.admits 0x0204 p = true →
    (let e := s.entry 0x0204 p; let n := param p 16 1; let f := e.slot n
     n ≤ 15 → e.slotHeld n = false →
     ∃ t, exec (.routeDisable p) s = .next t ∧
       (f.image = [] → Replied e 0x0204 p St.ok 0 (result [(20, 1, n), (21, 1, f.life.code), (22, 1, b2n f.enablePending)]) t) ∧
       (f.image ≠ [] → f.life = .starting ∨ f.life = .on →
         Replied (e.updSlot n (fun g => { g with enablePending := false, accepted := some false })) 0x0204 p St.ok 0
           (result [(20, 1, n), (21, 1, f.life.code), (22, 1, 0)]) t) ∧
       (f.image ≠ [] → f.life = .off ∨ f.life = .draining →
         Replied (e.updSlot n (fun g => { g with enablePending := false, accepted := none })) 0x0204 p St.ok 0
           (result [(20, 1, n), (21, 1, f.life.code), (22, 1, 0)]) t))) ∧
  (∀ (p : CmdPacket) (s : State), s.admits 0x0205 p = true →
    (let e := s.entry 0x0205 p; let dis := param p 16 2; let en := param p 18 2
     let at_ := param p 24 8
     switchRefusal e dis en = none → (at_ = 0 ∨ (e.opTime at_ (usTime 50) = false ∧ e.opNear at_ = false)) →
     ∃ t, exec (.routeSwitch p) s = .next t ∧
       (at_ = 0 → Replied (e.switchRoutes dis en).1 0x0205 p St.ok 0
         (result [(20, 2, dis), (22, 2, en), (24, 2, (e.switchRoutes dis en).2)]) t) ∧
       (at_ ≠ 0 → Replied (e.arm ⟨3, dis, en, at_, none, [], true⟩) 0x0205 p St.ok 0 (result [(20, 2, dis), (22, 2, en)]) t))) ∧
  (∀ (p : CmdPacket) (s : State), s.admits 0x0206 p = true →
    (let e := s.entry 0x0206 p; let n := param p 16 1; let m := (e.slot n).image
     let bs := (List.range (Img.stageCount m)).flatMap (fun i => SMap.get (zeros 32) (e.slot n).status i)
     n ≤ 15 → m ≠ [] →
     ∃ t, exec (.routeQuery p) s = .next t ∧
       Replied (((e.chargePool 7 (ceilDiv bs.length 64) 0 (some e.longKey)).hostSt (param p 24 8) bs).longDone e.longKey St.ok 0
         (result [(20, 1, n), (22, 2, Img.stageCount m), (24, 4, e.routeState n)])) 0x0206 p St.accepted 0 (zeros 12) t))

/-- Sensor commands (R83, R108, R118, R128 and Table 3.9): each configuration that none of its checks refuses is taken as given;
SENSOR_QUERY answers the sensor's state, its vote state and its last values. -/
def Obligations.SensorCommandsComplete : Prop :=
  (∀ (p : CmdPacket) (s : State), s.admits 0x0301 p = true →
    (let e := s.entry 0x0301 p; let id := param p 16 2
     funcDefined id = true → e.sensorRefusal id p.ext = none →
     ∃ t, exec (.sensorConfig p) s = .next t ∧
       Replied (e.takeSensor id p.ext) 0x0301 p St.ok 0 (result [(20, 2, id)]) t ∧
       (t.func id).configured = true)) ∧
  (∀ (p : CmdPacket) (s : State), s.admits 0x0302 p = true →
    (let e := s.entry 0x0302 p; let id := param p 16 2; let n := SMap.get (0, 0) e.fus.last id
     let named := e.fus.ctxs.any (fun x => x.2.on && (List.range (2 * x.2.entries.length)).any (fun k => x.2.funcOf k == id))
     funcDefined id = true → isSensor id = true →
     ∃ t, exec (.sensorQuery p) s = .next t ∧
       Replied e 0x0302 p St.ok 0
         (result [(20, 2, id), (22, 1, (e.func id).life.code), (23, 1, if named then e.voteState id else 0), (24, 4, n.1), (28, 4, if named then n.2 else 0)]) t)) ∧
  (∀ (p : CmdPacket) (s : State), s.admits 0x0303 p = true →
    (let e := s.entry 0x0303 p; let id := param p 16 2; let k := param p 18 1; let m := param p 19 1
     (rng id 0x010 0x01F || rng id 0x058 0x067) = true → 1 ≤ k → k ≤ 15 → 1 ≤ m → m ≤ 255 →
     ∃ t, exec (.mirageConfig p) s = .next t ∧
       Replied { e with fus := { e.fus with mirage := SMap.set e.fus.mirage id (k, m) } } 0x0303 p St.ok 0
         (result [(20, 2, id)]) t)) ∧
  (∀ (p : CmdPacket) (s : State), s.admits 0x0304 p = true →
    (let e := s.entry 0x0304 p; let j := param p 16 1
     j ≤ 7 → (e.func (lidarFunc j)).life = .off → lidarDescOk p.ext = true →
     ∃ t, exec (.lidarTemplate p) s = .next t ∧
       Replied ((e.setLidar j { e.lidar j with desc := p.ext }).updFunc (lidarFunc j) (fun f => { f with configured := true }))
         0x0304 p St.ok 0 (result [(20, 1, j)]) t)) ∧
  (∀ (p : CmdPacket) (s : State), s.admits 0x0305 p = true →
    (let e := s.entry 0x0305 p; let c := param p 16 1
     e.decRefusal c p.ext = none →
     ∃ t, exec (.decConfig p) s = .next t ∧
       Replied (e.setCh c { e.ch c with setting := p.ext }) 0x0305 p St.ok 0
         (result [(20, 1, c), (24, 4, (((e.setCh c { e.ch c with setting := p.ext }).groupDelay c 0).toNat))]) t))

/-- Map and solver commands (R239, R240, R287 and Table 3.9): MAP_READ and TILE_EXPORT write what they read to the host's buffer,
TILE_IMPORT and MAP_ARCHIVE move a tile, the channel commands replace or clear a channel's base state, SOLVE_SUBMIT queues a problem. -/
def Obligations.MapAndSolverCommandsComplete : Prop :=
  (∀ (p : CmdPacket) (s : State), s.admits 0x0401 p = true →
    (let e := s.entry 0x0401 p; let kind := param p 16 1; let first := param p 20 8; let count := param p 28 4
     let bs := (List.range count).flatMap (e.mapEntry kind first)
     e.mapNotReady = false → 1 ≤ count → count ≤ 65536 → ((kind = 0 ∧ first < 2 ^ 25) ∨ (kind = 1 ∧ first < 2 ^ 20) ∨
       (kind = 2 ∧ count ≤ 256 ∧ keyOk first = true ∧ sgn 20 (first % 2 ^ 20) + (count : Int) - 1 ≤ 524287)) →
     ∃ t, exec (.mapRead p) s = .next t ∧
       Replied (((e.chargePool 7 (ceilDiv bs.length 64) (ceilDiv bs.length 64) (some e.longKey)).hostSt (param p 32 8) bs).longDone e.longKey St.ok 0
         (result [(20, 4, count)])) 0x0401 p St.accepted 0 (zeros 12) t)) ∧
  (∀ (p : CmdPacket) (s : State), s.admits 0x0402 p = true →
    (let e := s.entry 0x0402 p; let key := param p 16 8
     e.mapNotReady = false → keyOk key = true → (dirFind e.mem e.mapBases key).isSome = true →
     ∃ t, exec (.tileExport p) s = .next t ∧
       Replied (((e.chargePool 7 257 257 (some e.longKey)).hostSt (param p 24 8) (e.readTile key)).longDone e.longKey St.ok 0
         (result [(20, 8, key), (28, 4, leAt (e.readTile key) 60 4)])) 0x0402 p St.accepted 0 (zeros 12) t)) ∧
  (∀ (p : CmdPacket) (s u : State), s.admits 0x0403 p = true →
    (let e := s.entry 0x0403 p; let key := param p 16 8; let tile := e.hostLd (param p 24 8) tileLen
     e.mapNotReady = false → tileOk key tile = true → e.tileBusy key = false → e.importTile key tile = some u →
     ∃ t, exec (.tileImport p) s = .next t ∧
       Replied ((u.chargePool 7 257 257 (some e.longKey)).longDone e.longKey St.ok 0 (result [(20, 8, key)])) 0x0403 p St.accepted 0 (zeros 12) t)) ∧
  (∀ (p : CmdPacket) (s : State) (way loc f : Nat), s.admits 0x0404 p = true →
    (let e := s.entry 0x0404 p; let key := param p 16 8
     keyOk key = true → dirFind e.mem e.mapBases key = some (way, loc) → e.mapNotReady = false → param p 24 1 = 1 → locTier loc ≠ 1 →
     e.tileBusy key = false → leastBelow 131072 (fun k => (SMap.find e.map.data.stored k).isNone) = some f →
     ∃ t, exec (.mapArchive p) s = .next t ∧
       Replied (((({ e with mem := e.mem.writeBytes way (dirEntry key (locPlace loc) 3),
                             map := { e.map with moving := e.map.moving ++ [(key, locPlace loc, f, 1)],
                                                 data := { e.map.data with stored := SMap.set e.map.data.stored f key } } } : State).addJob
           ⟨e.longKey, .archive, 0, 0, key, false⟩).chargePool 9 257 257 (some e.longKey)).mapShow) 0x0404 p St.accepted 0 (zeros 12) t)) ∧
  (∀ (p : CmdPacket) (s : State) (way loc k : Nat), s.admits 0x0404 p = true →
    (let e := s.entry 0x0404 p; let key := param p 16 8; let f := locPlace loc
     keyOk key = true → dirFind e.mem e.mapBases key = some (way, loc) → e.mapNotReady = false → param p 24 1 = 0 → locTier loc ≠ 2 →
     e.tileBusy key = false → leastBelow (e.regN Reg.MAP_ARC_SLOTS) (fun k => (SMap.find e.map.data.archive k).isNone) = some k →
     e.writeLocked = false →
     ∃ t, exec (.mapArchive p) s = .next t ∧
       (let x := ({ e with mem := e.mem.writeBytes way (dirEntry key f 3),
                           map := { e.map with moving := e.map.moving ++ [(key, k, f, 0)],
                                               data := { e.map.data with archive := SMap.set e.map.data.archive k key } } } : State).addJob
           ⟨e.longKey, .archive, 1, 0, key, false⟩
        let w : FlashWrite := ⟨e.arcAddr k, tileBytes e.mem e.map.data e.mapBases f ++ zeros (32768 - tileLen), e.longKey⟩
        Replied ((({ x with memt := { x.memt with flash := x.memt.flash ++ [w] } } : State).chargePool 9 257 257 (some e.longKey)).mapShow) 0x0404 p
          St.accepted 0 (zeros 12) t))) ∧
  (∀ (p : CmdPacket) (s : State), s.admits 0x0501 p = true →
    (let e := s.entry 0x0501 p; let c := param p 16 1; let len := param p 32 4
     c < 64 → 64 ≤ len → len ≤ 16777216 → len % 8 = 0 → e.bitOf (Reg.BSU_CH_STATUS c) 1 = false →
     ∃ t, exec (.solveSubmit p) s = .next t ∧
       Replied ((e.setBsu c { e.bsuCh c with waiting := (e.bsuCh c).waiting ++
           [⟨param p 24 8, len, 1, some e.longKey, e.bsuForce c⟩] }).bsuRefill c)
         0x0501 p St.accepted 0 (zeros 12) t)) ∧
  (∀ (p : CmdPacket) (s : State), s.admits 0x0502 p = true →
    (let e := s.entry 0x0502 p; let c := param p 16 1
     let v : BsuCfg := ⟨param p 17 1, param p 18 1, param p 24 8 % 2 ^ 36, param p 32 4⟩
     c < 64 → v.mode ≤ 1 → 1 ≤ v.count → v.count ≤ 64 → tauOk v.tau = true → zeroIn p.params 3 8 = true → zeroIn p.params 20 48 = true →
     e.bitOf (Reg.BSU_CH_STATUS c) 1 = false → e.bsuBusy c = false →
     ∃ t, exec (.channelConfig p) s = .next t ∧
       Replied ((e.setBsu c { e.bsuCh c with base := v }).putForce c v false) 0x0502 p St.ok 0 (result [(20, 1, c)]) t)) ∧
  (∀ (p : CmdPacket) (s : State), s.admits 0x0503 p = true →
    (let e := s.entry 0x0503 p; let c := param p 16 1
     c < 64 → zeroIn p.params 1 48 = true → e.bitOf (Reg.BSU_CH_STATUS c) 1 = false → e.bsuBusy c = false →
     ∃ t, exec (.channelReset p) s = .next t ∧
       Replied (((e.setBsu c { e.bsuCh c with sig := none, a := [], b := [], x0 := [], sol := [], solCad := 0 }).setRegN
           (Reg.BSU_CH_SIG c) 0).clrBit (Reg.BSU_CH_STATUS c) 0) 0x0503 p St.ok 0 (result [(20, 1, c)]) t))

/-- Memory commands (R326, R340, R342, R345): MEM_READ writes the device bytes to the host's buffer; MEM_WRITE and MEM_COPY deliver
in one go, to flash as slot writes; SRAM_WINDOW selects the part; MEM_PROMOTE, MEM_EVICT and MEM_FLUSH enter their job or, with nothing
to do, end at once. -/
def Obligations.MemoryCommandsComplete : Prop :=
  (∀ (p : CmdPacket) (s : State), s.admits 0x0601 p = true →
    (let e := s.entry 0x0601 p; let a := param p 16 8; let n := param p 32 4
     memLenBad n [a] = false → (addrRow a n).isSome = true →
     ∃ t, exec (.memRead p) s = .next t ∧
       Replied (((((e.see a n).2.chargePool 7 (ceilDiv n 64) 0 (some e.longKey)).chargeMove a n e.longKey).hostSt (param p 24 8) (e.see a n).1).longDone e.longKey St.ok 0
         (result [(20, 4, n)])) 0x0601 p St.accepted 0 (zeros 12) t)) ∧
  (∀ (p : CmdPacket) (s : State), s.admits 0x0602 p = true →
    (let e := s.entry 0x0602 p; let a := param p 16 8; let n := param p 32 4
     let bs := e.hostLd (param p 24 8) n; let x := (e.chargePool 7 (ceilDiv n 64) 0 (some e.longKey)).chargeMove a n e.longKey
     memLenBad n [a] = false → (addrRow a n).isSome = true → (inFlash a n = true → a % 32768 = 0 ∧ n % 32768 = 0) →
     e.destRefusal a n = none →
     ∃ t, exec (.memWrite p) s = .next t ∧
       (inFlash a n = false →
         Replied ((x.stB a bs).longDone e.longKey St.ok 0 (result [(20, 4, n)])) 0x0602 p St.accepted 0 (zeros 12) t) ∧
       (inFlash a n = true →
         Replied { x with memt := { x.memt with
             flash := x.memt.flash ++ (List.range (n / 32768)).map (fun k => ⟨a + 32768 * k, (bs.drop (32768 * k)).take 32768, e.longKey⟩),
             jobs := x.memt.jobs ++ [⟨e.longKey, .flashWrite, n / 32768, n, 0, false⟩] } } 0x0602 p St.accepted 0 (zeros 12) t))) ∧
  (∀ (p : CmdPacket) (s : State), s.admits 0x0603 p = true →
    (let e := s.entry 0x0603 p; let a := param p 16 8; let b := param p 24 8; let n := param p 32 4
     let bs := (e.see a n).1; let x := (((e.see a n).2.chargeMove a n e.longKey).chargePool 7 (ceilDiv n 64) 0 (some e.longKey)).chargeMove b n e.longKey
     memLenBad n [a, b] = false → (addrRow a n).isSome = true → (addrRow b n).isSome = true →
     (inFlash b n = true → b % 32768 = 0 ∧ n % 32768 = 0) → overlap (a, a + n) (b, b + n) = false → e.destRefusal b n = none →
     ∃ t, exec (.memCopy p) s = .next t ∧
       (inFlash b n = false →
         Replied ((x.stB b bs).longDone e.longKey St.ok 0 (result [(20, 4, n)])) 0x0603 p St.accepted 0 (zeros 12) t) ∧
       (inFlash b n = true →
         Replied { x with memt := { x.memt with
             flash := x.memt.flash ++ (List.range (n / 32768)).map (fun k => ⟨b + 32768 * k, (bs.drop (32768 * k)).take 32768, e.longKey⟩),
             jobs := x.memt.jobs ++ [⟨e.longKey, .flashWrite, n / 32768, n, 0, false⟩] } } 0x0603 p St.accepted 0 (zeros 12) t))) ∧
  (∀ (p : CmdPacket) (s : State), s.admits 0x0604 p = true → param p 16 1 ≤ 3 →
    ∃ t, exec (.sramWindow p) s = .next t ∧
      Replied ((s.entry 0x0604 p).setFld Reg.MEM_WINDOW 0 2 (param p 16 1)) 0x0604 p St.ok 0 (result [(20, 1, param p 16 1)]) t) ∧
  (∀ (p : CmdPacket) (s : State) (f : Nat), s.admits 0x0605 p = true →
    (let e := s.entry 0x0605 p; let a := param p 16 8
     e.memTarget a = some (.tile f) → (MemTarget.tile f).stagingTier = param p 24 1 →
     ∃ t, exec (.memPromote p) s = .next t ∧
       ((e.map.data.tabOf f).isSome = true →
         Replied ((e.setMap { e.map with hostPins := insertOnce f e.map.hostPins }).longDone e.longKey St.ok 0
           (result [(20, 8, a), (28, 1, 0)])) 0x0605 p St.accepted 0 (zeros 12) t) ∧
       ((e.map.data.tabOf f).isSome = false →
         Replied ((e.addJob ⟨e.longKey, .promote, 0, 0, 4096 + f, false⟩).setMap
           { e.map with promoting := insertOnce f e.map.promoting }) 0x0605 p St.accepted 0 (zeros 12) t))) ∧
  (∀ (p : CmdPacket) (s : State) (i : Nat) (o : MemObj), s.admits 0x0605 p = true →
    (let e := s.entry 0x0605 p; let a := param p 16 8
     e.memTarget a = some (.obj i o) → (MemTarget.obj i o).stagingTier = param p 24 1 →
     (∀ x ∈ e.memt.objs, x.1 ≠ i → x.2.state ≠ .absent → overlap x.2.range o.range = false) →
     ∃ t, exec (.memPromote p) s = .next t ∧
       (let x := (e.addJob ⟨e.longKey, .promote, 0, 0, i, false⟩).promoteRequest i
        let y := if o.state = .absent then x.1.poolTiles o o.tiles true (some e.longKey) else x.1
        Replied (if x.2 then y.promoted i else y) 0x0605 p St.accepted 0 (zeros 12) t))) ∧
  (∀ (p : CmdPacket) (s : State) (f : Nat), s.admits 0x0606 p = true →
    (let e := s.entry 0x0606 p; let a := param p 16 8
     e.memTarget a = some (.tile f) → (MemTarget.tile f).homeTier = param p 24 1 →
     ∃ t, exec (.memEvict p) s = .next t ∧
       Replied ((e.evictTile f).1.longDone e.longKey St.ok 0 (result [(20, 8, a), (28, 1, b2n (e.evictTile f).2)])) 0x0606 p St.accepted 0
         (zeros 12) t)) ∧
  (∀ (p : CmdPacket) (s : State) (i : Nat) (o : MemObj), s.admits 0x0606 p = true →
    (let e := s.entry 0x0606 p; let a := param p 16 8
     e.memTarget a = some (.obj i o) → (MemTarget.obj i o).homeTier = param p 24 1 →
     ∃ t, exec (.memEvict p) s = .next t ∧
       (let x := (e.addJob ⟨e.longKey, .evict, 0, 0, i, false⟩).dropPin i hostHolder
        Replied (if x.2 then x.1.endJob e.longKey St.ok [(20, 8, a), (28, 1, 1)] else x.1) 0x0606 p St.accepted 0 (zeros 12) t))) ∧
  (∀ (p : CmdPacket) (s : State), s.admits 0x0607 p = true →
    (let e := s.entry 0x0607 p; let a := param p 16 8; let n := param p 32 4
     let hit := fun (o : MemObj) (j : Nat) => overlap (span (o.slotAddr j) tileLen) (a, a + n) ||
       overlap (span (o.tileAddr (e.stagedTile o j)) tileLen) (a, a + n)
     let due := e.memt.objs.map (fun x => (x.1, x.2, x.2.dirty.filter (hit x.2)))
     let count := (due.map (fun x => x.2.2.length)).sum
     memLenBad n [a] = false → (addrRow a n).isSome = true →
     ∃ t, exec (.memFlush p) s = .next t ∧
       (count = 0 → Replied (e.longDone e.longKey St.ok 0 (result [(20, 4, 0)])) 0x0607 p St.accepted 0 (zeros 12) t) ∧
       (count ≠ 0 → Replied ((e.addJob ⟨e.longKey, .flush, count, 0, 0, false⟩).each due
         (fun st x => st.queueBacks x.1 x.2.1 x.2.2 (.flush e.longKey))) 0x0607 p St.accepted 0 (zeros 12) t)))

/-- Time commands (R88, R90 and Table 3.9): TIME_READ answers disciplined time and the status; TIME_ADJUST within its bounds puts the
change in or, spaced, holds it (DETAIL 1); PTP_CONFIG gives the port its descriptor and starts it over. -/
def Obligations.TimeCommandsComplete : Prop :=
  (∀ (p : CmdPacket) (s : State), s.admits 0x0701 p = true →
    (let e := s.entry 0x0701 p
     ∃ t, exec (.timeRead p) s = .next t ∧ Replied e 0x0701 p St.ok 0 (result [(20, 8, s.now), (28, 4, e.timStatus)]) t)) ∧
  (∀ (p : CmdPacket) (s : State), s.admits 0x0702 p = true →
    (let e := s.entry 0x0702 p; let mode := param p 16 1; let c := e.changeOf mode (sparam p 24 8) (sparam p 32 4)
     e.adjustRefusal mode (sparam p 24 8) (sparam p 32 4) = none →
     ∃ t, exec (.timeAdjust p) s = .next t ∧
       (e.changeFree c = true → Replied e 0x0702 p St.ok 0 (result [(20, 1, mode)]) t) ∧
       (e.changeFree c = false → e.tim.held = [] ∧ e.changeDue ≤ e.raw + 1 →
         Replied (e.applyChange (e.raw + 1) c) 0x0702 p St.ok 0 (result [(20, 1, mode)]) t) ∧
       (e.changeFree c = false → e.tim.held ≠ [] ∨ e.raw + 1 < e.changeDue →
         Replied { e with tim := { e.tim with held := e.tim.held ++ [c] } } 0x0702 p St.ok 1 (result [(20, 1, mode)]) t))) ∧
  (∀ (p : CmdPacket) (s : State), s.admits 0x0703 p = true →
    (let e := s.entry 0x0703 p; let q := param p 16 1
     let x := (e.putPtpState q PtpState.initializing).setPtp q { PtpPort.reset q with desc := p.ext }
     ptpRefusal q p.ext = none →
     ∃ t, exec (.ptpConfig p) s = .next t ∧
       Replied (if (e.ptpPort q).follows then x.leaveSlave q else x) 0x0703 p St.ok 0 (result [(20, 1, q)]) t))

/-- Tandem and Peloton commands (R352, R365, R366, R372 and Table 3.9): the new role, membership or operation stands due; the status
commands answer what stands. -/
def Obligations.PairCommandsComplete : Prop :=
  (∀ (p : CmdPacket) (s : State), s.admits 0x0801 p = true →
    (let e := s.entry 0x0801 p; let r := param p 16 1
     r ≤ 2 → (e.func tdmFunc).life = .off → (r = e.role ∨ e.allSlotsOff = true) →
     ∃ t, exec (.tandemConfig p) s = .next t ∧
       Replied { e with tdm := { e.tdm with roleDue := some r } } 0x0801 p St.ok 0 (result [(20, 1, r)]) t)) ∧
  (∀ (p : CmdPacket) (s : State), s.admits 0x0802 p = true →
    (let e := s.entry 0x0802 p
     ∃ t, exec (.tandemStatus p) s = .next t ∧
       Replied e 0x0802 p St.ok 0
         (result [(20, 1, e.role), (21, 1, e.linkState), (24, 8, e.pair Reg.TDM_CMP_CAD_LO Reg.TDM_CMP_CAD_HI)]) t)) ∧
  (∀ (p : CmdPacket) (s : State), s.admits 0x0803 p = true →
    (let e := s.entry 0x0803 p; let b := e.ccu.cadence + 2
     e.role ≠ 0 → (e.func tdmFunc).life ≠ .off →
     ∃ t, exec (.tandemSwitchover p) s = .next t ∧
       (e.linkState = 3 → Replied (({ e with tdm := { e.tdm with switchAt := some b } }).linkSend 0x31 0 e.ccu.cadence (leBytes 8 b))
         0x0803 p St.ok 0 (result [(20, 1, 3 - e.role)]) t) ∧
       (e.linkState = 0 → e.role = 2 →
         Replied { e with tdm := { e.tdm with takeover := true } } 0x0803 p St.ok 0 (result [(20, 1, 1)]) t) ∧
       (e.linkState ≠ 3 → ¬ (e.linkState = 0 ∧ e.role = 2) → Replied e 0x0803 p St.ok 0 (result [(20, 1, e.role)]) t))) ∧
  (∀ (p : CmdPacket) (s : State), s.admits 0x0804 p = true →
    (let e := s.entry 0x0804 p; let me := param p 18 1; let es := memberEntries p.ext
     p.ext.length % 16 = 0 → 2 ≤ es.length → me < es.length → (es.getD me []).take 6 = e.macOf 0 → twinsOk es = true →
     e.fabricOn = true → e.joined = false → e.pel.joinDue = none →
     ∃ t, exec (.pelotonJoin p) s = .next t ∧
       Replied { e with pel := { e.pel with joinDue := some (es, param p 16 2, me), leaveDue := false } } 0x0804 p St.ok 0
         (result [(20, 2, param p 16 2), (22, 1, me)]) t)) ∧
  (∀ (p : CmdPacket) (s : State), s.admits 0x0805 p = true → (s.entry 0x0805 p).joined = true →
    (let e := s.entry 0x0805 p
     ∃ t, exec (.pelotonLeave p) s = .next t ∧
       Replied { e with pel := { e.pel with leaveDue := true } } 0x0805 p St.ok 0 (zeros 12) t)) ∧
  (∀ (p : CmdPacket) (s : State), s.admits 0x0806 p = true →
    (let e := s.entry 0x0806 p; let op := param p 16 1; let at_ := param p 24 8; let dis := param p 32 2; let en := param p 34 2
     e.joined = true → (op = 1 ∨ op = 2 ∨ (op = 3 ∧ switchRefusal e dis en = none)) →
     e.opTime at_ (usTime (e.treeDepth * e.hop + 50)) = false → e.opNear at_ = false →
     ∃ t, exec (.pelotonSchedule p) s = .next t ∧
       (let y := opPayload op dis en
        let x := e.arm ⟨op, dis, en, at_, some e.pel.me, [], true⟩
        Replied ((x.each (x.treeChildren x.pel.me) (fun st c => st.pelSend 3 c st.pel.me at_ y)).scheduleItem e.pel.me at_ y)
          0x0806 p St.ok 0 (result [(20, 1, op), (24, 8, at_)]) t))) ∧
  (∀ (p : CmdPacket) (s : State), s.admits 0x0807 p = true →
    (let e := s.entry 0x0807 p
     ∃ t, exec (.pelotonStatus p) s = .next t ∧
       Replied e 0x0807 p St.ok 0
         (result [(20, 2, e.pel.domain), (22, 1, e.pel.me),
           (23, 1, min 255 ((List.range 256).filter (fun i => e.presentBits.testBit i)).length),
           (24, 8, e.pair Reg.PEL_LAST_BARRIER_LO Reg.PEL_LAST_BARRIER_HI)]) t))

/-- Observation commands (R79, R406, R409, R414, R422): COUNTER_READ writes a unit's counter block, MONITOR_CONFIG and TRACE_CONFIG
take a descriptor their checks pass, TENSOR_DUMP arms a dump, and BRAKE registers source 0 with its reason and answers BRAKED. -/
def Obligations.ObservationCommandsComplete : Prop :=
  (∀ (p : CmdPacket) (s : State), s.admits 0x0901 p = true → 1 ≤ param p 16 1 → param p 16 1 ≤ 15 →
    (let e := (s.entry 0x0901 p).bankOpen 15 0 p.layer p.operator 2 0xFF
     let bs := e.counterBlock (param p 16 1); let n := ceilDiv bs.length 64
     ∃ t, exec (.counterRead p) s = .next t ∧
       Replied ((((((e.obsFlits n).chargePool 7 n 0 (some (s.entry 0x0901 p).longKey)).hostSt (param p 24 8) bs).bankBusy 15 0 n).bankEnd 15 0).longDone (s.entry 0x0901 p).longKey St.ok 0
         (result [(20, 4, bs.length)])) 0x0901 p St.accepted 0 (zeros 12) t)) ∧
  (∀ (p : CmdPacket) (s : State), s.admits 0x0902 p = true →
    (let e := s.entry 0x0902 p; let m := param p 16 1; let d := p.ext
     let b : MonBank := { MonBank.reset with cadence := e.ccu.cadence }
     m < 64 → d.length = 64 → leAt d 0 1 ≤ 10 → leAt d 1 1 < 8 → leAt d 2 1 ≤ 33 → zeroIn d 32 64 = true →
     selectorOk (leAt d 0 1) (leAt d 4 2) (leAt d 6 2) = true →
     ∃ t, exec (.monitorConfig p) s = .next t ∧
       Replied { e with obs := { e.obs with monitors := SMap.set e.obs.monitors m ⟨d, b, b, 0, false, none⟩ } } 0x0902 p St.ok 0
         (result [(20, 1, m)]) t)) ∧
  (∀ (p : CmdPacket) (s : State), s.admits 0x0903 p = true →
    (let e := s.entry 0x0903 p
     e.traceRefusal p.ext = none →
     ∃ t, exec (.traceConfig p) s = .next t ∧
       Replied (e.updTrace (fun x => { x with desc := p.ext })) 0x0903 p St.ok 0 (zeros 12) t)) ∧
  (∀ (p : CmdPacket) (s : State), s.admits 0x0904 p = true →
    (let e := s.entry 0x0904 p; let n := param p 28 8
     e.ccu.cadence < n → n ≤ e.ccu.cadence + 65536 → 16512 ≤ param p 24 4 → e.obs.dumps.length < 4 →
     (∀ d ∈ e.obs.dumps, ¬ (d.layer = p.layer ∧ d.operator = p.operator ∧ d.cadence = n)) →
     ∃ t, exec (.tensorDump p) s = .next t ∧
       Replied ({ e with obs := { e.obs with dumps := e.obs.dumps ++
           [(⟨e.longKey, p.layer, p.operator, n, param p 16 8, param p 24 4, [], false⟩ : Dump)] } }).showDumps 0x0904 p St.accepted 0 (zeros 12) t)) ∧
  (∀ (p : CmdPacket) (s : State), s.admits 0x0905 p = true →
    ∃ t, exec (.brake p) s = .next t ∧
      Replied ((s.entry 0x0905 p).brakeSource 0 (param p 16 1)) 0x0905 p St.braked 0 (zeros 12) t ∧
      (s.obs.brake = none → t.obs.brake = some ⟨s.core, 1, 0, param p 16 1, true⟩))

/-- Metrology commands (Table 3.9, R399): with Oasis present MET_IDENT and MET_COUNTER answer from the last identification record;
MET_SELECT notes the selection for the next boundary; MET_RESULT_READ writes the oldest unread records and marks them read. -/
def Obligations.MetrologyCommandsComplete : Prop :=
  (∀ (p : CmdPacket) (s : State) (r : List Byte), s.admits 0x0A01 p = true →
    (let e := s.entry 0x0A01 p
     e.met.ident = some r → e.metPresent = true →
     ∃ t, exec (.metIdent p) s = .next t ∧
       Replied e 0x0A01 p St.ok 0 (result [(20, 4, leAt r 0 4), (24, 4, leAt r 4 4), (28, 1, presentState r true)]) t)) ∧
  (∀ (p : CmdPacket) (s : State) (r : List Byte), s.admits 0x0A02 p = true →
    (let e := s.entry 0x0A02 p
     e.met.ident = some r → e.metPresent = true →
     ∃ t, exec (.metCounter p) s = .next t ∧ Replied e 0x0A02 p St.ok 0 (result [(20, 4, leAt r 12 4)]) t)) ∧
  (∀ (p : CmdPacket) (s : State) (cells period : Nat), s.admits 0x0A03 p = true →
    (let e := s.entry 0x0A03 p; let id := param p 16 2; let n := param p 18 1
     0x010 ≤ id → id ≤ 0x01F → n ≤ 1 → e.metResident id = some (cells, period) →
     2 * (68 + 4 * cells) + 200000 + 24 * cells ≤ period →
     (e.met.oasis.sealed = false ∨ id = Mp.source e.met.oasis.params) →
     ∃ t, exec (.metSelect p) s = .next t ∧
       Replied { e with met := { e.met with selDue := some (id, n) } } 0x0A03 p St.ok 0 (result [(20, 2, id)]) t)) ∧
  (∀ (p : CmdPacket) (s : State), s.admits 0x0A04 p = true →
    (let e := s.entry 0x0A04 p; let n := param p 24 2
     let recs := ((e.met.ring.filter (fun x => x.1)).take n).map (fun x => x.2)
     1 ≤ n → n ≤ 256 →
     ∃ t, exec (.metResultRead p) s = .next t ∧
       (let x := e.hostSt (param p 16 8) (recs.flatMap id)
        Replied ((({ x with met := { x.met with ring := markRead n x.met.ring } } : State).showUnread).longDone
          e.longKey St.ok 0 (result [(20, 2, recs.length)])) 0x0A04 p St.accepted 0 (zeros 12) t)))

/-- Cadence events (R18, R35, R36, R42, R83): each event of the cadence control whose condition holds has its effect: a boundary
opens at its instant, a start past its bound is reported with the cadence noted, a trigger pulse opens the windows of the cameras on
the pin and ends after its width, and a drain that outlasts its bound is counted once.
Drains (R42, R83): a function or Route whose drain has ended is OFF, with its event record and the state of its unit that OFF
clears: a camera's window, a decimation channel, the network of a TDM port, a metrology channel. -/
def Obligations.CadenceAndDrainEventsComplete : Prop :=
  (∀ (s : State) (o : Opening), s.alive = true → s.opening = some o →
    exec .cadenceBoundary s = .next ((s.runToTime o.instant).openBoundary o false none)) ∧
  (∀ (s : State) (id : Nat), s.alive = true → (s.func id).life = .starting → (s.func id).startedAt + 16 ≤ s.ccu.cadence →
    (s.ccu.cadence - (s.func id).startedAt) % 16 = 0 → (s.func id).boundAt ≠ s.ccu.cadence →
    ∃ t, exec (.startBoundExceeded id) s = .next t ∧
      Reported (s.updFunc id (fun f => { f with boundAt := s.ccu.cadence })) 0xFF01
        (if isSensor id then St.sensorAbsent else St.internalFault) 0x04 id (result [(20, 2, id), (22, 1, Life.code .starting)]) t) ∧
  (∀ (s : State) (pin t : Nat), s.alive = true → SMap.find s.ccu.trigDue pin = some t →
    (let x := s.runToTime t
     let y : State := { x with ccu := { x.ccu with
       trigDue := SMap.erase x.ccu.trigDue pin,
       trigEnd := SMap.set x.ccu.trigEnd pin (x.raw + 16 * max 1 (x.fld (Reg.CCU_TRIG_CTRL pin) 16 16)) } }
     let sl := y.slot (y.fld (Reg.CCU_TRIG_CTRL pin) 0 4)
     exec (.cameraTrigger pin) s = .next (y.each (List.range 16) (fun st i =>
       if (st.func (camFunc i)).life == Life.on && (st.cam i).trigger == pin then
         st.openWindow i t (sl.runInstant + Img.stride sl.image * y.regN Reg.CCU_CADENCE_PERIOD) sl.runCadence t
           (sl.runCadence + max 1 (Img.stride sl.image))
       else st)))) ∧
  (∀ (s : State) (pin t : Nat), s.alive = true → SMap.find s.ccu.trigEnd pin = some t →
    exec (.triggerPulseEnd pin) s = .next { s.runTo (coreOfRaw t) with ccu := { (s.runTo (coreOfRaw t)).ccu with
      trigEnd := SMap.erase (s.runTo (coreOfRaw t)).ccu.trigEnd pin } }) ∧
  (∀ (s : State) (id : Nat), s.alive = true → 16 ≤ id → (s.func id).life = .draining → (s.func id).overran = false →
    (let x := ((s.runTo (s.func id).drainBy).updFunc id (fun f => { f with overran := true })).count 11 3
     exec (.drainOverrun id) s =
       .next (if 0x020 ≤ id ∧ id < 0x058 then x.count 2 (decCnt (id - 0x020) 2) else x))) ∧
  (∀ (s : State) (n : Nat), s.alive = true → n < 16 → (s.slot n).life = .draining → (s.slot n).lastTransition < s.ccu.cadence →
    (s.slot n).overran = false →
    exec (.drainOverrun n) s = .next ((s.updSlot n (fun f => { f with overran := true })).count 11 3)) ∧
  (∀ (s : State) (id : Nat), s.alive = true → (s.func id).life = .draining → s.funcDrained id = true →
    (let y := s.runTo (max (s.coreAt s.ccu.boundaryTime + 1) (if id = posePort then s.poseEnd else 0))
     let w := (if id = 0x073 then y.fppOff else if 0x020 ≤ id ∧ id < 0x058 then y.audioClose (id - 0x020) else y).updFunc id
       (fun f => { f with life := .off, lastTransition := y.ccu.cadence, overran := false })
     let v := if id < 0x020 then w.setCam (id - 0x010) { w.cam (id - 0x010) with window := none }
       else if id < 0x058 then w.decClear (id - 0x020)
       else if id = 0x084 then w.tdmOff else if id = 0x087 then w.metOff else w
     ∃ t, exec (.functionDrainComplete id) s = .next t ∧
       Reported v 0xFF01 St.ok 0x03 id (result [(20, 2, id), (22, 1, 0)]) t)) ∧
  (∀ (s : State) (n : Nat), s.alive = true → (s.slot n).life = .draining → s.memDrained n = true →
    s.ccu.runs.any (fun r => r.slot == n) = false →
    ∃ t, exec (.routeDrainComplete n) s = .next t ∧
      (let x := s.updSlot n (fun f => { f with life := .off, lastTransition := s.ccu.cadence, overran := false })
       Reported (((((((x.memRouteOff n).visRouteOff n).fstActive n false).fusRouteOff n).bsuRouteOff n).mapRouteOff n).mxRouteOff n
         |>.showTriggers n false) 0xFF02 St.ok 0x03 n (result [(20, 1, n)]) t))

/-- Stage events (R43 to R45, R53): a startable stage whose weights are ready launches its own descriptor, at its start offset, with its
output flags EMPTY; one whose weights are late takes its freewheel descriptor, its reuse, or ends STALE_RESULT; a deadline aborts the
run; a run all of whose instances have ended is done. -/
def Obligations.StageEventsComplete : Prop :=
  (∀ (s : State) (n i : Nat) (outs ws : List Nat), s.alive = true → s.startable n i = true →
    (let d := Img.desc (s.slot n).image i
     let x := ((s.runToTime ((s.slot n).runInstant + Sd.start d)).emitSlot 1 n 0x10 (Sd.layer d)
       (leBytes 2 (Sd.operator d) ++ zeros 2 ++ leBytes 4 (s.slot n).runCadence)).each outs
         (fun st k => st.setFlag n k Flag.empty (Sd.layer d) (Sd.operator d))
     let late := (weightFlags (s.slot n).image d ws).filter (fun k => x.flagOf n k != Flag.ready)
     (late = [] → exec (.stageStart n i outs ws) s = .next (x.launch n i i outs false)) ∧
     (late ≠ [] → (Sd.flags d).testBit 1 = true → (Sd.flags d).testBit 2 = false →
       exec (.stageStart n i outs ws) s =
         .next (((x.lateEvent n (Sd.layer d) (Sd.operator d) St.freewheelTaken late).count 11 6).launch n i (Sd.freewheelStage d) outs true)) ∧
     (late ≠ [] → (Sd.flags d).testBit 1 = true → (Sd.flags d).testBit 2 = true →
       exec (.stageStart n i outs ws) s =
         .next (((x.lateEvent n (Sd.layer d) (Sd.operator d) St.freewheelTaken late).count 11 6).launchNone n i outs Flag.ready
           St.freewheelTaken)) ∧
     (late ≠ [] → (Sd.flags d).testBit 1 = false →
       exec (.stageStart n i outs ws) s =
         .next (((x.lateEvent n (Sd.layer d) (Sd.operator d) St.staleResult late).count 11 7).launchNone n i outs Flag.stale
           St.staleResult)))) ∧
  (∀ (s : State) (n i : Nat) (r : Run), s.alive = true → s.runOf n i = some r → Sd.deadline (s.runDesc r) ≠ Img.period (s.img n) →
    exec (.deadlineAbort n i) s = .next ((s.runToTime (r.instant + Sd.deadline (s.runDesc r))).abortRun r)) ∧
  (∀ (s : State) (n i : Nat) (r : Run), s.alive = true → s.runOf n i = some r → Sd.deadline (s.runDesc r) = Img.period (s.img n) →
    exec (.deadlineAbort n i) s = .next ((s.runTo (s.coreAt (r.instant + Sd.deadline (s.runDesc r)) - 1)).abortRun r)) ∧
  (∀ (s : State) (n i : Nat) (r r' : Run), s.alive = true → s.mapSync.runOf n i = some r → r.waiting = false →
    (r.insts.all (fun k => k.ended) = true ∨ 7 ≤ Sd.cls (s.mapSync.runDesc r)) → (s.mapSync.unitEnd r).runOf n i = some r' →
    exec (.stageEnd n i) s = .next (((s.mapSync.unitEnd r).stageDone r' ((s.mapSync.unitEnd r).stageStatus r')).mapSync))

/-- Epochs (R18, R20, R222): the oldest resolved epoch starts its resolution at the units that hold it, or, held by none, is
acknowledged at once; an acknowledgement removes its holder, the last one the epoch; a holder still missing in the next cadence is
reported once. -/
def Obligations.EpochEventsComplete : Prop :=
  (∀ (s : State) (e : Nat) (c : Bool) (rest : List (Nat × Option Bool)), s.alive = true → s.ccu.resolving = none →
    s.ccu.epochs = (e, some c) :: rest →
    (let x := s.fppResolve e c
     let y : State := { x.1 with ccu := { x.1.ccu with
       resolving := some (e, c, (if x.2 then [] else [0]) ++ (if x.1.mapHolds e then [1] else []), s.ccu.cadence, []) } }
     (x.1.mapHolds e = true → exec (.epochResolution e c) s = .next y) ∧
     (x.1.mapHolds e = false → x.2 = false →
       exec (.epochResolution e c) s = .next (y.setRegN (if c then Reg.MAP_LAST_COMMIT else Reg.MAP_LAST_SQUASH) (e % 2 ^ 32))) ∧
     (x.1.mapHolds e = false → x.2 = true → ∃ t, exec (.epochResolution e c) s = .next t ∧ t.ccu.resolving = none ∧
       t.ccu.epochs = x.1.ccu.epochs.filter (fun q => q.1 != e) ∧
       t.regN (if c then Reg.MAP_LAST_COMMIT else Reg.MAP_LAST_SQUASH) = e % 2 ^ 32))) ∧
  (∀ (s : State) (u e cad : Nat) (c : Bool) (hs late : List Nat), s.alive = true → s.ccu.resolving = some (e, c, hs, cad, late) →
    hs.contains u = true → (u = 1 → s.mapHolds e = false) →
    exec (.resolutionAck u e) s = .next { s with ccu :=
      if (hs.filter (· != u)).isEmpty then { s.ccu with resolving := none, epochs := s.ccu.epochs.filter (fun x => x.1 != e) }
      else { s.ccu with resolving := some (e, c, hs.filter (· != u), cad, late) } }) ∧
  (∀ (s : State) (u e cad : Nat) (c : Bool) (hs late : List Nat), s.alive = true → s.ccu.resolving = some (e, c, hs, cad, late) →
    hs.contains u = true → late.contains u = false → cad < s.ccu.cadence →
    ∃ t, exec (.resolutionAckTimeout u e) s = .next t ∧
      Reported { s with ccu := { s.ccu with resolving := some (e, c, hs, cad, u :: late) } } 0xFF02 St.internalFault 0x08
        0x073 (result [(20, 4, e % 2 ^ 32), (24, 1, u)]) t)

/-- Global operations (R374): the operation of the least instant leaves the armed list; performed, a snapshot copies cadence, time,
SEQ and commit and is reported; any other ends early the instances whose cadence it cuts short, realigns the anchor and opens a
boundary; one not armed here does nothing more. -/
def Obligations.GlobalOperationComplete : Prop :=
  (∀ (s : State) (o : PelOp), s.alive = true → s.nextOp = some o → o.armed = false →
    exec .globalOperation s = .next ((s.runToTime o.instant).opDue o)) ∧
  (∀ (s : State) (o : PelOp), s.alive = true → s.nextOp = some o → o.armed = true →
    (let w := (s.runToTime o.instant).opDue o
     let x := w.emit none 0x05 o.op 0 (leBytes 8 o.instant) (some w.ctlEngines)
     let go := fun y : State =>
       ((y.setPair Reg.CCU_CADENCE_ANCHOR_LO Reg.CCU_CADENCE_ANCHOR_HI o.instant).openBoundary ⟨o.instant, false, none⟩ (o.op == 2)
         (if o.op = 3 then some (o.disable, o.enable) else none)).opDone o
     (o.op = 1 → exec .globalOperation s = .next (x.snapshot.opDone o)) ∧
     (o.op ≠ 1 → x.ccu.lastInstant = none → exec .globalOperation s = .next (x.opDone o)) ∧
     (o.op ≠ 1 → x.ccu.lastInstant ≠ none → (∃ p, x.opening = some p ∧ p.instant = o.instant ∧ p.realigned = false) →
       exec .globalOperation s = .next (go x)) ∧
     (o.op ≠ 1 → x.ccu.lastInstant ≠ none → (∀ p, x.opening = some p → p.instant ≠ o.instant ∨ p.realigned = true) →
       exec .globalOperation s = .next (go (x.each
         (x.ccu.runs.filter (fun r => decide (r.cadence + max 1 (Img.stride (x.img r.slot)) ≤ x.ccu.cadence + 1)))
         (fun st r => st.abortRun r))))))

/-- Host ring registers and MSI-X entries (R58, R59, R61, R459): a new reply head is taken; a new command tail within the ring is taken
and what it brings is fetched, one beyond it is CTRL_IGNORED; setting ENABLE from 0 puts the indices level, clearing it leaves them;
unmasking a vector with nothing pending changes the entry alone. -/
def Obligations.RingRegistersComplete : Prop :=
  (∀ (s : State) (h : Nat), s.takes Reg.HIF_RPL_HEAD = true → h < 2 ^ 32 →
    exec (.hifRplHead h) s = .next (s.tick.setRegN Reg.HIF_RPL_HEAD h).tick) ∧
  (∀ (s : State) (n : Nat) (w : HostWrites), s.takes Reg.HIF_CMD_TAIL = true → n < 2 ^ 32 →
    (let x : State := ({ s with host := s.host.writeAll w } : State).tick
     let ahead := (n + 2 ^ 32 - s.regN Reg.HIF_CMD_HEAD) % 2 ^ 32
     (ahead ≤ s.cmdSlots → exec (.hifCmdTail n w) s = .next (x.setRegN Reg.HIF_CMD_TAIL n).fetchAll.tick) ∧
     (s.cmdSlots < ahead → exec (.hifCmdTail n w) s = .next (x.setBit Reg.HIF_RING_STATUS 4).tick))) ∧
  (∀ (s : State), s.takes Reg.HIF_RING_CTRL = true → s.bitOf Reg.HIF_RING_CTRL 0 = false →
    ∃ t : State, exec .ringEnable s = .next t.tick ∧ t = { s.tick with regs := t.regs } ∧ t.bitOf Reg.HIF_RING_CTRL 0 = true ∧
      t.reg Reg.HIF_CMD_HEAD = s.reg Reg.HIF_CMD_TAIL ∧ t.reg Reg.HIF_RPL_TAIL = s.reg Reg.HIF_RPL_HEAD ∧
      ∀ o, o ≠ Reg.HIF_RING_CTRL → o ≠ Reg.HIF_CMD_HEAD → o ≠ Reg.HIF_RPL_TAIL → t.reg o = s.reg o) ∧
  (∀ (s : State), s.takes Reg.HIF_RING_CTRL = true →
    ∃ t : State, exec .ringDisable s = .next t.tick ∧ t = { s.tick with regs := t.regs } ∧ t.bitOf Reg.HIF_RING_CTRL 0 = false ∧
      ∀ o, o ≠ Reg.HIF_RING_CTRL → t.reg o = s.reg o) ∧
  (∀ (s : State) (v : Nat), s.takes (Reg.HIF_MSIX_CTRL v) = true → v < 64 → s.msiPending v = false →
    ∃ t : State, exec (.msixUnmask v) s = .next t.tick ∧ t = { s.tick with regs := t.regs } ∧ t.bitOf (Reg.HIF_MSIX_CTRL v) 0 = false ∧
      ∀ o, o ≠ Reg.HIF_MSIX_CTRL v → t.reg o = s.reg o)

/-- Host interface events (R59, R62, R82, R459): waiting records are written while the ring has room, then the tail's shadow, then the
vectors; an access error of the rings clears ENABLE, marks the cause and signals vector 13; a long command whose reads of host memory
fail is accepted and ends BAD_PARAM with DETAIL 0xE4; a long command whose effect stands completes; an expired holdoff sends the message
it owes; bus mastering and MSI-X follow the configuration writes. -/
def Obligations.HostEventsComplete : Prop :=
  (∀ (s : State), s.busMaster = true → s.bitOf Reg.HIF_RING_CTRL 0 = true → s.replyRoom = true → s.hif.out ≠ [] →
    (let t := State.deliverAll s.hif.out [] s
     exec .replyDelivery s = .next ((if t.1.bitOf Reg.HIF_RING_CTRL 1 then
         t.1.hostSt (t.1.pair Reg.HIF_RPL_SHADOW_LO Reg.HIF_RPL_SHADOW_HI) (leBytes 4 (t.1.regN Reg.HIF_RPL_TAIL))
       else t.1).each t.2 State.signal))) ∧
  (∀ (s : State) (c : FetchCause) (tail : Nat) (w : HostWrites), s.canFetch = true →
    (let x := hostSet Reg.HIF_CMD_TAIL tail (({ s with host := s.host.writeAll w } : State).clrBit Reg.HIF_RING_CTRL 0)
     x.cmdWaiting ≠ 0 →
     exec (.commandFetchError c tail w) s =
       .next ((((x.clrBit Reg.HIF_RING_CTRL 0).setBit Reg.HIF_RING_STATUS 1).setBit Reg.HIF_PCIE_ERR (fetchBit c)).signal 13))) ∧
  (∀ (s : State) (p : CmdPacket) (c : FetchCause) (r : Nat × Instr),
    r ∈ [(0x0201, Instr.routeLoad p), (0x0403, .tileImport p), (0x0501, .solveSubmit p), (0x0602, .memWrite p)] → p.fault = some c →
    s.passes r.1 p = true → (opBody r.1 p (s.entry r.1 p)).1.status = St.accepted →
    ∃ t : State, exec r.2 s = .next t ∧
      Replied (((s.entry r.1 p).setBit Reg.HIF_PCIE_ERR (fetchBit c)).longDone (s.entry r.1 p).longKey St.badParam 0xE4 (zeros 12)) r.1 p St.accepted 0
        (zeros 12) t) ∧
  (∀ (s : State), s.busMaster = true → s.bitOf Reg.HIF_RING_CTRL 0 = true →
    exec .replyWriteError s =
      .next ((((s.clrBit Reg.HIF_RING_CTRL 0).setBit Reg.HIF_RING_STATUS 2).setBit Reg.HIF_PCIE_ERR 4).signal 13)) ∧
  (∀ (s : State) (v t : Nat), SMap.find s.hif.holdoff v = some t →
    (let x := s.runTo t
     let y : State := { x with hif := { x.hif with holdoff := SMap.erase x.hif.holdoff v, owed := x.hif.owed.filter (· != v) } }
     exec (.irqHoldoffExpiry v) s = .next (if s.hif.owed.contains v then y.signal v else y))) ∧
  (∀ (s : State), s.cfgUp = true →
    exec (.busMasterEnable true) s = .next (s.putBit Reg.HIF_PCIE_STATUS 10 true).fetchAll ∧
    exec (.busMasterEnable false) s = .next (s.putBit Reg.HIF_PCIE_STATUS 10 false)) ∧
  (∀ (s : State) (m : Bool), s.cfgUp = true →
    (let x := (s.putBit Reg.HIF_PCIE_STATUS 11 true).putBit Reg.HIF_PCIE_STATUS 12 m
     exec (.msixEnable true m) s = .next ((({ x with hif := { x.hif with owedOff := [] } } : State).each x.hif.owedOff State.signal).each
       (List.range 64) State.msiRelease)) ∧
    exec (.msixEnable false m) s = .next ((s.putBit Reg.HIF_PCIE_STATUS 11 false).putBit Reg.HIF_PCIE_STATUS 12 m)) ∧
  (∀ (s : State) (h : Nat) (l : Long) (e : LongResult), s.alive = true →
    (s.longRead h).hif.longs.find? ((s.longRead h).longDue h) = some l → l.effect = some e →
    (let x := s.longRead h
     let y := ({ x with hif := { x.hif with longs := dropFirst (x.longDue h) x.hif.longs } } : State).dmaEnd l.engine (e.detail == 0xE4)
     ∃ t : State, exec (.longCommandCompletion h) s = .next t.unfence ∧
       Recorded y l.opcode e.status e.detail h e.result false (l.packet.flags.testBit 0) t))

/-- Host reads and writes of BAR0 (R11, R451 to R456): a read answers the enabled bytes of what the register shows; a paired read takes
the latched high half; a write of one DW lands in its register by its access codes; a request that breaks the rules of R452 sets
OVERSIZE and nothing else; a window write lands in SRAM. -/
def Obligations.BarRequestsComplete : Prop :=
  (∀ (s : State) (off : Nat) (en : List Bool), s.barAnswers = true →
    exec (.rcFieldRead off en) s = .next (State.completion (s.tick.readDw (off / 4 * 4) en)).tick) ∧
  (∀ (s : State) (off : Nat) (en : List Bool), s.barAnswers = true → s.bootFailed = false → s.obs.stopped = false → off % 4 = 0 →
    off < 0x2000000 → latchedHi off = false → latchedBy off = [] → drawsFree off = false → en = [true, true, true, true] →
    (∀ r, regAt off = some r → r.1.rc = 0) →
    exec (.rcFieldRead off en) s = .next ({ s.tick with hif := { s.tick.hif with readData := leBytes 4 (s.tick.readReg off) } } : State).tick) ∧
  (∀ (s : State) (off : Nat), s.barAnswers = true →
    (let lo := s.tick.readDw (off / 4 * 4) allBytes
     let hi := lo.2.tick.readDw (off / 4 * 4 + 4) allBytes
     exec (.latchedPairRead off false) s = .next (State.completion lo).tick ∧
     exec (.latchedPairRead off true) s = .next (State.completion (lo.1 ++ hi.1, hi.2)).tick)) ∧
  (∀ (s : State) (off : Nat) (data : List Byte) (en : List Bool), s.takes off = true → off < 0x2000000 → off % 4 = 0 → data.length = 4 →
    byteMask (en.take 4) ≠ 0 → en.length = 4 →
    exec (.registerWrite off data en) s =
      .next ((s.tick.forwardWrite off (leAt data 0 4) (byteMask en)).regWrite off (leAt data 0 4) (byteMask en)).tick) ∧
  (∀ (s : State) (off : Nat) (data : List Byte) (en : List Bool), s.barAnswers = true → s.obs.stopped = false → off < 0x2000000 →
    off % 4 = 0 → 64 < data.length → exec (.registerWrite off data en) s = .next (s.setBit Reg.CRB_BAR_STATUS 2)) ∧
  (∀ (s : State) (off dw : Nat), s.barAnswers = true → s.obs.stopped = false → off < 0x2000000 → requestOk off dw = false →
    exec (.bar0Oversize true off dw) s = .next (s.setBit Reg.CRB_BAR_STATUS 2) ∧
    exec (.bar0Oversize false off dw) s = .next { s.setBit Reg.CRB_BAR_STATUS 2 with
      hif := { (s.setBit Reg.CRB_BAR_STATUS 2).hif with readData := zeros (4 * dw) } }) ∧
  (∀ (s : State) (off : Nat) (data : List Byte) (en : List Bool), s.takes off = true → 0x2000000 ≤ off → off < 0x4000000 →
    s.pairPrimary = false → (en.take data.length).any id = true →
    exec (.windowWrite off data en) s = .next (s.tick.windowLand off data en).tick)

/-- Writes that are commands (R11, R32, R146, R212, R263, R404, R424, R429, R432, R434, R444): where Table 20.2 carries them out, RUN
starts and stops the cadence, SEED_REQ, INIT, REQUEST, REVERT and GO set what they ask for, WIN_START's low half puts the pair in
force, LATCH copies a bank, BRAKE raises source 1, START begins a scan, the software reset acts on its key, a divisor in its range is
taken with its clock's next phase. -/
def Obligations.RegisterCommandsComplete : Prop :=
  (∀ (s : State), s.takes Reg.CCU_CTRL = true → s.pairPrimary = false →
    (s.bitOf Reg.CCU_CTRL 0 = false →
      ∃ t : State, exec (.cadenceRun true) s = .next t.tick ∧ t.bitOf Reg.CCU_CTRL 0 = true ∧ t.bitOf Reg.CCU_STATUS 0 = true ∧
        t = { s.tick with regs := t.regs, ccu := { s.ccu with lastInstant := some s.tick.now, stepped := 0 } } ∧
        ∀ o, o ≠ Reg.CCU_CTRL → o ≠ Reg.CCU_STATUS → t.reg o = s.reg o) ∧
    (s.bitOf Reg.CCU_CTRL 0 = true → s.allSlotsOff = true →
      ∃ t : State, exec (.cadenceRun false) s = .next t.tick ∧ t.bitOf Reg.CCU_CTRL 0 = false ∧ t.bitOf Reg.CCU_STATUS 0 = false ∧
        t = { s.tick with regs := t.regs, ccu := { s.ccu with lastInstant := none, stepped := 0, trigDue := [] } } ∧
        ∀ o, o ≠ Reg.CCU_CTRL → o ≠ Reg.CCU_STATUS → t.reg o = s.reg o)) ∧
  (∀ (s : State), s.takes Reg.FPP_CTRL = true → exec .seedReq s = .next ((s.tick.forwardWrite Reg.FPP_CTRL 1 0xFFFFFFFF).setBit Reg.FPP_CTRL 0).tick) ∧
  (∀ (s : State) (f v : Nat), s.takes (Reg.FUS_CTX_WIN_START_LO f) = true → f < 8 → v < 2 ^ 32 →
    exec (.winStartWrite f v) s = .next (fusWinStart f v (s.tick.forwardWrite (Reg.FUS_CTX_WIN_START_LO f) v 0xFFFFFFFF)).tick) ∧
  (∀ (s : State), s.takes Reg.MAP_CTRL = true → (s.func mapFunc).life = .off → s.mapBases.set = true → s.bitOf Reg.MAP_STATUS 3 = false →
    s.pairPrimary = false → exec .init s = .next (s.tick.setBit Reg.MAP_STATUS 3).tick) ∧
  (∀ (s : State) (i : Nat), s.takes (Reg.VIS_STRM_GRID_CTRL i) = true → i < 16 →
    exec (.gridRequest i) s = .next (visGridAsk i 1 (s.tick.forwardWrite (Reg.VIS_STRM_GRID_CTRL i) 1 0xFFFFFFFF)).tick ∧
    exec (.gridRevert i) s = .next (visGridAsk i 2 (s.tick.forwardWrite (Reg.VIS_STRM_GRID_CTRL i) 2 0xFFFFFFFF)).tick) ∧
  (∀ (s : State), s.takes Reg.OBS_ENG_LATCH = true →
    (s.fld Reg.OBS_ENG_SEL 0 6 < engineCount (s.fld Reg.OBS_ENG_SEL 8 4) →
      exec .obsEngLatch s = .next (s.tick.each (List.range 64) (fun t w => t.setRegN (Reg.OBS_ENG_HOLD w)
        (leAt (s.tick.bankPair (s.fld Reg.OBS_ENG_SEL 8 4) (s.fld Reg.OBS_ENG_SEL 0 6)) (4 * w) 4))).tick) ∧
    (engineCount (s.fld Reg.OBS_ENG_SEL 8 4) ≤ s.fld Reg.OBS_ENG_SEL 0 6 →
      exec .obsEngLatch s = .next (s.tick.setBit Reg.OBS_STATUS 5).tick)) ∧
  (∀ (s : State) (r : Nat), s.takes Reg.OBS_BRAKE_CTRL = true → r < 256 → s.obs.brake = none →
    ∃ t : State, exec (.obsBrakeCtrlBrake r) s = .next t.tick ∧
      t = { s.tick with regs := t.regs, obs := { s.obs with brake := some ⟨s.tick.core, 2, 1, r, false⟩ } } ∧
      ∀ o, o ≠ Reg.OBS_BRAKE_CTRL → t.reg o = s.reg o) ∧
  (∀ (s : State), s.takes Reg.OBS_SCAN_CMD = true → s.obs.scan = none →
    (let go := fun k : Nat =>
       let x := ((s.tick.setFld Reg.OBS_SCAN_CMD 1 2 k).setBit Reg.OBS_SCAN_CMD 0).setBit Reg.OBS_SCAN_STATUS 0
       ({ x with obs := { x.obs with scan := some (k, s.pair Reg.OBS_SCAN_ADDR_LO Reg.OBS_SCAN_ADDR_HI, s.obs.stopped) } } : State).tick
     exec .scanSegmentRead s = .next (go 0) ∧ exec .scanDramRead s = .next (go 1) ∧ exec .scanFlashRead s = .next (go 2))) ∧
  (∀ (s : State), s.takes Reg.OBS_SCAN_CMD = true → s.obs.scan ≠ none →
    exec .scanSegmentRead s = .next (s.tick.setFld Reg.OBS_SCAN_CMD 1 2 0).tick ∧
    exec .scanDramRead s = .next (s.tick.setFld Reg.OBS_SCAN_CMD 1 2 1).tick ∧
    exec .scanFlashRead s = .next (s.tick.setFld Reg.OBS_SCAN_CMD 1 2 2).tick) ∧
  (∀ (s : State) (v : Nat), s.takes Reg.CRB_RESET_CTRL = true → v < 2 ^ 32 → v / 2 ^ 16 = 0xC1E9 → v % 2 = 1 →
    exec (.softwareReset v) s = .next (s.tick.deviceReset 2 false).tick) ∧
  (∀ (s : State), s.takes Reg.CRB_HOST_BOOT_CTRL = true → s.crb.trying = .hostWait →
    exec .hostBootGo s = .next ({ (s.tick.setBit Reg.CRB_HOST_BOOT_CTRL 0).clrBit Reg.CRB_BOOT_STATUS 2 with
      crb := { s.crb with trying := .hostCheck } } : State).tick) ∧
  (∀ (s : State), s.takes Reg.CRB_HOST_BOOT_CTRL = true → s.crb.trying ≠ .hostWait →
    exec .hostBootGo s = .next (s.tick.setBit Reg.CRB_HOST_BOOT_CTRL 0).tick) ∧
  (∀ (s : State) (v : Nat), s.takes Reg.CRB_SDM_DIV = true → 480 ≤ v → v ≤ 2400 → v % 8 = 0 →
    (∀ k, k < 24 → (s.func (0x020 + k)).life = .off) →
    exec (.clockDivisorWrite false v) s = .next ({ s.tick.setRegN Reg.CRB_SDM_DIV v with
      crb := { s.crb with sdmPhase := (s.tick.core / 6 + 1) * 6, sdmWas := s.tick.clockNow false } } : State).tick) ∧
  (∀ (s : State) (v : Nat), s.takes Reg.CRB_PDM_DIV = true → 1200 ≤ v → v ≤ 4800 → v % 8 = 0 →
    (∀ k, k < 32 → (s.func (0x038 + k)).life = .off) →
    exec (.clockDivisorWrite true v) s = .next ({ s.tick.setRegN Reg.CRB_PDM_DIV v with
      crb := { s.crb with pdmPhase := (s.tick.core / 6 + 1) * 6, pdmWas := s.tick.clockNow true } } : State).tick)

/-- Time base events (R88 to R90): the oldest held change is put in at its due cycle; a slew that ends leaves its whole change in the
segment it opens.
PTP timers (R97, R99): at a live port with a profile a master sends Sync with its Follow_Up and Announce, a slave Delay_Req, a port
of a peer delay profile Pdelay_Req, one of profile 3 Signaling, each with the next sequence number; a lost Sync puts a locked slave in holdover; a lost Announce
leaves the master. -/
def Obligations.TimeAndPtpTimersComplete : Prop :=
  (∀ (s : State) (c : Change) (rest : List Change), s.alive = true → s.tim.held = c :: rest →
    (let r := max s.changeDue s.raw; let x := s.runTo (coreOfRaw r)
     exec .heldTimeChange s = .next (({ x with tim := { x.tim with held := rest } }).applyChange r c))) ∧
  (∀ (s : State) (w : Slew), s.alive = true → s.tim.slew = some w →
    (let r := w.r + w.length; let x := s.runTo (coreOfRaw r)
     exec .slewEnd s = .next ((x.openSeg r (w.delta * 2 ^ 40 - w.done r) (x.effRate none)).setSlew none))) ∧
  (∀ (s : State) (p : Nat), s.alive = true →
    (let x := s.ptpWake p; let a := x.ptpPort p
     x.portLive p = true → a.profile ≠ 0 → a.state = .master →
     (let y := x.ptpSend p (x.ptpMessage p 0 a.seqSync true 0 a.logSync (zeros 10))
      let t := stampBytes (y.txTime p)
      let z := y.ptpSend p (y.ptpMessage p 8 a.seqSync false t.2 a.logSync t.1)
      exec (.ptpMessageInterval p 0) s = .next (z.setPtp p { z.ptpPort p with seqSync := (a.seqSync + 1) % 65536 })) ∧
     (let y := x.ptpSend p (x.ptpMessage p 11 a.seqAnnounce false 0 a.logAnnounce (x.announceBody p))
      exec (.ptpMessageInterval p 11) s = .next (y.setPtp p { y.ptpPort p with seqAnnounce := (a.seqAnnounce + 1) % 65536 })))) ∧
  (∀ (s : State) (p : Nat), s.alive = true →
    (let x := s.ptpWake p; let a := x.ptpPort p
     let y := x.ptpSend p (x.ptpMessage p 1 a.seqDelay false 0 0x7F (zeros 10))
     x.portLive p = true → a.profile = 1 → a.state = .slave →
     exec (.ptpMessageInterval p 1) s = .next (y.setPtp p { y.ptpPort p with
       seqDelay := (a.seqDelay + 1) % 65536, delayReq := some (a.seqDelay, x.txTime p) }))) ∧
  (∀ (s : State) (p : Nat), s.alive = true →
    (let x := s.ptpWake p; let a := x.ptpPort p
     let y := x.ptpSend p (x.ptpMessage p 2 a.seqPdelay false 0 0x7F (zeros 20))
     x.portLive p = true → (a.profile = 2 ∨ a.profile = 3) →
     exec (.ptpMessageInterval p 2) s = .next (y.setPtp p { y.ptpPort p with
       seqPdelay := (a.seqPdelay + 1) % 65536, pdelayReq := some (a.seqPdelay, x.txTime p), pdelayWait := none }))) ∧
  (∀ (s : State) (p : Nat), s.alive = true →
    (let x := s.ptpWake p; let a := x.ptpPort p
     let y := x.ptpSend p (x.ptpMessage p 12 a.seqSignal false 0 0x7F (x.signalingBody p))
     x.portLive p = true → a.profile = 3 →
     exec (.ptpMessageInterval p 12) s = .next (y.setPtp p { y.ptpPort p with seqSignal := (a.seqSignal + 1) % 65536 }))) ∧
  (∀ (s : State) (p : Nat), s.alive = true → (s.ptpPort p).follows = true → s.syncState = 2 →
    exec (.syncReceiptTimeout p) s = .next ((s.setPtp p { s.ptpPort p with lockRun := 0 }).setSync p 3)) ∧
  (∀ (s : State) (p : Nat), s.alive = true → (s.ptpPort p).role ≠ 0 → (s.ptpPort p).profile ≠ 0 →
    (let x := s.putPtpState p (if (s.ptpPort p).role = 1 then .listening else .master)
     let y := x.setPtp p { x.ptpPort p with parent := [], lockRun := 0, syncWait := none }
     exec (.announceReceiptTimeout p) s = .next (if (s.ptpPort p).follows then y.leaveSlave p else y)))

/-- PTP event messages (R97, R98, R100): at a port that lives, in its domain, a Sync at a slave is measured or, two-step, waits for its
Follow_Up; a Delay_Req at a master and a peer delay request are answered; a peer delay response gives the link delay or waits. A Sync that finds the servo in HOLDOVER
takes it back to ACQUIRING first (Table 4.7). -/
def Obligations.PtpEventMessagesComplete : Prop :=
  (∀ (s : State) (p : Nat) (f : List Byte) (c : Nat) (m : List Byte) (x : State), PtpTaken s p f c m x → (x.ptpPort p).follows = true →
    (let y := if x.syncState = 3 ∧ x.servoOwns = true ∧ x.noPins = false then
       (x.setPtp p { x.ptpPort p with lockRun := 0 }).setSync p 1 else x
     (ptpTwoStep m = true → exec (.ptpSync p f c) s =
       .next (y.setPtp p { y.ptpPort p with syncWait := some (ptpSeq m, x.rxTime p c, ptpCorrection m) })) ∧
     (ptpTwoStep m = false → exec (.ptpSync p f c) s = .next (y.measured p (ptpStamp m + ptpCorrection m) (x.rxTime p c))))) ∧
  (∀ (s : State) (p : Nat) (f : List Byte) (c : Nat) (m : List Byte) (x : State), PtpTaken s p f c m x →
    (x.ptpPort p).state = .master →
    (let t := stampBytes (x.rxTime p c)
     exec (.ptpDelayReq p f c) s = .next (x.ptpSend p (x.ptpMessage p 9 (ptpSeq m) false (ptpCorrection m - t.2) (x.ptpPort p).logDelay
       (t.1 ++ ptpSource m))))) ∧
  (∀ (s : State) (p : Nat) (f : List Byte) (c : Nat) (m : List Byte) (x : State), PtpTaken s p f c m x →
    (let t := stampBytes (x.rxTime p c)
     let y := x.ptpSend p (x.ptpMessage p 3 (ptpSeq m) true 0 0x7F (t.1 ++ ptpSource m))
     let u := stampBytes (y.txTime p)
     exec (.ptpPdelayReq p f c) s = .next (y.ptpSend p (y.ptpMessage p 10 (ptpSeq m) false (ptpCorrection m + u.2 - t.2) 0x7F
       (u.1 ++ ptpSource m))))) ∧
  (∀ (s : State) (p : Nat) (f : List Byte) (c : Nat) (m : List Byte) (x : State) (t1 : Int), PtpTaken s p f c m x →
    (x.ptpPort p).pdelayReq = some (ptpSeq m, t1) → ptpRequesting m = x.portIdentity p →
    (ptpTwoStep m = true → exec (.ptpPdelayResp p f c) s = .next (x.setPtp p { x.ptpPort p with
      pdelayWait := some (ptpSeq m, ptpStamp m, x.rxTime p c, ptpCorrection m) })) ∧
    (ptpTwoStep m = false → exec (.ptpPdelayResp p f c) s = .next (x.linkDelay p t1 0 0 (x.rxTime p c) (ptpCorrection m))))

/-- PTP general messages (R97, R98): a Follow_Up completes its Sync; a Delay_Resp to this port gives the path delay; a peer Follow_Up
the link delay; Announce at a port whose role is slave and which follows none yet follows the sender; Signaling is read TLV by
TLV, one of the message intervals sets them; Management is counted. -/
def Obligations.PtpGeneralMessagesComplete : Prop :=
  (∀ (s : State) (p : Nat) (f : List Byte) (c : Nat) (m : List Byte) (x : State) (t2 k : Int), PtpTaken s p f c m x →
    (x.ptpPort p).follows = true → (x.ptpPort p).syncWait = some (ptpSeq m, t2, k) →
    exec (.ptpFollowUp p f c) s = .next (x.measured p (ptpStamp m + k + ptpCorrection m) t2)) ∧
  (∀ (s : State) (p : Nat) (f : List Byte) (c : Nat) (m : List Byte) (x : State) (t3 t1 t2 : Int), PtpTaken s p f c m x →
    (x.ptpPort p).delayReq = some (ptpSeq m, t3) → (x.ptpPort p).lastSync = some (t1, t2) → ptpRequesting m = x.portIdentity p →
    (let y := x.putDelay p (rneDiv ((t2 - t3) + (ptpStamp m - ptpCorrection m - t1)) 2)
     exec (.ptpDelayResp p f c) s = .next (y.setPtp p { y.ptpPort p with delayReq := none }))) ∧
  (∀ (s : State) (p : Nat) (f : List Byte) (c : Nat) (m : List Byte) (x : State) (q : Nat) (t1 t2 t4 k : Int), PtpTaken s p f c m x →
    (x.ptpPort p).pdelayReq = some (q, t1) → (x.ptpPort p).pdelayWait = some (ptpSeq m, t2, t4, k) →
    exec (.ptpPdelayRespFollowUp p f c) s = .next (x.linkDelay p t1 t2 (ptpStamp m) t4 (k + ptpCorrection m))) ∧
  (∀ (s : State) (p : Nat) (f : List Byte) (c : Nat) (m : List Byte) (x : State), PtpTaken s p f c m x →
    (x.ptpPort p).role = 1 → (x.ptpPort p).follows = false →
    (∀ q, q < 4 → q ≠ p → (x.ptpPort q).follows = false) →
    exec (.ptpAnnounce p f c) s = .next (x.followMaster p m)) ∧
  (∀ (s : State) (p : Nat) (f : List Byte) (c : Nat) (m : List Byte) (x : State), PtpTaken s p f c m x →
    (let body := (m.take (beAt m 2 2)).drop 44
     exec (.ptpSignaling p f c) s = .next (x.each (ptpTlvs body.length body) (fun st t => st.ptpTlv p t)) ∧
     (body.length = 4 + beAt body 2 2 → 4 ≤ body.length → beAt body 0 2 = 3 → beAt body 4 3 = 0x0080C2 → beAt body 7 3 = 2 →
       ∃ t a b d, exec (.ptpSignaling p f c) s = .next t ∧ t = x.setPtp p { x.ptpPort p with intervals := some (a, b, d) } ∧
         (∀ o v, (o, v) ∈ [(10, a), (11, b), (12, d)] → sleAt body o 1 ≠ -128 → sleAt body o 1 ≠ 126 → v = sleAt body o 1)))) ∧
  (∀ (s : State) (p : Nat) (f : List Byte) (c o : Nat), s.alive = true → s.portLive p = true → s.ptpOffset p f = some o →
    (let x := ((s.count 13 (netCnt p 9)).ptpForward p f (f.drop o) c).ptpWake p
     ptpType (f.drop o) = 13 ∨ ((x.ptpPort p).profile ≠ 0 ∧ ptpDomain (f.drop o) = (x.ptpPort p).domain) →
     exec (.ptpManagement p f c) s = .next (x.count 13 (netCnt p 11))))

/-- Ethernet events (R96, R101, R102, Table 4.13): an ARP request for the port is answered; a PAUSE frame is counted and, where
the port honours it, holds transmission for its quanta, and frames held so long go
first; a queued frame leaves with its residence added, or is counted lost without a
link; link up shows the port's speed and duplex, link loss clears them and, at an ON port, is noted and counted.
Frames received (R94 to R97, Table 4.4): a live port counts a frame by what becomes of it: a wrong FCS, a length above its limit, a
pause, a FIFO that is full, or a frame passed to what Table 4.4 names, with a pause sent first where the port sends them and its FIFO
fills. -/
def Obligations.EthernetEventsComplete : Prop :=
  (∀ (s : State) (p : Nat) (f : List Byte), s.alive = true → s.arpFor p f = true →
    (let b := etherBody f
     exec (.arpRequest p f) s = .next (s.netSend p (sourceMac f ++ s.macOf p ++ beBytes 2 0x0806 ++ b.take 6 ++ beBytes 2 2 ++ s.macOf p ++
       beBytes 4 (s.regN (Reg.NET_PORT_IPV4 p)) ++ (b.drop 8).take 10 ++ zeros 18)))) ∧
  (∀ (s : State) (p q : Nat), s.alive = true → s.portLive p = true →
    (let x := s.count 13 (netCnt p 8)
     exec (.pauseFrame p q) s = .next (if s.bitOf (Reg.NET_PORT_CTRL p) 6 then
       (x.setNetPort p { x.netPort p with pausedUntil := x.core + x.pauseCycles p q }).netFlush p else x))) ∧
  (∀ (s : State) (q : Nat) (w : FwdFrame) (rest : List FwdFrame), s.alive = true → (s.netPort q).fwd = w :: rest → s.portLive q = true →
    (let z := (s.runTo (s.netPort q).pausedUntil).netFlush q
     let x := z.setNetPort q { z.netPort q with fwd := rest }
     (x.portLink q = false → exec (.forwardEgress q) s = .next (x.count 13 (netCnt q 4))) ∧
     (x.portLink q = true →
       (let y := x.addResidence q w
        exec (.forwardEgress q) s = .next (((y.1.setNetPort q { y.1.netPort q with sent := y.2 :: (y.1.netPort q).sent }).count 13
          (netCnt q 5)).count 13 (netCnt q 1)))))) ∧
  (∀ (s : State) (q : Nat), s.alive = true → (s.netPort q).fwd = [] → (s.netPort q).hold ≠ [] → s.portLive q = true →
    exec (.forwardEgress q) s = .next ((s.runTo (s.netPort q).pausedUntil).netFlush q)) ∧
  (∀ (s : State) (p : Nat), s.alive = true → s.bitOf Reg.CRB_CLK_STATUS 2 = true →
    (let r := Reg.NET_PORT_STATUS p
     exec (.ethernetLinkUp p) s = .next ((((s.setBit r 0).setBit r 1).putBit r 2 (s.bitOf (Reg.NET_PORT_CTRL p) 4)).putBit r 3
       (s.fecRuns p)))) ∧
  (∀ (s : State) (p : Nat), s.alive = true →
    (let x := s.setFld (Reg.NET_PORT_STATUS p) 0 4 0
     exec (.ethernetLinkLoss p) s = .next (if (s.func (netFunc p)).life = .on then
       (x.setBit (Reg.NET_PORT_STATUS p) 5).count 13 (netCnt p 7) else x))) ∧
  (∀ (s : State) (p cap fifo : Nat) (f : List Byte), s.alive = true → s.portLive p = true →
    exec (.ethernetFrameReceive p false f cap fifo) s = .next (s.count 13 (netCnt p 2)) ∧
    (s.maxFrame p < f.length →
      exec (.ethernetFrameReceive p true f cap fifo) s = .next (s.count 13 (netCnt p 3)))) ∧
  (∀ (s : State) (p cap fifo : Nat) (f : List Byte), s.alive = true → s.portLive p = true → f.length ≤ s.maxFrame p →
    (let x := s.count 13 (netCnt p 0)
     let y := if x.bitOf (Reg.NET_PORT_CTRL p) 7 && decide (49152 ≤ fifo) then x.netWire p (x.pauseFrame p 0xFFFF) else x
     (etherType f = 0x8808 → beAt f 14 2 = 1 →
       exec (.ethernetFrameReceive p true f cap fifo) s = .next (netPause p (beAt f 16 2) x)) ∧
     (etherType f = 0x8808 → beAt f 14 2 ≠ 1 →
       exec (.ethernetFrameReceive p true f cap fifo) s = .next (x.count 13 (netCnt p 3))) ∧
     (etherType f ≠ 0x8808 → 2 ≤ p → 65536 < fifo →
       exec (.ethernetFrameReceive p true f cap fifo) s = .next (x.count 1 (226 + (p - 2)))) ∧
     (etherType f ≠ 0x8808 → ¬(2 ≤ p ∧ 65536 < fifo) →
       exec (.ethernetFrameReceive p true f cap fifo) s =
         .next (y.dispatch p f cap (s.pelFrame f) (pelDispatch f) (ptpDispatch p f cap)))))

/-- Camera reception (R105 to R107, R109, R110, Tables 5.2, 5.4): a burst shows its lane rate; a packet of another VCX, or whose header
cannot be corrected, is counted and dropped; an FS closes the stream's frame in reception, and the first one inside an open window starts
the window's frame; a line of the stream's data type joins the frame where the line buffer has room, else as zeros, with what was wrong
with it; FE closes the frame; an SoT error is counted and costs its line; a window that closes untaken leaves an absent frame and its
event record; an initial deskew shows the lane rate. -/
def Obligations.CameraEventsComplete : Prop :=
  (∀ (s : State) (port vc vcx n dt ecc rate : Nat) (ok : Bool) (bs : List Byte),
    (let x := (s.setRegN (Reg.ING_CSI_RATE port) rate).count 1 (portCnt port 0)
     s.solo = true → vcx ≠ 0 → x.pairPrimary = false →
     exec (.frameStart port ⟨vc, vcx, ecc, rate⟩ n) s = .next x ∧ exec (.linePacket port vc vcx dt ecc rate ok bs) s = .next x ∧
     exec (.frameEnd port ⟨vc, vcx, ecc, rate⟩ n) s = .next x)) ∧
  (∀ (s : State) (port vc n dt rate : Nat) (ok : Bool) (bs : List Byte),
    (let x := (((s.setRegN (Reg.ING_CSI_RATE port) rate).count 1 (portCnt port 3)).setBit (Reg.ING_CSI_STATUS port) 4).flagStream port vc 0x04
     s.solo = true →
     (x.pairPrimary = false → exec (.frameStart port ⟨vc, 0, 2, rate⟩ n) s = .next x ∧ exec (.frameEnd port ⟨vc, 0, 2, rate⟩ n) s = .next x) ∧
     ((lostLine port vc x).pairPrimary = false → exec (.linePacket port vc 0 dt 2 rate ok bs) s = .next (lostLine port vc x)))) ∧
  (∀ (s : State) (port vc n ecc rate i : Nat) (w : FsWindow),
    (let h := s.setRegN (Reg.ING_CSI_RATE port) rate
     let x0 : State := { h with ing := { h.ing with vcNow := SMap.upd 0 h.ing.vcNow port (· ||| 2 ^ vc) } }
     let x := (x0.setCam i { x0.cam i with fsSeen := true }).closeFrame i
     let t := ((x.setCam i { x.cam i with
       window := some { w with taken := true }
       frame := some ⟨n, x.now, w.cadence, w.trigTime, 0, 0, [], [], [], false, false, w.ends⟩ }).monStamp (camFunc i) x.now).eccFlag
         port vc ecc
     let u := ((x.setCam i { x.cam i with extra := true }).count 1 (camCnt i 7)).eccFlag port vc ecc
     s.solo = true → ecc ≠ 2 → x0.streamAt port vc = some i → (x.func (camFunc i)).life = .on →
     ((x.cam i).window = some w → w.taken = false → w.opened ≤ x.now → x.now < w.closes → t.pairPrimary = false →
       exec (.frameStart port ⟨vc, 0, ecc, rate⟩ n) s = .next t) ∧
     ((x.cam i).window = none ∨ ((x.cam i).window = some w ∧ (w.taken = true ∨ x.now < w.opened ∨ w.closes ≤ x.now)) →
       u.pairPrimary = false → exec (.frameStart port ⟨vc, 0, ecc, rate⟩ n) s = .next u))) ∧
  (∀ (s : State) (port vc dt ecc rate i : Nat) (ok : Bool) (bs : List Byte) (f : Frame),
    (let x := (s.setRegN (Reg.ING_CSI_RATE port) rate).eccFlag port vc ecc
     let c := x.cam i
     let flags := (if ok then 0 else 0x08) ||| (if bs.length = lineBytes dt c.width then 0 else 0x10)
     let y := if ok then x else x.setBit (Reg.ING_CSI_STATUS port) 5
     let t := if y.lineRoom i f then (y.setCam i { c with frame := some (f.addLine c (unpackLine dt c.width bs) bs true 0) }).frameFlags i flags
       else (y.setCam i { c with frame := some (f.addLine c [] [] false 0) }).frameFlags i (flags ||| 0x40)
     s.solo = true → ecc ≠ 2 → x.streamAt port vc = some i → dt = c.dataType → dt ∉ [0x02, 0x03, 0x10, 0x11] → c.frame = some f →
     f.closed = false → f.absent = false → f.lines.length < c.height → t.pairPrimary = false →
     exec (.linePacket port vc 0 dt ecc rate ok bs) s = .next t)) ∧
  (∀ (s : State) (port vc n ecc rate i : Nat),
    (let x := (s.setRegN (Reg.ING_CSI_RATE port) rate).eccFlag port vc ecc
     s.solo = true → ecc ≠ 2 → x.streamAt port vc = some i → (x.closeFrame i).pairPrimary = false →
     exec (.frameEnd port ⟨vc, 0, ecc, rate⟩ n) s = .next (x.closeFrame i))) ∧
  (∀ (s : State) (i : Nat) (w : FsWindow), s.solo = true → (s.cam i).window = some w →
    (let x := s.runToTime w.closes
     let y := x.setCam i { x.cam i with window := none }
     (w.taken = true → (y.visRecord i).pairPrimary = false → exec (.fsWindowClose i) s = .next (y.visRecord i)) ∧
     (w.taken = false → ((ingWindowClose i s).visRecord i).pairPrimary = false →
       ∃ t, exec (.fsWindowClose i) s = .next (t.visRecord i) ∧
         (let z := y.putFrame i ⟨0, 0, w.cadence, w.trigTime, 0x01, 0, [], [], [], true, true, w.ends⟩
          Reported z 0xFF03 St.sensorAbsent 0x41 (camFunc i)
            (result [(20, 2, camFunc i), (22, 1, z.voteState (camFunc i)), (24, 8, w.cadence)]) t)))) ∧
  (∀ (s : State) (port rate : Nat), s.alive = true →
    exec (.initialDeskew port rate) s = .next ((s.setBit (Reg.ING_CSI_STATUS port) 2).setRegN (Reg.ING_CSI_RATE port) rate)) ∧
  (∀ (s : State) (port vc : Nat),
    (let x := ((s.count 1 (portCnt port 2)).setBit (Reg.ING_CSI_STATUS port) 6).flagStream port vc 0x04
     (s.solo = true → x.streamAt port vc = none → x.pairPrimary = false → exec (.sotError port vc) s = .next x) ∧
     (∀ i f, s.solo = true → x.streamAt port vc = some i → (x.cam i).frame = some f → f.closed = false → f.absent = false →
       f.lines.length < (x.cam i).height →
       (let t := x.setCam i { x.cam i with frame := some (f.addLine (x.cam i) [] [] false 0) }
        t.pairPrimary = false → exec (.sotError port vc) s = .next t))))

/-- Other sensors at the pins (R112 to R120, R130, R131): an encoder's edge that is held long enough moves its decoder and its counter shows it; its record
goes to FUS at its instant and starts the next; a lidar packet of a template emits its points while ON, else makes the input ready; its
silence and a stuck bit input are reported; DEC samples a bit a clock and delivers each output 48 cycles on. -/
def Obligations.SensorPinsComplete : Prop :=
  (∀ (s : State) (c : Nat), s.solo = true → 4096 ≤ (s.bitIn c).run → (s.func (decFunc c)).life = .on → (s.bitIn c).stuck = false →
    ∃ t, exec (.stuckRun c) s = .next t ∧
      Reported (s.putStuck c true) 0xFF03 St.sensorAbsent 0x42 (decFunc c) (result [(20, 2, decFunc c), (24, 8, s.now)]) t) ∧
  (∀ (s : State) (n : Nat) (a b z : Bool) (sampled held : Nat), s.solo = true → (s.func (encFunc n)).life ≠ .off →
    (s.enc n).qualify ≤ held →
    (let stamp := s.disc (rawOf sampled)
     let x := s.runTo (sampled + (s.enc n).qualify)
     let r := (x.enc n).ab a b stamp
     let e := r.1.zEdge z stamp
     let y := (x.setEnc n e).setRegN (Reg.ING_ENC_COUNT n) e.count
     exec (.encoderEdge n a b z ⟨sampled, held⟩) s = .next
       (if r.2.2 then (if r.2.1 then y.count 1 (encCnt n 0) else y).count 1 (encCnt n 1)
        else if r.2.1 then y.count 1 (encCnt n 0) else y))) ∧
  (∀ (s : State) (n : Nat), s.solo = true → (s.func (encFunc n)).life = .on →
    (let at_ := (s.enc n).base + (s.enc n).records * usTime (s.enc n).recordPeriod
     let x := s.runToTime at_
     exec (.encoderRecord n) s = .next (((x.toFus (encFunc n) at_ ((x.enc n).record n)).monStamp (encFunc n) at_).setEnc n
       { x.enc n with edges := 0, moved := false, illegal := false, index := false, records := (x.enc n).records + 1 }))) ∧
  (∀ (s : State) (port src udp j stamp : Nat) (bs : List Byte), s.solo = true →
    (List.range 8).find? (fun k => s.lidarPortMatch port src udp k && (s.lidar k).payloadLen == bs.length) = some j →
    (let x := (s.setLidar j { s.lidar j with lastSeen := s.now, silentFrom := s.now }).count 1 (lidarCnt j 0)
     ((s.func (lidarFunc j)).life = .on →
       (let y := x.emitPoints j port bs stamp
        exec (.lidarPacket port src udp bs stamp) s = .next (y.setLidar j { y.lidar j with seq := (y.lidar j).seq + 1 }))) ∧
     ((s.func (lidarFunc j)).life ≠ .on → exec (.lidarPacket port src udp bs stamp) s = .next (x.setReady (lidarFunc j))))) ∧
  (∀ (s : State) (j : Nat), s.solo = true → (s.func (lidarFunc j)).life = .on →
    (let due := (s.lidar j).silentFrom + 800000 * (s.lidar j).absentMs
     ∃ t, exec (.lidarSilence j) s = .next t ∧
       Reported ((s.runToTime due).setLidar j { s.lidar j with silentFrom := due }) 0xFF03 St.sensorAbsent 0x43 (lidarFunc j)
         (result [(20, 2, lidarFunc j), (24, 8, (s.lidar j).lastSeen)]) t)) ∧
  (∀ (s : State) (c : Nat), s.solo = true → (s.func (decFunc c)).life.active = true → s.clockOn c = true →
    (∀ (ls : List Bool) (b : Bool), exec (.decOutput c ls b) s = .next (s.each (ls ++ [b]) (fun st l => State.decBit c fppRecord l st))) ∧
    (∀ b : Bool,
      (let at_ := (s.bitIn c).next
       let x := s.runTo at_
       let r := (x.setBitIn c { x.bitIn c with next := at_ + x.clockPeriod c }).pushBit c b at_
       (r.2 = none → exec (.decOutput c [] b) s = .next (r.1.noteReady c)) ∧
       (∀ o, r.2 = some o → exec (.decOutput c [] b) s = .next (((r.1.noteReady c).runTo (at_ + 48)).decDeliver c o fppRecord)))))

/-- VIS units (R150 to R161): the next unit of a stream in canonical order, with its trigger line in and its sub-bucket able to pay,
charges its cost and tokens and does its engine's work; a rectification band whose output no stage can take yet waits. -/
def Obligations.VisionUnitsComplete : Prop :=
  ∀ (s : State) (i l k key : Nat) (f : Frame),
    (let c := s.visCtx i
     s.alive = true → c.active = true → s.visFrame i = some f → f.absent = false →
     (let run := fun (e : Nat) (row : Instr) =>
        (let u : VisUnit := ⟨key, e, l, k⟩
         (visUnits c.block)[c.cursor]? = some u → c.cyc + visCost c u ≤ Vb.shareCyc c.block → c.tok + visTok c u ≤ Vb.shareTok c.block →
         (e = 0 → s.directRoom i = true) →
         exec row s = .next (s.writing 1 c.cadence (fun x => (x.waitOver c.slot c.index c.pipe (4 * c.pipe + e)).unitWork c.slot c.index
           c.pipe (visCost c u) (visTok c u) (fun _ st => visWork i f c e l k (visCost c u) (visTok c u) st))))
      (l = 0 → visTrigger c.block (s.visGrid c) k (s.cam i).height < f.lines.length → run 0 (.rectBand i k)) ∧
      (l = 0 → visTrigger c.block (s.visGrid c) k (s.cam i).height < f.lines.length →
        (visUnits c.block)[c.cursor]? = some ⟨key, 0, 0, k⟩ → c.cyc + visCost c ⟨key, 0, 0, k⟩ ≤ Vb.shareCyc c.block →
        c.tok + visTok c ⟨key, 0, 0, k⟩ ≤ Vb.shareTok c.block → s.directRoom i = false →
        exec (.rectBand i k) s = .next (s.writing 1 c.cadence (fun x => x.waitOn c.slot c.index c.pipe (4 * c.pipe) 1))) ∧
      run 1 (.pyrBand i l k) ∧ run 2 (.crnBand i l k) ∧ run 3 (.dscRow i l k)))

/-- FST units (R166 to R183): the next unit of a pair or stream whose inputs are ready pays its share and does its work: a stereo band,
a copied band, the carried keypoints, a band of tracks; the close unit ends a context all of whose units are over, or, before its tracks, one without a usable reference or
with a degraded list. -/
def Obligations.StereoFlowUnitsComplete : Prop :=
  (∀ (s : State) (q l k : Nat) (u : FstUnit) (lv rv : List Byte),
    (let c := s.pairCtx q; let b := c.block
     let w := Vb.width lv l; let h := Vb.height lv l; let need := min (k + 1) (Vb.bands lv l - 1)
     s.alive = true → s.waitsAt c.slot c.index = false → visBlockOf (s.img c.slot) (Pb.left b) = some lv →
     visBlockOf (s.img c.slot) (Pb.right b) = some rv → (stereoUnits lv rv b)[c.cursor]? = some u → u.level = l → u.band = k →
     c.active = true → c.stopped = false → s.visFlag (Vb.ctx lv) (Vb.bandFlag lv l need) = .ready →
     s.visFlag (Vb.ctx rv) (Vb.bandFlag rv l need) = .ready →
     exec (.stereoBand q l k) s = .next (s.writing 2 c.cadence (fun x => x.fstPay 1 q
       (16 * (w * (if l = Pb.top b then ceilDiv (dmax l + 1) 65 else 1) + 24))
       (48 * ceilDiv (2 * w) 64 + (if l = Pb.bot b then 16 * ceilDiv w 64 else 0) +
         (if l < Pb.top b then 8 * ceilDiv (2 * Vb.width lv (l + 1)) 64 else 0))
       (fstStereoWork q l k w h lv rv b c))))) ∧
  (∀ (s : State) (i l k : Nat) (u : FstUnit) (vb : List Byte),
    (let c := s.flowCtx i; let b := c.block; let w := Vb.width vb l
     s.alive = true → s.waitsAt c.slot c.index = false → visBlockOf (s.img c.slot) (Fb.stream b) = some vb →
     (copyUnits vb b)[c.cursor]? = some u → u.level = l → u.band = k → c.active = true → c.stopped = false →
     s.visFlag i (Vb.bandFlag vb l k) = .ready →
     exec (.flowCopy i l k) s = .next (s.writing 2 c.cadence (fun x => x.fstPay 0 i (16 * ceilDiv w 32) (32 * ceilDiv (2 * w) 64)
       (fstCopyWork l k (pad64 (2 * w)) vb b c))))) ∧
  (∀ (s : State) (i : Nat) (vb : List Byte),
    (let c := s.flowCtx i; let b := c.block
     s.alive = true → s.waitsAt c.slot c.index = false → visBlockOf (s.img c.slot) (Fb.stream b) = some vb →
     c.active = true → c.stopped = false → Fb.source b = 0 → c.cursor = (copyUnits vb b).length →
     (∀ l ∈ Fb.carried b, s.visFlag i (Vb.listFlag vb l) = .ready) →
     exec (.flowCarry i) s = .next (s.writing 2 c.cadence (fun x => x.fstPay 0 i (16 + Fb.maxTracks b / 4) (Fb.maxTracks b / 2)
       (fstCarryWork i vb b c))))) ∧
  (∀ (s : State) (i k half : Nat) (vb : List Byte),
    (let c := s.flowCtx i; let b := c.block; let tl := s.flowTracks vb b half
     s.alive = true → s.waitsAt c.slot c.index = false → visBlockOf (s.img c.slot) (Fb.stream b) = some vb →
     c.active = true → c.stopped = false → c.cursor = flowLead vb b + k → s.refHalf c vb = some half →
     s.listDegraded c = false → tl.2 = false → 16 * k < tl.1.length →
     exec (.trackBand i k) s = .next (s.writing 2 c.cadence (fun x => x.fstPay 0 i
       (16 + 16 * ((Fb.levels b).map (fun l => 12 + 4 * Fb.iter b l)).sum)
       (16 * ((Fb.levels b).map (fun l => 10 + 10 * Fb.iter b l)).sum + 4)
       (fstTrackWork i k half tl.1.length vb b tl.1 c))))) ∧
  (∀ (s : State) (e i : Nat),
    (let c := s.fstCtx e i
     s.alive = true → s.waitsAt c.slot c.index = false → c.active = true → s.fstUnitsOver e i = true → (e = 1 ∨ c.stopped = true ∨
       (∀ vb, visBlockOf (s.img c.slot) (Fb.stream c.block) = some vb → c.cursor ≠ flowLead vb c.block ∨
         ((s.refHalf c vb).isSome = true ∧ s.listDegraded c = false))) →
     exec (.closeUnit e i) s = .next (s.writing 2 c.cadence (fun x => x.fstClose e i)))) ∧
  (∀ (s : State) (i : Nat) (vb : List Byte),
    (let c := s.flowCtx i
     s.alive = true → s.waitsAt c.slot c.index = false → c.active = true → c.stopped = false →
     visBlockOf (s.img c.slot) (Fb.stream c.block) = some vb → c.cursor = flowLead vb c.block →
     (s.refHalf c vb = none → exec (.closeUnit 0 i) s = .next (s.writing 2 c.cadence (fun x =>
       (((x.fstStop 0 i 1).setBit (Reg.FST_FLOW_STATUS i) 0).degrade c.slot c.index).fstClose 0 i))) ∧
     (∀ h, s.refHalf c vb = some h → s.listDegraded c = true → exec (.closeUnit 0 i) s = .next (s.writing 2 c.cadence (fun x =>
       ((x.fstStop 0 i 4).degrade c.slot c.index).fstClose 0 i)))))

/-- FPP (R210 to R228): a live path without a replay or a seed propagates the state by the set's values, writes the pose of its SEQ and
the ring's entry; a due window without a set is reported absent; the seed request stands; a replay that ends has run to its last entry. -/
def Obligations.PosePathComplete : Prop :=
  (∀ (s : State), s.alive = true → s.fppOn = true →
    (let due := s.fpp.waitFrom + 16 * s.outputPeriod (s.axisChannel 0)
     let x := s.runTo due
     ∃ t, exec .noSampleSet s = .next t ∧
       Reported (x.setFpp (fun f => { f with waitFrom := due })) 0xFF03 St.sensorAbsent 0x4C (decFunc x.lateChannel)
         (result [(20, 2, decFunc x.lateChannel), (24, 8, x.fpp.lastStamp)]) t)) ∧
  (∀ (s : State) (r : Replay), s.alive = true → s.fpp.replay = some r →
    (let e := replayEnd s.fpp.ring r r.free
     exec .replayComplete s = .next ((s.runTo e).runReplay e))) ∧
  (∀ (s : State) (set : SampleSet) (fault : Bool), s.alive = true → s.fpp.set = some set → s.fpp.forced = [] → s.fpp.seed = none →
    s.fpp.replay = none →
    (let x := (((s.setFpp (fun f => { f with forced := [], set := none })).fppCycles 0 720).bankEnd 6 0)
     exec (.livePath fault) s = .next ((x.lateCorrections set none).livePose set fault x.fpp.state [] (propagate s.imuCfg (x.fpp.state.getD Pose.reset) set.values
       set.stamp) 0)))

/-- FUS units of an instant (R191 to R199, R207): an instant whose inputs have come, or whose wait has passed, is emitted; PRJ projects the
next block of up to 64 points; AFE writes the pixel grid behind the projection and the feature records behind the grid. -/
def Obligations.FusionUnitsComplete : Prop :=
  (∀ (s : State) (f : Nat) (tell : Nat → Option Nat),
    (let x := s.fusTurn f; let c := x.fusCtx f; let j := c.insts.length; let n := c.entries.length
     let t := x.fusInstant c j
     let open_ := (List.range n).filter (fun i => !(x.entryAt c i t (tell i)).complete)
     s.alive = true → s.waitsAt (s.fusCtx f).slot (s.fusCtx f).index = false → c.active = true → j < Ub.outCount c.block →
     x.fusTold c j = some tell →
     (x.pairSecondary = false → exec (.instantEmission f) s = .next (s.writing 3 (s.fusCtx f).cadence (fun _ =>
       fusEmit f j t c tell x (x.runToTime ((open_.map (fun i => t + Ue.wait (c.entry i))).foldl max 0))))) ∧
     (x.pairSecondary = true → (∀ i ∈ open_, tell i = some 0) →
       exec (.instantEmission f) s = .next (s.writing 3 (s.fusCtx f).cadence (fun _ => fusEmit f j t c tell x x))))) ∧
  (∀ (s : State) (f j i : Nat) (blk : List (List Byte)),
    (let x := s.fusTurn f; let c := x.fusCtx f
     let m := ((x.img c.slot).drop (Ue.addr (c.entry i))).take 128
     s.alive = true → s.waitsAt (s.fusCtx f).slot (s.fusCtx f).index = false → c.active = true → c.prjCut = false →
     x.prjNext c = some (j, i, blk) →
     exec (.prjBlock f) s = .next (s.writing 3 (s.fusCtx f).cadence (fun _ =>
       (x.fusPay f 1 (16 + 2 * blk.length) 0 (fun st =>
         (st.modProj f j (fun z => { z with projected := SMap.upd 0 z.projected i (· + blk.length) })).each blk
           (fun st2 p => st2.fusPoint f j m p (x.fusGrid c).1 (x.fusGrid c).2.1))).fusPrjEnd f)))) ∧
  (∀ (s : State) (f : Nat) (y : FusInst),
    (let x := s.fusTurn f; let c := x.fusCtx f
     let l := (x.fusGrid c).1; let w := (x.fusGrid c).2.1; let h := (x.fusGrid c).2.2
     let pair := Ub.pixPair c.block != 0xFF
     s.alive = true → s.waitsAt (s.fusCtx f).slot (s.fusCtx f).index = false → c.insts[c.recorded]? = some y → c.active = true →
     c.afeCut = false → y.gridDone = false → Ub.pixel c.block = true → x.prjOver c c.recorded = true → x.metHolds f = false →
     exec (.pixelGrid f) s = .next (s.writing 3 (s.fusCtx f).cadence (fun _ =>
       x.fusPay f 0 (64 + ceilDiv (w * h) 4) (ceilDiv (4 * w * h) 64 + (if pair then ceilDiv (3 * w * h) 64 else 0))
         (fusGridWork f l w h pair c y))))) ∧
  (∀ (s : State) (f id a : Nat) (y : FusInst),
    (let x := s.fusTurn f; let c := x.fusCtx f
     s.alive = true → s.waitsAt (s.fusCtx f).slot (s.fusCtx f).index = false → c.insts[c.recorded]? = some y → c.active = true →
     c.afeCut = false → y.gridDone = true → (x.fusFeatures c y)[y.features]? = some (id, a) →
     exec (.featureRecord f) s = .next (s.writing 3 (s.fusCtx f).cadence (fun _ => x.fusPay f 0 24 1 (fusFeatureWork f id a c y)))))

/-- FUS records and votes (R200 to R206): the next vote group's state record, the instant record behind all of the instant's work, a late
sample's record behind the last instant; a silent encoder is reported once; a sensor with its gated instants in a row is quarantined,
one with its clean instants readmitted, each with its event record. -/
def Obligations.FusionRecordsComplete : Prop :=
  (∀ (s : State) (f g : Nat) (y : FusInst),
    (let x := s.fusTurn f; let c := x.fusCtx f
     s.alive = true → s.waitsAt (s.fusCtx f).slot (s.fusCtx f).index = false → c.insts[c.recorded]? = some y → c.active = true →
     c.afeCut = false → c.groups[y.groups]? = some g →
     (Ub.pixel c.block = true → y.gridDone = true ∧ (x.fusFeatures c y).length ≤ y.features) →
     exec (.stateRecord f) s = .next (s.writing 3 (s.fusCtx f).cadence (fun _ => x.fusPay f 0 48 0 (fusStateWork f g c y))))) ∧
  (∀ (s : State) (f : Nat) (y : FusInst),
    (let x := s.fusTurn f; let c := x.fusCtx f
     s.alive = true → s.waitsAt (s.fusCtx f).slot (s.fusCtx f).index = false → c.insts[c.recorded]? = some y → c.active = true →
     x.prjOver c c.recorded = true →
     (c.afeCut = true ∨ ((Ub.pixel c.block = true → y.gridDone = true) ∧ (x.fusFeatures c y).length ≤ y.features ∧
       c.groups.length ≤ y.groups)) →
     exec (.instantRecord f) s = .next (s.writing 3 (s.fusCtx f).cadence (fun _ =>
       ((x.fusWriteInstant f y false).fusAfeEnd f).fusPrjEnd f)))) ∧
  (∀ (s : State) (f : Nat) (l : FusLate) (rest : List FusLate),
    (let x := s.fusTurn f; let c := x.fusCtx f
     s.alive = true → s.waitsAt (s.fusCtx f).slot (s.fusCtx f).index = false → c.late = l :: rest → c.active = true → c.afeCut = false →
     Ub.outCount c.block ≤ c.recorded →
     exec (.delayedRecord f) s = .next (s.writing 3 (s.fusCtx f).cadence (fun _ =>
       (x.fusPay f 0 16 1 (fusDelayedWork f l rest)).fusAfeEnd f)))) ∧
  (∀ (s : State) (f i : Nat),
    (let c := s.fusCtx f; let n := SMap.get (0, 2) c.silent i
     let func := if n.2 = 0 then Ue.func (c.entry i) else Ue.pair (c.entry i)
     s.alive = true → c.on = true → 3 ≤ n.1 → c.silentMask.testBit i = false →
     ∃ t, exec (.silentEncoder f i) s = .next t ∧
       Reported (s.setFus f { c with silentMask := c.silentMask ||| 2 ^ i }) 0xFF03 St.sensorAbsent 0x45 func
         (result [(20, 2, func), (23, 1, f), (24, 8, s.ccu.cadence - 1)]) t)) ∧
  (∀ (s : State) (id : Nat),
    (let k := s.fld (fusVoteReg id) 16 4
     s.alive = true → 0x010 ≤ id → id ≤ 0x067 → s.quarantined id = false → k ≤ s.gatedRun id →
     ∃ t, exec (.quarantine id) s = .next t ∧
       Reported (((s.setRuns id 0 0).setFld (fusVoteReg id) 0 2 2).count 5 (fusVoteCnt id 1)) 0xFF03 St.sensorQuarantined 0x46 id
         (result [(20, 2, id), (22, 1, 2), (23, 1, k), (24, 8, s.ccu.cadence)]) t)) ∧
  (∀ (s : State) (id : Nat),
    (let m := s.fld (fusVoteReg id) 20 8
     let x := ((s.setRuns id 0 0).setFld (fusVoteReg id) 0 2 0).voteUpdate id
     s.alive = true → 0x010 ≤ id → id ≤ 0x067 → s.quarantined id = true → m ≤ s.cleanRun id →
     ∃ t, exec (.readmission id) s = .next t ∧
       Reported x 0xFF03 St.sensorQuarantined 0x47 id
         (result [(20, 2, id), (22, 1, x.voteState id), (23, 1, m), (24, 8, s.ccu.cadence)]) t))

/-- BSU problems (R243 to R252): a channel's next problem, its packet sound and paid for, runs from its first values; a chained packet
carries the run on; a problem that has ended, with nothing owed, finishes; one that its deadline
meets before its end is missed. A problem whose packet is unsound ends with what was wrong. -/
def Obligations.SolverEventsComplete : Prop :=
  (∀ (s : State) (c : Nat) (d : BsuDesc) (rest : List BsuDesc),
    (let s0 := s.bsuSync; let ch := s0.bsuCh c; let pkt := s0.bsuRead d; let h := pkt.take 64
     let st := (pkt.drop 64).take (Bp.structLen h)
     let s1 := (s0.setBsu c { ch with queue := rest }).bsuRefill c
     let n := if Bp.chain h then 1 else d.cfg.count
     let cyc := (bsuCost h st d.len true).total + (n - 1) * (bsuCost h st d.len false).total
     let acc := (s1.bsuCh c).accept pkt (bsuSig pkt) false
     let r : BsuRun := ⟨d, h, st, pkt.drop (64 + Bp.structLen h), ch.cadOf d, s0.core, s0.core, 0, false, false, [], 0,
       0, bsuSig pkt, false, false, false, false, none, 0, none, none⟩
     let pay := (s1.setBsu c { s1.bsuCh c with run := some r }).bsuCharge c (Bp.cluster h) cyc (n * bsuTok h st d.len)
     s.alive = true → c < 64 → ch.queue = d :: rest → ch.run = none → s0.bsuOpen c d = true →
     s0.lanesFree (chanLanes c (Bp.cluster h)) = true → s0.bsuBehind c (chanLanes c (Bp.cluster h)) = false →
     bsuCheck c d.cfg d.host.isSome 1 pkt = none → pay.2 = false →
     exec (.problemIssue c) s = .next (pay.1.bsuBegin c { acc.1 with run := some { (pay.1.bsuCh c).run.getD r with
       x := bsuFirst h ch acc.1 acc.2, charged := cyc, warmMismatch := acc.2 } }))) ∧
  (∀ (s : State) (c e : Nat) (d : BsuDesc) (rest : List BsuDesc),
    (let s0 := s.bsuSync; let ch := s0.bsuCh c; let pkt := s0.bsuRead d; let h := pkt.take 64
     let s1 := (s0.setBsu c { ch with queue := rest }).bsuRefill c
     let r : BsuRun := ⟨d, h, (pkt.drop 64).take (Bp.structLen h), pkt.drop (64 + Bp.structLen h), ch.cadOf d, s0.core, s0.core, 0, false, true, [], 0,
       0, bsuSig pkt, false, false, false, false, none, 0, none, some (e, 0)⟩
     s.alive = true → c < 64 → ch.queue = d :: rest → ch.run = none → s0.bsuOpen c d = true →
     s0.lanesFree (chanLanes c (Bp.cluster h)) = true → s0.bsuBehind c (chanLanes c (Bp.cluster h)) = false →
     bsuCheck c d.cfg d.host.isSome 1 pkt = some e →
     exec (.problemIssue c) s = .next ((s1.setBsu c { s1.bsuCh c with run := some r }).bsuFinish c none))) ∧
  (∀ (s : State) (c : Nat) (r : BsuRun) (d : BsuDesc) (rest : List BsuDesc),
    (let s0 := s.bsuSync; let ch := s0.bsuCh c; let pkt := s0.bsuRead d; let h := pkt.take 64
     let st := (pkt.drop 64).take (Bp.structLen h)
     let s1 := (s0.setBsu c { ch with queue := rest }).bsuRefill c
     let s2 := s1.bsuWaited c r
     let cost := (bsuCost h st d.len true).total
     let acc := (s2.bsuCh c).accept pkt (bsuSig pkt) true
     let pay := s2.bsuCharge c (Bp.cluster h) cost (bsuTok h st d.len)
     s.alive = true → ch.run = some r → ch.queue = d :: rest → r.waiting = true →
     bsuCheck c r.desc.cfg d.host.isSome (r.iter + 1) pkt = none → pay.2 = false →
     exec (.chainedPacket c) s = .next (pay.1.setBsu c { acc.1 with
       queue := (pay.1.bsuCh c).queue
       waiting := (pay.1.bsuCh c).waiting
       run := some { r with
         desc := { r.desc with addr := d.addr, len := d.len }
         hdr := h
         struct := st
         records := pkt.drop (64 + Bp.structLen h)
         at_ := s0.core
         waiting := false
         sig := bsuSig pkt
         charged := r.charged + cost
         warmMismatch := r.warmMismatch || acc.2
         x := (r.x ++ List.replicate (Bp.values h) 0).take (Bp.values h) } }))) ∧
  (∀ (s : State) (c : Nat) (r : BsuRun),
    (let s1 := s.bsuSync.bsuAdvance c (2 ^ 80) 64
     s.alive = true → (s1.bsuCh c).run = some r → r.desc.cfg.deadline = 0 → r.waiting = false → r.ended = true →
     exec (.problemComplete c) s = .next (((s1.runTo r.at_).bsuFinish c none).bsuSync))) ∧
  (∀ (s : State) (c : Nat) (r e : BsuRun),
    (let s0 := s.bsuSync; let t := r.start + r.desc.cfg.deadline
     s.alive = true → (s0.bsuCh c).run = some r → r.desc.cfg.deadline ≠ 0 → ((s0.bsuAdvance c (2 ^ 80) 64).bsuCh c).run = some e →
     (e.ended = true → t < e.at_) →
     exec (.solverDeadline c) s = .next ((s0.runTo t).bsuMiss c t)))

/-- Map operations (R265 to R283): the next record of a pipe's queue, of the row's operation and within its instance's limits, is charged,
done where its checks pass, and answered with its code. -/
def Obligations.MapOperationsComplete : Prop :=
  ∀ (s : State) (pipe op : Nat) (row : Instr) (r0 r : Run) (e : MapEnt) (rec : List Byte) (i : Inst) (code : Nat),
    (op, row) ∈ [(1, Instr.insert pipe), (2, .update pipe), (3, .miss pipe), (4, .retire pipe), (5, .kfInsert pipe), (6, .kfUpdate pipe),
      (7, .loop pipe), (8, .kfRetire pipe), (9, .activate pipe), (10, .read pipe), (11, .search pipe), (12, .select pipe),
      (13, .graph pipe)] →
    (let x := s.mapClose r0.slot r0.index 10
     let cost := mapCost x rec
     let y := x.chargeTo r pipe cost.1 cost.2
     s.alive = true → s.runOn 4 pipe = some r0 → x.runOf r0.slot r0.index = some r → x.mapNext r = some (e, rec) →
     r.insts.find? (fun k => k.unit == pipe) = some i → leAt rec 0 1 = op → i.ended = false → r.waiting = false →
     limitBits (x.runDesc r) i cost.1 cost.2 = 0 → x.mapCheck x.mapView r (x.mapStage r) rec = some code →
     (op = 12 → code = 0 → x.selectReady r rec = true) →
     exec row s = .next (((if code = 0 then y.mapDo x.mapView r (x.mapStage r).entry e (x.mapStage r).codes.length rec else y).mapRan r e
       code cost.1).mapClose r.slot r.index 10))

/-- Map epochs and initialisation (R263, R271, R272): the commit of an epoch that the map holds takes its shadows in and shows the
epoch; a squash drops them and shows it; an initialisation that ends leaves an empty map, ready, with its event record. -/
def Obligations.MapEpochsComplete : Prop :=
  (∀ (s : State) (e cad : Nat) (hs late : List Nat), s.alive = true → s.ccu.resolving = some (e, true, hs, cad, late) →
    (hs.contains 1 = true → exec .mapCommit s = .next (s.mapCommitted e cad)) ∧
    (hs.contains 1 = false → exec .mapCommit s = .next s)) ∧
  (∀ (s : State) (e cad : Nat) (hs late : List Nat), s.alive = true → s.ccu.resolving = some (e, false, hs, cad, late) →
    hs.contains 1 = true →
    exec .mapSquash s = .next ((((s.setMap { s.map with data := { s.map.data with squashed := insertOnce e s.map.data.squashed } }).setRegN
      Reg.MAP_LAST_SQUASH (e % 2 ^ 32)).ackEpoch 1).mapRelease false)) ∧
  (∀ (s : State), s.alive = true → s.bitOf Reg.MAP_STATUS 3 = true →
    (let b := s.mapBases
     let m := ((((s.mem.clear b.dir (2 ^ 24)).clear b.kf (2 ^ 27)).clear b.desc (2 ^ 29)).clear b.edge (2 ^ 22)).clear 0x5000000 (2 ^ 24)
     let x : State := { s with mem := m, map := { s.map with
       data := MapData.reset
       frozen := none
       waiting := []
       hostPins := []
       deferred := [] } }
     let y := ((x.setRegN Reg.MAP_KF_LIVE 0).setRegN Reg.MAP_EDGES_LIVE 0).mapShow
     ∃ t, exec .initComplete s = .next t ∧
       Reported (((y.clrBit Reg.MAP_STATUS 3).setBit Reg.MAP_STATUS 2).setReady mapFunc) 0xFF04 St.ok 0x94 mapFunc (zeros 12) t))

/-- MXA units (R293 to R309): an array's next unit, of the row's kind, whose bands, input tiles and step have come, and within its
instance's limits, does its work; one whose bands, tiles or step are missing waits for them, and its stall counts under their reason. -/
def Obligations.MatrixUnitsComplete : Prop :=
  ∀ (s : State) (arr want : Nat) (row : Instr) (r : Run) (x : MxStage) (i : Inst),
    (want, row) ∈ [(0, Instr.tileOperation arr), (1, .outputUnit arr), (2, .softmaxUnit arr)] →
    (let ops := mxOps (s.img r.slot) (s.runDesc r)
     let pos := SMap.get ⟨0, 0, 0, 0, true⟩ x.arrays arr
     let b := ops.getD pos.op []
     s.alive = true → s.runOn 5 arr = some r → s.mxStage r.slot r.index = some x → r.insts.find? (fun k => k.unit == arr) = some i →
     pos.done = false → i.ended = false → r.waiting = false → (Mx.units b).getD pos.unit 3 = want →
     (s.mxBandsIn arr b pos.block = false → exec row s = .next (s.waitOn r.slot r.index arr arr 0)) ∧
     (s.mxBandsIn arr b pos.block = true → s.mxTilesIn r.slot b pos.block pos.unit = false →
       exec row s = .next (s.waitOn r.slot r.index arr arr 4)) ∧
     (s.mxBandsIn arr b pos.block = true → s.mxTilesIn r.slot b pos.block pos.unit = true → s.mxStepIn r pos.op b pos.block = false →
       exec row s = .next (s.waitOn r.slot r.index arr arr 7)) ∧
     (s.mxBandsIn arr b pos.block = true → s.mxTilesIn r.slot b pos.block pos.unit = true → s.mxStepIn r pos.op b pos.block = true →
       limitBits (s.runDesc r) i (Mx.cost b want).1 (Mx.cost b want).2 = 0 →
       exec row s = .next ((s.waitOver r.slot r.index arr arr).mxWork want arr r ops pos b)))

/-- GCR intrinsics without a wait (R315 to R317, R320): a core that may issue charges its cycle and moves beats, sets a flag, counts items,
draws its sequence, answers where it is, ends its stage, or shows its bound; a completed beat has moved its 64 bytes. -/
def Obligations.CoreIntrinsicsComplete : Prop :=
  (∀ (s : State) (n pc ofs addr len : Nat) (r : Run) (h : List Byte) (x : State), s.alive = true → CoreIssues s n pc r h x →
    ofs % 64 = 0 → addr % 64 = 0 → len % 64 = 0 → (addrRow addr len).isSome = true → inRegions h ofs len = true →
    exec (.get n pc ofs addr len) s = .next (gcrBeats true n r (List.range (len / 64)) ofs addr x) ∧
    exec (.put n pc ofs addr len) s = .next (gcrBeats false n r (List.range (len / 64)) ofs addr x)) ∧
  (∀ (s : State) (n k : Nat) (b : GcrBeat), s.alive = true → (s.coreOf n).beats[k]? = some b →
    (let x := s.setCore n { s.coreOf n with beats := (s.coreOf n).beats.eraseIdx k }
     let r := x.see b.addr 64
     b.get = true → exec (.beatCompletion n k) s = .next { r.2 with mem := r.2.mem.writeBytes (coreBase n + b.ofs) r.1 })) ∧
  (∀ (s : State) (n k : Nat) (b : GcrBeat), s.alive = true → (s.coreOf n).beats[k]? = some b →
    (let x := s.setCore n { s.coreOf n with beats := (s.coreOf n).beats.eraseIdx k }
     let bytes := x.ldB (coreBase n + b.ofs) 64
     let y := x.writing 8 b.cadence (fun t => t.stB b.addr bytes)
     b.get = false →
     exec (.beatCompletion n k) s = .next (if leAt bytes 0 4 = 0xC1E97F01 then
       y.capture b.addr (leAt bytes 20 2) (leAt bytes 22 2) (leAt bytes 24 8) else y))) ∧
  (∀ (s : State) (n pc o i : Nat) (r : Run) (h : List Byte) (x : State), s.alive = true → CoreIssues s n pc r h x →
    r.outFlags[o]? = some i → (x.coreCharge n r 1 0).flagOf r.slot i ≠ .ready →
    exec (.flagSet n pc o) s = .next (((x.coreCharge n r 1 0).runFlag r o Flag.ready).mapSync)) ∧
  (∀ (s : State) (n pc k : Nat) (r : Run) (h : List Byte) (x : State), s.alive = true → CoreIssues s n pc r h x →
    exec (.items n pc k) s = .next ((x.coreCharge n r 1 0).addItems r.slot r.index k)) ∧
  (∀ (s : State) (n pc rd : Nat) (r : Run) (h : List Byte) (x : State), s.alive = true → CoreIssues s n pc r h x →
    (let y := x.coreCharge n r 1 0
     let v := ((y.coreOf n).seq * 6364136223846793005 + 1442695040888963407) % 2 ^ 64
     exec (.rand n pc rd) s = .next ((y.updCore n (fun c => { c with seq := v })).coreAnswer n rd (v / 2 ^ 32)))) ∧
  (∀ (s : State) (n pc rd : Nat) (r : Run) (h : List Byte) (x : State), s.alive = true → CoreIssues s n pc r h x →
    (let y := x.coreCharge n r 1 0
     let a := (((y.coreAnswer n rd r.cadence).coreAnswer n (rd + 1) (r.cadence % 2 ^ 32)).coreAnswer n (rd + 2) (y.coreOf n).position)
     exec (.info n pc rd) s = .next ((a.coreAnswer n (rd + 3) r.insts.length).coreAnswer n (rd + 4)
       (r.instant + Sd.start (y.sd r.slot r.index))))) ∧
  (∀ (s : State) (n pc : Nat) (r : Run) (h : List Byte) (x : State), s.alive = true → CoreIssues s n pc r h x →
    exec (.endStage n pc) s = .next ((x.coreCharge n r 1 0).coreOver n ((x.coreOf n).state == 2))) ∧
  (∀ (s : State) (n pc : Nat) (r : Run) (i : Inst), s.alive = true → s.coreInst n = some (r, i) → r.waiting = false →
    ((s.coreOf n).state = 1 ∨ (s.coreOf n).state = 2) → (s.coreOf n).wait = none →
    inRange (Gp.codeAddr (Gp.header (s.img r.slot) (s.runDesc r))) (Gp.codeLen (Gp.header (s.img r.slot) (s.runDesc r))) pc = true →
    exec (.boundHit n pc) s = .next ((((s.setRegN (Reg.GCR_CORE_PC n) pc).updCore n (fun c => { c with bound := true })).setBit
      (Reg.GCR_CORE_STATUS n) 2).count 10 (gcrCnt n 1)))

/-- GCR waits and posts (R315, R316): WAITIO, FLAG_WAIT and SYNC charge their cycle and wait from then on, unless what they wait for is
there; a submission to a channel with room enters its queue, to a
full one waits; a post the program may make hands its bytes to the queue's unit and answers
1, or 0 where it is lost.
GCR instructions and walls (R313, R314, R319, R320): an ordinary instruction inside its regions stores its bytes, writes its registers,
those its arithmetic computes among them, and moves the call depth; an undefined one, and a call too deep, fault; a core that met a wall traps to its tidy handler; one whose tidy reserve is gone faults. -/
def Obligations.CoreWaitsAndWallsComplete : Prop :=
  (∀ (s : State) (n pc i rd : Nat) (w : GcrWait) (row : Instr) (r : Run) (h : List Byte) (x : State),
    (w, row) ∈ [(GcrWait.io, Instr.waitio n pc), (.flag i rd, .flagWait n pc i rd), (.sync, .sync n pc)] →
    s.alive = true → (s.coreOf n).wait = none → CoreIssues s.bsuSync n pc r h x →
    (w = .flag i rd → i < Sd.inputCount (x.runDesc r)) →
    (let y := x.coreCharge n r 1 0
     exec row s = .next (gcrRetire n (y.updCore n (fun c => { c with
       wait := some w
       waitFrom := y.core
       syncs := c.syncs + b2n (w == GcrWait.sync) }))))) ∧
  (∀ (s : State) (n pc ch addr len tag : Nat) (r : Run) (h : List Byte) (x : State), s.alive = true →
    (s.bsuSync.coreOf n).wait = none → CoreIssues s.bsuSync n pc r h x →
    (let y := x.coreCharge n r 1 0
     let p := y.bsuPost ch ⟨addr, len, tag, none, s.bsuSync.bsuForce ch⟩
     x.mayPost n 1 ch r = true →
     (p.2 = true → exec (.submit n pc ch addr len tag) s = .next (p.1.digest 8 r.cadence (2 ^ 56 * ch + (y.bsuCh ch).queue.length)
       (leBytes 8 addr ++ leBytes 4 len ++ leBytes 4 tag))) ∧
     (p.2 = false → exec (.submit n pc ch addr len tag) s =
       .next (y.updCore n (fun c => { c with wait := some .submit, waitFrom := y.core }))))) ∧
  (∀ (s : State) (n pc q ofs rd : Nat) (r : Run) (h : List Byte) (x : State), s.alive = true → CoreIssues s n pc r h x →
    (let y := x.coreCharge n r 1 0; let b := x.ldB (coreBase n + ofs) 64; let p := y.mapPost q b
     x.mayPost n 2 q r = true → inRegions h ofs 64 = true →
     (p.2 = true → exec (.mapPost n pc q ofs rd) s =
       .next ((p.1.digest 8 r.cadence (2 ^ 56 * q + SMap.get 0 s.map.received q) b).coreAnswer n rd 1)) ∧
     (p.2 = false → exec (.mapPost n pc q ofs rd) s = .next ((p.1.postLost n).coreAnswer n rd 0)))) ∧
  (∀ (s : State) (n pc q ofs rd : Nat) (r : Run) (h : List Byte) (x : State), s.alive = true → CoreIssues s n pc r h x →
    (let y := x.coreCharge n r 1 0; let b := x.ldB (coreBase n + ofs) 32; let p := y.fusPost q b
     x.mayPost n 3 q r = true → inRegions h ofs 32 = true →
     (p.2 = true → exec (.statePost n pc q ofs rd) s =
       .next ((p.1.digest 8 r.cadence (2 ^ 56 * q + (SMap.get [] s.fus.queues q).length) b).coreAnswer n rd 1)) ∧
     (p.2 = false → exec (.statePost n pc q ofs rd) s = .next ((p.1.postLost n).coreAnswer n rd 0)))) ∧
  (∀ (s : State) (n pc ofs rd : Nat) (r : Run) (h : List Byte) (x : State), s.alive = true → CoreIssues s n pc r h x →
    (let y := x.coreCharge n r 2 0; let b := x.ldB (coreBase n + ofs) 128; let p := y.postCorrection b
     x.mayPost n 4 0 r = true → inRegions h ofs 128 = true →
     (p.2 = true → exec (.fppCorrect n pc ofs rd) s =
       .next ((p.1.digest 8 r.cadence s.fpp.queue.length b).coreAnswer n rd 1)) ∧
     (p.2 = false → exec (.fppCorrect n pc ofs rd) s = .next ((p.1.postLost n).coreAnswer n rd 0)))) ∧
  (∀ (s : State) (n : Nat) (i : CoreStep) (r : Run) (h : List Byte) (x : State), s.alive = true → CoreIssues s n i.pc r h x →
    i.kind ≠ .undefined → (i.kind = .call → (x.coreOf n).depth < 16) →
    (∀ l ∈ i.loads, inRegions h l.1 l.2 = true) → (∀ l ∈ i.stores, inRegions h l.1 l.2.length = true) →
    (let y := if i.newCycle then x.coreCharge n r 1 0 else x
     let c := y.coreOf n
     let z := y.each i.stores (fun t w => { t with mem := t.mem.writeBytes (coreBase n + w.1) w.2 })
     let out := coreResult i.kind c
     let depth := if i.kind = .call then c.depth + 1 else if i.kind = .ret then c.depth - 1 else c.depth
     let xs := (i.scalar ++ out.1).foldl (fun (m : SMap Nat) w => SMap.set m w.1 (w.2 % 2 ^ 64)) c.x
     let vs := (i.vector ++ out.2.1).foldl (fun (m : SMap Nat) w => SMap.set m w.1 (w.2 % 2 ^ 1024)) c.v
     let t := z.setCore n { c with depth := depth, x := xs, v := vs }
     exec (.coreInstruction n i) s = .next (if out.2.2 then t.setBit (Reg.GCR_CORE_STATUS n) 3 else t))) ∧
  (∀ (s : State) (n : Nat) (i : CoreStep) (r : Run) (h : List Byte) (x : State), s.alive = true → CoreIssues s n i.pc r h x →
    (i.kind = .undefined → exec (.coreInstruction n i) s = .next (x.coreFault n 6)) ∧
    (i.kind = .call → 16 ≤ (x.coreOf n).depth → exec (.coreInstruction n i) s = .next (x.coreFault n 3))) ∧
  (∀ (s : State) (n : Nat), s.alive = true → (s.coreOf n).state = 1 → (s.coreOf n).walled ≠ 0 → (s.coreOf n).wait = none →
    (let c := s.coreOf n
     exec (.wallTrap n) s = .next (((((s.coreState n 2).pairBit Reg.GCR_TRAP_LO Reg.GCR_TRAP_HI n true).count 10 (gcrCnt n 0)).updRun c.slot
       c.stage (fun r => { r with insts := r.insts.map (fun i =>
         if i.unit = n then { i with limit := i.limit ||| c.walled, cut := true } else i) })).updCore n
       (fun y => { y with walled := 0, depth := 0 })))) ∧
  (∀ (s : State) (n : Nat) (r : Run) (i : Inst), s.alive = true → s.coreInst n = some (r, i) → (s.coreOf n).state = 2 →
    (s.coreOf n).wait = none → Sd.tidy (s.runDesc r) ≤ (s.coreOf n).tidy →
    exec (.tidyReserveExhausted n) s = .next (s.coreFault n 1))

/-- Copies between tiers (R335 to R337, R339, R349): an entry of a running or starting Route's placement table issues once in its cadence;
a copy stages its tile and readies its flag, or leaves the flag CUT and zeros after a source fault; a write-back leaves the tile clean at its home,
and ends the flush it was the last of; a copy beyond its bound is counted once. -/
def Obligations.TierCopiesComplete : Prop :=
  (∀ (s : State) (slot k i : Nat) (e : List Byte), s.alive = true → (fetchEntries (s.slot slot).image)[k]? = some e →
    s.objOf (objDecl (s.slot slot).image (Pe.object e)) = some i → ((s.slot slot).running = true ∨ (s.slot slot).life = .starting) →
    (65536 * slot + k) ∉ s.memt.issued →
    (let x := s.runToTime ((s.slot slot).runInstant + Pe.offset e)
     let y : State := { x with memt := { x.memt with issued := x.memt.issued ++ [65536 * slot + k] } }
     exec (.prefetchIssue slot k) s = .next (y.each (List.range (Pe.count e))
       (fun st n => if Pe.writeBack e then st.backTile slot e i n else st.fetchTile slot e i n)))) ∧
  (∀ (s : State) (n slot f retries : Nat) (fault corrected : Bool) (c : Copy) (o : MemObj), s.alive = true →
    s.memt.copies[n]? = some c → c.why = .fetch slot f → s.obj c.obj = some o →
    (∀ x ∈ s.memt.copies.take n, ¬(x.obj = c.obj ∧ x.slot = c.slot)) → s.workPaid (2 * flagKey slot f + 1) = true →
    (let src := o.tileAddr c.tile
     let bytes := s.ldB src tileLen
     let x := s.copyOver n src retries corrected
     let d := s.fetchSd slot f
     (fault = false → (inFlash src 1 = true → flashTileOk bytes = true) →
       (let y := ({ x with mem := x.mem.writeBytes (o.slotAddr c.slot) bytes } : State).updObj c.obj
          (fun p => { p with dirty := p.dirty.filter (· != c.slot) })
        exec (.copyComplete n fault retries corrected) s = .next ((y.setFlag slot f Flag.ready (Sd.layer d) (Sd.operator d)).monOffer 4
          (b2n (inFlash src 1)) 0 (c.timeTaken y)))) ∧
     ((fault = true ∨ inFlash src 1 = true ∧ flashTileOk bytes = false) →
       (let y := x.setFlag slot f Flag.cut (Sd.layer d) (Sd.operator d)
        let z : State := { y with
          memt := { y.memt with cause := SMap.set y.memt.cause (flagKey slot f) 0xD5 }
          mem := y.mem.writeBytes (o.slotAddr c.slot) (zeros tileLen) }
        exec (.copyComplete n fault retries corrected) s = .next (if inFlash src 1 then z.flashFault src c.obj else z))))) ∧
  (∀ (s : State) (n : Nat) (c : Copy) (o : MemObj), s.alive = true → s.memt.copies[n]? = some c → s.obj c.obj = some o →
    (∀ slot f, c.why ≠ .fetch slot f) → (∀ h, c.why ≠ .flush h) → exec (.writeBackComplete n) s = .next (s.tileBack n c o)) ∧
  (∀ (s : State) (n h : Nat) (c : Copy) (o : MemObj), s.alive = true → s.memt.copies[n]? = some c → s.obj c.obj = some o →
    c.why = .flush h →
    (let x := s.tileBack n c o
     let y : State := { x with memt := { x.memt with jobs := x.memt.jobs.map (fun j =>
       if j.key = h then { j with left := j.left - 1, moved := j.moved + 1 } else j) } }
     (∀ j, y.memt.jobs.find? (fun j => j.key == h && j.left == 0) = some j →
       exec (.writeBackComplete n) s = .next (y.endJob h St.ok [(20, 4, j.moved)])) ∧
     (y.memt.jobs.find? (fun j => j.key == h && j.left == 0) = none → exec (.writeBackComplete n) s = .next y))) ∧
  (∀ (s : State) (n : Nat) (c : Copy), s.alive = true → s.memt.copies[n]? = some c → c.late = false →
    (let x := (s.runTo (c.bound + 1)).count 15 11
     exec (.copyLatencyOverrun n) s =
       .next { x with memt := { x.memt with copies := modifyAt (fun p => { p with late := true }) x.memt.copies n } }))

/-- Promotion and eviction (R277, R339, R341, R342): a promoting object stands in staging when its promotion ends, a stored map tile in a
table tile with its host pin; an eviction whose write-backs are made frees its staging, or keeps the object resident where a promotion
came meanwhile. -/
def Obligations.ResidencyEventsComplete : Prop :=
  (∀ (s : State) (home i : Nat) (lost : List Nat) (o : MemObj), s.alive = true →
    s.memt.objs.find? (fun e => e.2.home == home && e.2.resident && e.2.state == .promoting) = some (i, o) →
    s.workPaid (2 * i) = true → exec (.promotionComplete ⟨home, lost⟩) s = .next (s.objPromoted i o lost)) ∧
  (∀ (s : State) (home f : Nat) (lost : List Nat), s.alive = true →
    s.memt.objs.find? (fun e => e.2.home == home && e.2.resident && e.2.state == .promoting) = none →
    s.map.promoting.find? (fun g => s.tileHome g == home) = some f → (s.promoteTile f false).2 = true →
    (let x := (s.promoteTile f false).1
     let y := x.setMap { x.map with
       promoting := x.map.promoting.filter (· != f)
       hostPins := insertOnce f x.map.hostPins }
     exec (.promotionComplete ⟨home, lost⟩) s = .next (y.each (x.memt.jobs.filter (fun j => j.kind == .promote && j.obj == 4096 + f))
       (fun st j => st.endJob j.key St.ok [(20, 8, home), (28, 1, 0)])))) ∧
  (∀ (s : State) (home i : Nat) (o : MemObj), s.alive = true →
    s.memt.objs.find? (fun e => e.2.home == home && e.2.state == .evicting) = some (i, o) →
    (∀ c ∈ s.memt.copies, ¬(c.obj = i ∧ c.why = .eviction)) →
    (o.keep = false → exec (.evictionComplete home) s = .next (s.freeObj i)) ∧
    (o.keep = true →
      (let x := s.updObj i (fun p => { p with
         state := .resident
         keep := false
         deferred := false
         wasDeferred := false })
       let y := x.each (s.jobsOn .evict i) (fun st h => st.endJob h St.ok [(20, 8, o.home), (28, 1, 1)])
       exec (.evictionComplete home) s = .next ((y.objFlags o Flag.ready).promoted i).memShow)))

/-- Flash and DRAM events (R327, R346, R347, R350): the head of the slot writes ends, written, failed for want of a spare, or put back to be
written elsewhere; the wear records come once, at 2,700 and at 3,000 erases or below 256 spares; an uncorrectable DRAM beat is shown and
reported with its address and channel; a poll shows each package's refresh rate. -/
def Obligations.FlashAndDramEventsComplete : Prop :=
  (∀ (s : State) (failed spareLeft gc : Bool) (mean top spare beats : Nat) (w : FlashWrite) (rest : List FlashWrite), s.alive = true →
    s.memt.flash = w :: rest →
    (let x := s.flashTold mean top spare beats gc
     let y := x.flashWrote w failed
     (failed = true → spareLeft = true → exec (.flashSlotWrite failed spareLeft mean top spare beats gc) s = .next x) ∧
     (¬(failed = true ∧ spareLeft = true) → y.memt.jobs.find? (fun j => j.key == w.key && j.left == 0) = none →
       exec (.flashSlotWrite failed spareLeft mean top spare beats gc) s = .next y) ∧
     (∀ j, ¬(failed = true ∧ spareLeft = true) → y.memt.jobs.find? (fun j => j.key == w.key && j.left == 0) = some j →
       (j.kind = .archive → exec (.flashSlotWrite failed spareLeft mean top spare beats gc) s = .next (y.archiveDone j.key j.obj)) ∧
       (j.kind ≠ .archive → exec (.flashSlotWrite failed spareLeft mean top spare beats gc) s =
         .next (y.endJob j.key (if j.failed then St.internalFault else St.ok) [(20, 4, j.moved)]))))) ∧
  (∀ (s : State) (mean top spare : Nat), s.alive = true →
    (let x := s.flashCounts mean top spare
     (2700 ≤ mean → s.bitOf Reg.MEM_FLASH_STATUS 0 = false → ∃ t, exec (.wearWarning mean top spare) s = .next t ∧
       Reported (x.setBit Reg.MEM_FLASH_STATUS 0) 0xFF06 St.degraded 0xDB 0 (leBytes 4 mean ++ leBytes 4 spare ++ zeros 4) t) ∧
     ((3000 ≤ mean ∨ spare < 256) → s.bitOf Reg.MEM_FLASH_STATUS 1 = false → ∃ t, exec (.writeLock mean top spare) s = .next t ∧
       Reported (x.setBit Reg.MEM_FLASH_STATUS 1) 0xFF06 St.degraded 0xDC 0 (leBytes 4 mean ++ leBytes 4 spare ++ zeros 4) t))) ∧
  (∀ (s : State) (addr : Nat), s.alive = true → inDram addr 1 = true →
    (let ch := (addr - 0x1000000000) / 256 % 32
     ∃ t, exec (.dramUncorrectable addr) s = .next t ∧
       Reported (((({ s with memt := { s.memt with lost := insertOnce (addr / 64) s.memt.lost } } : State).setBit (Reg.MEM_DRAM_STATUS (ch / 4)) 2).setBit Reg.MEM_STATUS 2).count 15 13) 0xFF06 St.internalFault 0xD8 0
         (leBytes 8 addr ++ leBytes 1 ch ++ zeros 3) t)) ∧
  (∀ (s : State) (mults : List Nat), s.alive = true →
    exec (.refreshRatePoll mults) s = .next (s.each (mults.zip (List.range 8))
      (fun st m => if m.1 ≤ 2 then st.setFld (Reg.MEM_DRAM_STATUS m.2) 8 2 m.1 else st)))

/-- Tandem link events and frames (R352 to R356, R362, R363): training ends with the link UP and the pairing frame sent; each cause of loss
takes the link down with its reason; a NAK resends what is unacknowledged; a boundary, a time, an echo, a digest and a switch are taken in
as their payloads say. -/
def Obligations.LinkFramesComplete : Prop :=
  (∀ (s : State), s.alive = true → (s.func tdmFunc).life = .starting → s.linkState = 1 → s.bitOf Reg.CRB_CLK_STATUS 3 = true →
    (let x := (s.setFld Reg.TDM_STATUS 2 2 2).setFld Reg.TDM_STATUS 16 4 15
     exec .linkTrainingComplete s = .next ({ x with tdm := { x.tdm with
       lastRx := x.core
       lastTx := x.core } } : State).sendPair)) ∧
  (∀ (s : State), s.alive = true →
    (2 ≤ s.linkState → exec (.linkLost 1) s = .next ((s.runTo (s.tdm.lastRx + usCore 10)).linkLost 1)) ∧
    (16 ≤ s.tdm.naks.2 ∨ 16 ≤ s.tdm.naksSent.2 → exec (.linkLost 2) s = .next (s.linkLost 2)) ∧
    (2 ^ 20 < (s.tdm.replay.map (fun f => f.bytes.length)).sum → exec (.linkLost 3) s = .next (s.linkLost 3)) ∧
    ((∃ e ∈ s.tdm.ownDigest, e.1 + 2 ≤ s.ccu.cadence) → exec (.linkLost 4) s = .next (s.linkLost 4))) ∧
  (∀ (s : State), s.alive = true → 2 ≤ s.linkState →
    exec .tdmCrcFail s = .next ({ s with tdm := { s.tdm with lastRx := s.core } } : State).sendNak) ∧
  (∀ (s : State), s.alive = true → 2 ≤ s.linkState →
    (let x := s.runTo (s.tdm.lastTx + usCore 1)
     exec .tdmIdleSend s = .next (x.linkSend 0x00 0 x.ccu.cadence []))) ∧
  (∀ (s x : State) (f : LinkIn), LinkTakes s false f x →
    (let want := leAt f.payload 0 2
     let n := if x.tdm.naks.1 = want then x.tdm.naks.2 + 1 else 1
     let y := (({ x with tdm := { x.tdm with
       naks := (want, n)
       wire := (x.tdm.replay.map (fun r => x.relink r.bytes)).reverse ++ x.tdm.wire
       lastTx := x.core } } : State).count 13 57).countN 13 54 x.tdm.replay.length
     exec (.tdmIdle f) s = .next x ∧ exec (.tdmNak f) s = .next (if 16 ≤ n then y.linkLost 2 else y))) ∧
  (∀ (s x : State) (f : LinkIn), LinkTakes s true f x →
    (let n := leAt f.payload 0 8
     let lanes := (List.range 16).map (fun l => leAt f.payload (8 + 8 * l) 8)
     exec (.tdmPair f) s = .next { x with tdm := { x.tdm with peer := some f.payload } } ∧
     exec (.tdmSwitch f) s = .next { x with tdm := { x.tdm with switchAt := some n } } ∧
     exec (.tdmDigest f) s =
       .next (({ x with tdm := { x.tdm with peerDigest := SMap.set x.tdm.peerDigest n lanes } } : State).compareDigest n))) ∧
  (∀ (s x : State) (f : LinkIn), LinkTakes s true f x →
    (x.role = 1 → exec (.tdmTimeEcho f) s =
      .next ({ x with tdm := { x.tdm with echo := leAt f.payload 0 8 } } : State).sendTime) ∧
    (x.role = 2 →
      (let b := (leAt f.payload 0 8, leAt f.payload 8 8)
       let keep := if x.linkOn then x.tdm.boundaries ++ [b] else [b]
       exec (.tdmBoundary f) s =
         .next (({ x with tdm := { x.tdm with boundaries := keep } } : State).linkSend 0x05 0 x.ccu.cadence (leBytes 8 x.raw)))) ∧
    (x.role = 2 →
      (let echo := leAt f.payload 8 8
       let y := if echo = 0 then x else x.setRegN Reg.TDM_LINK_DELAY ((x.raw - echo) / 2)
       let ofs : Int := (leAt f.payload 0 8 : Int) + y.regN Reg.TDM_LINK_DELAY - y.now
       let z := (y.takeChange (.slew (clampI (-800000000) 800000000 ofs) (y.regN Reg.TIM_SLEW_RATE))).1
       (y.linkOn = false → exec (.tdmTime f) s = .next y) ∧
       (y.linkOn = true → y.regN Reg.TIM_STEP_THRESH < ofs.natAbs → exec (.tdmTime f) s = .next (y.takeChange (.step ofs)).1) ∧
       (y.linkOn = true → ofs.natAbs ≤ y.regN Reg.TIM_STEP_THRESH → exec (.tdmTime f) s =
         .next (z.drawFree.takeChange (.rate ((z.freeBelow 1099511629 : Int) - 549755814))).1))))

/-- Forwarded items (R357, R358, R361, Tables 16.3 and 16.4): a secondary whose link is ON feeds each to the unit that its own pins would
have fed, a line, a command or a tile only once it is whole. -/
def Obligations.LinkItemsComplete : Prop :=
  ∀ (s x : State) (f : LinkIn), LinkTakes s true f x → x.noPins = true →
    (let all := x.tdm.line ++ f.payload
     let whole : State := { x with tdm := { x.tdm with line := [] } }
     let part : State := { x with tdm := { x.tdm with line := all } }
     let cam := x.cam (leAt all 0 2 - camFunc 0)
     ((6 + ceilDiv (cam.width * leAt all 5 1) 8 ≤ all.length ∨ f.flags.testBit 0 = true) →
       exec (.tdmLine f) s = .next (whole.lineItem f.tag all)) ∧
     (all.length < 6 + ceilDiv (cam.width * leAt all 5 1) 8 → f.flags.testBit 0 = false → exec (.tdmLine f) s = .next part) ∧
     ((f.payload.length < 4096 ∨ f.flags.testBit 0 = true) →
       exec (.tdmCommand f) s = .next (tdmRepeat f.tag all whole) ∧
       exec (.tdmTile f) s =
         .next { whole with pel := { whole.pel with due := whole.pel.due ++ [(leAt all 0 8, all.drop 8)] } }) ∧
     (4096 ≤ f.payload.length → f.flags.testBit 0 = false →
       exec (.tdmCommand f) s = .next part ∧ exec (.tdmTile f) s = .next part) ∧
     exec (.tdmFrame f) s = .next (frameItem f x) ∧
     (let off := leAt f.payload 0 4
      let en := (List.range 4).map (fun i => (leAt f.payload 8 1).testBit i)
      (0x2000000 ≤ off → exec (.tdmRegwrite f) s = .next (x.windowLand off (leBytes 4 (leAt f.payload 4 4)) en)) ∧
      (off < 0x2000000 → byteMask en ≠ 0 → exec (.tdmRegwrite f) s = .next (x.regWrite off (leAt f.payload 4 4) (byteMask en))) ∧
      (off < 0x2000000 → byteMask en = 0 → exec (.tdmRegwrite f) s = .next x)) ∧
     exec (.tdmInertial f) s = .next (x.each (List.range (f.payload.length / 24)) (fun st k =>
       st.tagged (leAt f.payload (24 * k + 16) 8) f.tag (fppRecord ((f.payload.drop (24 * k)).take 16)))) ∧
     exec (.tdmAudio f) s = .next (x.each (List.range ((f.payload.length - 8) / 12)) (fun st k =>
       let c := leAt f.payload 0 1
       ((st.setCh c { st.ch c with
         first := false
         n := leAt f.payload 4 4 + k }).count 2 (decCnt c 0)).audioSample c (sleAt f.payload (8 + 12 * k) 4)
         (leAt f.payload (12 + 12 * k) 8) 0 false (st.ch c).first)) ∧
     exec (.tdmEncoder f) s = .next (x.each (List.range (f.payload.length / 32)) (fun st k =>
       let r := (f.payload.drop (32 * k)).take 32
       let n := leAt r 0 1
       let e := st.enc n
       let due := st.ccu.boundaryTime + e.records * usTime e.recordPeriod
       ((st.setEnc n { e with
         records := e.records + 1
         count := leAt r 4 4 }).setRegN (Reg.ING_ENC_COUNT n) (leAt r 4 4)).tagged due f.tag
           (fun y => (y.toFus (encFunc n) due r).monStamp (encFunc n) due))) ∧
     exec (.tdmPoints f) s = .next (x.each (List.range (f.payload.length / 32)) (fun st k =>
       let r := (f.payload.drop (32 * k)).take 32
       let j := leAt r 14 1 % 8
       (st.toFus (lidarFunc j) (leAt r 16 8) r).count 1 (lidarCnt j 1))) ∧
     (let b := f.payload
      let c := x.fusCtx (leAt b 0 1)
      let image := x.img c.slot
      let stride := max 1 (Img.stride image)
      let opened := f.tag - (f.tag + stride - Img.phase image) % stride
      exec (.tdmFusCount f) s = .next (x.setFus (leAt b 0 1) { c with
        counts := SMap.set c.counts (64 * opened + leAt b 1 1) ((List.range (leAt b 2 2)).map (fun k => leAt b (8 + 2 * k) 2)) })) ∧
     (let y := Ph.payload f.payload
      let op := leAt y 0 1
      let due := Ph.instant f.payload
      ((due < x.now + usTime 50 ∨ x.opNear due = true) →
        exec (.tdmSchedule f) s = .next (x.opRefused (Ph.root f.payload) op due)) ∧
      (x.now + usTime 50 ≤ due → x.opNear due = false →
        exec (.tdmSchedule f) s = .next (x.arm ⟨op, leAt y 4 2, leAt y 6 2, due, some (Ph.root f.payload), [], true⟩))))

/-- Barriers (R368, R369): a member reports in the open round at its depth's time; a report joins the round's bitmap and its lag; the root
releases a reported round after the tree's depth and tells its children, a release is completed and passed on once; a round that gets no
release leaves the member alone and unsynchronised, with its record.
Scheduled operations and shared map tiles (R368, R370 to R373): a SCHEDULE from another root that leaves 50 microseconds and no other
operation near is armed, passed on and acknowledged; an acknowledgement is entered in the issuer's operation; a fragment is passed on and
joins its tile; an assembly that takes longer than a millisecond is dropped. -/
def Obligations.PelotonEventsComplete : Prop :=
  (∀ (s : State) (r : Round), s.alive = true → s.joined = true → s.role ≠ 2 → s.barrierOpen.pel.round = some r → r.reported = false →
    exec .barrierRound s = .next (s.barrierOpen.reportRound r)) ∧
  (∀ (s x : State) (b : List Byte) (r : Round), PelTakes s 1 b x →
    (let y := if x.pel.round.isNone && decide (x.pel.lastRound < Ph.instant b) then x.openRound (Ph.instant b) else x
     let d := Ph.payload b
     y.pel.round = some r → r.instant = Ph.instant b →
     exec (.barrierUp b) s = .next { y with pel := { y.pel with round := some { r with
       bits := r.bits ||| leAt d 0 32
       slow := r.slow || (leAt d 32 1).testBit 0
       lower := r.lower || (Ph.dst b == 0xFFFF && decide (Ph.src b < y.pel.me)) } } })) ∧
  (∀ (s : State) (r : Round), s.alive = true → s.joined = true → s.role ≠ 2 → s.pel.round = some r → r.reported = true →
    s.isRoot r = true →
    (let x := s.runToTime (s.afterHops r.instant s.treeDepth)
     let h := if r.slow then 24 else 12
     exec .barrierRelease s =
       .next ((x.completeRound s.pel.me r.instant r.bits h).sendDown s.pel.me r.instant (leBytes 32 r.bits ++ leBytes 1 h)))) ∧
  (∀ (s x : State) (b : List Byte), PelTakes s 2 b x →
    (let d := Ph.payload b
     let y := x.completeRound (Ph.root b) (Ph.instant b) (leAt d 0 32) (leAt d 32 1)
     (x.pel.lastRound < Ph.instant b → exec (.barrierDown b) s =
       .next ((y.sendDown (Ph.root b) (Ph.instant b) d).countN 13 62 (y.treeChildren (Ph.root b)).length)) ∧
     (Ph.instant b ≤ x.pel.lastRound → exec (.barrierDown b) s = .next x))) ∧
  (∀ (s : State) (r : Round), s.alive = true → s.pel.round = some r →
    (let x := s.runToTime (s.afterHops r.instant (2 * s.treeDepth) + usTime 50)
     let y := (x.setPresent 0).setFld Reg.PEL_STATUS 1 1 0
     exec .barrierTimeout s = .next (({ y with pel := { y.pel with
       round := none
       lastRound := r.instant } } : State).pelEvent St.pelotonTimeout 0xAB [(20, 1, s.pel.me), (24, 8, r.instant)]))) ∧
  (∀ (s x : State) (b : List Byte), PelTakes s 3 b x → Ph.root b ≠ x.pel.me →
    (let d := Ph.payload b; let op := leAt d 0 1; let due := Ph.instant b; let root := Ph.root b
     let near := x.opNear due
     let y := if near then x.opRefused root op due else x.arm ⟨op, leAt d 4 2, leAt d 6 2, due, some root, [], true⟩
     let cs := y.treeChildren root
     let z := (y.each cs (fun st c => st.pelSend 3 c root due d)).countN 13 62 cs.length
     (due < x.now + usTime 50 → exec (.pelotonScheduleFrame b) s = .next (x.opRefused root op due)) ∧
     (x.now + usTime 50 ≤ due → exec (.pelotonScheduleFrame b) s =
       .next ((z.scheduleItem (Ph.src b) due d).pelSend 4 root root due (leBytes 1 op ++ leBytes 1 (b2n (!near))))))) ∧
  (∀ (s x : State) (b : List Byte), PelTakes s 4 b x →
    exec (.schedAck b) s = .next { x with pel := { x.pel with ops := x.pel.ops.map (fun o =>
      if o.instant = Ph.instant b ∧ o.issuer = some x.pel.me ∧ o.op = leAt (Ph.payload b) 0 1 ∧ (leAt (Ph.payload b) 1 1).testBit 0 then
        { o with acks := insertOnce (Ph.src b) o.acks } else o) } }) ∧
  (∀ (s x : State) (b : List Byte), PelTakes s 5 b x →
    (let d := Ph.payload b; let key := leAt d 0 8; let k := leAt d 8 1; let root := Ph.root b
     let cs := x.treeChildren root
     let y := (x.each cs (fun st c => st.pelSend 5 c root (Ph.instant b) d)).countN 13 62 cs.length
     root ≠ x.pel.me → k < 16 →
     exec (.tileFrag b) s = .next (if y.bitOf Reg.PEL_CTRL 17 then y.assemble root key k (d.drop 12) else y))) ∧
  (∀ (s : State) (key : Nat) (a : PelTile), s.alive = true → s.pel.tiles.find? (fun x => x.key == key) = some a →
    (let x := s.runTo (a.first + usCore 1000)
     exec (.tileAssemblyTimeout key) s =
       .next (({ x with pel := { x.pel with tiles := x.pel.tiles.filter (fun z => z.key != key) } } : State).tileDrop key 2)))

/-- Metrology frames (R382 to R384, R387, R394, R395): a snapshot goes to the staging area and starts its transmission; a frame whose last
byte has come is held, or dropped by an Oasis that was processing at its first; a truncated one is dropped 10 ms after its first byte and
fails cause 2, or cause 1 where parameters or image failed their checks; a held one is judged when its processing time is over, the record
rules run and the requests that waited are served; a change of the seal pin is taken with its log entry and identification.
The metrology gateway (R397 to R400): a result record joins the ring of 256, the oldest lost where all are unread, and is reported as
valid or invalid; an identification is shown; a discard is counted; 300 ms without an identification are reported; MET_RX bytes without a
frame change nothing. -/
def Obligations.MetrologyEventsComplete : Prop :=
  (∀ (s : State) (sn : MetSend), s.alive = true → s.met.snap = some sn →
    (let x := s.runTo sn.by_
     let c := x.fusCtx sn.ctx
     let g := x.fusGrid c
     let body := x.metBody c
     let y := x.chargePool 2 0 (memTok (Ub.pixBase c.block) (4 * g.2.1 * g.2.2)) none
     let z := if (addrRow x.metStage body.length).isSome then y.stB x.metStage body else y
     exec .snapshotComplete s = .next ((({ z with met := { z.met with
       snap := none
       tx := some ⟨sn.ctx, x.core + ceilDiv (24 * (body.length + 4)) 10, body.length, crc32 body, none⟩ } } : State).count 15 18).onOasis
         (fun o => { o with rx := some ⟨o.frame.isSome, x.core, x.metHeader c⟩ })))) ∧
  (∀ (s : State) (m : MetSend), s.alive = true → s.met.tx = some m →
    (let x := s.runTo m.by_
     let y : State := { x with met := { x.met with
       tx := none
       sent := x.met.sent + 1 } }
     exec .metrologyFrame s = .next (((y.setRegN Reg.MET_FRAME_SEQ (x.met.sent % 2 ^ 32)).count 15 17).onOasis
       (fun o => o.arrive x.core (x.ldB x.metStage m.len ++ leBytes 4 m.crc))))) ∧
  (∀ (s : State) (got : Nat) (rx : MetRx), s.met.oasis.started = true → s.met.oasis.rx = some rx →
    (let x := s.oasisTo rx.since (usCore 10000)
     let o : Oasis := { x.met.oasis.drop with rx := none }
     let judged : Oasis := { o with frameSealed := o.sealed }
     exec (.frameTruncated got) s = .next { x with met := { x.met with
       tx := none
       oasis := if rx.busy then o
         else judged.runRules (rx.header.take got) (.invalid (if o.paramOk && o.imageOk then 2 else 1)) } })) ∧
  (∀ (s : State) (f : List Byte), s.met.oasis.started = true → s.met.oasis.frame = some f →
    (let x := s.oasisTo s.met.oasis.frameAt (metCycles f)
     exec .frameProcessed s =
       .next (x.oasis (fun o => (({ o with frame := none } : Oasis).runRules f (o.judge f)).serveWaiting)))) ∧
  (∀ (s : State) (high : Bool),
    (let o := s.met.oasis
     let x : Oasis := { o with
       sealed := !high
       staged := if high then o.staged else none }
     (o.sealed = high → o.started = true →
       exec (.sealChange high) s = .next (s.oasis (fun _ => (x.logEntry (if high then 3 else 4) 0).identBoth))) ∧
     (o.sealed = high → o.started = false → exec (.sealChange high) s = .next (s.oasis (fun _ => x))) ∧
     (o.sealed ≠ high → exec (.sealChange high) s = .next s))) ∧
  (∀ (s : State) (r : List Byte) (rest : List (Nat × List Byte)), s.alive = true → s.met.oasis.path = (1, r) :: rest →
    (let x := s.oasis (fun o => { o with path := rest })
     let ring := x.met.ring ++ [(true, r)]
     let y := ({ x with met := { x.met with
       ring := ring.drop (ring.length - 256)
       lastSeq := leAt r 4 4 } } : State).showUnread
     let z := if 256 ≤ x.met.unread then y.setBit Reg.MET_GW_STATUS 5 else y
     (leAt r 28 1 = 1 → ∃ t, exec .resultRecord s = .next t ∧
       Reported (z.setBit Reg.MET_GW_STATUS 6) 0xFF0A St.metrologyInvalid (leAt r 29 1) 0x87
         (result [(20, 4, leAt r 4 4), (24, 4, leAt r 24 4), (28, 4, leAt r 8 4)]) t) ∧
     (leAt r 28 1 ≠ 1 → ∃ t, exec .resultRecord s = .next t ∧
       Reported z 0xFF0A St.ok 0x23 0x87
         (result [(20, 2, leAt r 32 2), (22, 2, leAt r 34 2), (24, 2, leAt r 36 2), (26, 1, leAt r 31 1), (28, 4, leAt r 4 4)]) t))) ∧
  (∀ (s : State) (r : List Byte) (rest : List (Nat × List Byte)), s.alive = true → s.met.oasis.path = (2, r) :: rest →
    exec .identificationRecord s = .next ((s.oasis (fun o => { o with path := rest })).gwIdent r)) ∧
  (∀ (s : State), s.alive = true →
    exec .resultPathDiscard s = .next ((s.setBit Reg.MET_GW_STATUS 7).count 15 20) ∧
    (s.bitOf Reg.MET_GW_STATUS 2 = true → ∃ t, exec .identTimeout s = .next t ∧
      Reported (((s.runTo (s.met.identAt + 360000000)).clrBit Reg.MET_GW_STATUS 2).clrBit Reg.MET_IDENT_STATE 4) 0xFF0A
        St.metrologyInvalid 0x30 0x87 (result [(20, 4, s.met.lastSeq)]) t)) ∧
  (∀ (s : State), exec .metRxDiscard s = .next s)

/-- Oasis requests (R388 to R390, R397, R398): a started Oasis answers what it is asked; a sealed one refuses each write with status 1 and
counts it; an unsealed one that processes a frame lets them wait, in their order; an unsealed one that holds no frame stages a block of 256 bytes, loads image bytes in range and commits block or image, each
refused with its own status where its checks fail. -/
def Obligations.OasisRequestsComplete : Prop :=
  (∀ (s : State), exec .oasisStart s = .next (s.oasis Oasis.start)) ∧
  (∀ (s : State), s.met.oasis.started = true →
    exec .identPeriod s = .next (s.oasis (fun o => o.send 0x02 o.ident)) ∧
    exec .identReq s = .next (s.oasis (fun o => (o.respond 0x81 0).identBoth)) ∧
    exec .logReq s = .next (s.oasis (fun o => o.log.foldl (fun (x : Oasis) e => x.tx 0x03 e) (o.respond 0x82 0))) ∧
    ((s.met.oasis.sealed = true ∨ s.met.oasis.frame = none) →
      exec .paramRead s = .next (s.oasis (fun o => (o.respond 0x83 0).tx 0x04 o.params)))) ∧
  (∀ (s : State) (ty ofs len : Nat) (bs pay f : List Byte) (row : Instr), s.met.oasis.started = true → s.met.oasis.sealed = false →
    s.met.oasis.frame = some f →
    (ty, pay, row) ∈ [(0x83, [], Instr.paramRead), (0x84, bs, .paramWrite bs), (0x85, [], .paramCommit),
      (0x86, leBytes 4 ofs ++ bs, .imageLoad ofs bs), (0x87, leBytes 4 len ++ bs, .imageCommit len bs)] →
    exec row s = .next (s.oasis (fun o => { o with waiting := o.waiting ++ [(ty, pay)] }))) ∧
  (∀ (s : State) (ty ofs len : Nat) (bs : List Byte) (row : Instr), s.met.oasis.started = true → s.met.oasis.sealed = true →
    (ty, row) ∈ [(0x84, Instr.paramWrite bs), (0x85, .paramCommit), (0x86, .imageLoad ofs bs), (0x87, .imageCommit len bs)] →
    (let o : Oasis := { s.met.oasis with refused := min (s.met.oasis.refused + 1) (2 ^ 32 - 1) }
     exec row s = .next (s.oasis (fun _ => (o.respond ty 1).send 0x02 o.ident)))) ∧
  (∀ (s : State) (ofs len : Nat) (bs : List Byte), s.met.oasis.started = true → s.met.oasis.sealed = false →
    s.met.oasis.frame = none →
    (let o := s.met.oasis
     (bs.length = 256 →
       exec (.paramWrite bs) s = .next (s.oasis (fun _ => ({ o with staged := some bs } : Oasis).respond 0x84 0))) ∧
     (bs.length ≠ 256 → exec (.paramWrite bs) s = .next (s.oasis (fun _ => o.respond 0x84 2))) ∧
     (bs ≠ [] → ofs < 2 ^ 32 → bs.length ≤ 1024 → ofs + bs.length ≤ 1572864 → exec (.imageLoad ofs bs) s =
       .next (s.oasis (fun _ => ({ o with load := { o.load with bytes := o.load.bytes.writeBytes ofs bs } } : Oasis).respond 0x86 0))) ∧
     (ofs < 2 ^ 32 → (bs = [] ∨ 1024 < bs.length ∨ 1572864 < ofs + bs.length) →
       exec (.imageLoad ofs bs) s = .next (s.oasis (fun _ => o.respond 0x86 2))) ∧
     (65535 ≤ o.counter → exec .paramCommit s = .next (s.oasis (fun _ => o.respond 0x85 3)) ∧
       exec (.imageCommit len bs) s = .next (s.oasis (fun _ => o.respond 0x87 3))))) ∧
  (∀ (s : State) (b : List Byte), s.met.oasis.started = true → s.met.oasis.sealed = false → s.met.oasis.frame = none →
    s.met.oasis.counter < 65535 → s.met.oasis.staged = some b →
    (let o := s.met.oasis
     let x := ({ o with counter := o.counter + 1 } : Oasis).logEntry 1 (Mp.crc b)
     (metParamsOk b = true → b ≠ o.params →
       exec .paramCommit s = .next (s.oasis (fun _ => (({ x with
         spare := o.params
         params := b
         staged := none
         paramOk := true } : Oasis).respond 0x85 0).identBoth))) ∧
     (metParamsOk b = true → b = o.params → exec .paramCommit s = .next (s.oasis (fun _ => ({ o with
       staged := none
       paramOk := true } : Oasis).respond 0x85 0))) ∧
     (metParamsOk b = false → exec .paramCommit s = .next (s.oasis (fun _ => o.respond 0x85 2))))) ∧
  (∀ (s : State) (len : Nat) (sig : List Byte), s.met.oasis.started = true → s.met.oasis.sealed = false → s.met.oasis.frame = none →
    s.met.oasis.counter < 65535 → 0 < len → len ≤ 1572864 → sig.length = 96 →
    (let o := s.met.oasis
     let m : MetImage := ⟨o.load.bytes, len, sig⟩
     let x := ({ o with counter := o.counter + 1 } : Oasis).logEntry 2 m.crc
     (m.passes = true → exec (.imageCommit len sig) s = .next (s.oasis (fun _ => (({ x with
       image := m
       load := o.image } : Oasis).respond 0x87 0).start))) ∧
     (m.passes = false → exec (.imageCommit len sig) s = .next (s.oasis (fun _ => o.respond 0x87 4)))))

/-- Trace, monitors, dumps and credits (R51, R409 to R423): the sync timer and the PC sampler of a running trace, the level sample and the
bank swap of the monitors, the oldest dump that can start, the credit of 30 less the flits that waited for it, and the oldest packet taken
to the port at its clock edge, to memory, or to both, with the packet that waited behind the FIFO entering it. -/
def Obligations.ObservationEventsComplete : Prop :=
  (∀ (s : State), s.alive = true → s.tracing = true →
    exec .traceSyncTimer s = .next (s.runTo (ceilDiv (3 * (s.obs.trace.lastSync + 2 ^ 30)) 2)).emitSync ∧
    (Td.pcLog2 s.traceDesc ≠ 0 → exec .pcSample s = .next s.pcSampled)) ∧
  (∀ (s : State), s.alive = true →
    (let x := s.runTo ((s.core / 1024 + 1) * 1024)
     exec .monitorLevelSample s = .next (x.obs.monitors.foldl (fun (st : State) e =>
       if leAt e.2.desc 0 1 = 7 then st.monTake e.1 (st.occupancy (leAt e.2.desc 4 2) (leAt e.2.desc 6 2) : Nat) else st) x))) ∧
  (∀ (s : State) (t : Nat), s.alive = true → s.nextInstant = some t →
    (let x := s.runToTime t
     exec .monitorBankSwap s = .next { x with obs := { x.obs with monitors := x.obs.monitors.map (fun (e : Nat × Monitor) =>
       (e.1, if e.2.age != 256 && e.2.due then { e.2.swap (x.ccu.cadence + 1) with
         age := 256
         crossed := false } else e.2)) } })) ∧
  (∀ (s : State) (d : Dump), s.alive = true → s.obs.dumps.find? s.dumpReady = some d → exec .dumpCopy s = .next (s.dumpCopied d)) ∧
  (∀ (s : State), s.alive = true →
    (let x := s.runTo ((s.core / 750 + 1) * 750)
     let g := min 30 x.ccu.obsOwed
     exec .obsCreditRefill s = .next { x with ccu := { x.ccu with
       obsCredit := 30 - g
       obsOwed := x.ccu.obsOwed - g } })) ∧
  (∀ (s : State) (pkt : List Byte) (rest : List (List Byte)), s.crb.released = true → s.obs.trace.fifo = pkt :: rest →
    (let d := s.traceDesc
     let mem := Td.toMem d && !s.obs.stopped
     let y := if Td.toPort d then s.runTo (coreOfRaw s.portStart) else s
     let x := (y.updTrace (fun t => { t with
       fifo := rest
       port := if Td.toPort d then pkt :: t.port else t.port
       portAt := if Td.toPort d then some s.portStart else t.portAt })).traceEnter
     (Td.toPort d = true ∨ mem = true) →
     (mem = true → y.bitOf Reg.OBS_STATUS 3 = false → y.obs.trace.group.length = 3 → y.traceBeatOk = true) →
     exec .tracePacketTaken s = .next (if s.obs.stopped then x else (if mem then x.traceToMem pkt else x).traceFlush)))

/-- The Brake, scan-out and the TAP (R424 to R429): a source raised stops the part at its cycle; BRK_IN is source 3 where it is enabled;
requests queued at S complete; an access ends with its data, or with the error of a part that ran when it was asked for, an address that
is not mapped, or a fault, and gives the instruments to an IJTAG that waited; a TAP instruction shows IDCODE, an error of a part that runs, or what the source leaves open.
Lockstep (R322): a mismatch of the last pair in lockstep raises the Brake's source 4; of one of two it leaves the pair out,
marks it and reports it. -/
def Obligations.BrakeAndScanEventsComplete : Prop :=
  (∀ (s : State) (b : BrakeReq), s.alive = true → s.obs.brake = some b → exec .brakeStop s = .next (s.brakeStopped b).unfence) ∧
  (∀ (s : State), s.alive = true →
    exec .brkIn s = .next (if s.bitOf Reg.OBS_BRAKE_CTRL 1 then s.brakeSource 3 0xFD else s)) ∧
  (∀ (s : State), s.obs.stopped = true → exec .memSettled s = .next (s.setBit Reg.OBS_BRAKE_STATUS 1)) ∧
  (∀ (s : State) (kind a : Nat) (braked unmapped fault : Bool), s.obs.scan = some (kind, a, braked) →
    s.bitOf Reg.OBS_SCAN_STATUS 4 = false →
    (let done := fun (t : State) => if s.obs.tapWait then t.tapTake 4 else t
     let there := a % 64 = 0 ∧ (if kind = 1 then inDram a 64 else inFlash a 64) = true
     (braked = false → exec (.scanAccessEnd unmapped fault) s = .next (done (s.scanDone 1))) ∧
     (braked = true → kind = 0 →
       exec (.scanAccessEnd true fault) s = .next (done (s.scanDone 2)) ∧
       exec (.scanAccessEnd false true) s = .next (done (s.scanDone 3)) ∧
       exec (.scanAccessEnd false false) s = .next (done (((s.scanData (s.freeBytes 8)).drawFrees 8).scanDone 0))) ∧
     (braked = true → kind ≠ 0 →
       (¬there → exec (.scanAccessEnd unmapped fault) s = .next (done (s.scanDone 2))) ∧
       (there → exec (.scanAccessEnd unmapped true) s = .next (done (s.scanDone 3)) ∧
         exec (.scanAccessEnd unmapped false) s = .next (done ((s.scanData (s.ldB a 64)).scanDone 0)))))) ∧
  (∀ (s : State), s.obs.scan.isSome = true →
    exec (.tapInstruction 4) s = .next { s with obs := { s.obs with tapWait := true } }) ∧
  (∀ (s : State) (ins : Nat), ¬(ins = 4 ∧ s.obs.scan.isSome = true) →
    (let show_ := fun (out : Nat) (err : Bool) => ({ s with obs := { s.obs with
       tap := ins
       extest := ins == 3
       tdo := out
       tapError := err
       tapWait := false } } : State)
     (ins = 1 → exec (.tapInstruction ins) s =
       .next ((show_ (s.regN Reg.CRB_IDCODE) false).putBit Reg.OBS_SCAN_STATUS 4 false)) ∧
     (ins = 0 ∨ 4 < ins → exec (.tapInstruction ins) s = .next ((show_ 0 false).putBit Reg.OBS_SCAN_STATUS 4 false)) ∧
     (ins = 2 ∨ ins = 3 → exec (.tapInstruction ins) s =
       .next ((show_ (s.freeBelow (2 ^ 64)) false).drawFree.putBit Reg.OBS_SCAN_STATUS 4 false)) ∧
     (ins = 4 → exec (.tapInstruction ins) s =
       .next ((show_ (if s.obs.stopped then s.freeBelow (2 ^ 64) else 0) (!s.obs.stopped)).drawFree.putBit Reg.OBS_SCAN_STATUS 4 true)))) ∧
  (∀ (s : State) (b : Bool), s.alive = true → s.bitOf Reg.GCR_CTL_STATUS (if b then 2 else 1) = true →
     ∃ t, exec (.lockstepMismatch b) s = .next t ∧
       (let x := (s.clrBit Reg.GCR_CTL_STATUS (if b then 2 else 1)).setBit Reg.GCR_CTL_STATUS (if b then 4 else 3)
        (s.bitOf Reg.GCR_CTL_STATUS (if b then 1 else 2) = false → t = x.brakeSource 4 0xFE) ∧
        (s.bitOf Reg.GCR_CTL_STATUS (if b then 1 else 2) = true →
          Reported ((if b then x else x.setBit Reg.GCR_CTL_STATUS 0).clrBit Reg.CCU_STATUS 1) 0xFF02 St.internalFault
            (if b then 0x09 else 0x0A) 0x0B (result [(20, 1, b2n b)]) t)))

/-- Reset, start-up and the link (R431, R433 to R436, R442 to R448): a device-scope source that begins resets the device and holds it;
its end releases that source alone; a lost PHY PLL drops what it clocks; a PCIe reset clears that scope; the release of the last source
starts the boot at slot A, or at the host where the strap says so; an image is checked and started, or the next source tried; training ends
in READY with its record; the link and D3hot open and close BAR0. -/
def Obligations.StartUpEventsComplete : Prop :=
  (∀ (s : State) (k : Nat) (cold : Bool) (row : Bool → Instr),
    (k, cold, row) ∈ [(0, true, Instr.porstN), (1, false, .rstN), (3, false, .rootPllUnlock)] →
    (let x := s.deviceReset k cold
     (k ∉ s.crb.held → exec (row true) s = .next { x with crb := { x.crb with held := x.crb.held ++ [k] } }) ∧
     (k ∈ s.crb.held → exec (row true) s = .next s) ∧
     exec (row false) s = .next { s with crb := { s.crb with held := s.crb.held.filter (· != k) } })) ∧
  (∀ (s : State) (t : Int),
    (let x := s.deviceReset 4 false
     (tripAt < t → 4 ∉ s.crb.held → exec (.thermalTrip t) s = .next { x with crb := { x.crb with held := x.crb.held ++ [4] } }) ∧
     (tripBelow ≤ t → t ≤ tripAt → s.alive = true → exec (.thermalTrip t) s = .next (s.setRegN Reg.CRB_TEMP (unsgn 16 t))) ∧
     (t < tripBelow → s.alive = false →
       exec (.thermalTrip t) s = .next { s with crb := { s.crb with held := s.crb.held.filter (· != 4) } }))) ∧
  (∀ (s : State) (pll : Nat), s.alive = true → 1 ≤ pll → pll ≤ 4 →
    (let x := s.putBit Reg.CRB_CLK_STATUS pll false
     exec (.phyPllUnlock pll true) s = .next (s.putBit Reg.CRB_CLK_STATUS pll true) ∧
     (pll = 1 → exec (.phyPllUnlock pll false) s = .next x) ∧
     (pll = 2 → exec (.phyPllUnlock pll false) s =
       .next (x.each (List.range 4) (fun st p => if st.portLink p then netLinkLoss p st else st))) ∧
     (pll = 3 → exec (.phyPllUnlock pll false) s = .next (if x.linkState = 0 then x else x.linkLost 1)) ∧
     (pll = 4 → exec (.phyPllUnlock pll false) s = .next x.pcieReset))) ∧
  (∀ (s : State),
    (let x : State := { s with
       regs := s.regs.filter (fun e => !pcieScope e.1 || pcieKept e.1)
       hif := { s.hif with
         holdoff := []
         owed := []
         owedOff := [] }
       crb := { s.crb with barUp := false } }
     exec .pcieReset s = .next ((x.putBit Reg.HIF_RING_STATUS 6 (s.bitOf Reg.HIF_RING_STATUS 6)).setBit Reg.CRB_RESET_CAUSE 5))) ∧
  (∀ (s : State) (boot : Bool), s.crb.released = false → s.crb.held = [] →
    (let x : State := { s with
       core := 0
       crb := { s.crb with
         released := true
         trying := BootTry.slotA } }
     let y := (((x.putBit Reg.CRB_BOOT_STATUS 3 boot).setFld Reg.CRB_BOOT_STATUS 0 2 1).setFld Reg.CRB_CLK_STATUS 0 5 0x1F).showFuses
     exec (.resetRelease boot) s = .next (if boot then y.bootHost else y))) ∧
  (∀ (s x : State) (nor b : List Byte) (k : Nat), s.alive = true →
    (s.crb.trying = .slotA ∧ x = s.xspiUsed ∧ b = nor ∧ k = 0 ∨ s.crb.trying = .slotB ∧ x = s.xspiUsed ∧ b = nor ∧ k = 1 ∨
      s.crb.trying = .hostCheck ∧ x = s ∧ b = s.hostImage ∧ k = 2) →
    (let code := bootCode x.crb.fuses b
     (code = 0 → exec (.bootImageCheck nor) s = .next (x.bootStart b k)) ∧
     (code ≠ 0 → exec (.bootImageCheck nor) s = .next (x.bootFail code)))) ∧
  (∀ (s : State), s.alive = true → s.crb.trying = .slotA ∨ s.crb.trying = .slotB → exec .xspiReadTimeout s = .next (s.bootFail 8)) ∧
  (∀ (s : State) (dram nand : List Nat), s.alive = true → s.fld Reg.CRB_BOOT_STATUS 0 2 = 2 → s.bitOf Reg.CRB_START_STATUS 0 = false →
    ∃ t, exec (.ready dram nand) s = .next t.fetchAll ∧
      Reported (s.trained dram nand) 0xFF01 St.ok 0x05 0 (result [(20, 4, (s.trained dram nand).regN Reg.CRB_FW_VERSION)]) t) ∧
  (∀ (s : State) (width speed : Nat), s.crb.released = true → s.bitOf Reg.CRB_CLK_STATUS 4 = true → width ∈ [1, 2, 4, 8] → 1 ≤ speed → speed ≤ 5 →
    (let w := if width = 2 then 1 else width
     let x := (((s.setFld Reg.HIF_PCIE_STATUS 0 4 w).setFld Reg.HIF_PCIE_STATUS 4 3 speed).setBit Reg.HIF_PCIE_STATUS 7).setFld
       Reg.HIF_PCIE_STATUS 8 2 0
     exec (.pcieLinkUp width speed) s = .next { x with crb := { x.crb with barUp := true } })) ∧
  (∀ (s : State), s.crb.barUp = true →
    exec .d3hotEntry s = .next { (s.setFld Reg.HIF_PCIE_STATUS 8 2 3) with crb := { s.crb with barUp := false } })
end

