-- ==== Sys2Proof/Laws/SMap.lean ====
section
/-! SUPPORT. Reading a table after a change of it. -/

namespace Sys2Proof.Machine

theorem SMap.find_set_same {α : Type} (m : SMap α) (i : Nat) (v : α) : SMap.find (SMap.set m i v) i = some v := by
  induction m with
  | nil => simp [SMap.set, SMap.find]
  | cons e r ih =>
    obtain ⟨k, w⟩ := e
    simp only [SMap.set]
    split
    · simp [SMap.find]
    · split
      · simp [SMap.find]
      · rw [SMap.find, if_neg (by omega)]; exact ih

theorem SMap.find_set_ne {α : Type} (m : SMap α) (i j : Nat) (v : α) (h : i ≠ j) :
    SMap.find (SMap.set m i v) j = SMap.find m j := by
  induction m with
  | nil => simp [SMap.set, SMap.find, h]
  | cons e r ih =>
    obtain ⟨k, w⟩ := e
    simp only [SMap.set]
    split
    · simp [SMap.find, h]
    · split
      · subst i; simp [SMap.find, h]
      · simp only [SMap.find, ih]

@[simp] theorem SMap.get_set_same {α : Type} (d : α) (m : SMap α) (i : Nat) (v : α) :
    SMap.get d (SMap.set m i v) i = v := by simp [SMap.get, SMap.find_set_same]

theorem SMap.get_set_ne {α : Type} (d : α) (m : SMap α) (i j : Nat) (v : α) (h : i ≠ j) :
    SMap.get d (SMap.set m i v) j = SMap.get d m j := by simp [SMap.get, SMap.find_set_ne m i j v h]

@[simp] theorem SMap.get_upd_same {α : Type} (d : α) (m : SMap α) (i : Nat) (f : α → α) :
    SMap.get d (SMap.upd d m i f) i = f (SMap.get d m i) := by simp [SMap.upd]

theorem SMap.get_upd_ne {α : Type} (d : α) (m : SMap α) (i j : Nat) (f : α → α) (h : i ≠ j) :
    SMap.get d (SMap.upd d m i f) j = SMap.get d m j := SMap.get_set_ne d m i j _ h

theorem SMap.find_erase_same {α : Type} (m : SMap α) (i : Nat) : SMap.find (SMap.erase m i) i = none := by
  induction m with
  | nil => rfl
  | cons e r ih =>
    obtain ⟨k, w⟩ := e
    simp only [SMap.erase]
    split
    · exact ih
    · rename_i h; rw [SMap.find, if_neg h]; exact ih

theorem SMap.find_erase_ne {α : Type} (m : SMap α) (i j : Nat) (h : i ≠ j) :
    SMap.find (SMap.erase m i) j = SMap.find m j := by
  induction m with
  | nil => rfl
  | cons e r ih =>
    obtain ⟨k, w⟩ := e
    simp only [SMap.erase]
    split
    · rename_i hk; subst hk; rw [ih, SMap.find, if_neg h]
    · simp only [SMap.find, ih]

end Sys2Proof.Machine
end

