-- ==== Sys2Proof/Laws/State.lean ====
section
/-! SUPPORT. What each plain update of the state leaves alone, field by field, and what a register, a function and a Route slot
hold after one. -/

namespace Sys2Proof.Machine

variable (s : State)

@[simp] theorem State.setReg_core (off : Nat) (w : Word) : (s.setReg off w).core = s.core := rfl
@[simp] theorem State.setReg_mem (off : Nat) (w : Word) : (s.setReg off w).mem = s.mem := rfl
@[simp] theorem State.setReg_host (off : Nat) (w : Word) : (s.setReg off w).host = s.host := rfl
@[simp] theorem State.setReg_hif (off : Nat) (w : Word) : (s.setReg off w).hif = s.hif := rfl
@[simp] theorem State.setReg_ccu (off : Nat) (w : Word) : (s.setReg off w).ccu = s.ccu := rfl
@[simp] theorem State.setReg_tim (off : Nat) (w : Word) : (s.setReg off w).tim = s.tim := rfl
@[simp] theorem State.setReg_net (off : Nat) (w : Word) : (s.setReg off w).net = s.net := rfl
@[simp] theorem State.setReg_ing (off : Nat) (w : Word) : (s.setReg off w).ing = s.ing := rfl
@[simp] theorem State.setReg_dec (off : Nat) (w : Word) : (s.setReg off w).dec = s.dec := rfl
@[simp] theorem State.setReg_vis (off : Nat) (w : Word) : (s.setReg off w).vis = s.vis := rfl
@[simp] theorem State.setReg_fst (off : Nat) (w : Word) : (s.setReg off w).fst = s.fst := rfl
@[simp] theorem State.setReg_fus (off : Nat) (w : Word) : (s.setReg off w).fus = s.fus := rfl
@[simp] theorem State.setReg_fpp (off : Nat) (w : Word) : (s.setReg off w).fpp = s.fpp := rfl
@[simp] theorem State.setReg_bsu (off : Nat) (w : Word) : (s.setReg off w).bsu = s.bsu := rfl
@[simp] theorem State.setReg_map (off : Nat) (w : Word) : (s.setReg off w).map = s.map := rfl
@[simp] theorem State.setReg_mxa (off : Nat) (w : Word) : (s.setReg off w).mxa = s.mxa := rfl
@[simp] theorem State.setReg_gcr (off : Nat) (w : Word) : (s.setReg off w).gcr = s.gcr := rfl
@[simp] theorem State.setReg_memt (off : Nat) (w : Word) : (s.setReg off w).memt = s.memt := rfl
@[simp] theorem State.setReg_tdm (off : Nat) (w : Word) : (s.setReg off w).tdm = s.tdm := rfl
@[simp] theorem State.setReg_pel (off : Nat) (w : Word) : (s.setReg off w).pel = s.pel := rfl
@[simp] theorem State.setReg_met (off : Nat) (w : Word) : (s.setReg off w).met = s.met := rfl
@[simp] theorem State.setReg_obs (off : Nat) (w : Word) : (s.setReg off w).obs = s.obs := rfl
@[simp] theorem State.setReg_crb (off : Nat) (w : Word) : (s.setReg off w).crb = s.crb := rfl
@[simp] theorem State.setReg_free (off : Nat) (w : Word) : (s.setReg off w).free = s.free := rfl
@[simp] theorem State.setReg_pending (off : Nat) (w : Word) : (s.setReg off w).pending = s.pending := rfl

@[simp] theorem State.setRegN_core (off v : Nat) : (s.setRegN off v).core = s.core := rfl
@[simp] theorem State.setRegN_mem (off v : Nat) : (s.setRegN off v).mem = s.mem := rfl
@[simp] theorem State.setRegN_host (off v : Nat) : (s.setRegN off v).host = s.host := rfl
@[simp] theorem State.setRegN_hif (off v : Nat) : (s.setRegN off v).hif = s.hif := rfl
@[simp] theorem State.setRegN_ccu (off v : Nat) : (s.setRegN off v).ccu = s.ccu := rfl
@[simp] theorem State.setRegN_tim (off v : Nat) : (s.setRegN off v).tim = s.tim := rfl
@[simp] theorem State.setRegN_net (off v : Nat) : (s.setRegN off v).net = s.net := rfl
@[simp] theorem State.setRegN_ing (off v : Nat) : (s.setRegN off v).ing = s.ing := rfl
@[simp] theorem State.setRegN_dec (off v : Nat) : (s.setRegN off v).dec = s.dec := rfl
@[simp] theorem State.setRegN_vis (off v : Nat) : (s.setRegN off v).vis = s.vis := rfl
@[simp] theorem State.setRegN_fst (off v : Nat) : (s.setRegN off v).fst = s.fst := rfl
@[simp] theorem State.setRegN_fus (off v : Nat) : (s.setRegN off v).fus = s.fus := rfl
@[simp] theorem State.setRegN_fpp (off v : Nat) : (s.setRegN off v).fpp = s.fpp := rfl
@[simp] theorem State.setRegN_bsu (off v : Nat) : (s.setRegN off v).bsu = s.bsu := rfl
@[simp] theorem State.setRegN_map (off v : Nat) : (s.setRegN off v).map = s.map := rfl
@[simp] theorem State.setRegN_mxa (off v : Nat) : (s.setRegN off v).mxa = s.mxa := rfl
@[simp] theorem State.setRegN_gcr (off v : Nat) : (s.setRegN off v).gcr = s.gcr := rfl
@[simp] theorem State.setRegN_memt (off v : Nat) : (s.setRegN off v).memt = s.memt := rfl
@[simp] theorem State.setRegN_tdm (off v : Nat) : (s.setRegN off v).tdm = s.tdm := rfl
@[simp] theorem State.setRegN_pel (off v : Nat) : (s.setRegN off v).pel = s.pel := rfl
@[simp] theorem State.setRegN_met (off v : Nat) : (s.setRegN off v).met = s.met := rfl
@[simp] theorem State.setRegN_obs (off v : Nat) : (s.setRegN off v).obs = s.obs := rfl
@[simp] theorem State.setRegN_crb (off v : Nat) : (s.setRegN off v).crb = s.crb := rfl
@[simp] theorem State.setRegN_free (off v : Nat) : (s.setRegN off v).free = s.free := rfl
@[simp] theorem State.setRegN_pending (off v : Nat) : (s.setRegN off v).pending = s.pending := rfl

@[simp] theorem State.setFld_core (off lo n v : Nat) : (s.setFld off lo n v).core = s.core := rfl
@[simp] theorem State.setFld_mem (off lo n v : Nat) : (s.setFld off lo n v).mem = s.mem := rfl
@[simp] theorem State.setFld_host (off lo n v : Nat) : (s.setFld off lo n v).host = s.host := rfl
@[simp] theorem State.setFld_hif (off lo n v : Nat) : (s.setFld off lo n v).hif = s.hif := rfl
@[simp] theorem State.setFld_ccu (off lo n v : Nat) : (s.setFld off lo n v).ccu = s.ccu := rfl
@[simp] theorem State.setFld_tim (off lo n v : Nat) : (s.setFld off lo n v).tim = s.tim := rfl
@[simp] theorem State.setFld_net (off lo n v : Nat) : (s.setFld off lo n v).net = s.net := rfl
@[simp] theorem State.setFld_ing (off lo n v : Nat) : (s.setFld off lo n v).ing = s.ing := rfl
@[simp] theorem State.setFld_dec (off lo n v : Nat) : (s.setFld off lo n v).dec = s.dec := rfl
@[simp] theorem State.setFld_vis (off lo n v : Nat) : (s.setFld off lo n v).vis = s.vis := rfl
@[simp] theorem State.setFld_fst (off lo n v : Nat) : (s.setFld off lo n v).fst = s.fst := rfl
@[simp] theorem State.setFld_fus (off lo n v : Nat) : (s.setFld off lo n v).fus = s.fus := rfl
@[simp] theorem State.setFld_fpp (off lo n v : Nat) : (s.setFld off lo n v).fpp = s.fpp := rfl
@[simp] theorem State.setFld_bsu (off lo n v : Nat) : (s.setFld off lo n v).bsu = s.bsu := rfl
@[simp] theorem State.setFld_map (off lo n v : Nat) : (s.setFld off lo n v).map = s.map := rfl
@[simp] theorem State.setFld_mxa (off lo n v : Nat) : (s.setFld off lo n v).mxa = s.mxa := rfl
@[simp] theorem State.setFld_gcr (off lo n v : Nat) : (s.setFld off lo n v).gcr = s.gcr := rfl
@[simp] theorem State.setFld_memt (off lo n v : Nat) : (s.setFld off lo n v).memt = s.memt := rfl
@[simp] theorem State.setFld_tdm (off lo n v : Nat) : (s.setFld off lo n v).tdm = s.tdm := rfl
@[simp] theorem State.setFld_pel (off lo n v : Nat) : (s.setFld off lo n v).pel = s.pel := rfl
@[simp] theorem State.setFld_met (off lo n v : Nat) : (s.setFld off lo n v).met = s.met := rfl
@[simp] theorem State.setFld_obs (off lo n v : Nat) : (s.setFld off lo n v).obs = s.obs := rfl
@[simp] theorem State.setFld_crb (off lo n v : Nat) : (s.setFld off lo n v).crb = s.crb := rfl
@[simp] theorem State.setFld_free (off lo n v : Nat) : (s.setFld off lo n v).free = s.free := rfl
@[simp] theorem State.setFld_pending (off lo n v : Nat) : (s.setFld off lo n v).pending = s.pending := rfl

@[simp] theorem State.setBit_core (off i : Nat) : (s.setBit off i).core = s.core := rfl
@[simp] theorem State.setBit_mem (off i : Nat) : (s.setBit off i).mem = s.mem := rfl
@[simp] theorem State.setBit_host (off i : Nat) : (s.setBit off i).host = s.host := rfl
@[simp] theorem State.setBit_hif (off i : Nat) : (s.setBit off i).hif = s.hif := rfl
@[simp] theorem State.setBit_ccu (off i : Nat) : (s.setBit off i).ccu = s.ccu := rfl
@[simp] theorem State.setBit_tim (off i : Nat) : (s.setBit off i).tim = s.tim := rfl
@[simp] theorem State.setBit_net (off i : Nat) : (s.setBit off i).net = s.net := rfl
@[simp] theorem State.setBit_ing (off i : Nat) : (s.setBit off i).ing = s.ing := rfl
@[simp] theorem State.setBit_dec (off i : Nat) : (s.setBit off i).dec = s.dec := rfl
@[simp] theorem State.setBit_vis (off i : Nat) : (s.setBit off i).vis = s.vis := rfl
@[simp] theorem State.setBit_fst (off i : Nat) : (s.setBit off i).fst = s.fst := rfl
@[simp] theorem State.setBit_fus (off i : Nat) : (s.setBit off i).fus = s.fus := rfl
@[simp] theorem State.setBit_fpp (off i : Nat) : (s.setBit off i).fpp = s.fpp := rfl
@[simp] theorem State.setBit_bsu (off i : Nat) : (s.setBit off i).bsu = s.bsu := rfl
@[simp] theorem State.setBit_map (off i : Nat) : (s.setBit off i).map = s.map := rfl
@[simp] theorem State.setBit_mxa (off i : Nat) : (s.setBit off i).mxa = s.mxa := rfl
@[simp] theorem State.setBit_gcr (off i : Nat) : (s.setBit off i).gcr = s.gcr := rfl
@[simp] theorem State.setBit_memt (off i : Nat) : (s.setBit off i).memt = s.memt := rfl
@[simp] theorem State.setBit_tdm (off i : Nat) : (s.setBit off i).tdm = s.tdm := rfl
@[simp] theorem State.setBit_pel (off i : Nat) : (s.setBit off i).pel = s.pel := rfl
@[simp] theorem State.setBit_met (off i : Nat) : (s.setBit off i).met = s.met := rfl
@[simp] theorem State.setBit_obs (off i : Nat) : (s.setBit off i).obs = s.obs := rfl
@[simp] theorem State.setBit_crb (off i : Nat) : (s.setBit off i).crb = s.crb := rfl
@[simp] theorem State.setBit_free (off i : Nat) : (s.setBit off i).free = s.free := rfl
@[simp] theorem State.setBit_pending (off i : Nat) : (s.setBit off i).pending = s.pending := rfl

@[simp] theorem State.clrBit_core (off i : Nat) : (s.clrBit off i).core = s.core := rfl
@[simp] theorem State.clrBit_mem (off i : Nat) : (s.clrBit off i).mem = s.mem := rfl
@[simp] theorem State.clrBit_host (off i : Nat) : (s.clrBit off i).host = s.host := rfl
@[simp] theorem State.clrBit_hif (off i : Nat) : (s.clrBit off i).hif = s.hif := rfl
@[simp] theorem State.clrBit_ccu (off i : Nat) : (s.clrBit off i).ccu = s.ccu := rfl
@[simp] theorem State.clrBit_tim (off i : Nat) : (s.clrBit off i).tim = s.tim := rfl
@[simp] theorem State.clrBit_net (off i : Nat) : (s.clrBit off i).net = s.net := rfl
@[simp] theorem State.clrBit_ing (off i : Nat) : (s.clrBit off i).ing = s.ing := rfl
@[simp] theorem State.clrBit_dec (off i : Nat) : (s.clrBit off i).dec = s.dec := rfl
@[simp] theorem State.clrBit_vis (off i : Nat) : (s.clrBit off i).vis = s.vis := rfl
@[simp] theorem State.clrBit_fst (off i : Nat) : (s.clrBit off i).fst = s.fst := rfl
@[simp] theorem State.clrBit_fus (off i : Nat) : (s.clrBit off i).fus = s.fus := rfl
@[simp] theorem State.clrBit_fpp (off i : Nat) : (s.clrBit off i).fpp = s.fpp := rfl
@[simp] theorem State.clrBit_bsu (off i : Nat) : (s.clrBit off i).bsu = s.bsu := rfl
@[simp] theorem State.clrBit_map (off i : Nat) : (s.clrBit off i).map = s.map := rfl
@[simp] theorem State.clrBit_mxa (off i : Nat) : (s.clrBit off i).mxa = s.mxa := rfl
@[simp] theorem State.clrBit_gcr (off i : Nat) : (s.clrBit off i).gcr = s.gcr := rfl
@[simp] theorem State.clrBit_memt (off i : Nat) : (s.clrBit off i).memt = s.memt := rfl
@[simp] theorem State.clrBit_tdm (off i : Nat) : (s.clrBit off i).tdm = s.tdm := rfl
@[simp] theorem State.clrBit_pel (off i : Nat) : (s.clrBit off i).pel = s.pel := rfl
@[simp] theorem State.clrBit_met (off i : Nat) : (s.clrBit off i).met = s.met := rfl
@[simp] theorem State.clrBit_obs (off i : Nat) : (s.clrBit off i).obs = s.obs := rfl
@[simp] theorem State.clrBit_crb (off i : Nat) : (s.clrBit off i).crb = s.crb := rfl
@[simp] theorem State.clrBit_free (off i : Nat) : (s.clrBit off i).free = s.free := rfl
@[simp] theorem State.clrBit_pending (off i : Nat) : (s.clrBit off i).pending = s.pending := rfl

@[simp] theorem State.putBit_core (off i : Nat) (b : Bool) : (s.putBit off i b).core = s.core := rfl
@[simp] theorem State.putBit_mem (off i : Nat) (b : Bool) : (s.putBit off i b).mem = s.mem := rfl
@[simp] theorem State.putBit_host (off i : Nat) (b : Bool) : (s.putBit off i b).host = s.host := rfl
@[simp] theorem State.putBit_hif (off i : Nat) (b : Bool) : (s.putBit off i b).hif = s.hif := rfl
@[simp] theorem State.putBit_ccu (off i : Nat) (b : Bool) : (s.putBit off i b).ccu = s.ccu := rfl
@[simp] theorem State.putBit_tim (off i : Nat) (b : Bool) : (s.putBit off i b).tim = s.tim := rfl
@[simp] theorem State.putBit_net (off i : Nat) (b : Bool) : (s.putBit off i b).net = s.net := rfl
@[simp] theorem State.putBit_ing (off i : Nat) (b : Bool) : (s.putBit off i b).ing = s.ing := rfl
@[simp] theorem State.putBit_dec (off i : Nat) (b : Bool) : (s.putBit off i b).dec = s.dec := rfl
@[simp] theorem State.putBit_vis (off i : Nat) (b : Bool) : (s.putBit off i b).vis = s.vis := rfl
@[simp] theorem State.putBit_fst (off i : Nat) (b : Bool) : (s.putBit off i b).fst = s.fst := rfl
@[simp] theorem State.putBit_fus (off i : Nat) (b : Bool) : (s.putBit off i b).fus = s.fus := rfl
@[simp] theorem State.putBit_fpp (off i : Nat) (b : Bool) : (s.putBit off i b).fpp = s.fpp := rfl
@[simp] theorem State.putBit_bsu (off i : Nat) (b : Bool) : (s.putBit off i b).bsu = s.bsu := rfl
@[simp] theorem State.putBit_map (off i : Nat) (b : Bool) : (s.putBit off i b).map = s.map := rfl
@[simp] theorem State.putBit_mxa (off i : Nat) (b : Bool) : (s.putBit off i b).mxa = s.mxa := rfl
@[simp] theorem State.putBit_gcr (off i : Nat) (b : Bool) : (s.putBit off i b).gcr = s.gcr := rfl
@[simp] theorem State.putBit_memt (off i : Nat) (b : Bool) : (s.putBit off i b).memt = s.memt := rfl
@[simp] theorem State.putBit_tdm (off i : Nat) (b : Bool) : (s.putBit off i b).tdm = s.tdm := rfl
@[simp] theorem State.putBit_pel (off i : Nat) (b : Bool) : (s.putBit off i b).pel = s.pel := rfl
@[simp] theorem State.putBit_met (off i : Nat) (b : Bool) : (s.putBit off i b).met = s.met := rfl
@[simp] theorem State.putBit_obs (off i : Nat) (b : Bool) : (s.putBit off i b).obs = s.obs := rfl
@[simp] theorem State.putBit_crb (off i : Nat) (b : Bool) : (s.putBit off i b).crb = s.crb := rfl
@[simp] theorem State.putBit_free (off i : Nat) (b : Bool) : (s.putBit off i b).free = s.free := rfl
@[simp] theorem State.putBit_pending (off i : Nat) (b : Bool) : (s.putBit off i b).pending = s.pending := rfl

@[simp] theorem State.setPair_core (lo hi v : Nat) : (s.setPair lo hi v).core = s.core := rfl
@[simp] theorem State.setPair_mem (lo hi v : Nat) : (s.setPair lo hi v).mem = s.mem := rfl
@[simp] theorem State.setPair_host (lo hi v : Nat) : (s.setPair lo hi v).host = s.host := rfl
@[simp] theorem State.setPair_hif (lo hi v : Nat) : (s.setPair lo hi v).hif = s.hif := rfl
@[simp] theorem State.setPair_ccu (lo hi v : Nat) : (s.setPair lo hi v).ccu = s.ccu := rfl
@[simp] theorem State.setPair_tim (lo hi v : Nat) : (s.setPair lo hi v).tim = s.tim := rfl
@[simp] theorem State.setPair_net (lo hi v : Nat) : (s.setPair lo hi v).net = s.net := rfl
@[simp] theorem State.setPair_ing (lo hi v : Nat) : (s.setPair lo hi v).ing = s.ing := rfl
@[simp] theorem State.setPair_dec (lo hi v : Nat) : (s.setPair lo hi v).dec = s.dec := rfl
@[simp] theorem State.setPair_vis (lo hi v : Nat) : (s.setPair lo hi v).vis = s.vis := rfl
@[simp] theorem State.setPair_fst (lo hi v : Nat) : (s.setPair lo hi v).fst = s.fst := rfl
@[simp] theorem State.setPair_fus (lo hi v : Nat) : (s.setPair lo hi v).fus = s.fus := rfl
@[simp] theorem State.setPair_fpp (lo hi v : Nat) : (s.setPair lo hi v).fpp = s.fpp := rfl
@[simp] theorem State.setPair_bsu (lo hi v : Nat) : (s.setPair lo hi v).bsu = s.bsu := rfl
@[simp] theorem State.setPair_map (lo hi v : Nat) : (s.setPair lo hi v).map = s.map := rfl
@[simp] theorem State.setPair_mxa (lo hi v : Nat) : (s.setPair lo hi v).mxa = s.mxa := rfl
@[simp] theorem State.setPair_gcr (lo hi v : Nat) : (s.setPair lo hi v).gcr = s.gcr := rfl
@[simp] theorem State.setPair_memt (lo hi v : Nat) : (s.setPair lo hi v).memt = s.memt := rfl
@[simp] theorem State.setPair_tdm (lo hi v : Nat) : (s.setPair lo hi v).tdm = s.tdm := rfl
@[simp] theorem State.setPair_pel (lo hi v : Nat) : (s.setPair lo hi v).pel = s.pel := rfl
@[simp] theorem State.setPair_met (lo hi v : Nat) : (s.setPair lo hi v).met = s.met := rfl
@[simp] theorem State.setPair_obs (lo hi v : Nat) : (s.setPair lo hi v).obs = s.obs := rfl
@[simp] theorem State.setPair_crb (lo hi v : Nat) : (s.setPair lo hi v).crb = s.crb := rfl
@[simp] theorem State.setPair_free (lo hi v : Nat) : (s.setPair lo hi v).free = s.free := rfl
@[simp] theorem State.setPair_pending (lo hi v : Nat) : (s.setPair lo hi v).pending = s.pending := rfl

@[simp] theorem State.drawFree_core : (s.drawFree).core = s.core := rfl
@[simp] theorem State.drawFree_regs : (s.drawFree).regs = s.regs := rfl
@[simp] theorem State.drawFree_mem : (s.drawFree).mem = s.mem := rfl
@[simp] theorem State.drawFree_host : (s.drawFree).host = s.host := rfl
@[simp] theorem State.drawFree_hif : (s.drawFree).hif = s.hif := rfl
@[simp] theorem State.drawFree_ccu : (s.drawFree).ccu = s.ccu := rfl
@[simp] theorem State.drawFree_tim : (s.drawFree).tim = s.tim := rfl
@[simp] theorem State.drawFree_net : (s.drawFree).net = s.net := rfl
@[simp] theorem State.drawFree_ing : (s.drawFree).ing = s.ing := rfl
@[simp] theorem State.drawFree_dec : (s.drawFree).dec = s.dec := rfl
@[simp] theorem State.drawFree_vis : (s.drawFree).vis = s.vis := rfl
@[simp] theorem State.drawFree_fst : (s.drawFree).fst = s.fst := rfl
@[simp] theorem State.drawFree_fus : (s.drawFree).fus = s.fus := rfl
@[simp] theorem State.drawFree_fpp : (s.drawFree).fpp = s.fpp := rfl
@[simp] theorem State.drawFree_bsu : (s.drawFree).bsu = s.bsu := rfl
@[simp] theorem State.drawFree_map : (s.drawFree).map = s.map := rfl
@[simp] theorem State.drawFree_mxa : (s.drawFree).mxa = s.mxa := rfl
@[simp] theorem State.drawFree_gcr : (s.drawFree).gcr = s.gcr := rfl
@[simp] theorem State.drawFree_memt : (s.drawFree).memt = s.memt := rfl
@[simp] theorem State.drawFree_tdm : (s.drawFree).tdm = s.tdm := rfl
@[simp] theorem State.drawFree_pel : (s.drawFree).pel = s.pel := rfl
@[simp] theorem State.drawFree_met : (s.drawFree).met = s.met := rfl
@[simp] theorem State.drawFree_obs : (s.drawFree).obs = s.obs := rfl
@[simp] theorem State.drawFree_crb : (s.drawFree).crb = s.crb := rfl
@[simp] theorem State.drawFree_pending : (s.drawFree).pending = s.pending := rfl

@[simp] theorem State.drawFrees_core (n : Nat) : (s.drawFrees n).core = s.core := rfl
@[simp] theorem State.drawFrees_regs (n : Nat) : (s.drawFrees n).regs = s.regs := rfl
@[simp] theorem State.drawFrees_mem (n : Nat) : (s.drawFrees n).mem = s.mem := rfl
@[simp] theorem State.drawFrees_host (n : Nat) : (s.drawFrees n).host = s.host := rfl
@[simp] theorem State.drawFrees_hif (n : Nat) : (s.drawFrees n).hif = s.hif := rfl
@[simp] theorem State.drawFrees_ccu (n : Nat) : (s.drawFrees n).ccu = s.ccu := rfl
@[simp] theorem State.drawFrees_tim (n : Nat) : (s.drawFrees n).tim = s.tim := rfl
@[simp] theorem State.drawFrees_net (n : Nat) : (s.drawFrees n).net = s.net := rfl
@[simp] theorem State.drawFrees_ing (n : Nat) : (s.drawFrees n).ing = s.ing := rfl
@[simp] theorem State.drawFrees_dec (n : Nat) : (s.drawFrees n).dec = s.dec := rfl
@[simp] theorem State.drawFrees_vis (n : Nat) : (s.drawFrees n).vis = s.vis := rfl
@[simp] theorem State.drawFrees_fst (n : Nat) : (s.drawFrees n).fst = s.fst := rfl
@[simp] theorem State.drawFrees_fus (n : Nat) : (s.drawFrees n).fus = s.fus := rfl
@[simp] theorem State.drawFrees_fpp (n : Nat) : (s.drawFrees n).fpp = s.fpp := rfl
@[simp] theorem State.drawFrees_bsu (n : Nat) : (s.drawFrees n).bsu = s.bsu := rfl
@[simp] theorem State.drawFrees_map (n : Nat) : (s.drawFrees n).map = s.map := rfl
@[simp] theorem State.drawFrees_mxa (n : Nat) : (s.drawFrees n).mxa = s.mxa := rfl
@[simp] theorem State.drawFrees_gcr (n : Nat) : (s.drawFrees n).gcr = s.gcr := rfl
@[simp] theorem State.drawFrees_memt (n : Nat) : (s.drawFrees n).memt = s.memt := rfl
@[simp] theorem State.drawFrees_tdm (n : Nat) : (s.drawFrees n).tdm = s.tdm := rfl
@[simp] theorem State.drawFrees_pel (n : Nat) : (s.drawFrees n).pel = s.pel := rfl
@[simp] theorem State.drawFrees_met (n : Nat) : (s.drawFrees n).met = s.met := rfl
@[simp] theorem State.drawFrees_obs (n : Nat) : (s.drawFrees n).obs = s.obs := rfl
@[simp] theorem State.drawFrees_crb (n : Nat) : (s.drawFrees n).crb = s.crb := rfl
@[simp] theorem State.drawFrees_pending (n : Nat) : (s.drawFrees n).pending = s.pending := rfl

@[simp] theorem State.runTo_regs (core : Nat) : (s.runTo core).regs = s.regs := rfl
@[simp] theorem State.runTo_mem (core : Nat) : (s.runTo core).mem = s.mem := rfl
@[simp] theorem State.runTo_host (core : Nat) : (s.runTo core).host = s.host := rfl
@[simp] theorem State.runTo_hif (core : Nat) : (s.runTo core).hif = s.hif := rfl
@[simp] theorem State.runTo_ccu (core : Nat) : (s.runTo core).ccu = s.ccu := rfl
@[simp] theorem State.runTo_tim (core : Nat) : (s.runTo core).tim = s.tim := rfl
@[simp] theorem State.runTo_net (core : Nat) : (s.runTo core).net = s.net := rfl
@[simp] theorem State.runTo_ing (core : Nat) : (s.runTo core).ing = s.ing := rfl
@[simp] theorem State.runTo_dec (core : Nat) : (s.runTo core).dec = s.dec := rfl
@[simp] theorem State.runTo_vis (core : Nat) : (s.runTo core).vis = s.vis := rfl
@[simp] theorem State.runTo_fst (core : Nat) : (s.runTo core).fst = s.fst := rfl
@[simp] theorem State.runTo_fus (core : Nat) : (s.runTo core).fus = s.fus := rfl
@[simp] theorem State.runTo_fpp (core : Nat) : (s.runTo core).fpp = s.fpp := rfl
@[simp] theorem State.runTo_bsu (core : Nat) : (s.runTo core).bsu = s.bsu := rfl
@[simp] theorem State.runTo_map (core : Nat) : (s.runTo core).map = s.map := rfl
@[simp] theorem State.runTo_mxa (core : Nat) : (s.runTo core).mxa = s.mxa := rfl
@[simp] theorem State.runTo_gcr (core : Nat) : (s.runTo core).gcr = s.gcr := rfl
@[simp] theorem State.runTo_memt (core : Nat) : (s.runTo core).memt = s.memt := rfl
@[simp] theorem State.runTo_tdm (core : Nat) : (s.runTo core).tdm = s.tdm := rfl
@[simp] theorem State.runTo_pel (core : Nat) : (s.runTo core).pel = s.pel := rfl
@[simp] theorem State.runTo_met (core : Nat) : (s.runTo core).met = s.met := rfl
@[simp] theorem State.runTo_obs (core : Nat) : (s.runTo core).obs = s.obs := rfl
@[simp] theorem State.runTo_crb (core : Nat) : (s.runTo core).crb = s.crb := rfl
@[simp] theorem State.runTo_free (core : Nat) : (s.runTo core).free = s.free := rfl
@[simp] theorem State.runTo_pending (core : Nat) : (s.runTo core).pending = s.pending := rfl

@[simp] theorem State.runToTime_regs (t : Nat) : (s.runToTime t).regs = s.regs := rfl
@[simp] theorem State.runToTime_mem (t : Nat) : (s.runToTime t).mem = s.mem := rfl
@[simp] theorem State.runToTime_host (t : Nat) : (s.runToTime t).host = s.host := rfl
@[simp] theorem State.runToTime_hif (t : Nat) : (s.runToTime t).hif = s.hif := rfl
@[simp] theorem State.runToTime_ccu (t : Nat) : (s.runToTime t).ccu = s.ccu := rfl
@[simp] theorem State.runToTime_tim (t : Nat) : (s.runToTime t).tim = s.tim := rfl
@[simp] theorem State.runToTime_net (t : Nat) : (s.runToTime t).net = s.net := rfl
@[simp] theorem State.runToTime_ing (t : Nat) : (s.runToTime t).ing = s.ing := rfl
@[simp] theorem State.runToTime_dec (t : Nat) : (s.runToTime t).dec = s.dec := rfl
@[simp] theorem State.runToTime_vis (t : Nat) : (s.runToTime t).vis = s.vis := rfl
@[simp] theorem State.runToTime_fst (t : Nat) : (s.runToTime t).fst = s.fst := rfl
@[simp] theorem State.runToTime_fus (t : Nat) : (s.runToTime t).fus = s.fus := rfl
@[simp] theorem State.runToTime_fpp (t : Nat) : (s.runToTime t).fpp = s.fpp := rfl
@[simp] theorem State.runToTime_bsu (t : Nat) : (s.runToTime t).bsu = s.bsu := rfl
@[simp] theorem State.runToTime_map (t : Nat) : (s.runToTime t).map = s.map := rfl
@[simp] theorem State.runToTime_mxa (t : Nat) : (s.runToTime t).mxa = s.mxa := rfl
@[simp] theorem State.runToTime_gcr (t : Nat) : (s.runToTime t).gcr = s.gcr := rfl
@[simp] theorem State.runToTime_memt (t : Nat) : (s.runToTime t).memt = s.memt := rfl
@[simp] theorem State.runToTime_tdm (t : Nat) : (s.runToTime t).tdm = s.tdm := rfl
@[simp] theorem State.runToTime_pel (t : Nat) : (s.runToTime t).pel = s.pel := rfl
@[simp] theorem State.runToTime_met (t : Nat) : (s.runToTime t).met = s.met := rfl
@[simp] theorem State.runToTime_obs (t : Nat) : (s.runToTime t).obs = s.obs := rfl
@[simp] theorem State.runToTime_crb (t : Nat) : (s.runToTime t).crb = s.crb := rfl
@[simp] theorem State.runToTime_free (t : Nat) : (s.runToTime t).free = s.free := rfl
@[simp] theorem State.runToTime_pending (t : Nat) : (s.runToTime t).pending = s.pending := rfl

@[simp] theorem State.countN_core (sub i n : Nat) : (s.countN sub i n).core = s.core := rfl
@[simp] theorem State.countN_regs (sub i n : Nat) : (s.countN sub i n).regs = s.regs := rfl
@[simp] theorem State.countN_mem (sub i n : Nat) : (s.countN sub i n).mem = s.mem := rfl
@[simp] theorem State.countN_host (sub i n : Nat) : (s.countN sub i n).host = s.host := rfl
@[simp] theorem State.countN_hif (sub i n : Nat) : (s.countN sub i n).hif = s.hif := rfl
@[simp] theorem State.countN_ccu (sub i n : Nat) : (s.countN sub i n).ccu = s.ccu := rfl
@[simp] theorem State.countN_tim (sub i n : Nat) : (s.countN sub i n).tim = s.tim := rfl
@[simp] theorem State.countN_net (sub i n : Nat) : (s.countN sub i n).net = s.net := rfl
@[simp] theorem State.countN_ing (sub i n : Nat) : (s.countN sub i n).ing = s.ing := rfl
@[simp] theorem State.countN_dec (sub i n : Nat) : (s.countN sub i n).dec = s.dec := rfl
@[simp] theorem State.countN_vis (sub i n : Nat) : (s.countN sub i n).vis = s.vis := rfl
@[simp] theorem State.countN_fst (sub i n : Nat) : (s.countN sub i n).fst = s.fst := rfl
@[simp] theorem State.countN_fus (sub i n : Nat) : (s.countN sub i n).fus = s.fus := rfl
@[simp] theorem State.countN_fpp (sub i n : Nat) : (s.countN sub i n).fpp = s.fpp := rfl
@[simp] theorem State.countN_bsu (sub i n : Nat) : (s.countN sub i n).bsu = s.bsu := rfl
@[simp] theorem State.countN_map (sub i n : Nat) : (s.countN sub i n).map = s.map := rfl
@[simp] theorem State.countN_mxa (sub i n : Nat) : (s.countN sub i n).mxa = s.mxa := rfl
@[simp] theorem State.countN_gcr (sub i n : Nat) : (s.countN sub i n).gcr = s.gcr := rfl
@[simp] theorem State.countN_memt (sub i n : Nat) : (s.countN sub i n).memt = s.memt := rfl
@[simp] theorem State.countN_tdm (sub i n : Nat) : (s.countN sub i n).tdm = s.tdm := rfl
@[simp] theorem State.countN_pel (sub i n : Nat) : (s.countN sub i n).pel = s.pel := rfl
@[simp] theorem State.countN_met (sub i n : Nat) : (s.countN sub i n).met = s.met := rfl
@[simp] theorem State.countN_crb (sub i n : Nat) : (s.countN sub i n).crb = s.crb := rfl
@[simp] theorem State.countN_free (sub i n : Nat) : (s.countN sub i n).free = s.free := rfl
@[simp] theorem State.countN_pending (sub i n : Nat) : (s.countN sub i n).pending = s.pending := rfl

@[simp] theorem State.count_core (sub i : Nat) : (s.count sub i).core = s.core := rfl
@[simp] theorem State.count_regs (sub i : Nat) : (s.count sub i).regs = s.regs := rfl
@[simp] theorem State.count_mem (sub i : Nat) : (s.count sub i).mem = s.mem := rfl
@[simp] theorem State.count_host (sub i : Nat) : (s.count sub i).host = s.host := rfl
@[simp] theorem State.count_hif (sub i : Nat) : (s.count sub i).hif = s.hif := rfl
@[simp] theorem State.count_ccu (sub i : Nat) : (s.count sub i).ccu = s.ccu := rfl
@[simp] theorem State.count_tim (sub i : Nat) : (s.count sub i).tim = s.tim := rfl
@[simp] theorem State.count_net (sub i : Nat) : (s.count sub i).net = s.net := rfl
@[simp] theorem State.count_ing (sub i : Nat) : (s.count sub i).ing = s.ing := rfl
@[simp] theorem State.count_dec (sub i : Nat) : (s.count sub i).dec = s.dec := rfl
@[simp] theorem State.count_vis (sub i : Nat) : (s.count sub i).vis = s.vis := rfl
@[simp] theorem State.count_fst (sub i : Nat) : (s.count sub i).fst = s.fst := rfl
@[simp] theorem State.count_fus (sub i : Nat) : (s.count sub i).fus = s.fus := rfl
@[simp] theorem State.count_fpp (sub i : Nat) : (s.count sub i).fpp = s.fpp := rfl
@[simp] theorem State.count_bsu (sub i : Nat) : (s.count sub i).bsu = s.bsu := rfl
@[simp] theorem State.count_map (sub i : Nat) : (s.count sub i).map = s.map := rfl
@[simp] theorem State.count_mxa (sub i : Nat) : (s.count sub i).mxa = s.mxa := rfl
@[simp] theorem State.count_gcr (sub i : Nat) : (s.count sub i).gcr = s.gcr := rfl
@[simp] theorem State.count_memt (sub i : Nat) : (s.count sub i).memt = s.memt := rfl
@[simp] theorem State.count_tdm (sub i : Nat) : (s.count sub i).tdm = s.tdm := rfl
@[simp] theorem State.count_pel (sub i : Nat) : (s.count sub i).pel = s.pel := rfl
@[simp] theorem State.count_met (sub i : Nat) : (s.count sub i).met = s.met := rfl
@[simp] theorem State.count_crb (sub i : Nat) : (s.count sub i).crb = s.crb := rfl
@[simp] theorem State.count_free (sub i : Nat) : (s.count sub i).free = s.free := rfl
@[simp] theorem State.count_pending (sub i : Nat) : (s.count sub i).pending = s.pending := rfl

@[simp] theorem State.updFunc_core (id : Nat) (f : Func → Func) : (s.updFunc id f).core = s.core := rfl
@[simp] theorem State.updFunc_regs (id : Nat) (f : Func → Func) : (s.updFunc id f).regs = s.regs := rfl
@[simp] theorem State.updFunc_mem (id : Nat) (f : Func → Func) : (s.updFunc id f).mem = s.mem := rfl
@[simp] theorem State.updFunc_host (id : Nat) (f : Func → Func) : (s.updFunc id f).host = s.host := rfl
@[simp] theorem State.updFunc_hif (id : Nat) (f : Func → Func) : (s.updFunc id f).hif = s.hif := rfl
@[simp] theorem State.updFunc_tim (id : Nat) (f : Func → Func) : (s.updFunc id f).tim = s.tim := rfl
@[simp] theorem State.updFunc_net (id : Nat) (f : Func → Func) : (s.updFunc id f).net = s.net := rfl
@[simp] theorem State.updFunc_ing (id : Nat) (f : Func → Func) : (s.updFunc id f).ing = s.ing := rfl
@[simp] theorem State.updFunc_dec (id : Nat) (f : Func → Func) : (s.updFunc id f).dec = s.dec := rfl
@[simp] theorem State.updFunc_vis (id : Nat) (f : Func → Func) : (s.updFunc id f).vis = s.vis := rfl
@[simp] theorem State.updFunc_fst (id : Nat) (f : Func → Func) : (s.updFunc id f).fst = s.fst := rfl
@[simp] theorem State.updFunc_fus (id : Nat) (f : Func → Func) : (s.updFunc id f).fus = s.fus := rfl
@[simp] theorem State.updFunc_fpp (id : Nat) (f : Func → Func) : (s.updFunc id f).fpp = s.fpp := rfl
@[simp] theorem State.updFunc_bsu (id : Nat) (f : Func → Func) : (s.updFunc id f).bsu = s.bsu := rfl
@[simp] theorem State.updFunc_map (id : Nat) (f : Func → Func) : (s.updFunc id f).map = s.map := rfl
@[simp] theorem State.updFunc_mxa (id : Nat) (f : Func → Func) : (s.updFunc id f).mxa = s.mxa := rfl
@[simp] theorem State.updFunc_gcr (id : Nat) (f : Func → Func) : (s.updFunc id f).gcr = s.gcr := rfl
@[simp] theorem State.updFunc_memt (id : Nat) (f : Func → Func) : (s.updFunc id f).memt = s.memt := rfl
@[simp] theorem State.updFunc_tdm (id : Nat) (f : Func → Func) : (s.updFunc id f).tdm = s.tdm := rfl
@[simp] theorem State.updFunc_pel (id : Nat) (f : Func → Func) : (s.updFunc id f).pel = s.pel := rfl
@[simp] theorem State.updFunc_met (id : Nat) (f : Func → Func) : (s.updFunc id f).met = s.met := rfl
@[simp] theorem State.updFunc_obs (id : Nat) (f : Func → Func) : (s.updFunc id f).obs = s.obs := rfl
@[simp] theorem State.updFunc_crb (id : Nat) (f : Func → Func) : (s.updFunc id f).crb = s.crb := rfl
@[simp] theorem State.updFunc_free (id : Nat) (f : Func → Func) : (s.updFunc id f).free = s.free := rfl
@[simp] theorem State.updFunc_pending (id : Nat) (f : Func → Func) : (s.updFunc id f).pending = s.pending := rfl

@[simp] theorem State.updSlot_core (n : Nat) (f : Slot → Slot) : (s.updSlot n f).core = s.core := rfl
@[simp] theorem State.updSlot_regs (n : Nat) (f : Slot → Slot) : (s.updSlot n f).regs = s.regs := rfl
@[simp] theorem State.updSlot_mem (n : Nat) (f : Slot → Slot) : (s.updSlot n f).mem = s.mem := rfl
@[simp] theorem State.updSlot_host (n : Nat) (f : Slot → Slot) : (s.updSlot n f).host = s.host := rfl
@[simp] theorem State.updSlot_hif (n : Nat) (f : Slot → Slot) : (s.updSlot n f).hif = s.hif := rfl
@[simp] theorem State.updSlot_tim (n : Nat) (f : Slot → Slot) : (s.updSlot n f).tim = s.tim := rfl
@[simp] theorem State.updSlot_net (n : Nat) (f : Slot → Slot) : (s.updSlot n f).net = s.net := rfl
@[simp] theorem State.updSlot_ing (n : Nat) (f : Slot → Slot) : (s.updSlot n f).ing = s.ing := rfl
@[simp] theorem State.updSlot_dec (n : Nat) (f : Slot → Slot) : (s.updSlot n f).dec = s.dec := rfl
@[simp] theorem State.updSlot_vis (n : Nat) (f : Slot → Slot) : (s.updSlot n f).vis = s.vis := rfl
@[simp] theorem State.updSlot_fst (n : Nat) (f : Slot → Slot) : (s.updSlot n f).fst = s.fst := rfl
@[simp] theorem State.updSlot_fus (n : Nat) (f : Slot → Slot) : (s.updSlot n f).fus = s.fus := rfl
@[simp] theorem State.updSlot_fpp (n : Nat) (f : Slot → Slot) : (s.updSlot n f).fpp = s.fpp := rfl
@[simp] theorem State.updSlot_bsu (n : Nat) (f : Slot → Slot) : (s.updSlot n f).bsu = s.bsu := rfl
@[simp] theorem State.updSlot_map (n : Nat) (f : Slot → Slot) : (s.updSlot n f).map = s.map := rfl
@[simp] theorem State.updSlot_mxa (n : Nat) (f : Slot → Slot) : (s.updSlot n f).mxa = s.mxa := rfl
@[simp] theorem State.updSlot_gcr (n : Nat) (f : Slot → Slot) : (s.updSlot n f).gcr = s.gcr := rfl
@[simp] theorem State.updSlot_memt (n : Nat) (f : Slot → Slot) : (s.updSlot n f).memt = s.memt := rfl
@[simp] theorem State.updSlot_tdm (n : Nat) (f : Slot → Slot) : (s.updSlot n f).tdm = s.tdm := rfl
@[simp] theorem State.updSlot_pel (n : Nat) (f : Slot → Slot) : (s.updSlot n f).pel = s.pel := rfl
@[simp] theorem State.updSlot_met (n : Nat) (f : Slot → Slot) : (s.updSlot n f).met = s.met := rfl
@[simp] theorem State.updSlot_obs (n : Nat) (f : Slot → Slot) : (s.updSlot n f).obs = s.obs := rfl
@[simp] theorem State.updSlot_crb (n : Nat) (f : Slot → Slot) : (s.updSlot n f).crb = s.crb := rfl
@[simp] theorem State.updSlot_free (n : Nat) (f : Slot → Slot) : (s.updSlot n f).free = s.free := rfl
@[simp] theorem State.updSlot_pending (n : Nat) (f : Slot → Slot) : (s.updSlot n f).pending = s.pending := rfl

@[simp] theorem State.setReady_core (id : Nat) : (s.setReady id).core = s.core := rfl
@[simp] theorem State.setReady_regs (id : Nat) : (s.setReady id).regs = s.regs := rfl
@[simp] theorem State.setReady_mem (id : Nat) : (s.setReady id).mem = s.mem := rfl
@[simp] theorem State.setReady_host (id : Nat) : (s.setReady id).host = s.host := rfl
@[simp] theorem State.setReady_hif (id : Nat) : (s.setReady id).hif = s.hif := rfl
@[simp] theorem State.setReady_tim (id : Nat) : (s.setReady id).tim = s.tim := rfl
@[simp] theorem State.setReady_net (id : Nat) : (s.setReady id).net = s.net := rfl
@[simp] theorem State.setReady_ing (id : Nat) : (s.setReady id).ing = s.ing := rfl
@[simp] theorem State.setReady_dec (id : Nat) : (s.setReady id).dec = s.dec := rfl
@[simp] theorem State.setReady_vis (id : Nat) : (s.setReady id).vis = s.vis := rfl
@[simp] theorem State.setReady_fst (id : Nat) : (s.setReady id).fst = s.fst := rfl
@[simp] theorem State.setReady_fus (id : Nat) : (s.setReady id).fus = s.fus := rfl
@[simp] theorem State.setReady_fpp (id : Nat) : (s.setReady id).fpp = s.fpp := rfl
@[simp] theorem State.setReady_bsu (id : Nat) : (s.setReady id).bsu = s.bsu := rfl
@[simp] theorem State.setReady_map (id : Nat) : (s.setReady id).map = s.map := rfl
@[simp] theorem State.setReady_mxa (id : Nat) : (s.setReady id).mxa = s.mxa := rfl
@[simp] theorem State.setReady_gcr (id : Nat) : (s.setReady id).gcr = s.gcr := rfl
@[simp] theorem State.setReady_memt (id : Nat) : (s.setReady id).memt = s.memt := rfl
@[simp] theorem State.setReady_tdm (id : Nat) : (s.setReady id).tdm = s.tdm := rfl
@[simp] theorem State.setReady_pel (id : Nat) : (s.setReady id).pel = s.pel := rfl
@[simp] theorem State.setReady_met (id : Nat) : (s.setReady id).met = s.met := rfl
@[simp] theorem State.setReady_obs (id : Nat) : (s.setReady id).obs = s.obs := rfl
@[simp] theorem State.setReady_crb (id : Nat) : (s.setReady id).crb = s.crb := rfl
@[simp] theorem State.setReady_free (id : Nat) : (s.setReady id).free = s.free := rfl
@[simp] theorem State.setReady_pending (id : Nat) : (s.setReady id).pending = s.pending := rfl

@[simp] theorem State.useTok_core (cls n : Nat) : (s.useTok cls n).core = s.core := rfl
@[simp] theorem State.useTok_regs (cls n : Nat) : (s.useTok cls n).regs = s.regs := rfl
@[simp] theorem State.useTok_mem (cls n : Nat) : (s.useTok cls n).mem = s.mem := rfl
@[simp] theorem State.useTok_host (cls n : Nat) : (s.useTok cls n).host = s.host := rfl
@[simp] theorem State.useTok_hif (cls n : Nat) : (s.useTok cls n).hif = s.hif := rfl
@[simp] theorem State.useTok_tim (cls n : Nat) : (s.useTok cls n).tim = s.tim := rfl
@[simp] theorem State.useTok_net (cls n : Nat) : (s.useTok cls n).net = s.net := rfl
@[simp] theorem State.useTok_ing (cls n : Nat) : (s.useTok cls n).ing = s.ing := rfl
@[simp] theorem State.useTok_dec (cls n : Nat) : (s.useTok cls n).dec = s.dec := rfl
@[simp] theorem State.useTok_vis (cls n : Nat) : (s.useTok cls n).vis = s.vis := rfl
@[simp] theorem State.useTok_fst (cls n : Nat) : (s.useTok cls n).fst = s.fst := rfl
@[simp] theorem State.useTok_fus (cls n : Nat) : (s.useTok cls n).fus = s.fus := rfl
@[simp] theorem State.useTok_fpp (cls n : Nat) : (s.useTok cls n).fpp = s.fpp := rfl
@[simp] theorem State.useTok_bsu (cls n : Nat) : (s.useTok cls n).bsu = s.bsu := rfl
@[simp] theorem State.useTok_map (cls n : Nat) : (s.useTok cls n).map = s.map := rfl
@[simp] theorem State.useTok_mxa (cls n : Nat) : (s.useTok cls n).mxa = s.mxa := rfl
@[simp] theorem State.useTok_gcr (cls n : Nat) : (s.useTok cls n).gcr = s.gcr := rfl
@[simp] theorem State.useTok_memt (cls n : Nat) : (s.useTok cls n).memt = s.memt := rfl
@[simp] theorem State.useTok_tdm (cls n : Nat) : (s.useTok cls n).tdm = s.tdm := rfl
@[simp] theorem State.useTok_pel (cls n : Nat) : (s.useTok cls n).pel = s.pel := rfl
@[simp] theorem State.useTok_met (cls n : Nat) : (s.useTok cls n).met = s.met := rfl
@[simp] theorem State.useTok_obs (cls n : Nat) : (s.useTok cls n).obs = s.obs := rfl
@[simp] theorem State.useTok_crb (cls n : Nat) : (s.useTok cls n).crb = s.crb := rfl
@[simp] theorem State.useTok_free (cls n : Nat) : (s.useTok cls n).free = s.free := rfl
@[simp] theorem State.useTok_pending (cls n : Nat) : (s.useTok cls n).pending = s.pending := rfl

@[simp] theorem State.setBanks_core (sub e : Nat) (b : Banks) : (s.setBanks sub e b).core = s.core := rfl
@[simp] theorem State.setBanks_regs (sub e : Nat) (b : Banks) : (s.setBanks sub e b).regs = s.regs := rfl
@[simp] theorem State.setBanks_mem (sub e : Nat) (b : Banks) : (s.setBanks sub e b).mem = s.mem := rfl
@[simp] theorem State.setBanks_host (sub e : Nat) (b : Banks) : (s.setBanks sub e b).host = s.host := rfl
@[simp] theorem State.setBanks_hif (sub e : Nat) (b : Banks) : (s.setBanks sub e b).hif = s.hif := rfl
@[simp] theorem State.setBanks_ccu (sub e : Nat) (b : Banks) : (s.setBanks sub e b).ccu = s.ccu := rfl
@[simp] theorem State.setBanks_tim (sub e : Nat) (b : Banks) : (s.setBanks sub e b).tim = s.tim := rfl
@[simp] theorem State.setBanks_net (sub e : Nat) (b : Banks) : (s.setBanks sub e b).net = s.net := rfl
@[simp] theorem State.setBanks_ing (sub e : Nat) (b : Banks) : (s.setBanks sub e b).ing = s.ing := rfl
@[simp] theorem State.setBanks_dec (sub e : Nat) (b : Banks) : (s.setBanks sub e b).dec = s.dec := rfl
@[simp] theorem State.setBanks_vis (sub e : Nat) (b : Banks) : (s.setBanks sub e b).vis = s.vis := rfl
@[simp] theorem State.setBanks_fst (sub e : Nat) (b : Banks) : (s.setBanks sub e b).fst = s.fst := rfl
@[simp] theorem State.setBanks_fus (sub e : Nat) (b : Banks) : (s.setBanks sub e b).fus = s.fus := rfl
@[simp] theorem State.setBanks_fpp (sub e : Nat) (b : Banks) : (s.setBanks sub e b).fpp = s.fpp := rfl
@[simp] theorem State.setBanks_bsu (sub e : Nat) (b : Banks) : (s.setBanks sub e b).bsu = s.bsu := rfl
@[simp] theorem State.setBanks_map (sub e : Nat) (b : Banks) : (s.setBanks sub e b).map = s.map := rfl
@[simp] theorem State.setBanks_mxa (sub e : Nat) (b : Banks) : (s.setBanks sub e b).mxa = s.mxa := rfl
@[simp] theorem State.setBanks_gcr (sub e : Nat) (b : Banks) : (s.setBanks sub e b).gcr = s.gcr := rfl
@[simp] theorem State.setBanks_memt (sub e : Nat) (b : Banks) : (s.setBanks sub e b).memt = s.memt := rfl
@[simp] theorem State.setBanks_tdm (sub e : Nat) (b : Banks) : (s.setBanks sub e b).tdm = s.tdm := rfl
@[simp] theorem State.setBanks_pel (sub e : Nat) (b : Banks) : (s.setBanks sub e b).pel = s.pel := rfl
@[simp] theorem State.setBanks_met (sub e : Nat) (b : Banks) : (s.setBanks sub e b).met = s.met := rfl
@[simp] theorem State.setBanks_crb (sub e : Nat) (b : Banks) : (s.setBanks sub e b).crb = s.crb := rfl
@[simp] theorem State.setBanks_free (sub e : Nat) (b : Banks) : (s.setBanks sub e b).free = s.free := rfl
@[simp] theorem State.setBanks_pending (sub e : Nat) (b : Banks) : (s.setBanks sub e b).pending = s.pending := rfl

@[simp] theorem State.longDone_core (hseq status detail : Nat) (res : List Byte) : (s.longDone hseq status detail res).core = s.core := rfl
@[simp] theorem State.longDone_regs (hseq status detail : Nat) (res : List Byte) : (s.longDone hseq status detail res).regs = s.regs := rfl
@[simp] theorem State.longDone_mem (hseq status detail : Nat) (res : List Byte) : (s.longDone hseq status detail res).mem = s.mem := rfl
@[simp] theorem State.longDone_host (hseq status detail : Nat) (res : List Byte) : (s.longDone hseq status detail res).host = s.host := rfl
@[simp] theorem State.longDone_ccu (hseq status detail : Nat) (res : List Byte) : (s.longDone hseq status detail res).ccu = s.ccu := rfl
@[simp] theorem State.longDone_tim (hseq status detail : Nat) (res : List Byte) : (s.longDone hseq status detail res).tim = s.tim := rfl
@[simp] theorem State.longDone_net (hseq status detail : Nat) (res : List Byte) : (s.longDone hseq status detail res).net = s.net := rfl
@[simp] theorem State.longDone_ing (hseq status detail : Nat) (res : List Byte) : (s.longDone hseq status detail res).ing = s.ing := rfl
@[simp] theorem State.longDone_dec (hseq status detail : Nat) (res : List Byte) : (s.longDone hseq status detail res).dec = s.dec := rfl
@[simp] theorem State.longDone_vis (hseq status detail : Nat) (res : List Byte) : (s.longDone hseq status detail res).vis = s.vis := rfl
@[simp] theorem State.longDone_fst (hseq status detail : Nat) (res : List Byte) : (s.longDone hseq status detail res).fst = s.fst := rfl
@[simp] theorem State.longDone_fus (hseq status detail : Nat) (res : List Byte) : (s.longDone hseq status detail res).fus = s.fus := rfl
@[simp] theorem State.longDone_fpp (hseq status detail : Nat) (res : List Byte) : (s.longDone hseq status detail res).fpp = s.fpp := rfl
@[simp] theorem State.longDone_bsu (hseq status detail : Nat) (res : List Byte) : (s.longDone hseq status detail res).bsu = s.bsu := rfl
@[simp] theorem State.longDone_map (hseq status detail : Nat) (res : List Byte) : (s.longDone hseq status detail res).map = s.map := rfl
@[simp] theorem State.longDone_mxa (hseq status detail : Nat) (res : List Byte) : (s.longDone hseq status detail res).mxa = s.mxa := rfl
@[simp] theorem State.longDone_gcr (hseq status detail : Nat) (res : List Byte) : (s.longDone hseq status detail res).gcr = s.gcr := rfl
@[simp] theorem State.longDone_memt (hseq status detail : Nat) (res : List Byte) : (s.longDone hseq status detail res).memt = s.memt := rfl
@[simp] theorem State.longDone_tdm (hseq status detail : Nat) (res : List Byte) : (s.longDone hseq status detail res).tdm = s.tdm := rfl
@[simp] theorem State.longDone_pel (hseq status detail : Nat) (res : List Byte) : (s.longDone hseq status detail res).pel = s.pel := rfl
@[simp] theorem State.longDone_met (hseq status detail : Nat) (res : List Byte) : (s.longDone hseq status detail res).met = s.met := rfl
@[simp] theorem State.longDone_obs (hseq status detail : Nat) (res : List Byte) : (s.longDone hseq status detail res).obs = s.obs := rfl
@[simp] theorem State.longDone_crb (hseq status detail : Nat) (res : List Byte) : (s.longDone hseq status detail res).crb = s.crb := rfl
@[simp] theorem State.longDone_free (hseq status detail : Nat) (res : List Byte) : (s.longDone hseq status detail res).free = s.free := rfl
@[simp] theorem State.longDone_pending (hseq status detail : Nat) (res : List Byte) : (s.longDone hseq status detail res).pending = s.pending := rfl

@[simp] theorem State.hostSt_core (a : Nat) (bs : List Byte) : (s.hostSt a bs).core = s.core := rfl
@[simp] theorem State.hostSt_regs (a : Nat) (bs : List Byte) : (s.hostSt a bs).regs = s.regs := rfl
@[simp] theorem State.hostSt_mem (a : Nat) (bs : List Byte) : (s.hostSt a bs).mem = s.mem := rfl
@[simp] theorem State.hostSt_hif (a : Nat) (bs : List Byte) : (s.hostSt a bs).hif = s.hif := rfl
@[simp] theorem State.hostSt_ccu (a : Nat) (bs : List Byte) : (s.hostSt a bs).ccu = s.ccu := rfl
@[simp] theorem State.hostSt_tim (a : Nat) (bs : List Byte) : (s.hostSt a bs).tim = s.tim := rfl
@[simp] theorem State.hostSt_net (a : Nat) (bs : List Byte) : (s.hostSt a bs).net = s.net := rfl
@[simp] theorem State.hostSt_ing (a : Nat) (bs : List Byte) : (s.hostSt a bs).ing = s.ing := rfl
@[simp] theorem State.hostSt_dec (a : Nat) (bs : List Byte) : (s.hostSt a bs).dec = s.dec := rfl
@[simp] theorem State.hostSt_vis (a : Nat) (bs : List Byte) : (s.hostSt a bs).vis = s.vis := rfl
@[simp] theorem State.hostSt_fst (a : Nat) (bs : List Byte) : (s.hostSt a bs).fst = s.fst := rfl
@[simp] theorem State.hostSt_fus (a : Nat) (bs : List Byte) : (s.hostSt a bs).fus = s.fus := rfl
@[simp] theorem State.hostSt_fpp (a : Nat) (bs : List Byte) : (s.hostSt a bs).fpp = s.fpp := rfl
@[simp] theorem State.hostSt_bsu (a : Nat) (bs : List Byte) : (s.hostSt a bs).bsu = s.bsu := rfl
@[simp] theorem State.hostSt_map (a : Nat) (bs : List Byte) : (s.hostSt a bs).map = s.map := rfl
@[simp] theorem State.hostSt_mxa (a : Nat) (bs : List Byte) : (s.hostSt a bs).mxa = s.mxa := rfl
@[simp] theorem State.hostSt_gcr (a : Nat) (bs : List Byte) : (s.hostSt a bs).gcr = s.gcr := rfl
@[simp] theorem State.hostSt_memt (a : Nat) (bs : List Byte) : (s.hostSt a bs).memt = s.memt := rfl
@[simp] theorem State.hostSt_tdm (a : Nat) (bs : List Byte) : (s.hostSt a bs).tdm = s.tdm := rfl
@[simp] theorem State.hostSt_pel (a : Nat) (bs : List Byte) : (s.hostSt a bs).pel = s.pel := rfl
@[simp] theorem State.hostSt_met (a : Nat) (bs : List Byte) : (s.hostSt a bs).met = s.met := rfl
@[simp] theorem State.hostSt_obs (a : Nat) (bs : List Byte) : (s.hostSt a bs).obs = s.obs := rfl
@[simp] theorem State.hostSt_crb (a : Nat) (bs : List Byte) : (s.hostSt a bs).crb = s.crb := rfl
@[simp] theorem State.hostSt_free (a : Nat) (bs : List Byte) : (s.hostSt a bs).free = s.free := rfl
@[simp] theorem State.hostSt_pending (a : Nat) (bs : List Byte) : (s.hostSt a bs).pending = s.pending := rfl

@[simp] theorem State.touch_core (a n : Nat) : (s.touch a n).core = s.core := rfl
@[simp] theorem State.touch_regs (a n : Nat) : (s.touch a n).regs = s.regs := rfl
@[simp] theorem State.touch_mem (a n : Nat) : (s.touch a n).mem = s.mem := rfl
@[simp] theorem State.touch_host (a n : Nat) : (s.touch a n).host = s.host := rfl
@[simp] theorem State.touch_hif (a n : Nat) : (s.touch a n).hif = s.hif := rfl
@[simp] theorem State.touch_ccu (a n : Nat) : (s.touch a n).ccu = s.ccu := rfl
@[simp] theorem State.touch_tim (a n : Nat) : (s.touch a n).tim = s.tim := rfl
@[simp] theorem State.touch_net (a n : Nat) : (s.touch a n).net = s.net := rfl
@[simp] theorem State.touch_ing (a n : Nat) : (s.touch a n).ing = s.ing := rfl
@[simp] theorem State.touch_dec (a n : Nat) : (s.touch a n).dec = s.dec := rfl
@[simp] theorem State.touch_vis (a n : Nat) : (s.touch a n).vis = s.vis := rfl
@[simp] theorem State.touch_fst (a n : Nat) : (s.touch a n).fst = s.fst := rfl
@[simp] theorem State.touch_fus (a n : Nat) : (s.touch a n).fus = s.fus := rfl
@[simp] theorem State.touch_fpp (a n : Nat) : (s.touch a n).fpp = s.fpp := rfl
@[simp] theorem State.touch_bsu (a n : Nat) : (s.touch a n).bsu = s.bsu := rfl
@[simp] theorem State.touch_map (a n : Nat) : (s.touch a n).map = s.map := rfl
@[simp] theorem State.touch_mxa (a n : Nat) : (s.touch a n).mxa = s.mxa := rfl
@[simp] theorem State.touch_gcr (a n : Nat) : (s.touch a n).gcr = s.gcr := rfl
@[simp] theorem State.touch_tdm (a n : Nat) : (s.touch a n).tdm = s.tdm := rfl
@[simp] theorem State.touch_pel (a n : Nat) : (s.touch a n).pel = s.pel := rfl
@[simp] theorem State.touch_met (a n : Nat) : (s.touch a n).met = s.met := rfl
@[simp] theorem State.touch_obs (a n : Nat) : (s.touch a n).obs = s.obs := rfl
@[simp] theorem State.touch_crb (a n : Nat) : (s.touch a n).crb = s.crb := rfl
@[simp] theorem State.touch_free (a n : Nat) : (s.touch a n).free = s.free := rfl
@[simp] theorem State.touch_pending (a n : Nat) : (s.touch a n).pending = s.pending := rfl

/-- One CORE cycle passes on a released part. -/
theorem State.tick_core : s.tick.core = if s.crb.released then s.core + 1 else s.core := by
  unfold State.tick
  split <;> rfl
@[simp] theorem State.tick_regs : s.tick.regs = s.regs := by
  unfold State.tick
  split <;> rfl
@[simp] theorem State.tick_mem : s.tick.mem = s.mem := by
  unfold State.tick
  split <;> rfl
@[simp] theorem State.tick_host : s.tick.host = s.host := by
  unfold State.tick
  split <;> rfl
@[simp] theorem State.tick_hif : s.tick.hif = s.hif := by
  unfold State.tick
  split <;> rfl
@[simp] theorem State.tick_ccu : s.tick.ccu = s.ccu := by
  unfold State.tick
  split <;> rfl
@[simp] theorem State.tick_tim : s.tick.tim = s.tim := by
  unfold State.tick
  split <;> rfl
@[simp] theorem State.tick_net : s.tick.net = s.net := by
  unfold State.tick
  split <;> rfl
@[simp] theorem State.tick_ing : s.tick.ing = s.ing := by
  unfold State.tick
  split <;> rfl
@[simp] theorem State.tick_dec : s.tick.dec = s.dec := by
  unfold State.tick
  split <;> rfl
@[simp] theorem State.tick_vis : s.tick.vis = s.vis := by
  unfold State.tick
  split <;> rfl
@[simp] theorem State.tick_fst : s.tick.fst = s.fst := by
  unfold State.tick
  split <;> rfl
@[simp] theorem State.tick_fus : s.tick.fus = s.fus := by
  unfold State.tick
  split <;> rfl
@[simp] theorem State.tick_fpp : s.tick.fpp = s.fpp := by
  unfold State.tick
  split <;> rfl
@[simp] theorem State.tick_bsu : s.tick.bsu = s.bsu := by
  unfold State.tick
  split <;> rfl
@[simp] theorem State.tick_map : s.tick.map = s.map := by
  unfold State.tick
  split <;> rfl
@[simp] theorem State.tick_mxa : s.tick.mxa = s.mxa := by
  unfold State.tick
  split <;> rfl
@[simp] theorem State.tick_gcr : s.tick.gcr = s.gcr := by
  unfold State.tick
  split <;> rfl
@[simp] theorem State.tick_memt : s.tick.memt = s.memt := by
  unfold State.tick
  split <;> rfl
@[simp] theorem State.tick_tdm : s.tick.tdm = s.tdm := by
  unfold State.tick
  split <;> rfl
@[simp] theorem State.tick_pel : s.tick.pel = s.pel := by
  unfold State.tick
  split <;> rfl
@[simp] theorem State.tick_met : s.tick.met = s.met := by
  unfold State.tick
  split <;> rfl
@[simp] theorem State.tick_obs : s.tick.obs = s.obs := by
  unfold State.tick
  split <;> rfl
@[simp] theorem State.tick_crb : s.tick.crb = s.crb := by
  unfold State.tick
  split <;> rfl
@[simp] theorem State.tick_free : s.tick.free = s.free := by
  unfold State.tick
  split <;> rfl
@[simp] theorem State.tick_pending : s.tick.pending = s.pending := by
  unfold State.tick
  split <;> rfl

/-! ### What the updates write -/

@[simp] theorem State.reg_setReg_same (off : Nat) (w : Word) : (s.setReg off w).reg off = w := by
  simp [State.reg, State.setReg, SMap.find_set_same]

theorem State.reg_setReg_ne (off o : Nat) (w : Word) (h : off ≠ o) : (s.setReg off w).reg o = s.reg o := by
  simp [State.reg, State.setReg, SMap.find_set_ne _ _ _ _ h]

@[simp] theorem State.regN_setRegN_same (off v : Nat) : (s.setRegN off v).regN off = v % 2 ^ 32 := by
  simp [State.regN, State.setRegN, BitVec.toNat_ofNat]

theorem State.regN_setRegN_ne (off o v : Nat) (h : off ≠ o) : (s.setRegN off v).regN o = s.regN o := by
  simp [State.regN, State.setRegN, State.reg_setReg_ne _ _ _ _ h]

theorem State.reg_setFld_ne (off lo n v o : Nat) (h : off ≠ o) : (s.setFld off lo n v).reg o = s.reg o :=
  State.reg_setReg_ne _ _ _ _ h

theorem State.reg_setBit_ne (off i o : Nat) (h : off ≠ o) : (s.setBit off i).reg o = s.reg o :=
  State.reg_setReg_ne _ _ _ _ h

theorem State.reg_clrBit_ne (off i o : Nat) (h : off ≠ o) : (s.clrBit off i).reg o = s.reg o :=
  State.reg_setReg_ne _ _ _ _ h

/-- A register reads alike in two states whose registers are alike. -/
theorem State.reg_congr {s t : State} (h : s.regs = t.regs) (o : Nat) : s.reg o = t.reg o := by simp [State.reg, h]

@[simp] theorem State.func_updFunc_same (id : Nat) (f : Func → Func) : (s.updFunc id f).func id = f (s.func id) := by
  simp [State.func, State.updFunc]

theorem State.func_updFunc_ne (id k : Nat) (f : Func → Func) (h : id ≠ k) : (s.updFunc id f).func k = s.func k := by
  simp [State.func, State.updFunc, SMap.get_upd_ne _ _ _ _ _ h]

@[simp] theorem State.slot_updSlot_same (n : Nat) (f : Slot → Slot) : (s.updSlot n f).slot n = f (s.slot n) := by
  simp [State.slot, State.updSlot]

theorem State.slot_updSlot_ne (n k : Nat) (f : Slot → Slot) (h : n ≠ k) : (s.updSlot n f).slot k = s.slot k := by
  simp [State.slot, State.updSlot, SMap.get_upd_ne _ _ _ _ _ h]

@[simp] theorem State.slot_updFunc (id k : Nat) (f : Func → Func) : (s.updFunc id f).slot k = s.slot k := rfl
@[simp] theorem State.func_updSlot (n k : Nat) (f : Slot → Slot) : (s.updSlot n f).func k = s.func k := rfl

theorem State.counter_countN_same (sub i n : Nat) :
    (s.countN sub i n).counter sub i = min (s.counter sub i + n) (2 ^ 64 - 1) := by
  simp [State.counter, State.countN]

end Sys2Proof.Machine
end

