-- ==== Sys2Proof/Laws/Bar.lean ====
section
/-! SUPPORT. Host register writes, said once: a write that Table 20.2 carries out is forwarded where its block is paired, and lands. -/

namespace Sys2Proof.Machine

theorem State.hostDw_takes {s : State} {off : Nat} (h : s.takes off = true) (v m : Nat) (hm : m ≠ 0) :
    s.hostDw off v m = (s.forwardWrite off v m).regWrite off v m := by
  simp only [State.takes, Bool.and_eq_true, beq_iff_eq] at h
  simp [State.hostDw, hm, h.1, h.2]

theorem State.forwardWrite_unpaired {off : Nat} (h : pairedBlock off = false) (s : State) (v m : Nat) : s.forwardWrite off v m = s := by
  simp [State.forwardWrite, h]

theorem State.forwardWrite_alone {s : State} (h : s.pairPrimary = false) (off v m : Nat) : s.forwardWrite off v m = s := by
  unfold State.forwardWrite
  split
  · simp [State.forwardItem, h]
  · rfl

theorem State.takes_tick (s : State) (off : Nat) : s.tick.takes off = s.takes off := by
  unfold State.tick
  split <;> rfl

/-- A host access has a CORE cycle of its own: the write acts in it, and the next cycle begins. -/
theorem hostSet_takes {s : State} {off : Nat} (h : s.takes off = true) (v : Nat) :
    hostSet off v s = ((s.tick.forwardWrite off v 0xFFFFFFFF).regWrite off v 0xFFFFFFFF).tick := by
  unfold hostSet State.hostTurn
  exact congrArg State.tick (State.hostDw_takes ((State.takes_tick s off).trans h) v _ (by decide))

theorem RegRow.merge_whole (r : RegRow) (old v : Word) :
    r.merge old v (BitVec.ofNat 32 0xFFFFFFFF) =
      ((old &&& ~~~BitVec.ofNat 32 r.rw) ||| (v &&& BitVec.ofNat 32 r.rw)) &&& ~~~(v &&& BitVec.ofNat 32 r.w1c) |||
        (v &&& BitVec.ofNat 32 r.w1s) := by
  have e : BitVec.ofNat 32 0xFFFFFFFF = BitVec.allOnes 32 := by decide
  unfold RegRow.merge
  rw [e]
  simp only [BitVec.and_allOnes]

/-- A register of one read-write word takes the value written. -/
theorem RegRow.merge_word (r : RegRow) (old : Word) (v : Nat) (hr : r.rw = 0xFFFFFFFF) (hc : r.w1c = 0) (hs : r.w1s = 0) (hv : v < 2 ^ 32) :
    (r.merge old (BitVec.ofNat 32 v) (BitVec.ofNat 32 0xFFFFFFFF)).toNat = v := by
  have e : BitVec.ofNat 32 0xFFFFFFFF = BitVec.allOnes 32 := by decide
  rw [RegRow.merge_whole, hr, hc, hs, e]
  simp only [BitVec.and_allOnes, BitVec.not_allOnes, BitVec.and_zero, BitVec.zero_or, BitVec.not_zero, BitVec.or_zero,
    BitVec.toNat_ofNat]
  exact Nat.mod_eq_of_lt hv

/-! ### Where a register's write goes, by its block -/

section
variable {off i j : Nat} {r : RegRow} (h : regAt off = some (r, i, j)) (s : State) (v m : Nat)
include h

theorem State.regWrite_hif (hb : off / 0x100000 = 0) :
    s.regWrite off v m = writeHif off (r.merge (s.reg off) (BitVec.ofNat 32 v) (BitVec.ofNat 32 m)).toNat s := by
  simp only [State.regWrite, h, hb]

theorem State.regWrite_ccu (hb : off / 0x100000 = 1) :
    s.regWrite off v m = writeCcu off (r.merge (s.reg off) (BitVec.ofNat 32 v) (BitVec.ofNat 32 m)).toNat m s := by
  simp only [State.regWrite, h, hb]

theorem State.regWrite_tim (hb : off / 0x100000 = 2) :
    s.regWrite off v m = writeTim off (r.merge (s.reg off) (BitVec.ofNat 32 v) (BitVec.ofNat 32 m)).toNat s := by
  simp only [State.regWrite, h, hb]

theorem State.regWrite_net (hb : off / 0x100000 = 3) :
    s.regWrite off v m = writeNet off (r.merge (s.reg off) (BitVec.ofNat 32 v) (BitVec.ofNat 32 m)).toNat s := by
  simp only [State.regWrite, h, hb]

theorem State.regWrite_ing (hb : off / 0x100000 = 4) :
    s.regWrite off v m = writeIng off (r.merge (s.reg off) (BitVec.ofNat 32 v) (BitVec.ofNat 32 m)).toNat s := by
  simp only [State.regWrite, h, hb]

theorem State.regWrite_dec (hb : off / 0x100000 = 5) :
    s.regWrite off v m = writeDec off (r.merge (s.reg off) (BitVec.ofNat 32 v) (BitVec.ofNat 32 m)).toNat s := by
  simp only [State.regWrite, h, hb]

theorem State.regWrite_vis (hb : off / 0x100000 = 6) :
    s.regWrite off v m = writeVis off (r.merge (s.reg off) (BitVec.ofNat 32 v) (BitVec.ofNat 32 m)).toNat (v &&& m) s := by
  simp only [State.regWrite, h, hb]

theorem State.regWrite_fus (hb : off / 0x100000 = 8) :
    s.regWrite off v m = writeFus off (r.merge (s.reg off) (BitVec.ofNat 32 v) (BitVec.ofNat 32 m)).toNat s := by
  simp only [State.regWrite, h, hb]

theorem State.regWrite_fpp (hb : off / 0x100000 = 9) :
    s.regWrite off v m = writeFpp off (r.merge (s.reg off) (BitVec.ofNat 32 v) (BitVec.ofNat 32 m)).toNat (v &&& m) s := by
  simp only [State.regWrite, h, hb]

theorem State.regWrite_map (hb : off / 0x100000 = 11) :
    s.regWrite off v m = writeMap off (r.merge (s.reg off) (BitVec.ofNat 32 v) (BitVec.ofNat 32 m)).toNat (v &&& m) s := by
  simp only [State.regWrite, h, hb]

theorem State.regWrite_tdm (hb : off / 0x100000 = 15) :
    s.regWrite off v m = writeTdm off (r.merge (s.reg off) (BitVec.ofNat 32 v) (BitVec.ofNat 32 m)).toNat m s := by
  simp only [State.regWrite, h, hb]

theorem State.regWrite_obs (hb : off / 0x100000 = 16) :
    s.regWrite off v m = writeObs off (r.merge (s.reg off) (BitVec.ofNat 32 v) (BitVec.ofNat 32 m)).toNat (v &&& m) s := by
  simp only [State.regWrite, h, hb]

theorem State.regWrite_crb (hb : off / 0x100000 = 17) :
    s.regWrite off v m = writeCrb off (r.merge (s.reg off) (BitVec.ofNat 32 v) (BitVec.ofNat 32 m)).toNat (v &&& m) s := by
  simp only [State.regWrite, h, hb]

theorem State.regWrite_met (hb : off / 0x100000 = 18) :
    s.regWrite off v m = writeMet off (r.merge (s.reg off) (BitVec.ofNat 32 v) (BitVec.ofNat 32 m)).toNat s := by
  simp only [State.regWrite, h, hb]

end

theorem State.regWrite_none {off : Nat} (hn : regAt off = none) (s : State) (v m : Nat) : s.regWrite off v m = s := by
  simp only [State.regWrite, hn]

end Sys2Proof.Machine
end

