-- ==== Sys2Proof/Laws/Memory.lean ====
section
/-! SUPPORT. Byte memories: a read after a write, and the canonical form, which every operation keeps. -/

namespace Sys2Proof.Machine

theorem Memory.wfFrom_le {lo lo' : Nat} {m : Memory} (h : Memory.wfFrom lo m = true) (hl : lo' ≤ lo) :
    Memory.wfFrom lo' m = true := by
  cases m with
  | nil => rfl
  | cons c r =>
    obtain ⟨k, v⟩ := c
    simp only [Memory.wfFrom, Bool.and_eq_true, decide_eq_true_eq] at h ⊢
    exact ⟨⟨by omega, h.1.2⟩, h.2⟩

theorem Memory.wfFrom_write {lo : Nat} (m : Memory) (a : Nat) (b : Byte) (h : Memory.wfFrom lo m = true) (hl : lo ≤ a) :
    Memory.wfFrom lo (Memory.write m a b) = true := by
  induction m generalizing lo with
  | nil => by_cases hb : b = Memory.blank <;> simp [Memory.write, hb, Memory.wfFrom, hl]
  | cons c r ih =>
    obtain ⟨k, v⟩ := c
    simp only [Memory.wfFrom, Bool.and_eq_true, decide_eq_true_eq] at h
    simp only [Memory.write]
    by_cases h1 : a < k
    · by_cases hb : b = Memory.blank <;> simp [h1, hb, Memory.wfFrom, hl, h.1.1, h.1.2, h.2]
    · by_cases h2 : a = k
      · subst h2
        by_cases hb : b = Memory.blank <;> simp [hb, Memory.wfFrom, hl, h.2]
        exact Memory.wfFrom_le h.2 (by omega)
      · simp [h1, h2, Memory.wfFrom, h.1.1, h.1.2]
        exact ih h.2 (by omega)

theorem Memory.wf_write (m : Memory) (a : Nat) (b : Byte) (h : Memory.wf m = true) : Memory.wf (Memory.write m a b) = true :=
  Memory.wfFrom_write m a b h (Nat.zero_le a)

theorem Memory.wf_writeBytes (bs : List Byte) (m : Memory) (a : Nat) (h : Memory.wf m = true) :
    Memory.wf (Memory.writeBytes m a bs) = true := by
  induction bs generalizing m a with
  | nil => exact h
  | cons b r ih => exact ih _ _ (Memory.wf_write m a b h)

theorem Memory.wf_writeLE (m : Memory) (a n v : Nat) (h : Memory.wf m = true) : Memory.wf (Memory.writeLE m a n v) = true :=
  Memory.wf_writeBytes _ m a h

theorem Memory.wf_writeMasked (bs : List Byte) (es : List Bool) (m : Memory) (a : Nat) (h : Memory.wf m = true) :
    Memory.wf (Memory.writeMasked m a bs es) = true := by
  induction bs generalizing m a es with
  | nil => simpa [Memory.writeMasked] using h
  | cons b r ih =>
    cases es with
    | nil => simpa [Memory.writeMasked] using h
    | cons e es =>
      simp only [Memory.writeMasked]
      refine ih es _ _ ?_
      split
      · exact Memory.wf_write m a b h
      · exact h

theorem Memory.wf_writeAll (ws : List (Nat × List Byte)) (m : Memory) (h : Memory.wf m = true) :
    Memory.wf (Memory.writeAll m ws) = true := by
  induction ws generalizing m with
  | nil => exact h
  | cons w r ih => exact ih _ (Memory.wf_writeBytes w.2 m w.1 h)

theorem Memory.wfFrom_filter (f : Host.Cell → Bool) (m : Memory) {lo : Nat} (h : Memory.wfFrom lo m = true) :
    Memory.wfFrom lo (m.filter f) = true := by
  induction m generalizing lo with
  | nil => rfl
  | cons c r ih =>
    obtain ⟨k, v⟩ := c
    simp only [Memory.wfFrom, Bool.and_eq_true, decide_eq_true_eq] at h
    simp only [List.filter]
    split
    · simp only [Memory.wfFrom, Bool.and_eq_true, decide_eq_true_eq]
      exact ⟨h.1, ih h.2⟩
    · exact Memory.wfFrom_le (ih h.2) (by omega)

theorem Memory.wf_clear (m : Memory) (a n : Nat) (h : Memory.wf m = true) : Memory.wf (Memory.clear m a n) = true :=
  Memory.wfFrom_filter _ m h

/-- A byte that was just written is read back, of a canonical memory. -/
theorem Memory.read_below {lo : Nat} (m : Memory) (a : Nat) (h : Memory.wfFrom lo m = true) (ha : a < lo) :
    Memory.read m a = Memory.blank := by
  induction m generalizing lo with
  | nil => rfl
  | cons c r ih =>
    obtain ⟨k, v⟩ := c
    simp only [Memory.wfFrom, Bool.and_eq_true, decide_eq_true_eq] at h
    rw [Memory.read, if_neg (by omega)]
    exact ih h.2 (by omega)

theorem Memory.read_write_same {lo : Nat} (m : Memory) (a : Nat) (b : Byte) (h : Memory.wfFrom lo m = true) :
    Memory.read (Memory.write m a b) a = b := by
  induction m generalizing lo with
  | nil => by_cases hb : b = Memory.blank <;> simp [Memory.write, hb, Memory.read]
  | cons c r ih =>
    obtain ⟨k, v⟩ := c
    simp only [Memory.wfFrom, Bool.and_eq_true, decide_eq_true_eq] at h
    simp only [Memory.write]
    by_cases h1 : a < k
    · by_cases hb : b = Memory.blank
      · rw [if_pos h1, if_pos hb, Memory.read, if_neg (by omega), Memory.read_below r a h.2 (by omega), hb]
      · simp [h1, hb, Memory.read]
    · by_cases h2 : a = k
      · subst h2
        by_cases hb : b = Memory.blank
        · rw [if_neg h1, if_pos rfl, if_pos hb, Memory.read_below r a h.2 (by omega), hb]
        · simp [hb, Memory.read]
      · rw [if_neg h1, if_neg h2, Memory.read, if_neg h2]
        exact ih h.2

theorem Memory.read_write_ne (m : Memory) (a x : Nat) (b : Byte) (hx : x ≠ a) :
    Memory.read (Memory.write m a b) x = Memory.read m x := by
  induction m with
  | nil => by_cases hb : b = Memory.blank <;> simp [Memory.write, hb, Memory.read, hx]
  | cons c r ih =>
    obtain ⟨k, v⟩ := c
    simp only [Memory.write]
    by_cases h1 : a < k
    · by_cases hb : b = Memory.blank <;> simp [h1, hb, Memory.read, hx]
    · by_cases h2 : a = k
      · subst h2
        by_cases hb : b = Memory.blank <;> simp [hb, Memory.read, hx]
      · simp only [h1, h2, if_false, Memory.read, ih]

theorem Memory.read_writeBytes_out (bs : List Byte) (m : Memory) (a x : Nat) (h : x < a ∨ a + bs.length ≤ x) :
    Memory.read (Memory.writeBytes m a bs) x = Memory.read m x := by
  induction bs generalizing m a with
  | nil => rfl
  | cons b r ih =>
    simp only [List.length_cons] at h
    rw [Memory.writeBytes, ih _ _ (by omega), Memory.read_write_ne m a x b (by omega)]

end Sys2Proof.Machine
end

