-- ==== Sys2Proof/Laws/Ops.lean ====
section
/-! SUPPORT. What each shared operation can change, said once: the result is the old state but for the named parts. -/

namespace Sys2Proof.Machine

variable (s : State)

/-! ### Trace and counters -/

theorem State.tracePut_frame (waits : Option (List (Nat × Nat))) (pkt : List Byte) :
    ∃ c t r, s.tracePut waits pkt = { s with obs := { s.obs with counters := c, trace := t }, regs := r } ∧
      ∀ o, o ≠ Reg.OBS_STATUS → (s.tracePut waits pkt).reg o = s.reg o := by
  unfold State.tracePut
  extract_lets t stall room lostPkt
  clear_value room
  cases room || stall
  case true => exact ⟨_, _, _, rfl, fun _ _ => rfl⟩
  case false =>
    refine ⟨_, _, _, rfl, fun o h => ?_⟩
    exact State.reg_setBit_ne _ _ _ _ (fun e => h e.symm)

theorem State.emit_frame (sel : Option Nat) (type source arg : Nat) (tail : List Byte) (waits : Option (List (Nat × Nat))) :
    ∃ c t r, s.emit sel type source arg tail waits = { s with obs := { s.obs with counters := c, trace := t }, regs := r } ∧
      ∀ o, o ≠ Reg.OBS_STATUS → (s.emit sel type source arg tail waits).reg o = s.reg o := by
  unfold State.emit
  extract_lets on
  split
  · exact State.tracePut_frame s _ _
  · exact ⟨_, _, _, rfl, fun _ _ => rfl⟩

theorem State.emitSlot_frame (sel slot type arg : Nat) (tail : List Byte) (waits : Option (List (Nat × Nat))) :
    ∃ c t r, s.emitSlot sel slot type arg tail waits = { s with obs := { s.obs with counters := c, trace := t }, regs := r } ∧
      ∀ o, o ≠ Reg.OBS_STATUS → (s.emitSlot sel slot type arg tail waits).reg o = s.reg o := by
  unfold State.emitSlot
  split
  · exact State.emit_frame s _ _ _ _ _ _
  · exact ⟨_, _, _, rfl, fun _ _ => rfl⟩

theorem State.countStatus_frame (sub st : Nat) :
    ∃ c, s.countStatus sub st = { s with obs := { s.obs with counters := c } } := by
  unfold State.countStatus
  split
  · exact ⟨_, rfl⟩
  · split <;> exact ⟨_, rfl⟩

/-! ### Interrupts and records -/

theorem State.msiSend_frame (v : Nat) :
    ∃ a b r, s.msiSend v = { s with hif := { s.hif with sent := a, holdoff := b }, regs := r } ∧
      ∀ o, o ∉ reportRegs → (s.msiSend v).reg o = s.reg o := by
  have ne : ∀ o k, o ∉ reportRegs → k ∈ reportRegs → k ≠ o := fun o k h hk e => h (e ▸ hk)
  unfold State.msiSend
  split
  · split
    · exact ⟨_, _, _, rfl, fun o h => State.reg_setBit_ne _ _ _ _ (ne o _ h (by simp [reportRegs]))⟩
    · exact ⟨_, _, _, rfl, fun o h => State.reg_setBit_ne _ _ _ _ (ne o _ h (by simp [reportRegs]))⟩
  · exact ⟨_, _, _, rfl, fun _ _ => rfl⟩

theorem State.signal_frame (v : Nat) :
    ∃ a b c d r, s.signal v = { s with hif := { s.hif with sent := a, holdoff := b, owed := c, owedOff := d }, regs := r } ∧
      ∀ o, o ∉ reportRegs → (s.signal v).reg o = s.reg o := by
  unfold State.signal
  split
  · exact ⟨_, _, _, _, _, rfl, fun _ _ => rfl⟩
  · split
    · exact ⟨_, _, _, _, _, rfl, fun _ _ => rfl⟩
    · obtain ⟨a, b, r, h, hr⟩ := State.msiSend_frame s v
      exact ⟨a, b, _, _, r, h, hr⟩

/-- A new record is the newest of the replay buffer; beside the buffer, the delivery order, the interrupt bookkeeping and the
report registers it changes counters and trace alone. -/
theorem State.createRecord_frame (opcode status detail hseq : Nat) (res : List Byte) (consumed quiet : Bool) (vector : Option Nat)
    (waits : Bool) :
    ∃ buf out a b c d k t r,
      s.createRecord opcode status detail hseq res consumed quiet vector waits =
        { s with hif := { s.hif with buf := buf, out := out, sent := a, holdoff := b, owed := c, owedOff := d },
                 obs := { s.obs with counters := k, trace := t }, regs := r } ∧
      buf.getLast? = some ⟨opcode, status, detail, hseq, (s.regN Reg.HIF_LAST_DSEQ + 1) % 2 ^ 32, s.now, (res ++ zeros 12).take 12,
        consumed, quiet⟩ ∧
      ∀ o, o ∉ reportRegs → (s.createRecord opcode status detail hseq res consumed quiet vector waits).reg o = s.reg o := by
  have ne : ∀ o k, o ∉ reportRegs → k ∈ reportRegs → k ≠ o := fun o k h hk e => h (e ▸ hk)
  unfold State.createRecord
  extract_lets dseq rec_ full gone buf lost out src s1 s2 x s3
  have hb : buf.getLast? = some rec_ := by simp [buf]
  have h2 : ∀ o, o ∉ reportRegs → s2.reg o = s.reg o := fun o h => by
    simp only [s2, State.setRegN]
    rw [State.reg_setReg_ne _ _ _ _ (ne o _ h (by simp [reportRegs])), State.reg_setReg_ne _ _ _ _ (ne o _ h (by simp [reportRegs]))]
    rfl
  have h3 : ∃ out a b c d k r, s3 =
      { s with hif := { s.hif with buf := buf, out := out, sent := a, holdoff := b, owed := c, owedOff := d },
               obs := { s.obs with counters := k }, regs := r } ∧ ∀ o, o ∉ reportRegs → s3.reg o = s.reg o := by
    simp only [s3]
    split
    · have hx : ∃ k, (if s.obs.stopped = true then x else x.count 14 5) =
          { s2.setBit Reg.HIF_RING_STATUS 3 with obs := { s.obs with counters := k } } := by
        split <;> exact ⟨_, rfl⟩
      obtain ⟨k, hx⟩ := hx
      rw [hx]
      obtain ⟨a, b, c, d, r, h, hr⟩ := State.signal_frame { s2.setBit Reg.HIF_RING_STATUS 3 with obs := { s.obs with counters := k } } 13
      refine ⟨_, a, b, c, d, _, r, by rw [h]; rfl, fun o ho => ?_⟩
      rw [hr o ho]
      show (s2.setBit Reg.HIF_RING_STATUS 3).reg o = _
      rw [State.reg_setBit_ne _ _ _ _ (ne o _ ho (by simp [reportRegs])), h2 o ho]
    · exact ⟨_, _, _, _, _, _, _, rfl, h2⟩
  obtain ⟨o3, a, b, c, d, k, r, h3, hr3⟩ := h3
  split
  · exact ⟨buf, o3, a, b, c, d, k, _, r, by rw [h3], hb, hr3⟩
  · obtain ⟨k', t, r', h, hr⟩ := State.emit_frame (s3.count 14 4) (some 2) 0x21 0 opcode
      ([BitVec.ofNat 8 status, BitVec.ofNat 8 detail] ++ zeros 2 ++ leBytes 4 dseq) (if waits then some [] else none)
    refine ⟨buf, o3, a, b, c, d, k', t, r', by rw [h, h3]; rfl, hb, fun o ho => ?_⟩
    rw [hr o (ne o _ ho (by simp [reportRegs])).symm]
    exact hr3 o ho

/-- An event record is the newest record of the replay buffer. -/
theorem State.event_frame (sub opcode status detail src : Nat) (res : List Byte) :
    ∃ buf out a b c d k t r,
      s.event sub opcode status detail src res =
        { s with hif := { s.hif with buf := buf, out := out, sent := a, holdoff := b, owed := c, owedOff := d },
                 obs := { s.obs with counters := k, trace := t }, regs := r } ∧
      buf.getLast? = some ⟨opcode, status, detail, src, (s.regN Reg.HIF_LAST_DSEQ + 1) % 2 ^ 32, s.now, (res ++ zeros 12).take 12,
        false, false⟩ ∧
      ∀ o, o ∉ reportRegs → (s.event sub opcode status detail src res).reg o = s.reg o := by
  unfold State.event
  obtain ⟨buf, out, a, b, c, d, k, t, r, h, hb, hr⟩ :=
    State.createRecord_frame s opcode status detail src res false false (some (opcode - 0xFF01 + 2)) (sub != 2 && sub != 6)
  obtain ⟨k', h'⟩ := State.countStatus_frame
    (s.createRecord opcode status detail src res false false (some (opcode - 0xFF01 + 2)) (sub != 2 && sub != 6)) sub status
  refine ⟨buf, out, a, b, c, d, k', t, r, by rw [h', h], hb, fun o ho => ?_⟩
  rw [h']; exact hr o ho

theorem State.createRecord_recorded (opcode status detail hseq : Nat) (res : List Byte) (consumed quiet : Bool) (vector : Option Nat)
    (waits : Bool) :
    Recorded s opcode status detail hseq res consumed quiet (s.createRecord opcode status detail hseq res consumed quiet vector waits) := by
  obtain ⟨buf, out, a, b, c, d, k, t, r, h, hb, hr⟩ := State.createRecord_frame s opcode status detail hseq res consumed quiet vector waits
  refine ⟨?_, ?_, hr⟩
  · rw [h]; exact hb
  · rw [h]

theorem State.event_reported (sub opcode status detail src : Nat) (res : List Byte) :
    Reported s opcode status detail src res (s.event sub opcode status detail src res) := by
  obtain ⟨buf, out, a, b, c, d, k, t, r, h, hb, hr⟩ := State.event_frame s sub opcode status detail src res
  refine ⟨?_, ?_, hr⟩
  · rw [h]; exact hb
  · rw [h]

/-! ### The Brake request -/

theorem State.brakeSource_frame (code reason : Nat) :
    ∃ b, s.brakeSource code reason = { s with obs := { s.obs with brake := b } } := by
  unfold State.brakeSource
  split
  · exact ⟨_, rfl⟩
  · split
    · exact ⟨_, rfl⟩
    · split
      · exact ⟨_, rfl⟩
      · exact ⟨_, rfl⟩

/-! ### Memory -/

theorem State.digest_frame (lane cadence key : Nat) (bs : List Byte) :
    ∃ l, s.digest lane cadence key bs = { s with tdm := { s.tdm with lanes := l } } := by
  unfold State.digest
  split
  · exact ⟨_, rfl⟩
  · exact ⟨_, rfl⟩

theorem State.digestBeats_frame (a n : Nat) : ∃ l, s.digestBeats a n = { s with tdm := { s.tdm with lanes := l } } := by
  unfold State.digestBeats
  split
  · exact ⟨_, rfl⟩
  · rename_i lane cadence _
    generalize List.range (ceilDiv (a % 64 + n) 64) = ks
    have key : ∀ (ks : List Nat) (x : State), (∃ l, x = { s with tdm := { s.tdm with lanes := l } }) →
        ∃ l, ks.foldl (fun (st : State) k =>
          let b := a / 64 * 64 + 64 * k
          st.digest lane cadence b (st.mem.readBytes b 64)) x = { s with tdm := { s.tdm with lanes := l } } := by
      intro ks
      induction ks with
      | nil => intro x hx; exact hx
      | cons k r ih =>
        intro x hx
        obtain ⟨l, rfl⟩ := hx
        refine ih _ ?_
        obtain ⟨l', h⟩ := State.digest_frame { s with tdm := { s.tdm with lanes := l } } lane cadence (a / 64 * 64 + 64 * k)
          (Memory.readBytes s.mem (a / 64 * 64 + 64 * k) 64)
        exact ⟨l', h⟩
    exact key ks s ⟨_, rfl⟩

/-- A write to device memory stores the bytes, marks staged tiles dirty and enters the writer's digest lane: nothing else. -/
theorem State.stB_frame (a : Nat) (bs : List Byte) :
    ∃ o l, s.stB a bs = { s with mem := s.mem.writeBytes a bs, memt := { s.memt with objs := o }, tdm := { s.tdm with lanes := l } } := by
  unfold State.stB
  obtain ⟨l, h⟩ := State.digestBeats_frame (({ s with mem := s.mem.writeBytes a bs } : State).touch a bs.length) a bs.length
  exact ⟨_, l, by rw [h]; rfl⟩

theorem State.drawPool_frame (cls cyc tok : Nat) :
    ∃ p k u b c r, (s.drawPool cls cyc tok).1 =
      { s with ccu := { s.ccu with poolCyc := p, poolTok := k, usedTok := u, obsTok := b }, obs := { s.obs with counters := c },
               regs := r } ∧
      ∀ o, o ≠ Reg.CCU_CLASS_STAT cls → (s.drawPool cls cyc tok).1.reg o = s.reg o := by
  unfold State.drawPool
  extract_lets live c t src s1 s2
  have h2 : ∃ p k u b c, s2 =
      { s with ccu := { s.ccu with poolCyc := p, poolTok := k, usedTok := u, obsTok := b }, obs := { s.obs with counters := c } } := by
    simp only [s2]
    split <;> exact ⟨_, _, _, _, _, rfl⟩
  obtain ⟨p, k, u, b, cc, h2⟩ := h2
  clear_value s2
  subst h2
  by_cases h : c < cyc ∨ t < tok
  · simp only [h, if_true]
    exact ⟨_, _, _, _, _, _, rfl, fun o h => State.reg_setBit_ne _ _ _ _ (fun e => h e.symm)⟩
  · simp only [h, if_false]
    exact ⟨_, _, _, _, _, _, rfl, fun _ _ => rfl⟩

/-- A charge to the free pools changes the pools, what waits, the counters and CCU_CLASSc_STAT of its class: nothing else. -/
theorem State.chargePool_frame (cls cyc tok : Nat) (hseq : Option Nat) :
    ∃ p k u b w c r, s.chargePool cls cyc tok hseq =
      { s with ccu := { s.ccu with poolCyc := p, poolTok := k, usedTok := u, obsTok := b, poolWaits := w },
               obs := { s.obs with counters := c }, regs := r } ∧
      ∀ o, o ≠ Reg.CCU_CLASS_STAT cls → (s.chargePool cls cyc tok hseq).reg o = s.reg o := by
  obtain ⟨p, k, u, b, c, r, h, hr⟩ := State.drawPool_frame s cls cyc tok
  unfold State.chargePool
  by_cases e : (s.drawPool cls cyc tok).2 = (0, 0)
  · simp only [e, if_true]
    exact ⟨p, k, u, b, _, c, r, h, hr⟩
  · simp only [e, if_false]
    exact ⟨p, k, u, b, _, c, r, by rw [h], hr⟩

end Sys2Proof.Machine
end

