-- ==== Sys2Proof/Laws/HostCmd.lean ====
section
/-! SUPPORT. An admitted host command, said once: its meaning runs in the entry state, and the reply is the one record beside it. -/

namespace Sys2Proof.Machine

theorem State.bankOpen_frame (s : State) (sub e layer operator kind slot : Nat) :
    ∃ b, s.bankOpen sub e layer operator kind slot = { s with obs := { s.obs with banks := b } } := ⟨_, rfl⟩

theorem State.bankBusy_frame (s : State) (sub e n : Nat) :
    ∃ b, s.bankBusy sub e n = { s with obs := { s.obs with banks := b } } := ⟨_, rfl⟩

theorem State.bankEnd_frame (s : State) (sub e : Nat) :
    ∃ b, s.bankEnd sub e = { s with obs := { s.obs with banks := b } } := ⟨_, rfl⟩

theorem State.ctlWork_frame (s : State) (layer operator kind : Nat) :
    ∃ b, s.ctlWork layer operator kind = { s with obs := { s.obs with banks := b }, free := s.free + 1 } := by
  unfold State.ctlWork State.each
  generalize s.ctlEngines = l
  have key : ∀ (l : List (Nat × Nat)) (x : State), (∃ b, x = { s with obs := { s.obs with banks := b } }) →
      ∃ b, l.foldl (fun (st : State) e => (st.bankOpen e.1 e.2 layer operator kind 0xFF).bankBusy e.1 e.2 (s.freeBelow 4096)) x =
        { s with obs := { s.obs with banks := b } } := by
    intro l
    induction l with
    | nil => intro x hx; exact hx
    | cons e r ih =>
      intro x hx
      obtain ⟨b, rfl⟩ := hx
      exact ih _ ⟨_, rfl⟩
  obtain ⟨b, h⟩ := key l s ⟨_, rfl⟩
  exact ⟨b, by rw [h]; rfl⟩

theorem State.traceCommand_frame (s : State) (code : Nat) (p : CmdPacket) :
    ∃ c t r, s.traceCommand code p = { s with obs := { s.obs with counters := c, trace := t }, regs := r } ∧
      ∀ o, o ≠ Reg.OBS_STATUS → (s.traceCommand code p).reg o = s.reg o := by
  unfold State.traceCommand
  split
  · exact ⟨_, _, _, rfl, fun _ _ => rfl⟩
  · obtain ⟨c, t, r, h, hr⟩ := State.emit_frame (s.count 14 2) (some 2) 0x20 0 code
      (leBytes 4 p.hseq ++ leBytes 4 ((s.regN Reg.HIF_LAST_DSEQ + 1) % 2 ^ 32)) (some s.ctlEngines)
    exact ⟨c, t, r, h, hr⟩

theorem State.enterLong_frame (s : State) (code : Nat) (p : CmdPacket) (o : OpSpec) :
    ∃ b f r e, s.enterLong code p o = { s with
        obs := { s.obs with banks := b }, free := f, regs := r,
        hif := { s.hif with
          longs := s.hif.longs ++ [⟨p.hseq + 2 ^ 32 * s.hif.longCount, code, p, none, e⟩], longCount := s.hif.longCount + 1 } } ∧
      ∀ x, (∀ k, x ≠ Reg.HIF_DMA_STATUS k) → (s.enterLong code p o).reg x = s.reg x := by
  unfold State.enterLong
  cases hb : o.buffer.isSome with
  | false => exact ⟨_, _, _, _, rfl, fun _ _ => rfl⟩
  | true =>
    refine ⟨_, _, _, _, rfl, fun x hx => ?_⟩
    show ((s.drawFree.setFld (Reg.HIF_DMA_STATUS (s.freeBelow 4)) 16 16 code).setBit (Reg.HIF_DMA_STATUS (s.freeBelow 4)) 0).reg x = s.reg x
    rw [State.reg_setBit_ne _ _ _ _ (hx _).symm, State.reg_setFld_ne _ _ _ _ _ _ (hx _).symm]
    rfl

/-- A state whose plain registers and functions are alike has the same Tandem standing. -/
theorem State.pairPrimary_congr {s t : State} (hr : s.reg Reg.TDM_STATUS = t.reg Reg.TDM_STATUS) (hf : s.func tdmFunc = t.func tdmFunc) :
    s.pairPrimary = t.pairPrimary := by
  simp [State.pairPrimary, State.paired, State.linkOn, State.linkState, State.role, State.fld, State.regN, hr, hf]

theorem Recorded.chain {e x t : State} {opcode status detail hseq : Nat} {res : List Byte} {consumed quiet : Bool}
    (hx : ∃ b c tr r, x = { e with obs := { e.obs with banks := b, counters := c, trace := tr }, regs := r } ∧
      ∀ o, o ≠ Reg.OBS_STATUS → x.reg o = e.reg o)
    (h : Recorded x opcode status detail hseq res consumed quiet t) :
    Recorded e opcode status detail hseq res consumed quiet t := by
  obtain ⟨b, c, tr, r, rfl, hr⟩ := hx
  obtain ⟨hb, hs, ho⟩ := h
  refine ⟨?_, ?_, fun o hne => ?_⟩
  · rw [hb]
    have : State.regN { e with obs := { e.obs with banks := b, counters := c, trace := tr }, regs := r } Reg.HIF_LAST_DSEQ =
        e.regN Reg.HIF_LAST_DSEQ := by
      unfold State.regN
      rw [hr _ (by decide)]
    rw [this]; rfl
  · rw [hs]
  · rw [ho o hne]
    exact hr o (fun e => hne (by simp [reportRegs, e]))

/-- A record stays the one report where counters move beside it. -/
theorem Recorded.counted {e t : State} {opcode status detail hseq : Nat} {res : List Byte} {consumed quiet : Bool}
    (h : Recorded e opcode status detail hseq res consumed quiet t) (k : SMap Nat) :
    Recorded e opcode status detail hseq res consumed quiet { t with obs := { t.obs with counters := k } } := by
  obtain ⟨hb, hs, ho⟩ := h
  refine ⟨hb, ?_, ho⟩
  conv_lhs => rw [hs]

theorem State.replyRecord_recorded (s : State) (code status detail hseq : Nat) (res : List Byte) (consumed quiet : Bool) :
    Recorded s code status detail hseq res consumed quiet (s.replyRecord code status detail hseq res consumed quiet) := by
  have h := State.createRecord_recorded s code status detail hseq res consumed quiet (if quiet = true then none else some 0) true
  unfold State.replyRecord
  extract_lets s1
  split
  · exact h
  · obtain ⟨k, hk⟩ := State.countStatus_frame s1 (opUnit code) status
    rw [hk]
    exact h.counted k

theorem State.answer_recorded (s : State) (code : Nat) (p : CmdPacket) (r : Reply) (consumed : Bool) :
    Recorded s code r.status r.detail p.hseq r.result consumed (p.flags.testBit 0) (s.answer code p r consumed) := by
  unfold State.answer
  extract_lets s1
  refine Recorded.chain ?_ (State.replyRecord_recorded s1 code r.status r.detail p.hseq r.result consumed (p.flags.testBit 0))
  simp only [s1]
  split <;> exact ⟨_, _, _, _, rfl, fun _ _ => rfl⟩

/-- Whether the first reply of a command notes its HSEQ as consumed (R71). -/
def consumes (code status : Nat) : Bool := if outOfSequence code then code == 0x0101 && status == St.ok else true

theorem opSpec_unsequenced (code : Nat) (o : OpSpec) (h : opSpec code = some o) :
    o.kind = .unsequenced ↔ outOfSequence code = true := by
  have key : ∀ c, (∀ o, opSpec c = some o → (o.kind = .unsequenced ↔ outOfSequence c = true)) := by
    intro c o ho
    unfold opSpec at ho
    split at ho <;> first | (cases ho; decide) | cases ho
  exact key code o h

/-- A packet whose opcode Table 3.9 does not define is answered BAD_OPCODE, its HSEQ consumed. -/
theorem command_undefined {s : State} {code : Nat} {p : CmdPacket} (h : s.admits code p = true) (ho : opSpec code = none) :
    Recorded (s.entry code p) code St.badOpcode 0 p.hseq (zeros 12) true (p.flags.testBit 0) (command code p s) := by
  have hoc : outOfSequence code = false := by
    cases hoc : outOfSequence code with
    | false => rfl
    | true =>
      simp only [outOfSequence, Bool.or_eq_true, beq_iff_eq] at hoc
      rcases hoc with rfl | rfl <;> cases ho
  have h : s.passes code p = true := (Bool.and_eq_true_iff.1 h).1
  simp only [State.passes, State.alive, Bool.and_eq_true, Bool.not_eq_true', ho, Option.isNone_iff_eq_none, hoc, Bool.false_or,
    bne_iff_ne, beq_iff_eq] at h
  obtain ⟨⟨⟨⟨⟨⟨⟨⟨⟨⟨⟨hrel, hstop⟩, hready⟩, hbar⟩, hwait⟩, hbrk⟩, hprim⟩, hfen⟩, ⟨⟨hc0, hctx⟩, hq⟩⟩, hhdr⟩, hfam⟩, _⟩ := h
  obtain ⟨b, hctl⟩ := State.ctlWork_frame s p.layer p.operator 2
  simp only [command, hrel, hready, hbar, Bool.and_self, if_true, State.fetched, hstop]
  have hw : (s.ctlWork p.layer p.operator 2).hif.waiting.isEmpty = true := by rw [hctl]; exact hwait
  simp only [hw, if_true, Bool.false_eq_true, if_false]
  have hc : ¬ (code = 0x0101 ∨ code = 0x0103) := by
    simp [outOfSequence] at hoc; omega
  have e1 : (s.ctlWork p.layer p.operator 2).context = s.context := by rw [hctl]; rfl
  have e2 : (s.ctlWork p.layer p.operator 2).regN Reg.HIF_NEXT_HSEQ = s.regN Reg.HIF_NEXT_HSEQ := by rw [hctl]; rfl
  have hz : (p.hseq + 2 ^ 32 - s.regN Reg.HIF_NEXT_HSEQ) % 2 ^ 32 = 0 := by rw [hq]; omega
  have hf : (s.ctlWork p.layer p.operator 2).fenced p = false := by rw [hctl]; exact hfen
  unfold State.take
  rw [if_neg hc]
  simp only [e1, e2]
  rw [if_neg hc0, if_neg (by simp [hctx]), if_pos hz, if_neg (by simp [hf])]
  unfold State.checked
  have hbrk2 : ((s.ctlWork p.layer p.operator 2).setRegN Reg.HIF_NEXT_HSEQ ((s.regN Reg.HIF_NEXT_HSEQ + 1) % 2 ^ 32)).isBraked = false := by
    rw [hctl]; exact hbrk
  simp only [hbrk2, Bool.false_eq_true, if_false, ho, hhdr]
  have := State.answer_recorded (s.entry code p) code p ⟨St.badOpcode, 0, zeros 12⟩ true
  simp only [State.entry, ho, hoc, Bool.false_eq_true, if_false] at this ⊢
  exact this

/-! ### The meaning of each opcode -/

@[simp] theorem opBody_sessionOpen (p : CmdPacket) (s : State) : opBody 0x0101 p s = bodySessionOpen p s := rfl
@[simp] theorem opBody_sessionClose (p : CmdPacket) (s : State) : opBody 0x0102 p s = bodySessionClose p s := rfl
@[simp] theorem opBody_sessionQuery (p : CmdPacket) (s : State) : opBody 0x0103 p s = bodySessionQuery p s := rfl
@[simp] theorem opBody_replay (p : CmdPacket) (s : State) : opBody 0x0104 p s = bodyReplay p s := rfl
@[simp] theorem opBody_nop (p : CmdPacket) (s : State) : opBody 0x0105 p s = bodyNop p s := rfl
@[simp] theorem opBody_funcEnable (p : CmdPacket) (s : State) : opBody 0x0110 p s = bodyFuncEnable p s := rfl
@[simp] theorem opBody_funcDisable (p : CmdPacket) (s : State) : opBody 0x0111 p s = bodyFuncDisable p s := rfl
@[simp] theorem opBody_funcQuery (p : CmdPacket) (s : State) : opBody 0x0112 p s = bodyFuncQuery p s := rfl
@[simp] theorem opBody_routeLoad (p : CmdPacket) (s : State) : opBody 0x0201 p s = bodyRouteLoad p s := rfl
@[simp] theorem opBody_routeUnload (p : CmdPacket) (s : State) : opBody 0x0202 p s = bodyRouteUnload p s := rfl
@[simp] theorem opBody_routeEnable (p : CmdPacket) (s : State) : opBody 0x0203 p s = bodyRouteEnable p s := rfl
@[simp] theorem opBody_routeDisable (p : CmdPacket) (s : State) : opBody 0x0204 p s = bodyRouteDisable p s := rfl
@[simp] theorem opBody_routeSwitch (p : CmdPacket) (s : State) : opBody 0x0205 p s = bodyRouteSwitch p s := rfl
@[simp] theorem opBody_routeQuery (p : CmdPacket) (s : State) : opBody 0x0206 p s = bodyRouteQuery p s := rfl
@[simp] theorem opBody_sensorConfig (p : CmdPacket) (s : State) : opBody 0x0301 p s = bodySensorConfig p s := rfl
@[simp] theorem opBody_sensorQuery (p : CmdPacket) (s : State) : opBody 0x0302 p s = bodySensorQuery p s := rfl
@[simp] theorem opBody_mirageConfig (p : CmdPacket) (s : State) : opBody 0x0303 p s = bodyMirageConfig p s := rfl
@[simp] theorem opBody_lidarTemplate (p : CmdPacket) (s : State) : opBody 0x0304 p s = bodyLidarTemplate p s := rfl
@[simp] theorem opBody_decConfig (p : CmdPacket) (s : State) : opBody 0x0305 p s = bodyDecConfig p s := rfl
@[simp] theorem opBody_mapRead (p : CmdPacket) (s : State) : opBody 0x0401 p s = bodyMapRead p s := rfl
@[simp] theorem opBody_tileExport (p : CmdPacket) (s : State) : opBody 0x0402 p s = bodyTileExport p s := rfl
@[simp] theorem opBody_tileImport (p : CmdPacket) (s : State) : opBody 0x0403 p s = bodyTileImport p s := rfl
@[simp] theorem opBody_mapArchive (p : CmdPacket) (s : State) : opBody 0x0404 p s = bodyMapArchive p s := rfl
@[simp] theorem opBody_solveSubmit (p : CmdPacket) (s : State) : opBody 0x0501 p s = bodySolveSubmit p s := rfl
@[simp] theorem opBody_channelConfig (p : CmdPacket) (s : State) : opBody 0x0502 p s = bodyChannelConfig p s := rfl
@[simp] theorem opBody_channelReset (p : CmdPacket) (s : State) : opBody 0x0503 p s = bodyChannelReset p s := rfl
@[simp] theorem opBody_memRead (p : CmdPacket) (s : State) : opBody 0x0601 p s = bodyMemRead p s := rfl
@[simp] theorem opBody_memWrite (p : CmdPacket) (s : State) : opBody 0x0602 p s = bodyMemWrite p s := rfl
@[simp] theorem opBody_memCopy (p : CmdPacket) (s : State) : opBody 0x0603 p s = bodyMemCopy p s := rfl
@[simp] theorem opBody_sramWindow (p : CmdPacket) (s : State) : opBody 0x0604 p s = bodySramWindow p s := rfl
@[simp] theorem opBody_memPromote (p : CmdPacket) (s : State) : opBody 0x0605 p s = bodyMemPromote p s := rfl
@[simp] theorem opBody_memEvict (p : CmdPacket) (s : State) : opBody 0x0606 p s = bodyMemEvict p s := rfl
@[simp] theorem opBody_memFlush (p : CmdPacket) (s : State) : opBody 0x0607 p s = bodyMemFlush p s := rfl
@[simp] theorem opBody_timeRead (p : CmdPacket) (s : State) : opBody 0x0701 p s = bodyTimeRead p s := rfl
@[simp] theorem opBody_timeAdjust (p : CmdPacket) (s : State) : opBody 0x0702 p s = bodyTimeAdjust p s := rfl
@[simp] theorem opBody_ptpConfig (p : CmdPacket) (s : State) : opBody 0x0703 p s = bodyPtpConfig p s := rfl
@[simp] theorem opBody_tandemConfig (p : CmdPacket) (s : State) : opBody 0x0801 p s = bodyTandemConfig p s := rfl
@[simp] theorem opBody_tandemStatus (p : CmdPacket) (s : State) : opBody 0x0802 p s = bodyTandemStatus p s := rfl
@[simp] theorem opBody_tandemSwitchover (p : CmdPacket) (s : State) : opBody 0x0803 p s = bodyTandemSwitchover p s := rfl
@[simp] theorem opBody_pelotonJoin (p : CmdPacket) (s : State) : opBody 0x0804 p s = bodyPelotonJoin p s := rfl
@[simp] theorem opBody_pelotonLeave (p : CmdPacket) (s : State) : opBody 0x0805 p s = bodyPelotonLeave p s := rfl
@[simp] theorem opBody_pelotonSchedule (p : CmdPacket) (s : State) : opBody 0x0806 p s = bodyPelotonSchedule switchRefusal p s := rfl
@[simp] theorem opBody_pelotonStatus (p : CmdPacket) (s : State) : opBody 0x0807 p s = bodyPelotonStatus p s := rfl
@[simp] theorem opBody_counterRead (p : CmdPacket) (s : State) : opBody 0x0901 p s = bodyCounterRead p s := rfl
@[simp] theorem opBody_monitorConfig (p : CmdPacket) (s : State) : opBody 0x0902 p s = bodyMonitorConfig p s := rfl
@[simp] theorem opBody_traceConfig (p : CmdPacket) (s : State) : opBody 0x0903 p s = bodyTraceConfig p s := rfl
@[simp] theorem opBody_tensorDump (p : CmdPacket) (s : State) : opBody 0x0904 p s = bodyTensorDump p s := rfl
@[simp] theorem opBody_brake (p : CmdPacket) (s : State) : opBody 0x0905 p s = bodyBrake p s := rfl
@[simp] theorem opBody_metIdent (p : CmdPacket) (s : State) : opBody 0x0A01 p s = bodyMetIdent p s := rfl
@[simp] theorem opBody_metCounter (p : CmdPacket) (s : State) : opBody 0x0A02 p s = bodyMetCounter p s := rfl
@[simp] theorem opBody_metSelect (p : CmdPacket) (s : State) : opBody 0x0A03 p s = bodyMetSelect p s := rfl
@[simp] theorem opBody_metResultRead (p : CmdPacket) (s : State) : opBody 0x0A04 p s = bodyMetResultRead p s := rfl

/-- What the opcode itself makes of a packet that passes the checks; the failing reads of a long command are part of it. -/
def State.outcome (s : State) (code : Nat) (p : CmdPacket) (o : OpSpec) : Reply × State :=
  if o.kind = .long then (s.entry code p).readFails code p (opBody code p (s.entry code p)) else opBody code p (s.entry code p)

theorem command_passed {s : State} {code : Nat} {p : CmdPacket} (h : s.passes code p = true) {o : OpSpec}
    (ho : opSpec code = some o) {r : Reply} {e : State} (hb : s.outcome code p o = (r, e))
    (h1 : refusal r.status = false) (h2 : o.kind = .long → r.status = St.accepted) :
    Recorded e code r.status r.detail p.hseq r.result (consumes code r.status) (p.flags.testBit 0) (command code p s) := by
  simp only [State.passes, State.alive, Bool.and_eq_true, Bool.not_eq_true', ho, Option.isNone_iff_eq_none] at h
  obtain ⟨⟨⟨⟨⟨⟨⟨⟨⟨⟨⟨hrel, hstop⟩, hready⟩, hbar⟩, hwait⟩, hbrk⟩, hprim⟩, hfen⟩, hseq⟩, hhdr⟩, hfam⟩, hroom⟩ := h
  obtain ⟨b, hctl⟩ := State.ctlWork_frame s p.layer p.operator 2
  simp only [command, hrel, hready, hbar, Bool.and_self, if_true, State.fetched, hstop]
  simp only [State.outcome, State.entry, ho] at hb
  have hw : (s.ctlWork p.layer p.operator 2).hif.waiting.isEmpty = true := by rw [hctl]; exact hwait
  simp only [hw, if_true, Bool.false_eq_true, if_false]
  -- the state after the sequence step
  generalize hs2 : (if outOfSequence code = true then s.ctlWork p.layer p.operator 2
    else (s.ctlWork p.layer p.operator 2).setRegN Reg.HIF_NEXT_HSEQ ((s.regN Reg.HIF_NEXT_HSEQ + 1) % 2 ^ 32)) = s2 at hb
  have htake : (s.ctlWork p.layer p.operator 2).take code p = s2.checked true (!outOfSequence code) code p := by
    unfold State.take
    by_cases hc : code = 0x0101 ∨ code = 0x0103
    · have hoc : outOfSequence code = true := by
        rcases hc with rfl | rfl <;> rfl
      rw [if_pos hc, if_neg, ← hs2, hoc]
      · rfl
      · have hf : (s.ctlWork p.layer p.operator 2).fenced p = false := by rw [hctl]; exact hfen
        simp [hf]
    · have hoc : outOfSequence code = false := by
        simp [outOfSequence]; omega
      simp only [hoc, Bool.false_or, Bool.and_eq_true, bne_iff_ne, beq_iff_eq] at hseq
      obtain ⟨⟨hc0, hctx⟩, hq⟩ := hseq
      rw [if_neg hc]
      have e1 : (s.ctlWork p.layer p.operator 2).context = s.context := by rw [hctl]; rfl
      have e2 : (s.ctlWork p.layer p.operator 2).regN Reg.HIF_NEXT_HSEQ = s.regN Reg.HIF_NEXT_HSEQ := by rw [hctl]; rfl
      simp only [e1, e2]
      have hz : (p.hseq + 2 ^ 32 - s.regN Reg.HIF_NEXT_HSEQ) % 2 ^ 32 = 0 := by rw [hq]; omega
      have hf : (s.ctlWork p.layer p.operator 2).fenced p = false := by rw [hctl]; exact hfen
      rw [if_neg hc0, if_neg (by simp [hctx]), if_pos hz, if_neg (by simp [hf]), ← hs2, hoc]
      rfl
  rw [htake]
  -- what s2 shares with s
  have hs2f : ∃ r, s2 = { s with obs := { s.obs with banks := b }, free := s.free + 1, regs := r } ∧
      ∀ x, x ≠ Reg.HIF_NEXT_HSEQ → s2.reg x = s.reg x := by
    rw [← hs2]
    split
    · exact ⟨s.regs, hctl, fun x _ => by rw [hctl]; rfl⟩
    · refine ⟨_, by rw [hctl]; rfl, fun x hx => ?_⟩
      rw [State.setRegN, State.reg_setReg_ne _ _ _ _ (Ne.symm hx), hctl]; rfl
  obtain ⟨rg, hs2e, hs2r⟩ := hs2f
  have hbrk2 : s2.isBraked = false := by rw [hs2e]; exact hbrk
  have hfam2 : s2.familyRefusal true code = none := by
    have : s2.familyRefusal true code = s.familyRefusal true code := by
      have hr1 : s2.reg Reg.TDM_STATUS = s.reg Reg.TDM_STATUS := hs2r _ (by decide)
      have hr2 : s2.reg Reg.CRB_START_STATUS = s.reg Reg.CRB_START_STATUS := hs2r _ (by decide)
      have hf : s2.func tdmFunc = s.func tdmFunc := by rw [hs2e]; rfl
      simp only [State.familyRefusal, State.role, State.dramFailed, State.fld, State.bitOf, State.regN, hr1, hr2, hf]
      rfl
    rw [this, hfam]
  unfold State.checked
  simp only [hbrk2, Bool.false_eq_true, if_false, ho, hhdr, hfam2]
  -- the body
  have hrun : ∃ u, s2.runBody code p o = (r, u) ∧ ∃ bk, u = { e with obs := { e.obs with banks := bk } } := by
    unfold State.runBody
    by_cases hk : o.kind = .long
    · simp only [hk, if_true] at hb ⊢
      have hlen : ¬ 64 ≤ s2.hif.longs.length := by
        rw [hs2e]
        simp only [hk, bne_self_eq_false, Bool.false_or, decide_eq_true_eq] at hroom
        show ¬ 64 ≤ s.hif.longs.length
        omega
      rw [if_neg hlen]
      simp only [hb, h2 hk, if_true]
      split
      · exact ⟨_, rfl, _, rfl⟩
      · exact ⟨_, rfl, _, rfl⟩
    · simp only [hk, if_false] at hb ⊢
      exact ⟨e, hb, _, rfl⟩
  obtain ⟨u, hu, bk, hue⟩ := hrun
  rw [hu]
  simp only [h1, Bool.false_eq_true, if_false]
  obtain ⟨c, tr, rr, htr, htrr⟩ := State.traceCommand_frame u code p
  have hcons : (if o.kind = .unsequenced then ((!outOfSequence code) || (code == 0x0101 && r.status == St.ok)) && code == 0x0101
      else (!outOfSequence code) || (code == 0x0101 && r.status == St.ok)) = consumes code r.status := by
    by_cases hk : o.kind = .unsequenced
    · have hoc := (opSpec_unsequenced code o ho).1 hk
      rw [if_pos hk, consumes, if_pos hoc, hoc]
      by_cases h : code = 0x0101 <;> simp [h]
    · have hoc : outOfSequence code = false := by
        cases hoc : outOfSequence code with
        | false => rfl
        | true => exact absurd ((opSpec_unsequenced code o ho).2 hoc) hk
      rw [if_neg hk, consumes, hoc]; simp
  rw [hcons]
  have hrec := State.answer_recorded (u.traceCommand code p) code p r (consumes code r.status)
  have hrec2 : Recorded e code r.status r.detail p.hseq r.result (consumes code r.status) (p.flags.testBit 0)
      ((u.traceCommand code p).answer code p r (consumes code r.status)) := by
    refine Recorded.chain ⟨bk, c, tr, rr, ?_, fun x hx => ?_⟩ hrec
    · rw [htr, hue]
    · rw [htrr x hx, hue]; rfl
  have hpp : s2.pairPrimary = false := by
    rw [← hprim]
    refine State.pairPrimary_congr (hs2r _ (by decide)) ?_
    rw [hs2e]; rfl
  unfold State.forwardCommand
  rw [hpp]
  simpa using hrec2

/-- Where the bytes it reads come, the outcome is the opcode's own. -/
theorem State.outcome_read {s : State} {code : Nat} {p : CmdPacket} {o : OpSpec}
    (h : (p.fault.isNone || (hostReads code p).isNone) = true) : s.outcome code p o = opBody code p (s.entry code p) := by
  unfold State.outcome
  split
  · unfold State.readFails
    cases hf : p.fault with
    | none => rfl
    | some c =>
      simp only [hf, Option.isNone_some, Bool.false_or, Option.isNone_iff_eq_none] at h
      simp [h]
  · rfl

theorem command_admitted {s : State} {code : Nat} {p : CmdPacket} (h : s.admits code p = true) {o : OpSpec}
    (ho : opSpec code = some o) {r : Reply} {e : State} (hb : opBody code p (s.entry code p) = (r, e))
    (h1 : refusal r.status = false) (h2 : o.kind = .long → r.status = St.accepted) :
    Recorded e code r.status r.detail p.hseq r.result (consumes code r.status) (p.flags.testBit 0) (command code p s) := by
  obtain ⟨hp, hr⟩ := Bool.and_eq_true_iff.1 h
  exact command_passed hp ho ((State.outcome_read hr).trans hb) h1 h2

/-- A sequenced command whose meaning gives a reply that is no refusal, and a state, is answered so. -/
theorem command_replied {s : State} {code : Nat} {p : CmdPacket} (h : s.admits code p = true) {o : OpSpec} (ho : opSpec code = some o)
    {status detail : Nat} {res : List Byte} {e : State} (hb : opBody code p (s.entry code p) = (⟨status, detail, res⟩, e))
    (hs : outOfSequence code = false) (h1 : refusal status = false) (h2 : o.kind = .long → status = St.accepted) :
    Replied e code p status detail res (command code p s) := by
  have := command_admitted h ho hb h1 h2
  have hc : consumes code status = true := by simp [consumes, hs]
  rw [hc] at this
  exact this

end Sys2Proof.Machine
end

