-- ==== Sys2Proof/Machine/Pins.lean ====
section
/-! DEFINITION. Pins and balls (ch. 21): the grid of balls and the signal of each, the supply limits and their order, the levels of
the output pins. -/

namespace Sys2Proof.Machine

/-! ### Ball names (R460) -/

/-- The letters of one run of rows. -/
def rowLetters : List String := ["A", "B", "C", "D", "E", "F", "G", "H", "J", "K", "L", "M", "N", "P", "T", "U", "V", "W", "Y"]

/-- The name of a row by its index, 1 to 54. -/
def rowName (r : Nat) : String :=
  if r ≤ 19 then rowLetters.getD (r - 1) "" else if r ≤ 38 then "A" ++ rowLetters.getD (r - 20) "" else "B" ++ rowLetters.getD (r - 39) ""

/-- A ball's name: its row and its column. -/
def ballName (row col : Nat) : String := rowName row ++ toString col

/-! ### Signals (R461, Table 21.2) -/

/-- A differential pair takes two positions, P first. -/
def diffPair (n : String) : List String := [n ++ "_P", n ++ "_N"]

/-- Names `pre`0 to `pre`(n − 1). -/
def numbered (pre : String) (n : Nat) : List String := (List.range n).map (fun k => pre ++ toString k)

/-- The signals of CSI-2 ports `p` to `p` + 3. -/
def csiSignals (p : Nat) : List String :=
  (List.range 4).flatMap (fun k =>
    ("CLK" :: numbered "D" 4).flatMap (fun l => diffPair ("CSI" ++ toString (p + k) ++ "_" ++ l)))

/-- A region of balls: the rows that carry signals, the columns, and the signals in order; positions left over are VSS. -/
structure BallRegion where
  rows : List Nat
  colLo : Nat
  colHi : Nat
  signals : List String
  deriving DecidableEq, Repr

/-- Rows `a` to `b`. -/
def rowsFrom (a b : Nat) : List Nat := (List.range (b + 1 - a)).map (· + a)

/-- The regions of Table 21.2; a shielded region and one whose rows have signals of their own list those rows only. -/
def signalRegions : List BallRegion :=
  [⟨[1, 3], 1, 18, (numbered "PCIE_TX" 8 ++ numbered "PCIE_RX" 8 ++ ["PCIE_REFCLK"]).flatMap diffPair ++ ["PERST_N"]⟩,
   ⟨[1], 19, 26, ["FAB0_TX", "FAB0_RX", "FAB1_TX", "FAB1_RX"].flatMap diffPair⟩,
   ⟨[3], 19, 26, ["SEN0_TX", "SEN0_RX", "SEN1_TX", "SEN1_RX"].flatMap diffPair⟩,
   ⟨[1], 27, 34, (numbered "TDM_TX" 4).flatMap diffPair⟩,
   ⟨[3], 27, 34, (numbered "TDM_RX" 4).flatMap diffPair⟩,
   ⟨[1, 2], 35, 46, ["XSPI_CLK", "XSPI_CS_N"] ++ numbered "XSPI_DQ" 8 ++
      ["XSPI_DS", "XSPI_RST_N", "TCK", "TMS", "TDI", "TDO", "TRST_N", "PORST_N", "RST_N", "BOOT_SEL"]⟩,
   ⟨[1], 49, 54, ["SEAL_N", "MET_TX", "MET_RX", "REFCLK"]⟩,
   ⟨[2], 49, 54, List.replicate 4 "VDD_MET"⟩,
   ⟨rowsFrom 6 25, 1, 2, csiSignals 0⟩,
   ⟨rowsFrom 6 25, 53, 54, csiSignals 4⟩,
   ⟨rowsFrom 26 33, 1, 4, numbered "CAM_TRIG" 8 ++
      (List.range 8).flatMap (fun n => ["ENC_A" ++ toString n, "ENC_B" ++ toString n, "ENC_Z" ++ toString n])⟩,
   ⟨rowsFrom 34 41, 1, 4, ["POSE_CLK", "POSE_FRM"] ++ numbered "POSE_D" 4 ++ ["TRC_CLK", "TRC_CTL"] ++ numbered "TRC_D" 8 ++
      ["BRK_OUT_N", "BRK_IN_N"]⟩,
   ⟨rowsFrom 26 41, 51, 54, numbered "SDM_CLK" 4 ++ numbered "SDM_D" 24 ++ numbered "PDM_CLK" 2 ++ numbered "PDM_D" 16⟩]

/-- Columns of a region. -/
def BallRegion.width (g : BallRegion) : Nat := g.colHi + 1 - g.colLo

/-- The position of a ball in a region: row by row in index order, ascending column. -/
def BallRegion.position (g : BallRegion) (row col : Nat) : Option Nat :=
  if rng col g.colLo g.colHi then (g.rows.findIdx? (· == row)).map (fun k => k * g.width + (col - g.colLo)) else none

/-- The ball of position `k` of a region. -/
def BallRegion.ball (g : BallRegion) (k : Nat) : String := ballName (g.rows.getD (k / g.width) 0) (g.colLo + k % g.width)

/-- The ball of a signal. -/
def signalBall (n : String) : Option String :=
  signalRegions.findSome? (fun g => (g.signals.findIdx? (· == n)).map g.ball)

/-! ### Supply balls and limits (R462, R463, R438) -/

/-- A rail of Table 21.4, millivolts: nominal, tolerance in percent, absolute maximum. -/
structure Rail where
  name : String
  nominal : Nat
  percent : Nat
  maximum : Nat
  deriving DecidableEq, Repr

/-- The compute-die rails in their order of ramp (Table 19.3); VDD_MET is independent (R439). -/
def railOrder : List Rail :=
  [⟨"VDD_IO33", 3300, 5, 3900⟩, ⟨"VDD_IO18", 1800, 5, 2100⟩, ⟨"VDD2_LP", 1050, 3, 1200⟩, ⟨"VDD_SRAM", 800, 3, 950⟩,
   ⟨"VDD_CORE", 750, 3, 900⟩, ⟨"VDD_SERDES", 850, 3, 1000⟩, ⟨"VDDQ_LP", 500, 5, 600⟩]

def railMet : Rail := ⟨"VDD_MET", 900, 5, 1050⟩

/-- A rail within its tolerance (Table 21.4), at a voltage in microvolts. -/
def Rail.within (r : Rail) (uv : Nat) : Bool :=
  decide (r.nominal * 10 * (100 - r.percent) ≤ uv) && decide (uv ≤ r.nominal * 10 * (100 + r.percent))

/-- A ramp in progress keeps R438: every rail before the one that ramps stands at 90 % of nominal or above, and VDD_CORE exceeds
VDD_SRAM by no more than 50 mV. `uv`: the rails in order, microvolts; `k` ramps. -/
def rampOk (uv : List Nat) (k : Nat) : Bool :=
  (List.range k).all (fun j => decide ((railOrder.getD j railMet).nominal * 900 ≤ uv.getD j 0)) && decide (uv.getD 4 0 ≤ uv.getD 3 0 + 50000)

/-- Rail regions of Table 21.3: rail, rows, columns, whether only balls of even row index plus column belong to it. -/
def supplyRegions : List (String × List Nat × Nat × Nat × Bool) :=
  [("VDD_CORE", rowsFrom 12 38, 12, 43, true), ("VDD_SRAM", rowsFrom 8 11, 12, 43, true), ("VDD2_LP", rowsFrom 42 46, 5, 50, true),
   ("VDDQ_LP", rowsFrom 47 50, 5, 50, true), ("VDD_IO18", rowsFrom 51 54, 5, 50, true), ("VDD_IO18", rowsFrom 34 41, 5, 5, false),
   ("VDD_IO18", rowsFrom 26 37, 50, 50, false), ("VDD_IO18", [3], 35, 42, false), ("VDD_IO33", rowsFrom 26 33, 5, 5, false),
   ("VDD_SERDES", [5], 5, 34, false)]

/-- The net of a ball (R461, R462): its signal, its rail, or VSS. -/
def ballNet (row col : Nat) : String :=
  match signalRegions.findSome? (fun g => (g.position row col).bind (fun k => g.signals[k]?)) with
  | some n => n
  | none =>
    match supplyRegions.find? (fun g => g.2.1.contains row && rng col g.2.2.1 g.2.2.2.1 && (!g.2.2.2.2 || (row + col) % 2 == 0)) with
    | some g => g.1
    | none => "VSS"

/-! ### Levels -/

/-- A digital level; `floating`: high impedance. -/
inductive PinLevel where
  | low | high | floating
  deriving DecidableEq, Repr

def PinLevel.of (b : Bool) : PinLevel := if b then .high else .low

/-- The level of a single-ended input of a class of Table 21.5, in millivolts; none between VIL and VIH. -/
def inputLevel (vih vil mv : Nat) : Option Bool := if vih ≤ mv then some true else if mv ≤ vil then some false else none

/-- The level an input pin with an internal pull takes while nothing drives it (R465). -/
def pulledLevel (n : String) : Option Bool :=
  if ["BRK_IN_N", "TMS", "TDI"].contains n then some true
  else if ["SEAL_N", "BOOT_SEL", "TRST_N"].contains n then some false
  else none

/-- CAM_TRIG pin `n` with its POLARITY (R36, Table 2.11). -/
def State.camTrigPin (s : State) (n : Nat) : Bool := s.camTrigActive n != s.bitOf (Reg.CCU_TRIG_CTRL n) 5

/-- The boot port and the TAP while PORST_N or RST_N is low (R465). -/
def resetLevelOf (n : String) : Option PinLevel :=
  if n = "XSPI_CLK" ∨ n = "XSPI_RST_N" then some .low
  else if n = "XSPI_CS_N" then some .high
  else if n = "TDO" then some .floating
  else none

/-- PORST_N or RST_N is low. -/
def State.pinReset (s : State) : Bool := s.crb.held.contains 0 || s.crb.held.contains 1

/-- The single-ended outputs of the compute die whose levels the state fixes: triggers, converter clocks, pose port, trace port, Brake
(R36, R432, R217, R418, R427), and the levels of R465 while PORST_N or RST_N is low. -/
def State.outPin (s : State) (n : String) : Option PinLevel :=
  let k := fun (pre : String) (count : Nat) => (numbered pre count).findIdx? (· == n)
  if s.pinReset && (resetLevelOf n).isSome then resetLevelOf n
  else if n = "BRK_OUT_N" then some (.of s.brkOutHigh)
  else if n = "POSE_CLK" then some (.of s.posePins.clk)
  else if n = "POSE_FRM" then some (.of s.posePins.frm)
  else if n = "TRC_CLK" then some (.of s.tracePins.clk)
  else if n = "TRC_CTL" then some (.of s.tracePins.ctl)
  else
    match k "CAM_TRIG" 8, k "SDM_CLK" 4, k "PDM_CLK" 2, k "POSE_D" 4, k "TRC_D" 8 with
    | some i, _, _, _, _ => some (.of (s.camTrigPin i))
    | _, some i, _, _, _ => some (.of (s.clockPin i))
    | _, _, some i, _, _ => some (.of (s.clockPin (4 + i)))
    | _, _, _, some i, _ => some (.of (s.posePins.d.testBit i))
    | _, _, _, _, some i => some (.of (s.tracePins.d.testBit i))
    | _, _, _, _, _ => none

end Sys2Proof.Machine
end

