-- ==== Sys2Proof/WellFormed.lean ====
section
/-! DEFINITION. Which commands and events are well formed: operands inside the ranges the spec gives them. -/

namespace Sys2Proof

/-- A packet as Table 3.4 gives its fields, with the extension bytes its PAYLOAD_LEN names (R65). -/
def CmdPacket.wf (p : CmdPacket) : Bool :=
  decide (p.flags < 256) && decide (p.hdrVer < 256) && decide (p.hseq < 4294967296) && decide (p.context < 65536) &&
    decide (p.layer < 65536) && decide (p.operator < 65536) && decide (p.payloadLen < 65536) && p.params.length == 48 &&
    p.ext.length == (if p.payloadLen ≤ 4096 then p.payloadLen else 0)

/-- A link frame's fields (Table 16.1). -/
def LinkIn.wf (f : LinkIn) : Bool :=
  decide (f.flags < 2) && decide (f.seq < 65536) && decide (f.ack < 65536) && decide (f.tag < 18446744073709551616) &&
    decide (f.payload.length ≤ 4096)

/-- A CSI-2 header's fields (Table 5.1); the lane rate is that of ING_CSIp_RATE. -/
def CsiHead.wf (h : CsiHead) : Bool :=
  decide (h.vc < 4) && decide (h.vcx < 16) && decide (h.ecc < 3) && decide (h.rate < 65536)

/-- Registers and formats a core has (Table 14.1). -/
def CoreKind.wf : CoreKind → Bool
  | .e36 src rd => decide (src < 32) && decide (rd < 32)
  | .fp _ fmt a b c rd => (fmt == 6 || fmt == 8) && [a, b, c, rd].all (fun k => decide (k < 32))
  | .lanes _ fmt a b c rd => (fmt == 4 || fmt == 5 || fmt == 6) && [a, b, c, rd].all (fun k => decide (k < 32))
  | .reduce fmt v rd => (fmt == 4 || fmt == 5 || fmt == 6) && decide (v < 32) && decide (rd < 32)
  | .plain | .call | .ret | .undefined => true

/-- An instruction inside the core's 128 KiB of local memory (R312). -/
def CoreStep.wf (c : CoreStep) : Bool :=
  CoreKind.wf c.kind && decide (c.pc < 131072) && c.loads.all (fun l => decide (l.1 + l.2 ≤ 131072)) &&
    c.stores.all (fun l => decide (l.1 + l.2.length ≤ 131072))

/-- Host-memory addresses of 64 bits. -/
def HostWrites.wf (w : HostWrites) : Bool := w.all (fun e => decide (e.1 + e.2.length ≤ 18446744073709551616))

/-- A temperature of CRB_TEMP's 16 bits (Table 19.7). -/
def tempOk (t : Int) : Bool := decide (-32768 ≤ t) && decide (t ≤ 32767)

/-- Every operand lies in its range. -/
def Instr.wf : Instr → Bool
  | .cadenceRun _ | .cadenceBoundary | .lockstepMismatch _ | .ringEnable | .ringDisable | .replyDelivery
  | .replyWriteError | .busMasterEnable _ | .msixEnable _ _ | .heldTimeChange | .slewEnd | .noSampleSet | .livePath _
  | .replayComplete | .seedReq | .mapCommit | .mapSquash | .init | .initComplete | .copyComplete _ _ _ _ | .writeBackComplete _
  | .promotionComplete _ | .evictionComplete _ | .copyLatencyOverrun _ | .flashSlotWrite _ _ _ _ _ _ _ | .wearWarning _ _ _
  | .writeLock _ _ _ | .dramUncorrectable _ | .linkTrainingComplete | .barrierRound | .barrierRelease | .barrierTimeout
  | .globalOperation | .tileAssemblyTimeout _ | .snapshotComplete | .metrologyFrame | .frameTruncated _ | .frameProcessed
  | .sealChange _ | .identPeriod | .oasisStart | .identReq | .logReq | .paramRead | .paramCommit | .resultRecord
  | .identificationRecord | .resultPathDiscard | .identTimeout | .metRxDiscard | .tdmCrcFail | .tdmIdleSend | .traceSyncTimer
  | .pcSample | .monitorLevelSample | .monitorBankSwap | .obsEngLatch | .dumpCopy | .brkIn | .brakeStop | .memSettled
  | .scanSegmentRead | .scanDramRead | .scanFlashRead | .scanAccessEnd _ _ | .obsCreditRefill | .tracePacketTaken
  | .tapInstruction _ | .porstN _ | .rstN _ | .rootPllUnlock _ | .pcieReset | .resetRelease _ | .xspiReadTimeout | .hostBootGo
  | .d3hotEntry => true
  | .startBoundExceeded func | .functionDrainComplete func | .drainOverrun func | .quarantine func | .readmission func => decide (func < 0x088)
  | .cameraTrigger pin | .triggerPulseEnd pin => decide (pin < 8)
  | .stageStart slot index outFlags weightFlags => decide (slot < 16) && decide (index < 256) &&
    (outFlags ++ weightFlags).all (fun i => decide (i < 65536))
  | .deadlineAbort slot index | .stageEnd slot index => decide (slot < 16) && decide (index < 256)
  | .routeDrainComplete slot => decide (slot < 16)
  | .epochResolution epoch _ => decide (epoch < 4294967296)
  | .resolutionAck unit epoch | .resolutionAckTimeout unit epoch => decide (unit < 2) && decide (epoch < 4294967296)
  | .sessionOpen p | .sessionClose p | .sessionQuery p | .replay p | .nop p | .funcEnable p | .funcDisable p | .funcQuery p
  | .routeLoad p | .routeUnload p | .routeEnable p | .routeDisable p | .routeSwitch p | .routeQuery p | .sensorConfig p
  | .sensorQuery p | .mirageConfig p | .lidarTemplate p | .decConfig p | .mapRead p | .tileExport p | .tileImport p
  | .mapArchive p | .solveSubmit p | .channelConfig p | .channelReset p | .memRead p | .memWrite p | .memCopy p | .sramWindow p
  | .memPromote p | .memEvict p | .memFlush p | .timeRead p | .timeAdjust p | .ptpConfig p | .tandemConfig p | .tandemStatus p
  | .tandemSwitchover p | .pelotonJoin p | .pelotonLeave p | .pelotonSchedule p | .pelotonStatus p | .counterRead p
  | .monitorConfig p | .traceConfig p | .tensorDump p | .brake p | .metIdent p | .metCounter p | .metSelect p | .metResultRead p => p.wf
  | .badOpcode opcode p => decide (opcode < 65536) && p.wf
  | .longCommandCompletion hseq => decide (hseq < 4294967296)
  | .hifCmdTail tail writes | .commandFetchError _ tail writes => decide (tail < 4294967296) && writes.wf
  | .hifRplHead head => decide (head < 4294967296)
  | .irqHoldoffExpiry vector | .msixUnmask vector => decide (vector < 64)
  | .bar0Oversize _ offset dw => decide (offset < 0x2000000) && decide (dw < 4096)
  | .registerWrite offset data enables => (decide (offset < 0x2000000) && offset % 4 == 0) && decide (data.length ≤ 4096) && enables.length == data.length
  | .rcFieldRead offset enables => (decide (offset < 0x4000000) && offset % 4 == 0) && enables.length == 4
  | .latchedPairRead offset _ => (decide (offset < 0x2000000) && offset % 4 == 0)
  | .windowWrite offset data enables => (decide (0x2000000 ≤ offset) && decide (offset < 0x4000000)) && decide (data.length ≤ 4096) && enables.length == data.length
  | .ethernetFrameReceive port _ frame _ _ | .arpRequest port frame | .ptpSync port frame _ | .ptpDelayReq port frame _
  | .ptpPdelayReq port frame _ | .ptpPdelayResp port frame _ | .ptpFollowUp port frame _ | .ptpDelayResp port frame _
  | .ptpPdelayRespFollowUp port frame _ | .ptpAnnounce port frame _ | .ptpSignaling port frame _ | .ptpManagement port frame _ => decide (port < 4) && decide (frame.length ≤ 9216)
  | .pauseFrame port quanta => decide (port < 4) && decide (quanta < 65536)
  | .forwardEgress port => decide (port < 4)
  | .ethernetLinkUp port | .ethernetLinkLoss port | .syncReceiptTimeout port | .announceReceiptTimeout port => decide (port < 4)
  | .ptpMessageInterval port type => decide (port < 4) && decide (type < 16)
  | .frameStart port head number | .frameEnd port head number => decide (port < 8) && head.wf && decide (number < 65536)
  | .linePacket port vc vcx dataType ecc rate _ payload => decide (port < 8) && decide (vc < 4) && decide (vcx < 16) && decide (dataType < 64) && decide (ecc < 3) && decide (rate < 65536) && decide (payload.length ≤ 65536)
  | .fsWindowClose stream | .rectBand stream _ | .pyrBand stream _ _ | .crnBand stream _ _ | .dscRow stream _ _
  | .gridRequest stream | .gridRevert stream | .flowCopy stream _ _ | .flowCarry stream | .trackBand stream _ => decide (stream < 16)
  | .stuckRun channel | .decOutput channel _ _ => decide (channel < 56)
  | .encoderEdge channel _ _ _ _ | .encoderRecord channel => decide (channel < 8)
  | .lidarPacket port srcIpv4 udpPort payload _ => decide (port < 4) && decide (srcIpv4 < 4294967296) && decide (udpPort < 65536) && decide (payload.length ≤ 65536)
  | .lidarSilence template => decide (template < 8)
  | .initialDeskew port rate => decide (port < 8) && decide (rate < 65536)
  | .sotError port vc => decide (port < 8) && decide (vc < 4)
  | .stereoBand pair _ _ => decide (pair < 8)
  | .closeUnit engine ctx => decide (engine < 2) && decide (ctx < 16)
  | .instantEmission ctx | .prjBlock ctx | .pixelGrid ctx | .featureRecord ctx | .stateRecord ctx | .instantRecord ctx
  | .delayedRecord ctx => decide (ctx < 8)
  | .silentEncoder ctx entry => decide (ctx < 8) && decide (entry < 4096)
  | .winStartWrite ctx value => decide (ctx < 8) && decide (value < 4294967296)
  | .problemIssue channel | .chainedPacket channel | .problemComplete channel | .solverDeadline channel => decide (channel < 64)
  | .insert pipe | .update pipe | .miss pipe | .retire pipe | .kfInsert pipe | .kfUpdate pipe | .loop pipe | .kfRetire pipe
  | .activate pipe | .read pipe | .search pipe | .select pipe | .graph pipe => decide (pipe < 16)
  | .tileOperation array | .outputUnit array | .softmaxUnit array => decide (array < 8)
  | .get core pc _ _ _ | .put core pc _ _ _ | .waitio core pc | .flagSet core pc _ | .sync core pc | .items core pc _
  | .endStage core pc | .boundHit core pc => decide (core < 64) && decide (pc < 131072)
  | .beatCompletion core _ | .wallTrap core | .tidyReserveExhausted core => decide (core < 64)
  | .flagWait core pc _ rd | .mapPost core pc _ _ rd | .statePost core pc _ _ rd | .fppCorrect core pc _ rd | .rand core pc rd
  | .info core pc rd => decide (core < 64) && decide (pc < 131072) && decide (rd < 256)
  | .submit core pc _ _ _ _ => decide (core < 64) && decide (pc < 131072)
  | .coreInstruction core step => decide (core < 64) && step.wf
  | .prefetchIssue slot entry => decide (slot < 16) && decide (entry < 4096)
  | .refreshRatePoll mults => mults.length == 8
  | .linkLost reason | .obsBrakeCtrlBrake reason => decide (reason < 256)
  | .tdmIdle f | .tdmPair f | .tdmNak f | .tdmBoundary f | .tdmTime f | .tdmTimeEcho f | .tdmLine f | .tdmFrame f
  | .tdmInertial f | .tdmAudio f | .tdmEncoder f | .tdmPoints f | .tdmFusCount f | .tdmCommand f | .tdmRegwrite f | .tdmTile f
  | .tdmSchedule f | .tdmDigest f | .tdmSwitch f => f.wf
  | .barrierUp body | .barrierDown body | .pelotonScheduleFrame body | .schedAck body | .tileFrag body => decide (body.length ≤ 9216)
  | .paramWrite block => decide (block.length ≤ 4096)
  | .imageLoad offset bytes => decide (offset < 4294967296) && decide (bytes.length ≤ 4096)
  | .imageCommit len sig => decide (len < 4294967296) && sig.length == 96
  | .softwareReset value | .clockDivisorWrite _ value => decide (value < 4294967296)
  | .phyPllUnlock pll _ => decide (1 ≤ pll ∧ pll ≤ 4)
  | .thermalTrip temp => tempOk temp
  | .bootImageCheck nor => decide (nor.length ≤ 2097248)
  | .ready dram nand => dram.all (fun i => decide (i < 8)) && nand.all (fun i => decide (i < 8))
  | .pcieLinkUp width speed => decide (width < 17) && decide (speed < 8)

end Sys2Proof
end

