-- ==== Sys2Proof/Tests/Slice0.lean ====
section
/-! SUPPORT. Small tests of the model, and a witness for each clause of the statements' hypotheses. -/

namespace Sys2Proof.Tests

open Sys2Proof Sys2Proof.Machine

set_option maxRecDepth 1000000
set_option Elab.async false

/-- A packet of session 1 with the parameter bytes `ps`, its HSEQ the one expected after reset. -/
def pkt (ps : List Nat) : CmdPacket := ⟨0, 1, 0, 1, 0, 0, 0, (ps.map (BitVec.ofNat 8) ++ zeros 48).take 48, [], none⟩
/-- The part started, READY, its link up. -/
def live : State := { (State.reset.setRegN Reg.CRB_START_STATUS 1) with crb := { State.reset.crb with released := true, barUp := true } }
/-- With session 1 open. -/
def sess : State := live.setRegN Reg.HIF_CONTEXT 1
/-- The state behind one step. -/
def after (s : State) : State := match step s with | .next t => t | _ => s
/-- A part stopped by the Brake. -/
def brakedWith (q : List Instr) : State := { live with obs := { live.obs with stopped := true }, pending := q }
/-- The reply of an earlier command. -/
def oldReply : Record := ⟨0x0105, 0, 0, 2 ^ 32 - 1, 1, 0, zeros 12, true, false⟩
def answered : State := { sess with hif := { sess.hif with buf := [oldReply] } }
/-- A DRAM package has failed training. -/
def lameDram : State := sess.setBit Reg.CRB_START_STATUS 1
/-- The row of the register at an offset. -/
def rowAt (off : Nat) : RegRow × Nat × Nat := (regAt off).getD (regOne "" 0 0 0 0 0 0 0 0, 0, 0)

theorem inReset_with (q : List Instr) (h : ∀ b, Instr.resetRelease b ∉ q) : InReset { State.reset with pending := q } :=
  ⟨rfl, h, rfl, rfl, rfl, rfl, rfl, rfl, rfl, rfl, rfl, rfl, rfl, rfl, rfl, rfl, rfl, rfl, rfl, rfl, rfl, rfl, rfl, rfl, rfl, fun _ _ _ => rfl⟩
theorem heldAs_refl (s : State) : HeldAs s s := by simp [HeldAs]
/-- A packet with extension bytes. -/
def pktX (ps : List Nat) (ext : List Byte) : CmdPacket := { pkt ps with payloadLen := ext.length, ext := ext }
/-- `n` bytes, zero but for fields: place, length, value. -/
def bytesOf (n : Nat) (fs : List (Nat × Nat × Nat)) : List Byte :=
  (List.range n).map (fun i => match fs.find? (fun f => decide (f.1 ≤ i) && decide (i < f.1 + f.2.1)) with
    | some f => BitVec.ofNat 8 (f.2.2 / 256 ^ (i - f.1)) | none => 0)
/-- A function in a lifecycle state. -/
def funcIn (s : State) (id : Nat) (l : Life) : State := s.updFunc id (fun f => { f with life := l })
/-- A Route image: one stage of class 10 (OBS), nothing in it but its window. -/
def imageOf (fs : List (Nat × Nat × Nat)) : List Byte :=
  bytesOf 512 (fs ++ [(0, 4, 0xC1E97200), (4, 2, 3), (6, 2, 1), (8, 4, 800000), (12, 1, 1), (196, 4, 512),
    (256, 2, 7), (258, 2, 9), (260, 1, 10), (264, 8, 1), (272, 4, 0), (276, 4, 400000), (280, 4, 1000)])
/-- A slot that holds an image. -/
def slotIn (s : State) (n : Nat) (l : Life) (m : List Byte) : State := s.updSlot n (fun x => { x with life := l, image := m })
/-- A lidar template of one block of one point. -/
def lidarFields : List (Nat × Nat × Nat) :=
  [(0, 2, 2368), (2, 1, 3), (8, 2, 16), (13, 1, 1), (14, 2, 8), (16, 2, 8), (18, 1, 1), (19, 1, 8), (20, 2, 0xFFFF), (24, 1, 4), (23, 1, 2), (26, 1, 0xFF),
    (28, 2, 1), (30, 2, 1), (44, 2, 1)]
/-- A Route image of one stage of class `c` on unit 0 with program header `prog` at 320 and one post. -/
def imageC (c : Nat) (fs : List (Nat × Nat × Nat)) : List Byte := imageOf (fs ++ [(260, 1, c)])
/-- A stage of slot 0 at work on unit 0. -/
def run0 : Run := ⟨0, 0, 0, 0, 0, 0, [⟨0, 0, 0, 0, false, false, 0, []⟩], [2], false, 0, false, false, false, false⟩
/-- A Route on whose stage is at work. -/
def atWork (c : Nat) (fs : List (Nat × Nat × Nat)) : State :=
  let s := slotIn live 0 .on (imageC c fs)
  { s with ccu := { s.ccu with runs := [run0] } }
/-- Core 0 in a state of Table 14.5, its stage with one input flag and one post to `target`. -/
def coreAt (target : Nat) (fs : List (Nat × Nat × Nat)) (st : Nat) (f : GcrCore → GcrCore) : State :=
  (atWork 6 (fs ++ [(284, 4, 100), (288, 2, 50), (290, 2, 1), (292, 4, 400), (300, 4, 320), (320, 4, 64), (332, 4, 64), (336, 4, 4096), (340, 4, 8192),
    (344, 4, 4096), (356, 1, 1), (384, 1, target)])).setCore 0 (f { GcrCore.reset with state := st })
theorem issues_of {s : State} {n pc : Nat} {r : Run} {i : Inst} (h : s.coreInst n = some (r, i))
    (h' : r.waiting = false ∧ ((s.coreOf n).state = 1 ∨ (s.coreOf n).state = 2 ∧ (s.coreOf n).tidy < Sd.tidy (s.runDesc r)) ∧
      (s.coreOf n).wait = none ∧ (s.coreOf n).walled = 0 ∧
      inRange (Gp.codeAddr (Gp.header (s.img r.slot) (s.runDesc r))) (Gp.codeLen (Gp.header (s.img r.slot) (s.runDesc r))) pc = true) :
    CoreIssues s n pc r (Gp.header (s.img r.slot) (s.runDesc r)) (s.setRegN (Reg.GCR_CORE_PC n) pc) :=
  ⟨⟨i, h⟩, rfl, h'.1, h'.2.1, h'.2.2.1, h'.2.2.2.1, h'.2.2.2.2, rfl⟩
/-- The map ready, its store at 0x1000100000, with the tile of key 0 in place 5 of a tier. -/
def mapWith (tier : Nat) : State :=
  let s := ((sess.setBit Reg.MAP_STATUS 2).setRegN Reg.MAP_STORE_BASE_LO 0x100000).setRegN Reg.MAP_STORE_BASE_HI 0x10
  { s with mem := s.mem.writeBytes (dirBucket s.mapBases 0) (dirEntry 0 5 tier) }
/-- A row of the object table. -/
def obj0 (state : ObjState) : MemObj := ⟨0x4000000000, 0x1000000000, 2, true, false, 2, state, [], false, false, 0, [], false⟩
def withObj (o : MemObj) : State := { sess with memt := { Memt.reset with objs := [(3, o)] } }
/-- The entry of a long command on DMA engine `e`. -/
def entryOn (e : Nat) (s : State) (code : Nat) (p : CmdPacket) : State :=
  let s1 := s.ctlWork p.layer p.operator 2
  let s2 := if outOfSequence code then s1 else s1.setRegN Reg.HIF_NEXT_HSEQ ((s.regN Reg.HIF_NEXT_HSEQ + 1) % 2 ^ 32)
  let s3 := ((s2.drawFree.setFld (Reg.HIF_DMA_STATUS e) 16 16 code).setBit (Reg.HIF_DMA_STATUS e) 0).bankOpen 14 e p.layer p.operator 2 0xFF
  { s3 with hif := { s3.hif with
      longs := s3.hif.longs ++ [⟨p.hseq + 2 ^ 32 * s3.hif.longCount, code, p, none, some e⟩], longCount := s3.hif.longCount + 1 } }
theorem entry_on (s : State) (code : Nat) (p : CmdPacket)
    (h : (opSpec code).any (fun o => decide (o.kind = .long) && o.buffer.isSome) = true) :
    ∃ e, e < 4 ∧ s.entry code p = entryOn e s code p := by
  cases ho : opSpec code with
  | none => simp [ho] at h
  | some o =>
    simp [ho] at h
    simp only [State.entry, entryOn, ho, h.1, State.enterLong, h.2, if_true]
    exact ⟨_, Nat.mod_lt _ (by decide), rfl⟩
theorem target_tile {s : State} {a f : Nat} (h : (match s.memTarget a with | some (.tile g) => decide (g = f) | _ => false) = true) :
    s.memTarget a = some (.tile f) := by
  split at h
  · next g e => rw [e, of_decide_eq_true h]
  · cases h
theorem target_obj {s : State} {a i : Nat} {o : MemObj}
    (h : (match s.memTarget a with | some (.obj j x) => decide (j = i ∧ x = o) | _ => false) = true) :
    s.memTarget a = some (.obj i o) := by
  split at h
  · next j x e => obtain ⟨rfl, rfl⟩ := of_decide_eq_true h; exact e
  · cases h
/-- A Route whose cadence is open. -/
def routeOn (m : List Byte) : State := (slotIn live 0 .on m).updSlot 0 (fun x => { x with running := true, runCadence := 1 })
/-- Its stage at work on unit 0. -/
def atRun (m : List Byte) : State := let s := routeOn m; { s with ccu := { s.ccu with runs := [run0] } }
/-- A session on a member of a Peloton of two. -/
def joinedWith (n : Nat) (ops : List PelOp) : State :=
  { funcIn sess 0x080 .on with pel := { Pel.reset with members := [bytesOf 16 [], bytesOf 16 [(0, 1, 2)]], me := n, ops := ops } }
/-- A function's start event. -/
def starting (id at_ now : Nat) : State :=
  let s := funcIn live id .starting
  { (s.updFunc id (fun f => { f with startedAt := at_ })) with ccu := { (s.updFunc id (fun f => { f with startedAt := at_ })).ccu with cadence := now } }
/-- An image of two stages: VIS on stream 0x010 and FUS with one camera entry. -/
def metImageOf : List Byte :=
  bytesOf 1024 [(0, 4, 0xC1E97200), (4, 2, 3), (6, 2, 2), (8, 4, 800000), (12, 1, 1), (196, 4, 1024), (256, 2, 7), (264, 8, 1), (300, 4, 512),
    (320, 2, 8), (324, 1, 2), (328, 8, 1), (364, 4, 704), (512, 2, 0x10), (516, 2, 64), (518, 2, 64), (705, 1, 1), (706, 1, 1), (707, 1, 1),
    (717, 1, 0xFF), (768, 2, 0x10), (770, 1, 1)]
/-- The fetch engine may run. -/
def fetchUp : State := (live.setBit Reg.HIF_PCIE_STATUS 10).setBit Reg.HIF_RING_CTRL 0
/-- A PTP port of a live Ethernet link in a state. -/
def ptpIn (profile role p : Nat) (st : PtpState) (f : PtpPort → PtpPort) : State :=
  { funcIn live (netFunc p) .on with net := { Net.reset with ptp := [(p, f { PtpPort.reset p with desc := bytesOf 64 [(0, 1, profile), (1, 1, role)], state := st })] } }
theorem rc_zero {off : Nat} (h : ((regAt off).map (fun r => r.1.rc)).getD 0 = 0) : ∀ r, regAt off = some r → r.1.rc = 0 := by
  intro r hr; simpa [hr] using h
theorem none_of {α : Type} {o : Option α} {P : α → Prop} (h : o.isNone = true) : ∀ p, o = some p → P p := by
  intro p e; rw [e] at h; cases h
theorem told_none {s : State} {c : FusCtx} {j : Nat} (h : s.pairSecondary = false) : s.fusTold c j = some (fun _ => none) := by
  rw [State.fusTold, h]; rfl
theorem told_counts {s : State} {c : FusCtx} {j : Nat} {l : List Nat} (h : s.pairSecondary = true)
    (h' : SMap.find c.counts (64 * c.cadence + j) = some l) : s.fusTold c j = some (fun i => some (l.getD i 0)) := by
  rw [State.fusTold, h, h']; rfl
theorem below_of {n : Nat} {P : Nat → Prop} (h : ∀ k, (_ : k < n) → P k) : ∀ k, k < n → P k := h
/-- A PTP frame of type 0x88F7 with message fields. -/
def ptpFrame (fs : List (Nat × Nat × Nat)) : List Byte := bytesOf 100 ((12, 2, 0xF788) :: fs.map (fun f => (f.1 + 14, f.2)))
theorem ptp_of {s : State} {p : Nat} {f : List Byte} {c o : Nat} (h : s.alive = true ∧ s.portLive p = true ∧ s.ptpOffset p f = some o)
    (h' : ((((s.count 13 (netCnt p 9)).ptpForward p f (f.drop o) c).ptpWake p).ptpPort p).profile ≠ 0 ∧
      ptpDomain (f.drop o) = ((((s.count 13 (netCnt p 9)).ptpForward p f (f.drop o) c).ptpWake p).ptpPort p).domain) :
    PtpTaken s p f c (f.drop o) (((s.count 13 (netCnt p 9)).ptpForward p f (f.drop o) c).ptpWake p) :=
  ⟨h.1, h.2.1, ⟨o, h.2.2, rfl⟩, rfl, h'.1, h'.2⟩
/-- Camera 0 configured and ON. -/
def camOn (fs : List (Nat × Nat × Nat)) (w : Option FsWindow) (f : Option Frame) : State :=
  ((funcIn live 0x010 .on).updFunc 0x010 (fun x => { x with configured := true })).setCam 0 { Cam.reset with desc := bytesOf 64 fs, window := w, frame := f }
def frame0 : Frame := ⟨0, 0, 0, 0, 0, 0, [], [], [], false, false, 1⟩
/-- Lidar 0 with a template. -/
def lidarIn (l : Life) : State := (funcIn live 0x060 l).setLidar 0 { LidarTpl.reset with desc := bytesOf 320 lidarFields }
/-- Sound channel 0 ON, one half-band stage, its clock running. -/
def soundIn (n : Nat) : State :=
  let s := (funcIn live 0x020 .on).setBit Reg.ING_CLK_CTRL 0
  { s with dec := { s.dec with chans := [(0, { DecCh.reset with setting := bytesOf 64 [(0, 1, 1)], stages := [⟨[0], n⟩] })] } }
/-- A VIS block of stream 0x010, 64 × 64, levels 0 and 1, corners on level 0. -/
def visBlock0 : List Byte := bytesOf 64 [(0, 2, 0x10), (2, 1, 2), (3, 1, 1), (4, 2, 64), (6, 2, 64), (8, 2, 20), (10, 1, 9), (11, 1, 8), (12, 1, 1), (14, 1, 0xFF),
  (16, 2, 16), (26, 2, 32), (40, 8, 0x1000000000), (48, 4, 1000000), (52, 4, 1000000)]
/-- The stream's context at a unit of its order, three lines of the frame in. -/
def visAt (cursor : Nat) : State :=
  let s := camOn [(4, 2, 64), (6, 2, 4), (9, 1, 1)] none (some { frame0 with lines := [[], [], [], []] })
  { s with vis := { s.vis with ctxs := [(0, { VisCtx.reset with block := visBlock0, active := true, cursor := cursor })] } }
/-- The same with array 0 on the stream's direct path, which waits for its first line, and 100 bands out. -/
def visFull : State :=
  let s := visAt 0
  let b := visBlock0.take 14 ++ [0] ++ visBlock0.drop 15
  { slotIn s 0 .on (imageC 5 [(300, 4, 320), (320, 1, 1), (352, 1, 1), (357, 1, 1), (364, 2, 1), (366, 1, 1), (368, 2, 1), (370, 2, 1), (378, 2, 1)]) with
    vis := { s.vis with ctxs := [(0, { VisCtx.reset with block := b, active := true, bands := 100 })] } }
/-- A Route image with VIS blocks of streams 0x010 and 0x011, level 0 written, corners on it. -/
def eyes : List Byte :=
  bytesOf 1024 ([(0, 4, 0xC1E97200), (4, 2, 3), (6, 2, 1), (8, 4, 800000), (12, 1, 1), (196, 4, 1024), (256, 2, 7), (264, 8, 1), (300, 4, 512)] ++
    [0x10, 0x11].flatMap (fun s => [(0, 2, s), (2, 1, 1), (3, 1, 1), (4, 2, 64), (6, 2, 64), (16, 2, 16), (40, 8, 0x1000000000)].map
      (fun (f : Nat × Nat × Nat) => (512 + 64 * (s - 0x10) + f.1, f.2))))
def eye (i : Nat) : List Byte := (eyes.drop (512 + 64 * i)).take 64
/-- A stereo pair or a flow stream at a place in its units, all VIS flags READY. -/
def fstAt (pair : Bool) (b : List Byte) (cursor : Nat) (f : FstCtx → FstCtx) : State :=
  let s := slotIn live 0 .on eyes
  let c := f { FstCtx.reset with block := b, active := true, cursor := cursor, cadence := 1 }
  { s with ccu := { s.ccu with flags := (List.range 12).map (fun k => (flagKey 0 k, Flag.ready)) },
           vis := { s.vis with ctxs := [(0, { VisCtx.reset with outFlags := List.range 12 }), (1, { VisCtx.reset with outFlags := List.range 12 })] },
           fst := if pair then ⟨[], [(0, c)]⟩ else ⟨[(0, c)], []⟩ }
def pairBlock0 : List Byte := bytesOf 64 [(0, 2, 0x10), (2, 2, 0x11)]
def flowBlock0 : List Byte := bytesOf 64 [(0, 2, 0x10), (10, 1, 1), (12, 2, 16), (32, 8, 0x1000100000)]
/-- The reference half of the flow stream's cadence before, with one track. -/
def refAt : Nat := halfAddr (eye 0) flowBlock0 2
def flowRef (cursor : Nat) : State :=
  let s := fstAt false flowBlock0 cursor (fun c => { c with ran := true, ranBefore := true })
  { s with mem := s.mem.writeBytes refAt (zeros 8 ++ [1, 0, 1]) }
/-- The flow stream at its first track unit, its list fed through input flag 40, which is CUT. -/
def cutList : State :=
  let s := fstAt false (bytesOf 64 [(0, 2, 0x10), (2, 1, 1), (10, 1, 1), (12, 2, 16), (32, 8, 0x1000100000)]) 4
    (fun c => { c with ran := true, ranBefore := true })
  let m := eyes.take 290 ++ [1, 0] ++ leBytes 4 640 ++ (eyes.drop 296).take 344 ++ [40, 0] ++ eyes.drop 642
  { (s.updSlot 0 (fun x => { x with image := m })) with
    mem := s.mem.writeBytes refAt (zeros 8 ++ [1, 0, 1]), ccu := { (s.updSlot 0 (fun x => { x with image := m })).ccu with
      flags := s.ccu.flags ++ [(flagKey 0 40, Flag.cut)] } }
/-- An emitted instant of a fusion context, its camera present; and the same with its grid done. -/
def inst0 : FusInst := ⟨0, 1, 0, 0, false, [], [], false, [], 0, 0, false⟩
def inst1 : FusInst := { inst0 with gridDone := true }
/-- Context 0 at work on stream 0x010, a lidar, and a state entry of group 2. -/
def fusAt (levels : Nat) (insts : List FusInst) (f : FusCtx → FusCtx) : State :=
  let s := slotIn live 0 .on eyes
  let c := f { FusCtx.reset with
    on := true, active := true, insts := insts, block := bytesOf 64 [(1, 1, levels), (3, 1, 3), (12, 1, 1), (13, 1, 0xFF), (14, 2, 4)],
    entries := [bytesOf 32 [(0, 2, 0x10), (2, 1, 1)], bytesOf 32 [(0, 2, 0x60), (2, 1, 5)], bytesOf 32 [(0, 2, 0x60), (2, 1, 6), (3, 1, 2)]] }
  { s with fus := { s.fus with ctxs := [(0, c)] } }
/-- A problem packet of one unknown, TAG `tag`, its FLAGS. -/
def problem (flags tag : Nat) : List Byte := bytesOf 64 [(0, 1, 1), (1, 1, flags), (2, 2, 1), (4, 1, 1), (32, 8, 0x1000000000), (44, 4, tag)]
def bsuRun0 (d : BsuDesc) : BsuRun :=
  ⟨d, problem 5 1, [], [], 0, 0, 0, 1, false, false, [], 0, 0, 0, false, false, false, false, none, 0, none, none⟩
/-- A channel with a queue and a run. -/
def solver (c : Nat) (q : List BsuDesc) (r : Option BsuRun) : State := live.setBsu c { BsuCh.reset with queue := q, run := r }
/-- Channel 63 at work for a stage of class 3, its problem waiting for the packet of the second iteration, which is queued. -/
def chained (d : BsuDesc) : State :=
  let s := atWork 3 [(284, 4, 1000), (292, 4, 1000)]
  let x := s.setBsu 63 { BsuCh.reset with queue := [d], run := some { bsuRun0 d with waiting := true }, blk := some ⟨[], 0, 0, 1, 0, 0, 0, false⟩ }
  { x with mem := s.mem.writeBytes 0x1000000000 (problem 5 2), ccu := { s.ccu with
    runs := [{ run0 with insts := [⟨63, 0, 0, 0, false, false, 0, []⟩] }] } }
theorem next_of {s : State} {r : Run} {q d n a b c : Nat} {rec : List Byte}
    (h : (s.mapNext r).map (fun x => ([x.1.queue, x.1.depth, x.1.done, x.1.shadow, x.1.result, x.1.base], x.2)) = some ([q, d, n, a, b, c], rec)) :
    s.mapNext r = some (⟨q, d, n, a, b, c⟩, rec) := by
  cases e : s.mapNext r with
  | none => simp [e] at h
  | some x => obtain ⟨⟨_, _, _, _, _, _⟩, _⟩ := x; simp [e] at h; simp [h]
/-- A MAP stage with one keyframe insertion waiting. -/
def mapWork : State :=
  let s := atWork 4 [(300, 4, 320), (320, 1, 1), (338, 2, 8), (360, 8, 0x1000000000)]
  { s with mem := s.mem.writeBytes 0x1000000000 [5], map := { s.map with received := [(0, 1)] } }
/-- An MXA stage of one operator, a linear one but for `fs`, on array 0 at block `n`. -/
def matWork (fs : List (Nat × Nat × Nat)) (n : Nat) : State :=
  let s := atWork 5 (fs ++ [(300, 4, 320), (320, 1, 1), (352, 1, 1), (364, 2, 1), (366, 1, 1), (368, 2, 1), (370, 2, 1), (378, 2, 1)])
  { s with mxa := { s.mxa with stages := [⟨0, 0, 0, [], [(0, ⟨0, n, 0, 0, false⟩)]⟩], tileFlags := [(0, 0x1000000000, 5)] } }
/-- A table object in DRAM with a copy of its tile 0 at the head of the channel. -/
def objD : MemObj := { obj0 .resident with home := 0x1000000000, staging := 0x2000000 }
def copying (c : Copy) (jobs : List MemJob) : State :=
  { live with memt := { Memt.reset with objs := [(3, objD)], copies := [c], jobs := jobs } }
/-- An image with one object and one prefetch entry, and its Route with a cadence open. -/
def fetchImage : List Byte :=
  imageOf [(320, 2, 1), (322, 2, 1), (336, 8, 0x1000000000), (344, 8, 0x2000000), (352, 2, 2), (356, 1, 0), (360, 4, 2), (376, 2, 1), (380, 2, 4)]
def fetchAt : State :=
  let s := routeOn fetchImage
  { s with memt := { Memt.reset with objs := [(3, { objD with resident := false })] } }
/-- The tile in store place 5 waits for a table frame. -/
def promoting5 : State := let s := mapWith 1; { s with map := { s.map with data := { s.map.data with stored := [(5, 0)] }, promoting := [5] } }
/-- The pair link in a state, this twin in a role. -/
def linked (role ls : Nat) : State := (funcIn live 0x084 .on).setFld Reg.TDM_STATUS 0 4 (role + 4 * ls)
def linkGot (s : State) (f : LinkIn) : State :=
  ({ s with tdm := { s.tdm with lastRx := s.core, replay := unacked f.ack s.tdm.replay } }).count 13 55
def linkSeq (s : State) (f : LinkIn) : State :=
  let y := linkGot s f
  { y with tdm := { y.tdm with recvSeq := f.seq, naksSent := (0, 0) } }
theorem link_of {s : State} {f : LinkIn} (h : s.alive = true ∧ 2 ≤ s.linkState) : LinkTakes s false f (linkGot s f) :=
  ⟨h.1, h.2, fun _ => rfl, fun e => by cases e⟩
theorem link_seq {s : State} {f : LinkIn} (h : s.alive = true ∧ 2 ≤ s.linkState) (h' : f.seq = ((linkGot s f).tdm.recvSeq + 1) % 65536) :
    LinkTakes s true f (linkSeq s f) := ⟨h.1, h.2, (fun e => by cases e), fun _ => ⟨h', rfl⟩⟩
/-- Peloton payload of a type for member 0, its fields after the payload header. -/
def pelBytes (t root instant : Nat) (fs : List (Nat × Nat × Nat)) : List Byte :=
  bytesOf (32 + Ph.typeLen t) ([(0, 1, 1), (1, 1, t), (6, 2, 0xFFFF), (8, 2, root), (10, 2, Ph.typeLen t), (16, 8, instant), (24, 4, (joinedWith 0 []).listCrc)] ++
    fs.map (fun f => (f.1 + 32, f.2)))
theorem pel_of {s : State} {t : Nat} {b : List Byte}
    (h : s.alive = true ∧ s.role ≠ 2 ∧ s.joined = true ∧ leAt b 0 1 = 1 ∧ Ph.type b = t ∧ leAt b 2 2 = s.pel.domain ∧
      leAt b 24 4 = s.listCrc ∧ Ph.len b = Ph.typeLen t ∧ 32 + Ph.typeLen t ≤ b.length ∧ (Ph.dst b = 0xFFFF ∨ Ph.dst b = s.pel.me)) :
    PelTakes s t b (s.count 13 60) := by
  obtain ⟨a, b, c, d, e, f, g, h, i, j⟩ := h; exact ⟨a, b, c, d, e, f, g, h, i, j, rfl⟩
def pelWith (f : Pel → Pel) : State := let s := joinedWith 0 []; { s with pel := f s.pel }
/-- Oasis started. -/
def oas (f : Oasis → Oasis) : State := { live with met := { Met.reset with oasis := f { Oasis.reset with started := true } } }
def traceWith (fs : List (Nat × Nat × Nat)) (l : Life) (fifo : List (List Byte)) : State :=
  let s := funcIn live 0x086 l
  { s with obs := { s.obs with trace := { s.obs.trace with desc := bytesOf 64 fs, fifo := fifo } } }
/-- A part whose scan command is pending. -/
def scanning (stopped : Bool) (kind a : Nat) : State :=
  { live with obs := { live.obs with stopped := stopped, scan := some (kind, a, stopped) } }
def trying (t : BootTry) : State := { live with crb := { live.crb with trying := t } }
/-- An unsigned boot image of the shortest firmware. -/
def bootImage : List Byte := bytesOf 4608 [(0, 4, 0xC1E9B001), (4, 2, 1), (6, 1, 0xFF), (16, 4, 4096), (36, 4, 4608), (232, 4, 0xd32878a7)]
/-- A parameter block an instrument maker may commit: the delivered one with WIDTH and HEIGHT 64. -/
def metParams64 : List Byte := metDefaultBody.take 8 ++ leBytes 2 64 ++ leBytes 2 64 ++ metDefaultBody.drop 12 ++ leBytes 4 0x73bddbdc

/-- A tile of key 0 with nothing in it, in host memory at 0: its header, and zeros. -/
def tileHdr : List Byte := bytesOf 64 [(0, 4, 0xC1E97A01), (60, 4, 0x88FC0220)]
def tileHost : State := { mapWith 1 with host := Memory.writeBytes [] 0 tileHdr }
theorem readBytes_add (m : Memory) (a i j : Nat) : m.readBytes a (i + j) = m.readBytes a i ++ m.readBytes (a + i) j := by
  induction i generalizing a with
  | zero => simp [Memory.readBytes]
  | succ i ih => rw [show i + 1 + j = (i + j) + 1 from by omega]; simp only [Memory.readBytes]; rw [ih]; simp [Nat.add_assoc, Nat.add_comm 1]
theorem readBytes_above (m : Memory) (a n : Nat) (h : ∀ c ∈ m, c.1 < a) : m.readBytes a n = zeros n := by
  have r : ∀ (m : Memory) b, (∀ c ∈ m, c.1 < b) → m.read b = 0 := by
    intro m b; induction m with
    | nil => intro _; rfl
    | cons c m ih => intro h; have := h c (by simp); obtain ⟨k, v⟩ := c; simp only [Memory.read]; rw [if_neg (by simp at this; omega)]; exact ih (fun c hc => h c (by simp [hc]))
  induction n generalizing a with
  | zero => rfl
  | succ n ih => simp only [Memory.readBytes]; rw [r m a h, ih (a + 1) (fun c hc => by have := h c hc; omega)]; simp [zeros, List.replicate_succ]
theorem tile_bytes : tileHost.host.readBytes 0 16448 = tileHdr ++ zeros 16384 := by
  rw [show 16448 = 64 + 16384 from rfl, readBytes_add, readBytes_above _ (0 + 64) _ (by decide +kernel)]
  rw [show tileHost.host.readBytes 0 64 = tileHdr by decide +kernel]
theorem zeros_crc0 : (zeros 4096).foldl crcByte 0x20932de = 0xeb388e2f := by decide +kernel
theorem zeros_crc1 : (zeros 4096).foldl crcByte 0xeb388e2f = 0x86dfe41b := by decide +kernel
theorem zeros_crc2 : (zeros 4096).foldl crcByte 0x86dfe41b = 0x184a2ac6 := by decide +kernel
theorem zeros_crc3 : (zeros 4096).foldl crcByte 0x184a2ac6 = 0x7703fddf := by decide +kernel
theorem tile_crc : crc32 (tileHdr.take 60 ++ zeros 16384) = 0x88FC0220 := by
  have z : zeros 16384 = zeros 4096 ++ (zeros 4096 ++ (zeros 4096 ++ zeros 4096)) := by simp [zeros]
  have c : (tileHdr.take 60).foldl crcByte 0xFFFFFFFF = 0x20932de := by decide +kernel
  rw [crc32, z, List.foldl_append, List.foldl_append, List.foldl_append, List.foldl_append, c, zeros_crc0, zeros_crc1, zeros_crc2, zeros_crc3]; decide +kernel
theorem tile_ok : tileOk 0 (tileHdr ++ zeros 16384) = true := by
  have d : (tileHdr ++ zeros 16384).drop 64 = zeros 16384 := List.drop_left' (by decide +kernel)
  have t : (tileHdr ++ zeros 16384).take 60 = tileHdr.take 60 := List.take_append_of_le_length (by decide +kernel)
  have e : (List.range 256).map (fun i => ((zeros 16384).drop (64 * i)).take 64) = List.replicate 256 (zeros 64) := by
    rw [List.eq_replicate_iff]
    refine ⟨by simp, fun b hb => ?_⟩
    obtain ⟨i, hi, rfl⟩ := List.mem_map.1 hb
    have := List.mem_range.1 hi
    simp only [zeros, List.drop_replicate, List.take_replicate]
    congr 1; omega
  unfold tileOk
  simp only [d, t, e, tile_crc]
  decide +kernel
theorem getD_of {α : Type} {o : Option α} (d : α) (h : o.isSome = true) : o = some (o.getD d) := by cases o <;> simp_all

/-! ### Ill-formed commands are refused, one for each check of WellFormed.lean -/

/-- Each field of a command packet that is too wide, and a parameter area or extension of the wrong length. -/
theorem test_wf_packet : ∀ p ∈ [{ pkt [] with flags := 256 }, { pkt [] with hdrVer := 256 }, { pkt [] with hseq := 2 ^ 32 },
    { pkt [] with context := 65536 }, { pkt [] with layer := 65536 }, { pkt [] with operator := 65536 }, { pkt [] with payloadLen := 65536 },
    { pkt [] with params := zeros 47 }, { pkt [] with ext := [0] }, { pkt [] with payloadLen := 4096 }],
    p.wf = false ∧ (Instr.nop p).wf = false := by decide +kernel
theorem test_wf_link : ∀ f ∈ [(⟨2, 0, 0, 0, []⟩ : LinkIn), ⟨0, 65536, 0, 0, []⟩, ⟨0, 0, 65536, 0, []⟩, ⟨0, 0, 0, 2 ^ 64, []⟩, ⟨0, 0, 0, 0, zeros 4097⟩],
    f.wf = false ∧ (Instr.tdmFrame f).wf = false := by decide +kernel
theorem test_wf_core_step : ∀ c ∈ [(⟨131072, false, .plain, [], [], [], []⟩ : CoreStep), ⟨0, false, .plain, [(131069, 4)], [], [], []⟩,
    ⟨0, false, .plain, [], [(131071, [0, 0])], [], []⟩, ⟨0, false, .e36 32 0, [], [], [], []⟩, ⟨0, false, .fp .add 5 0 0 0 0, [], [], [], []⟩,
    ⟨0, false, .lanes .add 8 0 0 0 0, [], [], [], []⟩, ⟨0, false, .reduce 6 0 32, [], [], [], []⟩], c.wf = false ∧ (Instr.coreInstruction 0 c).wf = false := by decide +kernel
theorem test_wf_control : ∀ i ∈ [Instr.startBoundExceeded 0x088, .cameraTrigger 8, .stageStart 16 0 [] [], .stageStart 0 256 [] [], .stageStart 0 0 [] [65536],
    .stageStart 0 0 [65536] [], .triggerPulseEnd 8, .functionDrainComplete 0x088, .deadlineAbort 16 0, .stageEnd 0 256, .routeDrainComplete 16,
    .epochResolution (2 ^ 32) true, .resolutionAck 2 0, .resolutionAckTimeout 0 (2 ^ 32)], i.wf = false := by decide +kernel
theorem test_wf_host : ∀ i ∈ [Instr.badOpcode 65536 (pkt []), .badOpcode 0 { pkt [] with flags := 256 }, .longCommandCompletion (2 ^ 32), .hifCmdTail (2 ^ 32) [],
    .hifCmdTail 0 [(2 ^ 64, [0])], .hifRplHead (2 ^ 32), .irqHoldoffExpiry 64, .bar0Oversize true 0x2000000 17, .bar0Oversize true 0 4096],
    i.wf = false := by decide +kernel
theorem test_wf_bar : ∀ i ∈ [Instr.registerWrite 0x2000000 [] [], .registerWrite 2 [] [], .registerWrite 0 (zeros 4097) (List.replicate 4097 true),
    .registerWrite 0 [0] [], .rcFieldRead 0x4000000 [true, true, true, true], .rcFieldRead 1 [true, true, true, true], .rcFieldRead 0 [true],
    .latchedPairRead 0x2000000 true, .latchedPairRead 2 true, .windowWrite 0x1FFFFFF [] [], .windowWrite 0x4000000 [] [],
    .windowWrite 0x2000000 (zeros 4097) (List.replicate 4097 true), .windowWrite 0x2000000 [0] []], i.wf = false := by decide +kernel
theorem test_wf_network : ∀ i ∈ [Instr.ethernetFrameReceive 4 true [] 0 0, .arpRequest 0 (zeros 9217), .pauseFrame 4 0, .pauseFrame 0 65536, .forwardEgress 4,
    .ethernetLinkUp 4, .ptpMessageInterval 4 0, .ptpMessageInterval 0 16], i.wf = false := by decide +kernel
theorem test_wf_sensors : ∀ i ∈ [Instr.frameStart 8 ⟨0, 0, 0, 0⟩ 0, .frameStart 0 ⟨4, 0, 0, 0⟩ 0, .frameStart 0 ⟨0, 16, 0, 0⟩ 0, .frameStart 0 ⟨0, 0, 3, 0⟩ 0,
    .frameEnd 0 ⟨0, 0, 0, 0⟩ 65536, .frameEnd 0 ⟨0, 0, 0, 65536⟩ 0, .linePacket 8 0 0 0 0 0 true [], .linePacket 0 4 0 0 0 0 true [], .linePacket 0 0 16 0 0 0 true [],
    .linePacket 0 0 0 64 0 0 true [], .linePacket 0 0 0 0 3 0 true [], .linePacket 0 0 0 0 0 65536 true [], .fsWindowClose 16, .stuckRun 56,
    .encoderEdge 8 true true true ⟨0, 0⟩, .lidarSilence 8, .initialDeskew 8 0, .initialDeskew 0 65536, .sotError 8 0, .sotError 0 4, .decOutput 56 [] true],
    i.wf = false := by decide +kernel
theorem test_wf_lidar : ∀ i ∈ [Instr.lidarPacket 4 0 0 [] 0, .lidarPacket 0 (2 ^ 32) 0 [] 0, .lidarPacket 0 0 65536 [] 0], i.wf = false := by decide +kernel
/-- A payload longer than a packet may carry, on the camera link and from a lidar, and a boot image longer than the store. -/
theorem long_payload (p : List Byte) (h : 65536 < p.length) :
    (Instr.linePacket 0 0 0 0 0 0 true p).wf = false ∧ (Instr.lidarPacket 0 0 0 p 0).wf = false := by
  simp only [Instr.wf, decide_eq_false (Nat.not_le.2 h), Bool.and_false, and_self]
theorem long_boot_image (p : List Byte) (h : 2097248 < p.length) : (Instr.bootImageCheck p).wf = false := by
  simp only [Instr.wf, decide_eq_false (Nat.not_le.2 h)]
theorem test_wf_long_payload : (Instr.linePacket 0 0 0 0 0 0 true (zeros 65537)).wf = false ∧ (Instr.lidarPacket 0 0 0 (zeros 65537) 0).wf = false :=
  long_payload _ (by rw [zeros, List.length_replicate]; decide)
theorem test_wf_boot_image : (Instr.bootImageCheck (zeros 2097249)).wf = false := long_boot_image _ (by rw [zeros, List.length_replicate]; decide)
theorem test_wf_perception : ∀ i ∈ [Instr.rectBand 16 0, .stereoBand 8 0 0, .closeUnit 2 0, .closeUnit 0 16, .instantEmission 8, .silentEncoder 8 0,
    .silentEncoder 0 4096, .winStartWrite 8 0, .winStartWrite 0 (2 ^ 32), .problemIssue 64, .insert 16, .tileOperation 8], i.wf = false := by decide +kernel
theorem test_wf_cores : ∀ i ∈ [Instr.get 64 0 0 0 0, .put 0 131072 0 0 0, .beatCompletion 64 0, .flagWait 64 0 0 0, .rand 0 131072 0, .info 0 0 256,
    .submit 64 0 0 0 0 0, .submit 0 131072 0 0 0 0, .coreInstruction 64 ⟨0, false, .plain, [], [], [], []⟩], i.wf = false := by decide +kernel
theorem test_wf_system : ∀ i ∈ [Instr.prefetchIssue 16 0, .prefetchIssue 0 4096, .refreshRatePoll [], .linkLost 256, .barrierUp (zeros 9217), .paramWrite (zeros 4097),
    .imageLoad (2 ^ 32) [], .imageLoad 0 (zeros 4097), .imageCommit 0 (zeros 95), .softwareReset (2 ^ 32), .phyPllUnlock 0 true, .phyPllUnlock 5 true, .thermalTrip 32768,
    .thermalTrip (-32769), .ready [8] [], .ready [] [8], .pcieLinkUp 17 0, .pcieLinkUp 0 8], i.wf = false := by decide +kernel
theorem test_wf_admits : ∀ i ∈ [Instr.nop (pkt []), .tdmFrame ⟨1, 65535, 65535, 2 ^ 64 - 1, []⟩, .stageStart 15 255 [65535] [65535], .pcieLinkUp 16 7, .thermalTrip (-32768),
    .registerWrite 0x1FFFFFC [0] [true], .windowWrite 0x3FFFFFF [0] [true], .submit 63 131071 0 0 0 0], i.wf = true := by decide +kernel

/-! ### Values of the spec's own examples -/

/-- "Example — one lidar return" (05_sensor_ingress.md): the point record of block 3, point 8 of template 2 on sensor port 0. -/
def exampleLidar : LidarTpl := { LidarTpl.reset with desc := bytesOf 320 [(0, 2, 7410), (2, 1, 1), (3, 1, 2), (8, 2, 1616), (10, 2, 4), (12, 1, 1),
  (13, 1, 16), (14, 2, 16), (16, 2, 100), (18, 1, 32), (19, 1, 3), (26, 1, 2), (28, 2, 4000), (30, 2, 36000), (36, 4, 50000), (40, 4, 2500), (46, 2, 4)] }
theorem test_lidar_example :
    lidarPoint exampleLidar 2 0 0 (bytesOf 1616 [(4, 8, 1800000000123456000), (316, 2, 4500), (344, 2, 2500), (346, 1, 77)]) 0 3 8 =
      some (1440000000098900800, bytesOf 32 [(0, 4, 0x00071232), (4, 4, 0x00071232), (12, 1, 77), (13, 1, 8), (14, 1, 0x02), (15, 1, 0x02),
        (16, 8, 1440000000098900800), (28, 2, 3)]) := by decide +kernel
/-- "Example — a Sync crossing a ceiling node" (04_time_and_ethernet.md): the residence time. -/
theorem test_residence_example : residence (1000000000000 + 2400) 1000000000000 21990233 1474560 2048000 = 200134492 := by decide +kernel
/-- "Example — 8 MHz bitstream to a 2 kHz IMU output" (06_decimation_chain.md): b and p of outputs 2, 80, 81 and 82. -/
theorem test_resampler_example : [2, 80, 81, 82].map (fun n => (rsPos (defaultSetting 5) n, rsPhase (defaultSetting 5) n)) =
    [(31, 16), (1250, 0), (1265, 40), (1281, 16)] := by decide +kernel
/-- "Example — two insertions, a commit and an orphan" (12_map_store.md): the key of the tile and the three shadow handles. -/
theorem test_map_example : tileOf (2441216) (-360448) (114688) = 0x000000FFFFF00002 ∧
    [shadowHandle 1000 5 17, shadowHandle 1000 6 3, shadowHandle 1001 6 0] = [0x81401100, 0x81800300, 0x91800000] := by decide +kernel
/-- "Example — probing a device" (20_register_map.md): LO of the cadence counter latches HI; after the boundary the HI read gives the latch, and
a 2-DW read gives the new pair. -/
theorem test_latch_example :
    let s : State := { live with ccu := { live.ccu with cadence := 0xFFFFFFFF } }
    let r := s.readDw 0x100018 [true, true, true, true]
    let t : State := { r.2 with ccu := { r.2.ccu with cadence := 0x100000000 } }
    r.1 = leBytes 4 0xFFFFFFFF ∧ (t.readDw 0x10001C [true, true, true, true]).1 = leBytes 4 0 ∧
      (after { t with pending := [.latchedPairRead 0x100018 true] }).hif.readData = leBytes 4 0 ++ leBytes 4 1 := by decide +kernel
/-- CRC-32 of "123456789" is 0xCBF43926, the check value of the polynomial of the bases table (00_scope.md). -/
theorem test_crc : crc32 [0x31, 0x32, 0x33, 0x34, 0x35, 0x36, 0x37, 0x38, 0x39] = 0xCBF43926 := by decide +kernel

/-! ### Single steps -/

/-- An idle step of a running part is one CORE cycle, and takes nothing. -/
theorem test_idle : (after live).core = live.core + 1 ∧ (after live).pending = [] := by decide +kernel
/-- SESSION_OPEN gives the first session CONTEXT 1 (R75). -/
theorem test_session_open : (after { live with pending := [.sessionOpen (pkt [1])] }).context = 1 := by decide +kernel
/-- NOP is accepted and spends its HSEQ (R68). -/
theorem test_nop : let t := after { sess with pending := [.nop (pkt [])] }
    t.regN Reg.HIF_NEXT_HSEQ = 1 ∧ t.hif.buf.map (fun r => (r.opcode, r.status)) = [(0x0105, 0)] := by decide +kernel
/-- A repeated HSEQ gets a SEQ_DUPLICATE reply, and a copy of its own reply behind it (R71). -/
theorem test_duplicate : let t := after { answered with pending := [Instr.nop { pkt [] with hseq := 2 ^ 32 - 1 }] }
    t.hif.buf.map (fun r => r.status) = [0, 0x14] ∧ t.hif.out.map (fun d => (d.copy, d.record.status)) = [(false, 0x14), (true, 0)] := by decide +kernel
/-- A read of a stopped part clears nothing (R426). -/
theorem test_brake_read : let t := after { (brakedWith []).setRegN Reg.CCU_WALL_COUNT 5 with
      pending := [.rcFieldRead Reg.CCU_WALL_COUNT [true, true, true, true]] }
    t.hif.readData = [5, 0, 0, 0] ∧ t.regN Reg.CCU_WALL_COUNT = 5 := by decide +kernel
/-- RAND's answer is the upper half of the next state (R318). -/
theorem test_rand : SMap.get 0 ((after { coreAt 0 [] 1 (fun x => { x with seq := 1 }) with pending := [.rand 0 0 5] }).coreOf 0).x 5 =
    7806831264735756412 / 2 ^ 32 := by decide +kernel
/-- CALL at the sixteenth level stops the core with fault 3 (R320). -/
theorem test_call_depth : ((after { coreAt 0 [] 1 (fun x => { x with depth := 16 }) with
    pending := [.coreInstruction 0 ⟨0, true, .call, [], [], [], []⟩] }).fld (Reg.GCR_CORE_STATUS 0) 8 4) = 3 := by decide +kernel
/-- The balls worked out in 21_package_and_electrical.md. -/
theorem test_balls : ["PCIE_RX0_N", "CSI5_D2_P", "ENC_Z3", "PDM_D15"].map signalBall = [some "A18", some "P53", some "AL4", some "AW52"] := by
  decide +kernel

/-! ### Witnesses of the statements' hypotheses -/

theorem witness_StepRunsFrontCommand :
  (∃ (s : State), s.pending = [] ∧ s.crb.released = true) ∧
  (∃ (s : State), s.pending = [] ∧ s.crb.released = false) :=
  ⟨⟨live, by decide +kernel⟩,
  ⟨State.reset, by decide +kernel⟩⟩

theorem witness_ResetHoldKept :
  ∃ (s : State) (t : State), InReset s ∧ step s = .next t :=
  ⟨{ State.reset with pending := [.rootPllUnlock false] }, after { State.reset with pending := [.rootPllUnlock false] }, inReset_with _ (by simp), rfl⟩

theorem witness_BrakeHoldKept :
  ∃ (s0 : State) (s : State) (t : State), BrakedAs s0 s ∧ step s = .next t :=
  ⟨brakedWith [.cadenceRun true], brakedWith [.cadenceRun true], after (brakedWith [.cadenceRun true]), ⟨rfl, rfl, heldAs_refl _, by decide⟩, rfl⟩

theorem witness_DeviceResetLeaves :
  (∃ (s : State) (k : Nat) (cold : Bool) (row : Bool → Instr) (o : Nat), (k, cold, row) ∈ [(0, true, Instr.porstN), (1, false, .rstN), (3, false, .rootPllUnlock)] ∧ k ∉ s.crb.held ∧ o ≠ Reg.CRB_RESET_CAUSE) ∧
  (∃ (s : State) (k : Nat) (cold : Bool) (row : Bool → Instr) (a : Nat), (k, cold, row) ∈ [(0, true, Instr.porstN), (1, false, .rstN), (3, false, .rootPllUnlock)] ∧ k ∉ s.crb.held ∧ inFlash a 1 = true) ∧
  (∃ (s : State) (k : Nat) (cold : Bool) (row : Bool → Instr) (a : Nat), (k, cold, row) ∈ [(0, true, Instr.porstN), (1, false, .rstN), (3, false, .rootPllUnlock)] ∧ k ∉ s.crb.held ∧ inFlash a 1 = false) :=
  ⟨⟨live, 0, true, Instr.porstN, Reg.HIF_CMD_TAIL, by simp, by decide, by decide⟩,
  ⟨live, 1, false, Instr.rstN, 0x4000000000, by simp, by decide, by decide⟩,
  ⟨live, 3, false, Instr.rootPllUnlock, 0, by simp, by decide, by decide⟩⟩

theorem witness_SequenceChecks :
  (∃ (s : State) (code : Nat) (p : CmdPacket) (row : Instr), (code, row) ∈ sequencedRows p ∧ s.alive = true ∧ s.isReady = true ∧ s.crb.barUp = true ∧ s.hif.waiting = [] ∧ s.context = 0) ∧
  (∃ (s : State) (code : Nat) (p : CmdPacket) (row : Instr), (code, row) ∈ sequencedRows p ∧ s.alive = true ∧ s.isReady = true ∧ s.crb.barUp = true ∧ s.hif.waiting = [] ∧ s.context ≠ 0 ∧ p.context ≠ s.context) ∧
  (∃ (s : State) (code : Nat) (p : CmdPacket) (row : Instr), (code, row) ∈ sequencedRows p ∧ s.alive = true ∧ s.isReady = true ∧ s.crb.barUp = true ∧ s.hif.waiting = [] ∧ let next := s.regN Reg.HIF_NEXT_HSEQ; let d := (p.hseq + 2 ^ 32 - next) % 2 ^ 32; s.context ≠ 0 ∧ p.context = s.context ∧ 0 < d ∧ d < 2 ^ 31) ∧
  (∃ (s : State) (code : Nat) (p : CmdPacket) (row : Instr), (code, row) ∈ sequencedRows p ∧ s.alive = true ∧ s.isReady = true ∧ s.crb.barUp = true ∧ s.hif.waiting = [] ∧ let next := s.regN Reg.HIF_NEXT_HSEQ; let d := (p.hseq + 2 ^ 32 - next) % 2 ^ 32; s.context ≠ 0 ∧ p.context = s.context ∧ 2 ^ 31 ≤ d ∧ s.hif.buf.reverse.find? (fun r => r.consumed && r.hseq == p.hseq) = none) ∧
  (∃ (s : State) (code : Nat) (p : CmdPacket) (row : Instr) (r : Record), (code, row) ∈ sequencedRows p ∧ s.alive = true ∧ s.isReady = true ∧ s.crb.barUp = true ∧ s.hif.waiting = [] ∧ let next := s.regN Reg.HIF_NEXT_HSEQ; let d := (p.hseq + 2 ^ 32 - next) % 2 ^ 32; s.context ≠ 0 ∧ p.context = s.context ∧ 2 ^ 31 ≤ d ∧ s.hif.buf.reverse.find? (fun r => r.consumed && r.hseq == p.hseq) = some r) :=
  ⟨⟨live, 0x0102, pkt [], Instr.sessionClose (pkt []), by simp [sequencedRows], by decide⟩,
  ⟨sess, 0x0A04, { pkt [] with context := 2 }, Instr.metResultRead { pkt [] with context := 2 }, by simp [sequencedRows], by decide⟩,
  ⟨sess, 0x0105, { pkt [] with hseq := 2 ^ 31 - 1 }, Instr.nop { pkt [] with hseq := 2 ^ 31 - 1 }, by simp [sequencedRows], by decide⟩,
  ⟨sess, 0x0105, { pkt [] with hseq := 2 ^ 31 }, Instr.nop { pkt [] with hseq := 2 ^ 31 }, by simp [sequencedRows], by decide⟩,
  ⟨answered, 0x0105, { pkt [] with hseq := 2 ^ 32 - 1 }, Instr.nop { pkt [] with hseq := 2 ^ 32 - 1 }, oldReply, by simp [sequencedRows], by decide⟩⟩

theorem witness_RefusedCommandsChangeNothing :
  (∃ (s : State) (code : Nat) (p : CmdPacket) (row : Instr) (d : Nat), (code, row) ∈ sequencedRows p ∧ s.alive = true ∧ s.isReady = true ∧ s.crb.barUp = true ∧ s.hif.waiting = [] ∧ s.isBraked = false ∧ s.fenced p = false ∧ s.context ≠ 0 ∧ p.context = s.context ∧ p.hseq = s.regN Reg.HIF_NEXT_HSEQ ∧ headerRefusal (opSpec code) p = some d) ∧
  (∃ (s : State) (code : Nat) (p : CmdPacket) (row : Instr) (r : Reply), (code, row) ∈ sequencedRows p ∧ s.alive = true ∧ s.isReady = true ∧ s.crb.barUp = true ∧ s.hif.waiting = [] ∧ s.isBraked = false ∧ s.fenced p = false ∧ s.context ≠ 0 ∧ p.context = s.context ∧ p.hseq = s.regN Reg.HIF_NEXT_HSEQ ∧ headerRefusal (opSpec code) p = none ∧ s.familyRefusal true code = some r ∧ r.detail ≠ 0x58) :=
  ⟨⟨sess, 0x0105, { pkt [] with hdrVer := 2 }, Instr.nop { pkt [] with hdrVer := 2 }, 0xE0, by simp [sequencedRows], by decide⟩,
  ⟨lameDram, 0x0604, pkt [], Instr.sramWindow (pkt []), Reply.busy 0x28, by simp [sequencedRows], by decide⟩⟩

theorem witness_SessionCloseEnds :
  (∃ (p : CmdPacket) (s : State), s.admits 0x0102 p = true) ∧
  (∃ (s : State) (code : Nat) (p : CmdPacket) (row : Instr), (code, row) ∈ sequencedRows p ∧ s.alive = true ∧ s.isReady = true ∧ s.crb.barUp = true ∧ s.hif.waiting = [] ∧ s.context = 0) ∧
  (∃ (p : CmdPacket) (s : State), s.context = 0 ∧ s.admits 0x0101 p = true ∧ param p 16 1 ≤ 1) ∧
  (∃ (p : CmdPacket) (s : State), s.context = 0 ∧ s.admits 0x0103 p = true) :=
  ⟨⟨pkt [], sess, by decide +kernel⟩,
  ⟨live, 0x0102, pkt [], Instr.sessionClose (pkt []), by simp [sequencedRows], by decide⟩,
  ⟨pkt [1], live, by decide +kernel⟩,
  ⟨pkt [], live, by decide +kernel⟩⟩

theorem witness_RecordsNumbered :
  (∃ (s : State) (opcode : Nat) (status : Nat) (detail : Nat) (hseq : Nat) (res : List Byte) (consumed : Bool) (quiet : Bool) (vector : Option Nat), s.hif.buf.length ≤ 4096 ∧ let t := s.createRecord opcode status detail hseq res consumed quiet vector; t.hif.buf.length = 4096) ∧
  (∃ (s : State) (opcode : Nat) (status : Nat) (detail : Nat) (hseq : Nat) (res : List Byte) (consumed : Bool) (quiet : Bool) (vector : Option Nat), s.hif.buf.length ≤ 4096 ∧ let t := s.createRecord opcode status detail hseq res consumed quiet vector; t.hif.buf.length < 4096) ∧
  (∃ (p : CmdPacket) (s : State) (code : Nat) (row : Instr), (code, row) ∈ [(0x0101, Instr.sessionOpen p), (0x0102, .sessionClose p)] ∧ s.admits code p = true) :=
  ⟨⟨{ sess with hif := { sess.hif with buf := List.replicate 4095 oldReply } }, 0x0105, 0, 0, 0, [], true, false, none, by decide +kernel⟩,
  ⟨sess, 0x0105, 0, 0, 0, [], true, false, none, by decide +kernel⟩,
  ⟨pkt [1], live, 0x0101, Instr.sessionOpen (pkt [1]), by simp, by decide +kernel⟩⟩

theorem witness_LatchesHold :
  (∃ (s : State) (off : Nat) (en : List Bool) (h : Nat), s.barAnswers = true ∧ s.bootFailed = false ∧ off % 4 = 0 ∧ off < 0x2000000 ∧ (en.take 4).any id = true ∧ h ∈ latchedBy off) ∧
  (∃ (s : State) (off : Nat) (en : List Bool) (h : Nat), s.barAnswers = true ∧ s.bootFailed = false ∧ off % 4 = 0 ∧ off < 0x2000000 ∧ (en.take 4).any id = true ∧ h ∉ latchedBy off) ∧
  (∃ (s : State) (off : Nat) (en : List Bool), s.barAnswers = true ∧ s.bootFailed = false ∧ off % 4 = 0 ∧ off < 0x2000000 ∧ (en.take 4).any id = true ∧ latchedHi off = false) ∧
  (∃ (s : State) (off : Nat) (en : List Bool), s.barAnswers = true ∧ s.bootFailed = false ∧ off % 4 = 0 ∧ off < 0x2000000 ∧ (en.take 4).any id = true ∧ latchedHi off = true) ∧
  (∃ (off : Nat) (h : Nat), off ≠ Reg.PEL_SNAP_CAD_LO ∧ h ∈ latchedBy off) ∧
  (∃ (s : State) (off : Nat), s.barAnswers = true ∧ s.bootFailed = false ∧ off % 4 = 0 ∧ off + 4 < 0x2000000 ∧ off + 4 ∈ latchedBy off ∧ latchedHi off = false) :=
  ⟨⟨live, Reg.CCU_CADENCE_COUNT_LO, [true, false, false, false], Reg.CCU_CADENCE_COUNT_HI, by decide +kernel⟩,
  ⟨live, Reg.CCU_CADENCE_COUNT_LO, [true, false, false, false], Reg.CCU_CTRL, by decide +kernel⟩,
  ⟨live, Reg.CCU_CADENCE_COUNT_LO, [true, false, false, false], by decide +kernel⟩,
  ⟨live, Reg.CCU_CADENCE_COUNT_HI, [false, false, false, true], by decide +kernel⟩,
  ⟨Reg.CCU_CADENCE_COUNT_LO, Reg.CCU_CADENCE_COUNT_HI, by decide +kernel⟩,
  ⟨live, Reg.CCU_CADENCE_COUNT_LO, by decide +kernel⟩⟩

theorem witness_ReadsClear :
  (∃ (s : State) (off : Nat) (en : List Bool) (r : RegRow × Nat × Nat), s.barAnswers = true ∧ s.bootFailed = false ∧ s.obs.stopped = false ∧ off % 4 = 0 ∧ off < 0x2000000 ∧ en.length = 4 ∧ regAt off = some r ∧ r.1.rc ≠ 0 ∧ latchedHi off = false ∧ latchedBy off = [] ∧ drawsFree off = false ∧ en = [true, true, true, true]) ∧
  (∃ (s : State) (off : Nat) (en : List Bool) (r : RegRow × Nat × Nat), s.barAnswers = true ∧ s.bootFailed = false ∧ s.obs.stopped = false ∧ off % 4 = 0 ∧ off < 0x2000000 ∧ en.length = 4 ∧ regAt off = some r ∧ r.1.rc ≠ 0 ∧ latchedHi off = false ∧ latchedBy off = [] ∧ drawsFree off = false ∧ en ≠ [true, true, true, true]) ∧
  (∃ (s : State) (off : Nat) (en : List Bool) (r : RegRow × Nat × Nat) (o : Nat), s.barAnswers = true ∧ s.bootFailed = false ∧ s.obs.stopped = false ∧ off % 4 = 0 ∧ off < 0x2000000 ∧ en.length = 4 ∧ regAt off = some r ∧ r.1.rc ≠ 0 ∧ latchedHi off = false ∧ latchedBy off = [] ∧ drawsFree off = false ∧ o ≠ off) ∧
  (∃ (s : State), s.barAnswers = true ∧ s.obs.stopped = true) :=
  ⟨⟨live, Reg.CCU_WALL_COUNT, [true, true, true, true], rowAt Reg.CCU_WALL_COUNT, by decide +kernel⟩,
  ⟨live, Reg.CCU_WALL_COUNT, [true, true, true, false], rowAt Reg.CCU_WALL_COUNT, by decide +kernel⟩,
  ⟨live, Reg.CCU_WALL_COUNT, [true, true, true, true], rowAt Reg.CCU_WALL_COUNT, 0, by decide +kernel⟩,
  ⟨brakedWith [], by decide +kernel⟩⟩

theorem witness_RandSequence :
  (∃ (s : State) (r : Run) (n : Nat) (k : Nat), (maskBits (Sd.unitMask (s.runDesc r)))[k]? = some n) ∧
  (∃ (s : State) (n : Nat) (pc : Nat) (r : Run) (h : List Byte) (x : State), s.alive = true ∧ CoreIssues s n pc r h x) :=
  ⟨⟨atWork 6 [], run0, 0, 0, by decide +kernel⟩,
  ⟨coreAt 0 [] 1 id, 0, 0, run0, Gp.header ((coreAt 0 [] 1 id).img run0.slot) ((coreAt 0 [] 1 id).runDesc run0), (coreAt 0 [] 1 id).setRegN (Reg.GCR_CORE_PC 0) 0, by decide +kernel, issues_of (i := ⟨0, 0, 0, 0, false, false, 0, []⟩) (by decide +kernel) (by decide +kernel)⟩⟩

theorem witness_FusesOnlyGain :
  (∃ (s : State) (t : State) (nor : List Byte), s.alive = true ∧ exec (.bootImageCheck nor) s = .next t ∧ (∀ b, bootCode s.crb.fuses b = 0 → b ≠ nor ∧ b ≠ s.hostImage)) ∧
  (∃ (k : Nat) (cold : Bool) (row : Bool → Instr), (k, cold, row) ∈ [(0, true, Instr.porstN), (1, false, .rstN), (3, false, .rootPllUnlock)]) :=
  ⟨⟨live, after { live with pending := [.bootImageCheck []] }, [], rfl, rfl, fun b h => ⟨fun e => absurd (e ▸ h) (by decide), fun e => absurd (e ▸ h) (by decide)⟩⟩,
  ⟨0, true, Instr.porstN, by simp⟩⟩

theorem witness_SessionCommandsComplete :
  (∃ (p : CmdPacket) (s : State), s.admits 0x0101 p = true ∧ param p 16 1 ≤ 1 ∧ (s.context = 0 ∨ param p 16 1 = 1)) ∧
  (∃ (p : CmdPacket) (s : State), s.admits 0x0102 p = true) ∧
  (∃ (p : CmdPacket) (s : State), s.admits 0x0103 p = true) ∧
  (∃ (p : CmdPacket) (s : State), s.admits 0x0104 p = true ∧ let first := param p 16 4; let count := param p 20 2; let k := (first + 2 ^ 32 - s.regN Reg.HIF_OLDEST_DSEQ) % 2 ^ 32; 1 ≤ count ∧ count ≤ 4096 ∧ k < s.hif.buf.length) ∧
  (∃ (p : CmdPacket) (s : State), s.admits 0x0104 p = true ∧ let first := param p 16 4; let count := param p 20 2; let k := (first + 2 ^ 32 - s.regN Reg.HIF_OLDEST_DSEQ) % 2 ^ 32; 1 ≤ count ∧ count ≤ 4096 ∧ s.hif.buf.length ≤ k ∧ 2 ^ 31 ≤ k) ∧
  (∃ (p : CmdPacket) (s : State), s.admits 0x0104 p = true ∧ let first := param p 16 4; let count := param p 20 2; let k := (first + 2 ^ 32 - s.regN Reg.HIF_OLDEST_DSEQ) % 2 ^ 32; 1 ≤ count ∧ count ≤ 4096 ∧ s.hif.buf.length ≤ k ∧ k < 2 ^ 31) ∧
  (∃ (p : CmdPacket) (s : State), s.admits 0x0105 p = true) ∧
  (∃ (code : Nat) (p : CmdPacket) (s : State), s.admits code p = true ∧ opSpec code = none ∧ code < 65536) :=
  ⟨⟨pkt [1], sess, by decide +kernel⟩,
  ⟨pkt [], sess, by decide +kernel⟩,
  ⟨pkt [], sess, by decide +kernel⟩,
  ⟨pkt [1, 0, 0, 0, 1], { answered with regs := (answered.setRegN Reg.HIF_OLDEST_DSEQ 1).regs }, by decide +kernel⟩,
  ⟨pkt [0, 0, 0, 0x80, 0, 16], sess.setRegN Reg.HIF_OLDEST_DSEQ 0, by decide +kernel⟩,
  ⟨pkt [0xFF, 0xFF, 0xFF, 0x7F, 0, 16], sess.setRegN Reg.HIF_OLDEST_DSEQ 0, by decide +kernel⟩,
  ⟨pkt [1], sess, by decide +kernel⟩,
  ⟨0x0106, pkt [], sess, by decide +kernel⟩⟩

theorem witness_FunctionCommandsComplete :
  (∃ (p : CmdPacket) (s : State), s.admits 0x0110 p = true ∧ let e := s.entry 0x0110 p; let id := param p 16 2; let f := e.func id; e.funcEnableRefusal id = none ∧ f.life = .off) ∧
  (∃ (p : CmdPacket) (s : State), s.admits 0x0110 p = true ∧ let e := s.entry 0x0110 p; let id := param p 16 2; let f := e.func id; e.funcEnableRefusal id = none ∧ (f.life = .starting ∨ f.life = .on)) ∧
  (∃ (p : CmdPacket) (s : State), s.admits 0x0110 p = true ∧ let e := s.entry 0x0110 p; let id := param p 16 2; let f := e.func id; e.funcEnableRefusal id = none ∧ f.life = .draining) ∧
  (∃ (p : CmdPacket) (s : State), s.admits 0x0111 p = true ∧ let e := s.entry 0x0111 p; let id := param p 16 2; let f := e.func id; funcDefined id = true ∧ 16 ≤ id ∧ (∀ n, n < 16 → (e.slot n).life = .off) ∧ (f.life = .starting ∨ f.life = .on)) ∧
  (∃ (p : CmdPacket) (s : State), s.admits 0x0111 p = true ∧ let e := s.entry 0x0111 p; let id := param p 16 2; let f := e.func id; funcDefined id = true ∧ 16 ≤ id ∧ (∀ n, n < 16 → (e.slot n).life = .off) ∧ (f.life = .off ∨ f.life = .draining)) ∧
  (∃ (p : CmdPacket) (s : State), s.admits 0x0112 p = true ∧ funcDefined (param p 16 2) = true ∧ 16 ≤ param p 16 2) :=
  ⟨⟨pkt [0x80], sess, by decide +kernel⟩,
  ⟨pkt [0x80], funcIn sess 0x80 .on, by decide +kernel⟩,
  ⟨pkt [0x80], funcIn sess 0x80 .draining, by decide +kernel⟩,
  ⟨pkt [0x10], funcIn sess 0x10 .starting, by decide +kernel⟩,
  ⟨pkt [0x87], sess, by decide +kernel⟩,
  ⟨pkt [0x10], sess, by decide +kernel⟩⟩

theorem witness_RouteCommandsComplete :
  (∃ (p : CmdPacket) (s : State), s.admits 0x0201 p = true ∧ let e := s.entry 0x0201 p; let n := param p 16 1; let len := param p 32 4; let bs := e.hostLd (param p 24 8) len; n ≤ 15 ∧ 512 ≤ len ∧ len ≤ 16777312 ∧ s.slotHeld n = false ∧ (e.slot n).image = [] ∧ e.loadRefusal bs len (e.imgs (slotList.filter (fun k => !(e.slot k).image.isEmpty))) = none) ∧
  (∃ (p : CmdPacket) (s : State), s.admits 0x0202 p = true ∧ let e := s.entry 0x0202 p; let n := param p 16 1; n ≤ 15 ∧ e.slotHeld n = false ∧ (e.slot n).life = .off ∧ (e.slot n).startPending = false) ∧
  (∃ (p : CmdPacket) (s : State), s.admits 0x0203 p = true ∧ let e := s.entry 0x0203 p; let n := param p 16 1; let f := e.slot n; n ≤ 15 ∧ e.slotHeld n = false ∧ f.image ≠ [] ∧ e.enableRefusal n (e.countingSlots n) = none ∧ f.life = .off) ∧
  (∃ (p : CmdPacket) (s : State), s.admits 0x0203 p = true ∧ let e := s.entry 0x0203 p; let n := param p 16 1; let f := e.slot n; n ≤ 15 ∧ e.slotHeld n = false ∧ f.image ≠ [] ∧ e.enableRefusal n (e.countingSlots n) = none ∧ (f.life = .starting ∨ f.life = .on)) ∧
  (∃ (p : CmdPacket) (s : State), s.admits 0x0203 p = true ∧ let e := s.entry 0x0203 p; let n := param p 16 1; let f := e.slot n; n ≤ 15 ∧ e.slotHeld n = false ∧ f.image ≠ [] ∧ e.enableRefusal n (e.countingSlots n) = none ∧ f.life = .draining) ∧
  (∃ (p : CmdPacket) (s : State), s.admits 0x0204 p = true ∧ let e := s.entry 0x0204 p; let n := param p 16 1; let f := e.slot n; n ≤ 15 ∧ e.slotHeld n = false ∧ f.image = []) ∧
  (∃ (p : CmdPacket) (s : State), s.admits 0x0204 p = true ∧ let e := s.entry 0x0204 p; let n := param p 16 1; let f := e.slot n; n ≤ 15 ∧ e.slotHeld n = false ∧ f.image ≠ [] ∧ (f.life = .starting ∨ f.life = .on)) ∧
  (∃ (p : CmdPacket) (s : State), s.admits 0x0204 p = true ∧ let e := s.entry 0x0204 p; let n := param p 16 1; let f := e.slot n; n ≤ 15 ∧ e.slotHeld n = false ∧ f.image ≠ [] ∧ (f.life = .off ∨ f.life = .draining)) ∧
  (∃ (p : CmdPacket) (s : State), s.admits 0x0205 p = true ∧ let e := s.entry 0x0205 p; let dis := param p 16 2; let en := param p 18 2; let at_ := param p 24 8; switchRefusal e dis en = none ∧ (at_ = 0 ∨ (e.opTime at_ (usTime 50) = false ∧ e.opNear at_ = false)) ∧ at_ = 0) ∧
  (∃ (p : CmdPacket) (s : State), s.admits 0x0205 p = true ∧ let e := s.entry 0x0205 p; let dis := param p 16 2; let en := param p 18 2; let at_ := param p 24 8; switchRefusal e dis en = none ∧ (at_ = 0 ∨ (e.opTime at_ (usTime 50) = false ∧ e.opNear at_ = false)) ∧ at_ ≠ 0) ∧
  (∃ (p : CmdPacket) (s : State), s.admits 0x0206 p = true ∧ let e := s.entry 0x0206 p; let n := param p 16 1; let m := (e.slot n).image; n ≤ 15 ∧ m ≠ []) :=
  ⟨⟨pkt [15, 0, 0, 0, 0, 0, 0, 0, 0x40, 0, 0, 0, 0, 0, 0, 0, 0, 2], { sess with host := Memory.writeBytes [] 64 (imageOf [(200, 4, 0xBE6D52BB)]) }, by decide +kernel⟩,
  ⟨pkt [15], slotIn sess 15 .off (imageOf []), by decide +kernel⟩,
  ⟨pkt [0], slotIn sess 0 .off (imageOf []), by decide +kernel⟩,
  ⟨pkt [0], slotIn sess 0 .on (imageOf []), by decide +kernel⟩,
  ⟨pkt [0], slotIn sess 0 .draining (imageOf []), by decide +kernel⟩,
  ⟨pkt [15], sess, by decide +kernel⟩,
  ⟨pkt [15], slotIn sess 15 .starting [1], by decide +kernel⟩,
  ⟨pkt [15], slotIn sess 15 .draining [1], by decide +kernel⟩,
  ⟨pkt [1, 0, 2], slotIn sess 1 .off (imageOf []), by decide +kernel⟩,
  ⟨pkt [0, 0, 0, 0, 0, 0, 0, 0, 0, 0, 0, 1], sess, by decide +kernel⟩,
  ⟨pkt [15], slotIn sess 15 .off [1], by decide +kernel⟩⟩

theorem witness_SensorCommandsComplete :
  (∃ (p : CmdPacket) (s : State), s.admits 0x0301 p = true ∧ let e := s.entry 0x0301 p; let id := param p 16 2; funcDefined id = true ∧ e.sensorRefusal id p.ext = none) ∧
  (∃ (p : CmdPacket) (s : State), s.admits 0x0302 p = true ∧ let id := param p 16 2; funcDefined id = true ∧ isSensor id = true) ∧
  (∃ (p : CmdPacket) (s : State), s.admits 0x0303 p = true ∧ let id := param p 16 2; let k := param p 18 1; let m := param p 19 1; (rng id 0x010 0x01F || rng id 0x058 0x067) = true ∧ 1 ≤ k ∧ k ≤ 15 ∧ 1 ≤ m ∧ m ≤ 255) ∧
  (∃ (p : CmdPacket) (s : State), s.admits 0x0304 p = true ∧ let e := s.entry 0x0304 p; let j := param p 16 1; j ≤ 7 ∧ (e.func (lidarFunc j)).life = .off ∧ lidarDescOk p.ext = true) ∧
  (∃ (p : CmdPacket) (s : State), s.admits 0x0305 p = true ∧ let e := s.entry 0x0305 p; let c := param p 16 1; e.decRefusal c p.ext = none) :=
  ⟨⟨pktX [0x58] (bytesOf 64 [(0, 1, 4), (1, 1, 1), (6, 2, 100)]), sess, by decide +kernel⟩,
  ⟨pkt [0x10], sess, by decide +kernel⟩,
  ⟨pkt [0x67, 0, 15, 255], sess, by decide +kernel⟩,
  ⟨pktX [7] (bytesOf 320 lidarFields), sess, by decide +kernel⟩,
  ⟨pktX [0] (bytesOf 64 [(0, 1, 8), (1, 1, 1), (16, 2, 4), (18, 2, 1)]), sess, by decide +kernel⟩⟩

theorem witness_MapAndSolverCommandsComplete :
  (∃ (p : CmdPacket) (s : State), s.admits 0x0401 p = true ∧ let e := s.entry 0x0401 p; let kind := param p 16 1; let first := param p 20 8; let count := param p 28 4; e.mapNotReady = false ∧ 1 ≤ count ∧ count ≤ 65536 ∧ ((kind = 0 ∧ first < 2 ^ 25) ∨ (kind = 1 ∧ first < 2 ^ 20) ∨ (kind = 2 ∧ count ≤ 256 ∧ keyOk first = true ∧ sgn 20 (first % 2 ^ 20) + (count : Int) - 1 ≤ 524287))) ∧
  (∃ (p : CmdPacket) (s : State), s.admits 0x0402 p = true ∧ let e := s.entry 0x0402 p; let key := param p 16 8; e.mapNotReady = false ∧ keyOk key = true ∧ (dirFind e.mem e.mapBases key).isSome = true) ∧
  (∃ (p : CmdPacket) (s : State) (u : State), s.admits 0x0403 p = true ∧ let e := s.entry 0x0403 p; let key := param p 16 8; let tile := e.hostLd (param p 24 8) tileLen; e.mapNotReady = false ∧ tileOk key tile = true ∧ e.tileBusy key = false ∧ e.importTile key tile = some u) ∧
  (∃ (p : CmdPacket) (s : State) (way : Nat) (loc : Nat) (f : Nat), s.admits 0x0404 p = true ∧ let e := s.entry 0x0404 p; let key := param p 16 8; keyOk key = true ∧ dirFind e.mem e.mapBases key = some (way, loc) ∧ e.mapNotReady = false ∧ param p 24 1 = 1 ∧ locTier loc ≠ 1 ∧ e.tileBusy key = false ∧ leastBelow 131072 (fun k => (SMap.find e.map.data.stored k).isNone) = some f) ∧
  (∃ (p : CmdPacket) (s : State) (way : Nat) (loc : Nat) (k : Nat), s.admits 0x0404 p = true ∧ let e := s.entry 0x0404 p; let key := param p 16 8; keyOk key = true ∧ dirFind e.mem e.mapBases key = some (way, loc) ∧ e.mapNotReady = false ∧ param p 24 1 = 0 ∧ locTier loc ≠ 2 ∧ e.tileBusy key = false ∧ leastBelow (e.regN Reg.MAP_ARC_SLOTS) (fun k => (SMap.find e.map.data.archive k).isNone) = some k ∧ e.writeLocked = false) ∧
  (∃ (p : CmdPacket) (s : State), s.admits 0x0501 p = true ∧ let e := s.entry 0x0501 p; let c := param p 16 1; let len := param p 32 4; c < 64 ∧ 64 ≤ len ∧ len ≤ 16777216 ∧ len % 8 = 0 ∧ e.bitOf (Reg.BSU_CH_STATUS c) 1 = false) ∧
  (∃ (p : CmdPacket) (s : State), s.admits 0x0502 p = true ∧ let e := s.entry 0x0502 p; let c := param p 16 1; let v : BsuCfg := ⟨param p 17 1, param p 18 1, param p 24 8 % 2 ^ 36, param p 32 4⟩; c < 64 ∧ v.mode ≤ 1 ∧ 1 ≤ v.count ∧ v.count ≤ 64 ∧ tauOk v.tau = true ∧ zeroIn p.params 3 8 = true ∧ zeroIn p.params 20 48 = true ∧ e.bitOf (Reg.BSU_CH_STATUS c) 1 = false ∧ e.bsuBusy c = false) ∧
  (∃ (p : CmdPacket) (s : State), s.admits 0x0503 p = true ∧ let e := s.entry 0x0503 p; let c := param p 16 1; c < 64 ∧ zeroIn p.params 1 48 = true ∧ e.bitOf (Reg.BSU_CH_STATUS c) 1 = false ∧ e.bsuBusy c = false) :=
  ⟨⟨pkt [0, 0, 0, 0, 0, 0, 0, 0, 0, 0, 0, 0, 1], mapWith 1, by decide +kernel, by
    obtain ⟨e, he, h⟩ := entry_on (mapWith 1) 0x401 (pkt [0, 0, 0, 0, 0, 0, 0, 0, 0, 0, 0, 0, 1]) (by decide); rw [h]; clear h; revert e; decide +kernel⟩,
  ⟨pkt [], mapWith 1, by decide +kernel, by
    obtain ⟨e, he, h⟩ := entry_on (mapWith 1) 0x402 (pkt []) (by decide); rw [h]; clear h; revert e; decide +kernel⟩,
  ⟨pkt [], tileHost, ((tileHost.entry 0x403 (pkt [])).importTile 0 (tileHdr ++ zeros 16384)).getD live, by decide +kernel, by
    obtain ⟨e, he, h⟩ := entry_on tileHost 0x403 (pkt []) (by decide)
    have b : (tileHost.entry 0x403 (pkt [])).hostLd (param (pkt []) 24 8) tileLen = tileHdr ++ zeros 16384 := by
      rw [h]; exact tile_bytes
    refine ⟨by rw [h]; clear h b; revert e; decide +kernel, b ▸ tile_ok, by rw [h]; clear h b; revert e; decide +kernel, ?_⟩
    rw [b]; exact getD_of live (by rw [h]; clear h b; revert e; decide +kernel)⟩,
  ⟨pkt [0, 0, 0, 0, 0, 0, 0, 0, 1], mapWith 2, dirBucket (mapWith 2).mapBases 0, 5 + 2 ^ 31, 0, by decide +kernel⟩,
  ⟨pkt [], (mapWith 1).setRegN Reg.MAP_ARC_SLOTS 4, dirBucket (mapWith 1).mapBases 0, 5 + 2 ^ 30, 0, by decide +kernel⟩,
  ⟨pkt [63, 0, 0, 0, 0, 0, 0, 0, 0, 0, 0, 0, 0, 0, 0, 0, 64], sess, by decide +kernel, by
    obtain ⟨e, he, h⟩ := entry_on (sess) 0x501 (pkt [63, 0, 0, 0, 0, 0, 0, 0, 0, 0, 0, 0, 0, 0, 0, 0, 64]) (by decide); rw [h]; clear h; revert e; decide +kernel⟩,
  ⟨pkt [63, 1, 64, 0, 0, 0, 0, 0, 1, 0, 0, 24, 2], sess, by decide +kernel⟩,
  ⟨pkt [63], sess, by decide +kernel⟩⟩

theorem witness_MemoryCommandsComplete :
  (∃ (p : CmdPacket) (s : State), s.admits 0x0601 p = true ∧ let a := param p 16 8; let n := param p 32 4; memLenBad n [a] = false ∧ (addrRow a n).isSome = true) ∧
  (∃ (p : CmdPacket) (s : State), s.admits 0x0602 p = true ∧ let e := s.entry 0x0602 p; let a := param p 16 8; let n := param p 32 4; memLenBad n [a] = false ∧ (addrRow a n).isSome = true ∧ (inFlash a n = true → a % 32768 = 0 ∧ n % 32768 = 0) ∧ e.destRefusal a n = none ∧ inFlash a n = false) ∧
  (∃ (p : CmdPacket) (s : State), s.admits 0x0602 p = true ∧ let e := s.entry 0x0602 p; let a := param p 16 8; let n := param p 32 4; memLenBad n [a] = false ∧ (addrRow a n).isSome = true ∧ (inFlash a n = true → a % 32768 = 0 ∧ n % 32768 = 0) ∧ e.destRefusal a n = none ∧ inFlash a n = true) ∧
  (∃ (p : CmdPacket) (s : State), s.admits 0x0603 p = true ∧ let e := s.entry 0x0603 p; let a := param p 16 8; let b := param p 24 8; let n := param p 32 4; memLenBad n [a, b] = false ∧ (addrRow a n).isSome = true ∧ (addrRow b n).isSome = true ∧ (inFlash b n = true → b % 32768 = 0 ∧ n % 32768 = 0) ∧ overlap (a, a + n) (b, b + n) = false ∧ e.destRefusal b n = none ∧ inFlash b n = false) ∧
  (∃ (p : CmdPacket) (s : State), s.admits 0x0603 p = true ∧ let e := s.entry 0x0603 p; let a := param p 16 8; let b := param p 24 8; let n := param p 32 4; memLenBad n [a, b] = false ∧ (addrRow a n).isSome = true ∧ (addrRow b n).isSome = true ∧ (inFlash b n = true → b % 32768 = 0 ∧ n % 32768 = 0) ∧ overlap (a, a + n) (b, b + n) = false ∧ e.destRefusal b n = none ∧ inFlash b n = true) ∧
  (∃ (p : CmdPacket) (s : State), s.admits 0x0604 p = true ∧ param p 16 1 ≤ 3) ∧
  (∃ (p : CmdPacket) (s : State) (f : Nat), s.admits 0x0605 p = true ∧ let e := s.entry 0x0605 p; let a := param p 16 8; e.memTarget a = some (.tile f) ∧ (MemTarget.tile f).stagingTier = param p 24 1 ∧ (e.map.data.tabOf f).isSome = true) ∧
  (∃ (p : CmdPacket) (s : State) (f : Nat), s.admits 0x0605 p = true ∧ let e := s.entry 0x0605 p; let a := param p 16 8; e.memTarget a = some (.tile f) ∧ (MemTarget.tile f).stagingTier = param p 24 1 ∧ (e.map.data.tabOf f).isSome = false) ∧
  (∃ (p : CmdPacket) (s : State) (i : Nat) (o : MemObj), s.admits 0x0605 p = true ∧ let e := s.entry 0x0605 p; let a := param p 16 8; e.memTarget a = some (.obj i o) ∧ (MemTarget.obj i o).stagingTier = param p 24 1 ∧ (∀ x ∈ e.memt.objs, x.1 ≠ i → x.2.state ≠ .absent → overlap x.2.range o.range = false)) ∧
  (∃ (p : CmdPacket) (s : State) (f : Nat), s.admits 0x0606 p = true ∧ let e := s.entry 0x0606 p; let a := param p 16 8; e.memTarget a = some (.tile f) ∧ (MemTarget.tile f).homeTier = param p 24 1) ∧
  (∃ (p : CmdPacket) (s : State) (i : Nat) (o : MemObj), s.admits 0x0606 p = true ∧ let e := s.entry 0x0606 p; let a := param p 16 8; e.memTarget a = some (.obj i o) ∧ (MemTarget.obj i o).homeTier = param p 24 1) ∧
  (∃ (p : CmdPacket) (s : State), s.admits 0x0607 p = true ∧ let e := s.entry 0x0607 p; let a := param p 16 8; let n := param p 32 4; let hit := fun (o : MemObj) (j : Nat) => overlap (span (o.slotAddr j) tileLen) (a, a + n) || overlap (span (o.tileAddr (e.stagedTile o j)) tileLen) (a, a + n); let due := e.memt.objs.map (fun x => (x.1, x.2, x.2.dirty.filter (hit x.2))); let count := (due.map (fun x => x.2.2.length)).sum; memLenBad n [a] = false ∧ (addrRow a n).isSome = true ∧ count = 0) ∧
  (∃ (p : CmdPacket) (s : State), s.admits 0x0607 p = true ∧ let e := s.entry 0x0607 p; let a := param p 16 8; let n := param p 32 4; let hit := fun (o : MemObj) (j : Nat) => overlap (span (o.slotAddr j) tileLen) (a, a + n) || overlap (span (o.tileAddr (e.stagedTile o j)) tileLen) (a, a + n); let due := e.memt.objs.map (fun x => (x.1, x.2, x.2.dirty.filter (hit x.2))); let count := (due.map (fun x => x.2.2.length)).sum; memLenBad n [a] = false ∧ (addrRow a n).isSome = true ∧ count ≠ 0) :=
  ⟨⟨pkt [0, 0, 0, 0, 16, 0, 0, 0, 0, 0, 0, 0, 0, 0, 0, 0, 64], sess, by decide +kernel⟩,
  ⟨pkt [0, 0, 0, 0, 16, 0, 0, 0, 0, 0, 0, 0, 0, 0, 0, 0, 64], sess, by decide +kernel, by
    obtain ⟨e, he, h⟩ := entry_on (sess) 0x602 (pkt [0, 0, 0, 0, 16, 0, 0, 0, 0, 0, 0, 0, 0, 0, 0, 0, 64]) (by decide); rw [h]; clear h; revert e; decide +kernel⟩,
  ⟨pkt [0, 0, 0, 0, 64, 0, 0, 0, 0, 0, 0, 0, 0, 0, 0, 0, 0, 128], sess, by decide +kernel, by
    obtain ⟨e, he, h⟩ := entry_on (sess) 0x602 (pkt [0, 0, 0, 0, 64, 0, 0, 0, 0, 0, 0, 0, 0, 0, 0, 0, 0, 128]) (by decide); rw [h]; clear h; revert e; decide +kernel⟩,
  ⟨pkt [0, 0, 0, 0, 16, 0, 0, 0, 64, 0, 0, 0, 16, 0, 0, 0, 64], sess, by decide +kernel⟩,
  ⟨pkt [0, 0, 0, 0, 16, 0, 0, 0, 0, 128, 0, 0, 64, 0, 0, 0, 0, 128], sess, by decide +kernel⟩,
  ⟨pkt [3], sess, by decide +kernel⟩,
  ⟨pkt [64, 65, 17, 0, 16], { mapWith 1 with map := { Map.reset with data := { MapData.reset with stored := [(5, 0)], frames := [(1, ⟨5, zeros 64, false⟩)] } } }, 5, by decide +kernel, target_tile (by decide +kernel), by decide +kernel⟩,
  ⟨pkt [64, 65, 17, 0, 16], { mapWith 1 with map := { Map.reset with data := { MapData.reset with stored := [(5, 0)] } } }, 5, by decide +kernel, target_tile (by decide +kernel), by decide +kernel⟩,
  ⟨pkt [0, 0, 0, 0, 64, 0, 0, 0, 1], withObj (obj0 .absent), 3, obj0 .absent, by decide +kernel, target_obj (by decide +kernel), by decide +kernel⟩,
  ⟨pkt [64, 65, 17, 0, 16, 0, 0, 0, 1], { mapWith 1 with map := { Map.reset with data := { MapData.reset with stored := [(5, 0)] } } }, 5, by decide +kernel, target_tile (by decide +kernel), by decide +kernel⟩,
  ⟨pkt [0, 0, 0, 0, 64, 0, 0, 0, 2], withObj (obj0 .absent), 3, obj0 .absent, by decide +kernel, target_obj (by decide +kernel), by decide +kernel⟩,
  ⟨pkt [0, 0, 0, 0, 16, 0, 0, 0, 0, 0, 0, 0, 0, 0, 0, 0, 64], withObj (obj0 .absent), by decide +kernel⟩,
  ⟨pkt [0, 0, 0, 0, 16, 0, 0, 0, 0, 0, 0, 0, 0, 0, 0, 0, 64], withObj { obj0 .resident with dirty := [0] }, by decide +kernel⟩⟩

theorem witness_TimeCommandsComplete :
  (∃ (p : CmdPacket) (s : State), s.admits 0x0701 p = true) ∧
  (∃ (p : CmdPacket) (s : State), s.admits 0x0702 p = true ∧ let e := s.entry 0x0702 p; let mode := param p 16 1; let c := e.changeOf mode (sparam p 24 8) (sparam p 32 4); e.adjustRefusal mode (sparam p 24 8) (sparam p 32 4) = none ∧ e.changeFree c = true) ∧
  (∃ (p : CmdPacket) (s : State), s.admits 0x0702 p = true ∧ let e := s.entry 0x0702 p; let mode := param p 16 1; let c := e.changeOf mode (sparam p 24 8) (sparam p 32 4); e.adjustRefusal mode (sparam p 24 8) (sparam p 32 4) = none ∧ e.changeFree c = false ∧ (e.tim.held = [] ∧ e.changeDue ≤ e.raw + 1)) ∧
  (∃ (p : CmdPacket) (s : State), s.admits 0x0702 p = true ∧ let e := s.entry 0x0702 p; let mode := param p 16 1; let c := e.changeOf mode (sparam p 24 8) (sparam p 32 4); e.adjustRefusal mode (sparam p 24 8) (sparam p 32 4) = none ∧ e.changeFree c = false ∧ (e.tim.held ≠ [] ∨ e.raw + 1 < e.changeDue)) ∧
  (∃ (p : CmdPacket) (s : State), s.admits 0x0703 p = true ∧ let q := param p 16 1; ptpRefusal q p.ext = none) :=
  ⟨⟨pkt [], sess, by decide +kernel⟩,
  ⟨pkt [1], sess, by decide +kernel⟩,
  ⟨pkt [0, 0, 0, 0, 0, 0, 0, 0, 0, 248, 80, 208, 255, 255, 255, 255], sess, by decide +kernel⟩,
  ⟨pkt [2, 0, 0, 0, 0, 0, 0, 0, 0, 0, 0, 0, 0, 0, 0, 0, 5], { sess with tim := { sess.tim with lastChange := some 0 } }, by decide +kernel⟩,
  ⟨pktX [3] (bytesOf 64 [(7, 1, 3)]), sess, by decide +kernel⟩⟩

theorem witness_PairCommandsComplete :
  (∃ (p : CmdPacket) (s : State), s.admits 0x0801 p = true ∧ let e := s.entry 0x0801 p; let r := param p 16 1; r ≤ 2 ∧ (e.func tdmFunc).life = .off ∧ (r = e.role ∨ e.allSlotsOff = true)) ∧
  (∃ (p : CmdPacket) (s : State), s.admits 0x0802 p = true) ∧
  (∃ (p : CmdPacket) (s : State), s.admits 0x0803 p = true ∧ let e := s.entry 0x0803 p; e.role ≠ 0 ∧ (e.func tdmFunc).life ≠ .off ∧ e.linkState = 3) ∧
  (∃ (p : CmdPacket) (s : State), s.admits 0x0803 p = true ∧ let e := s.entry 0x0803 p; e.role ≠ 0 ∧ (e.func tdmFunc).life ≠ .off ∧ e.linkState = 0 ∧ e.role = 2) ∧
  (∃ (p : CmdPacket) (s : State), s.admits 0x0803 p = true ∧ let e := s.entry 0x0803 p; e.role ≠ 0 ∧ (e.func tdmFunc).life ≠ .off ∧ e.linkState ≠ 3 ∧ (¬ (e.linkState = 0 ∧ e.role = 2))) ∧
  (∃ (p : CmdPacket) (s : State), s.admits 0x0804 p = true ∧ let e := s.entry 0x0804 p; let me := param p 18 1; let es := memberEntries p.ext; p.ext.length % 16 = 0 ∧ 2 ≤ es.length ∧ me < es.length ∧ (es.getD me []).take 6 = e.macOf 0 ∧ twinsOk es = true ∧ e.fabricOn = true ∧ e.joined = false ∧ e.pel.joinDue = none) ∧
  (∃ (p : CmdPacket) (s : State), s.admits 0x0805 p = true ∧ (s.entry 0x0805 p).joined = true) ∧
  (∃ (p : CmdPacket) (s : State), s.admits 0x0806 p = true ∧ let e := s.entry 0x0806 p; let op := param p 16 1; let at_ := param p 24 8; let dis := param p 32 2; let en := param p 34 2; e.joined = true ∧ (op = 1 ∨ op = 2 ∨ (op = 3 ∧ switchRefusal e dis en = none)) ∧ e.opTime at_ (usTime (e.treeDepth * e.hop + 50)) = false ∧ e.opNear at_ = false) ∧
  (∃ (p : CmdPacket) (s : State), s.admits 0x0807 p = true) :=
  ⟨⟨pkt [2], { sess with tdm := Tdm.reset }, by decide +kernel⟩,
  ⟨pkt [], sess, by decide +kernel⟩,
  ⟨pkt [], (funcIn sess 0x084 .on).setFld Reg.TDM_STATUS 0 4 (2 + 4 * 3), by decide +kernel⟩,
  ⟨pkt [], (funcIn sess 0x084 .on).setFld Reg.TDM_STATUS 0 4 2, by decide +kernel⟩,
  ⟨pkt [], (funcIn sess 0x084 .on).setFld Reg.TDM_STATUS 0 4 1, by decide +kernel⟩,
  ⟨pktX [] (bytesOf 32 [(16, 1, 9)]), funcIn sess 0x081 .on, by decide +kernel⟩,
  ⟨pkt [], joinedWith 0 [], by decide +kernel⟩,
  ⟨pkt [3, 0, 0, 0, 0, 0, 0, 0, 128, 56, 1], joinedWith 0 [], by decide +kernel⟩,
  ⟨pkt [], sess, by decide +kernel⟩⟩

theorem witness_ObservationCommandsComplete :
  (∃ (p : CmdPacket) (s : State), s.admits 0x0901 p = true ∧ 1 ≤ param p 16 1 ∧ param p 16 1 ≤ 15) ∧
  (∃ (p : CmdPacket) (s : State), s.admits 0x0902 p = true ∧ let m := param p 16 1; let d := p.ext; m < 64 ∧ d.length = 64 ∧ leAt d 0 1 ≤ 10 ∧ leAt d 1 1 < 8 ∧ leAt d 2 1 ≤ 33 ∧ zeroIn d 32 64 = true ∧ selectorOk (leAt d 0 1) (leAt d 4 2) (leAt d 6 2) = true) ∧
  (∃ (p : CmdPacket) (s : State), s.admits 0x0903 p = true ∧ let e := s.entry 0x0903 p; e.traceRefusal p.ext = none) ∧
  (∃ (p : CmdPacket) (s : State), s.admits 0x0904 p = true ∧ let e := s.entry 0x0904 p; let n := param p 28 8; e.ccu.cadence < n ∧ n ≤ e.ccu.cadence + 65536 ∧ 16512 ≤ param p 24 4 ∧ e.obs.dumps.length < 4 ∧ (∀ d ∈ e.obs.dumps, ¬ (d.layer = p.layer ∧ d.operator = p.operator ∧ d.cadence = n))) ∧
  (∃ (p : CmdPacket) (s : State), s.admits 0x0905 p = true ∧ s.obs.brake = none) :=
  ⟨⟨pkt [15], sess, by decide +kernel⟩,
  ⟨pktX [63] (bytesOf 64 [(2, 1, 33)]), sess, by decide +kernel⟩,
  ⟨pktX [] (bytesOf 64 [(0, 1, 1), (1, 1, 1), (24, 8, 0x1000000000), (32, 4, 65536)]), sess, by decide +kernel⟩,
  ⟨pkt [0, 0, 0, 0, 0, 0, 0, 0, 128, 64, 0, 0, 1], sess, by decide +kernel⟩,
  ⟨pkt [], sess, by decide +kernel⟩⟩

theorem witness_MetrologyCommandsComplete :
  (∃ (p : CmdPacket) (s : State) (r : List Byte), s.admits 0x0A01 p = true ∧ let e := s.entry 0x0A01 p; e.met.ident = some r ∧ e.metPresent = true) ∧
  (∃ (p : CmdPacket) (s : State) (r : List Byte), s.admits 0x0A02 p = true ∧ let e := s.entry 0x0A02 p; e.met.ident = some r ∧ e.metPresent = true) ∧
  (∃ (p : CmdPacket) (s : State) (cells : Nat) (period : Nat), s.admits 0x0A03 p = true ∧ let e := s.entry 0x0A03 p; let id := param p 16 2; let n := param p 18 1; 0x010 ≤ id ∧ id ≤ 0x01F ∧ n ≤ 1 ∧ e.metResident id = some (cells, period) ∧ 2 * (68 + 4 * cells) + 200000 + 24 * cells ≤ period ∧ (e.met.oasis.sealed = false ∨ id = Mp.source e.met.oasis.params)) ∧
  (∃ (p : CmdPacket) (s : State), s.admits 0x0A04 p = true ∧ let n := param p 24 2; 1 ≤ n ∧ n ≤ 256) :=
  ⟨⟨pkt [], ({ sess with met := { Met.reset with ident := some (zeros 64) } }).setBit Reg.MET_GW_STATUS 2, zeros 64, by decide +kernel⟩,
  ⟨pkt [], ({ sess with met := { Met.reset with ident := some (zeros 64) } }).setBit Reg.MET_GW_STATUS 2, zeros 64, by decide +kernel⟩,
  ⟨pkt [16, 0, 1], slotIn sess 0 .on metImageOf, 4096, 800000, by decide +kernel⟩,
  ⟨pkt [0, 0, 0, 0, 0, 0, 0, 0, 0, 1], sess, by decide +kernel⟩⟩

theorem witness_CadenceAndDrainEventsComplete :
  (∃ (s : State) (o : Opening), s.alive = true ∧ s.opening = some o) ∧
  (∃ (s : State) (id : Nat), s.alive = true ∧ (s.func id).life = .starting ∧ (s.func id).startedAt + 16 ≤ s.ccu.cadence ∧ (s.ccu.cadence - (s.func id).startedAt) % 16 = 0 ∧ (s.func id).boundAt ≠ s.ccu.cadence) ∧
  (∃ (s : State) (pin : Nat) (t : Nat), s.alive = true ∧ SMap.find s.ccu.trigDue pin = some t) ∧
  (∃ (s : State) (pin : Nat) (t : Nat), s.alive = true ∧ SMap.find s.ccu.trigEnd pin = some t) ∧
  (∃ (s : State) (id : Nat), s.alive = true ∧ 16 ≤ id ∧ (s.func id).life = .draining ∧ (s.func id).overran = false) ∧
  (∃ (s : State) (n : Nat), s.alive = true ∧ n < 16 ∧ (s.slot n).life = .draining ∧ (s.slot n).lastTransition < s.ccu.cadence ∧ (s.slot n).overran = false) ∧
  (∃ (s : State) (id : Nat), s.alive = true ∧ (s.func id).life = .draining ∧ s.funcDrained id = true) ∧
  (∃ (s : State) (n : Nat), s.alive = true ∧ (s.slot n).life = .draining ∧ s.memDrained n = true ∧ s.ccu.runs.any (fun r => r.slot == n) = false) :=
  ⟨⟨({ live with ccu := { live.ccu with lastInstant := some 0 } }).setBit Reg.CCU_CTRL 0, ⟨32000000, false, none⟩, by decide +kernel⟩,
  ⟨starting 0x10 0 16, 0x10, by decide +kernel⟩,
  ⟨{ live with ccu := { live.ccu with trigDue := [(1, 5000)] } }, 1, 5000, by decide +kernel⟩,
  ⟨{ live with ccu := { live.ccu with trigEnd := [(1, 5000)] } }, 1, 5000, by decide +kernel⟩,
  ⟨funcIn live 0x5F .draining, 0x5F, by decide +kernel⟩,
  ⟨(let s := slotIn live 15 .draining [1]; { s with ccu := { s.ccu with cadence := 1 } }), 15, by decide +kernel⟩,
  ⟨funcIn live 0x80 .draining, 0x80, by decide +kernel⟩,
  ⟨slotIn live 0 .draining [1], 0, by decide +kernel⟩⟩

theorem witness_StageEventsComplete :
  (∃ (s : State) (n : Nat) (i : Nat) (outs : List Nat) (ws : List Nat), s.alive = true ∧ s.startable n i = true ∧ let d := Img.desc (s.slot n).image i; let x := ((s.runToTime ((s.slot n).runInstant + Sd.start d)).emitSlot 1 n 0x10 (Sd.layer d) (leBytes 2 (Sd.operator d) ++ zeros 2 ++ leBytes 4 (s.slot n).runCadence)).each outs (fun st k => st.setFlag n k Flag.empty (Sd.layer d) (Sd.operator d)); let late := (weightFlags (s.slot n).image d ws).filter (fun k => x.flagOf n k != Flag.ready); late = []) ∧
  (∃ (s : State) (n : Nat) (i : Nat) (outs : List Nat) (ws : List Nat), s.alive = true ∧ s.startable n i = true ∧ let d := Img.desc (s.slot n).image i; let x := ((s.runToTime ((s.slot n).runInstant + Sd.start d)).emitSlot 1 n 0x10 (Sd.layer d) (leBytes 2 (Sd.operator d) ++ zeros 2 ++ leBytes 4 (s.slot n).runCadence)).each outs (fun st k => st.setFlag n k Flag.empty (Sd.layer d) (Sd.operator d)); let late := (weightFlags (s.slot n).image d ws).filter (fun k => x.flagOf n k != Flag.ready); late ≠ [] ∧ (Sd.flags d).testBit 1 = true ∧ (Sd.flags d).testBit 2 = false) ∧
  (∃ (s : State) (n : Nat) (i : Nat) (outs : List Nat) (ws : List Nat), s.alive = true ∧ s.startable n i = true ∧ let d := Img.desc (s.slot n).image i; let x := ((s.runToTime ((s.slot n).runInstant + Sd.start d)).emitSlot 1 n 0x10 (Sd.layer d) (leBytes 2 (Sd.operator d) ++ zeros 2 ++ leBytes 4 (s.slot n).runCadence)).each outs (fun st k => st.setFlag n k Flag.empty (Sd.layer d) (Sd.operator d)); let late := (weightFlags (s.slot n).image d ws).filter (fun k => x.flagOf n k != Flag.ready); late ≠ [] ∧ (Sd.flags d).testBit 1 = true ∧ (Sd.flags d).testBit 2 = true) ∧
  (∃ (s : State) (n : Nat) (i : Nat) (outs : List Nat) (ws : List Nat), s.alive = true ∧ s.startable n i = true ∧ let d := Img.desc (s.slot n).image i; let x := ((s.runToTime ((s.slot n).runInstant + Sd.start d)).emitSlot 1 n 0x10 (Sd.layer d) (leBytes 2 (Sd.operator d) ++ zeros 2 ++ leBytes 4 (s.slot n).runCadence)).each outs (fun st k => st.setFlag n k Flag.empty (Sd.layer d) (Sd.operator d)); let late := (weightFlags (s.slot n).image d ws).filter (fun k => x.flagOf n k != Flag.ready); late ≠ [] ∧ (Sd.flags d).testBit 1 = false) ∧
  (∃ (s : State) (n : Nat) (i : Nat) (r : Run), s.alive = true ∧ s.runOf n i = some r ∧ Sd.deadline (s.runDesc r) ≠ Img.period (s.img n)) ∧
  (∃ (s : State) (n : Nat) (i : Nat) (r : Run), s.alive = true ∧ s.runOf n i = some r ∧ Sd.deadline (s.runDesc r) = Img.period (s.img n)) ∧
  (∃ (s : State) (n : Nat) (i : Nat) (r : Run) (r' : Run), s.alive = true ∧ s.mapSync.runOf n i = some r ∧ r.waiting = false ∧ (r.insts.all (fun k => k.ended) = true ∨ 7 ≤ Sd.cls (s.mapSync.runDesc r)) ∧ (s.mapSync.unitEnd r).runOf n i = some r') :=
  ⟨⟨routeOn (imageOf []), 0, 0, [1], [], by decide +kernel⟩,
  ⟨routeOn (imageC 5 [(300, 4, 320), (322, 2, 1), (324, 4, 328), (261, 1, 2), (296, 4, 1)]), 0, 0, [1], [], by decide +kernel⟩,
  ⟨routeOn (imageC 5 [(300, 4, 320), (322, 2, 1), (324, 4, 328), (261, 1, 6), (296, 4, 1)]), 0, 0, [1], [], by decide +kernel⟩,
  ⟨routeOn (imageC 5 [(300, 4, 320), (322, 2, 1), (324, 4, 328)]), 0, 0, [1], [], by decide +kernel⟩,
  ⟨atRun (imageOf []), 0, 0, run0, by decide +kernel⟩,
  ⟨atRun (imageOf [(276, 4, 800000)]), 0, 0, run0, by decide +kernel⟩,
  ⟨(let s := atRun (imageOf []); { s with ccu := { s.ccu with runs := [{ run0 with insts := [] }] } }), 0, 0, { run0 with insts := [] }, { run0 with insts := [] }, by decide +kernel⟩⟩

theorem witness_EpochEventsComplete :
  (∃ (s : State) (e : Nat) (c : Bool) (rest : List (Nat × Option Bool)), s.alive = true ∧ s.ccu.resolving = none ∧ s.ccu.epochs = (e, some c) :: rest ∧ let x := s.fppResolve e c; x.1.mapHolds e = true) ∧
  (∃ (s : State) (e : Nat) (c : Bool) (rest : List (Nat × Option Bool)), s.alive = true ∧ s.ccu.resolving = none ∧ s.ccu.epochs = (e, some c) :: rest ∧ let x := s.fppResolve e c; x.1.mapHolds e = false ∧ x.2 = false) ∧
  (∃ (s : State) (e : Nat) (c : Bool) (rest : List (Nat × Option Bool)), s.alive = true ∧ s.ccu.resolving = none ∧ s.ccu.epochs = (e, some c) :: rest ∧ let x := s.fppResolve e c; x.1.mapHolds e = false ∧ x.2 = true) ∧
  (∃ (s : State) (u : Nat) (e : Nat) (cad : Nat) (c : Bool) (hs : List Nat) (late : List Nat), s.alive = true ∧ s.ccu.resolving = some (e, c, hs, cad, late) ∧ hs.contains u = true ∧ (u = 1 → s.mapHolds e = false)) ∧
  (∃ (s : State) (u : Nat) (e : Nat) (cad : Nat) (c : Bool) (hs : List Nat) (late : List Nat), s.alive = true ∧ s.ccu.resolving = some (e, c, hs, cad, late) ∧ hs.contains u = true ∧ late.contains u = false ∧ cad < s.ccu.cadence) :=
  ⟨⟨{ live with ccu := { live.ccu with epochs := [(5, some true)] }, map := { Map.reset with data := { MapData.reset with shadows := [⟨5, 0, 0, 0, 0, 0, 0, 0, false⟩] } } }, 5, true, [], by decide +kernel⟩,
  ⟨(let s := funcIn live fppFunc .on; { s with ccu := { s.ccu with epochs := [(5, some true)] }, fpp := { s.fpp with queue := [⟨bytesOf 128 [(4, 4, 5)], false, none⟩] } }), 5, true, [], by decide +kernel⟩,
  ⟨{ live with ccu := { live.ccu with epochs := [(5, some true)] } }, 5, true, [], by decide +kernel⟩,
  ⟨{ live with ccu := { live.ccu with resolving := some (5, true, [0, 1], 9, []) } }, 1, 5, 9, true, [0, 1], [], by decide +kernel, by decide +kernel, by decide +kernel, fun _ => by decide +kernel⟩,
  ⟨{ live with ccu := { live.ccu with cadence := 10, resolving := some (5, true, [0, 1], 9, []) } }, 1, 5, 9, true, [0, 1], [], by decide +kernel⟩⟩

theorem witness_GlobalOperationComplete :
  (∃ (s : State) (o : PelOp), s.alive = true ∧ s.nextOp = some o ∧ o.armed = false) ∧
  (∃ (s : State) (o : PelOp), s.alive = true ∧ s.nextOp = some o ∧ o.armed = true ∧ o.op = 1) ∧
  (∃ (s : State) (o : PelOp), s.alive = true ∧ s.nextOp = some o ∧ o.armed = true ∧ let w := (s.runToTime o.instant).opDue o; let x := w.emit none 0x05 o.op 0 (leBytes 8 o.instant) (some w.ctlEngines); o.op ≠ 1 ∧ x.ccu.lastInstant = none) ∧
  (∃ (s : State) (o : PelOp), s.alive = true ∧ s.nextOp = some o ∧ o.armed = true ∧ let w := (s.runToTime o.instant).opDue o; let x := w.emit none 0x05 o.op 0 (leBytes 8 o.instant) (some w.ctlEngines); o.op ≠ 1 ∧ x.ccu.lastInstant ≠ none ∧ (∃ p, x.opening = some p ∧ p.instant = o.instant ∧ p.realigned = false)) ∧
  (∃ (s : State) (o : PelOp), s.alive = true ∧ s.nextOp = some o ∧ o.armed = true ∧ let w := (s.runToTime o.instant).opDue o; let x := w.emit none 0x05 o.op 0 (leBytes 8 o.instant) (some w.ctlEngines); o.op ≠ 1 ∧ x.ccu.lastInstant ≠ none ∧ (∀ p, x.opening = some p → p.instant ≠ o.instant ∨ p.realigned = true)) :=
  ⟨⟨joinedWith 0 [⟨1, 0, 0, 90000000, some 0, [], false⟩], ⟨1, 0, 0, 90000000, some 0, [], false⟩, by decide +kernel⟩,
  ⟨joinedWith 0 [⟨1, 0, 0, 90000000, some 0, [], true⟩], ⟨1, 0, 0, 90000000, some 0, [], true⟩, by decide +kernel⟩,
  ⟨joinedWith 0 [⟨3, 0, 0, 400000, some 0, [], true⟩], ⟨3, 0, 0, 400000, some 0, [], true⟩, by decide +kernel⟩,
  ⟨({ joinedWith 0 [⟨2, 0, 0, 32000000, some 0, [], true⟩] with ccu := { (joinedWith 0 []).ccu with lastInstant := some 0 } }).setBit Reg.CCU_CTRL 0, ⟨2, 0, 0, 32000000, some 0, [], true⟩, by decide +kernel, by decide +kernel, by decide +kernel, by decide +kernel, by decide +kernel, ⟨⟨32000000, false, none⟩, by decide +kernel⟩⟩,
  ⟨{ joinedWith 0 [⟨3, 0, 0, 400000, some 0, [], true⟩] with ccu := { (joinedWith 0 []).ccu with lastInstant := some 0 } }, ⟨3, 0, 0, 400000, some 0, [], true⟩, by decide +kernel, by decide +kernel, by decide +kernel, by decide +kernel, by decide +kernel, none_of (by decide +kernel)⟩⟩

theorem witness_RingRegistersComplete :
  (∃ (s : State) (h : Nat), s.takes Reg.HIF_RPL_HEAD = true ∧ h < 2 ^ 32) ∧
  (∃ (s : State) (n : Nat), s.takes Reg.HIF_CMD_TAIL = true ∧ n < 2 ^ 32 ∧ let ahead := (n + 2 ^ 32 - s.regN Reg.HIF_CMD_HEAD) % 2 ^ 32; ahead ≤ s.cmdSlots) ∧
  (∃ (s : State) (n : Nat), s.takes Reg.HIF_CMD_TAIL = true ∧ n < 2 ^ 32 ∧ let ahead := (n + 2 ^ 32 - s.regN Reg.HIF_CMD_HEAD) % 2 ^ 32; s.cmdSlots < ahead) ∧
  (∃ (s : State) (o : Nat), s.takes Reg.HIF_RING_CTRL = true ∧ s.bitOf Reg.HIF_RING_CTRL 0 = false ∧ o ≠ Reg.HIF_RING_CTRL ∧ o ≠ Reg.HIF_CMD_HEAD ∧ o ≠ Reg.HIF_RPL_TAIL) ∧
  (∃ (s : State) (o : Nat), s.takes Reg.HIF_RING_CTRL = true ∧ o ≠ Reg.HIF_RING_CTRL) ∧
  (∃ (s : State) (v : Nat) (o : Nat), s.takes (Reg.HIF_MSIX_CTRL v) = true ∧ v < 64 ∧ s.msiPending v = false ∧ o ≠ Reg.HIF_MSIX_CTRL v) :=
  ⟨⟨live, 4294967295, by decide +kernel⟩,
  ⟨live.setFld Reg.HIF_CMD_SIZE 0 5 12, 4096, by decide +kernel⟩,
  ⟨live.setFld Reg.HIF_CMD_SIZE 0 5 12, 4097, by decide +kernel⟩,
  ⟨live, Reg.HIF_RPL_HEAD, by decide +kernel⟩,
  ⟨live, Reg.HIF_RPL_HEAD, by decide +kernel⟩,
  ⟨live, 63, Reg.HIF_MSIX_CTRL 0, by decide +kernel⟩⟩

theorem witness_HostEventsComplete :
  (∃ (s : State), s.busMaster = true ∧ s.bitOf Reg.HIF_RING_CTRL 0 = true ∧ s.replyRoom = true ∧ s.hif.out ≠ []) ∧
  (∃ (s : State) (tail : Nat) (w : HostWrites), s.canFetch = true ∧ let x := hostSet Reg.HIF_CMD_TAIL tail (({ s with host := s.host.writeAll w } : State).clrBit Reg.HIF_RING_CTRL 0); x.cmdWaiting ≠ 0) ∧
  (∃ (s : State) (p : CmdPacket) (c : FetchCause) (r : Nat × Instr), r ∈ [(0x0201, Instr.routeLoad p), (0x0403, .tileImport p), (0x0501, .solveSubmit p), (0x0602, .memWrite p)] ∧ p.fault = some c ∧ s.passes r.1 p = true ∧ (opBody r.1 p (s.entry r.1 p)).1.status = St.accepted) ∧
  (∃ (s : State) (v : Nat) (t : Nat), SMap.find s.hif.holdoff v = some t) ∧
  (∃ (s : State), s.cfgUp = true) ∧
  (∃ (s : State), s.cfgUp = true) ∧
  (∃ (s : State) (h : Nat) (l : Long) (e : LongResult), s.alive = true ∧ (s.longRead h).hif.longs.find? ((s.longRead h).longDue h) = some l ∧ l.effect = some e) :=
  ⟨⟨{ fetchUp with hif := { fetchUp.hif with out := [⟨oldReply, false, some 0⟩] } }, by decide +kernel⟩,
  ⟨fetchUp.setFld Reg.HIF_CMD_SIZE 0 5 12, 4096, [], by decide +kernel⟩,
  ⟨sess, { pkt [0, 0, 0, 0, 16, 0, 0, 0, 0, 0, 0, 0, 0, 0, 0, 0, 64] with fault := some .timeout }, .timeout, (0x0602, Instr.memWrite { pkt [0, 0, 0, 0, 16, 0, 0, 0, 0, 0, 0, 0, 0, 0, 0, 0, 64] with fault := some .timeout }), by simp, by decide, by decide +kernel, by
    obtain ⟨e, he, h⟩ := entry_on sess 0x602 { pkt [0, 0, 0, 0, 16, 0, 0, 0, 0, 0, 0, 0, 0, 0, 0, 0, 64] with fault := some .timeout } (by decide); show (opBody 0x602 _ (sess.entry 0x602 _)).1.status = _; rw [h]; clear h; revert e; decide +kernel⟩,
  ⟨{ live with hif := { live.hif with holdoff := [(5, 100)] } }, 5, 100, by decide +kernel⟩,
  ⟨live.setBit Reg.HIF_PCIE_STATUS 7, by decide +kernel⟩,
  ⟨live.setBit Reg.HIF_PCIE_STATUS 7, by decide +kernel⟩,
  ⟨{ live with hif := { live.hif with longs := [⟨0, 0x0604, pkt [], some ⟨0, 0, zeros 12⟩, none⟩] } }, 0, ⟨0, 0x0604, pkt [], some ⟨0, 0, zeros 12⟩, none⟩, ⟨0, 0, zeros 12⟩, by decide +kernel⟩⟩

theorem witness_BarRequestsComplete :
  (∃ (s : State) (off : Nat) (en : List Bool), s.barAnswers = true ∧ s.bootFailed = false ∧ s.obs.stopped = false ∧ off % 4 = 0 ∧ off < 0x2000000 ∧ latchedHi off = false ∧ latchedBy off = [] ∧ drawsFree off = false ∧ en = [true, true, true, true] ∧ (∀ r, regAt off = some r → r.1.rc = 0)) ∧
  (∃ (s : State), s.barAnswers = true) ∧
  (∃ (s : State) (off : Nat) (data : List Byte) (en : List Bool), s.takes off = true ∧ off < 0x2000000 ∧ off % 4 = 0 ∧ data.length = 4 ∧ byteMask (en.take 4) ≠ 0 ∧ en.length = 4) ∧
  (∃ (s : State) (off : Nat) (data : List Byte), s.barAnswers = true ∧ s.obs.stopped = false ∧ off < 0x2000000 ∧ off % 4 = 0 ∧ 64 < data.length) ∧
  (∃ (s : State) (off : Nat) (dw : Nat), s.barAnswers = true ∧ s.obs.stopped = false ∧ off < 0x2000000 ∧ requestOk off dw = false) ∧
  (∃ (s : State) (off : Nat) (data : List Byte) (en : List Bool), s.takes off = true ∧ 0x2000000 ≤ off ∧ off < 0x4000000 ∧ s.pairPrimary = false ∧ (en.take data.length).any id = true) :=
  ⟨⟨live, Reg.CCU_CTRL, [true, true, true, true], by decide +kernel, by decide +kernel, by decide +kernel, by decide +kernel, by decide, by decide +kernel, by decide +kernel, by decide +kernel, by decide +kernel, rc_zero (by decide +kernel)⟩,
  ⟨live, by decide +kernel⟩,
  ⟨live, Reg.CCU_CTRL, zeros 4, [false, false, false, true], by decide +kernel⟩,
  ⟨live, Reg.CCU_CTRL, zeros 65, by decide +kernel⟩,
  ⟨live, 0x1FFFFC, 2, by decide +kernel⟩,
  ⟨live, 0x3FFFFFF, [0], [true], by decide +kernel⟩⟩

theorem witness_RegisterCommandsComplete :
  (∃ (s : State) (o : Nat), s.takes Reg.CCU_CTRL = true ∧ s.pairPrimary = false ∧ s.bitOf Reg.CCU_CTRL 0 = false ∧ o ≠ Reg.CCU_CTRL ∧ o ≠ Reg.CCU_STATUS) ∧
  (∃ (s : State) (o : Nat), s.takes Reg.CCU_CTRL = true ∧ s.pairPrimary = false ∧ s.bitOf Reg.CCU_CTRL 0 = true ∧ s.allSlotsOff = true ∧ o ≠ Reg.CCU_CTRL ∧ o ≠ Reg.CCU_STATUS) ∧
  (∃ (s : State), s.takes Reg.FPP_CTRL = true) ∧
  (∃ (s : State) (f : Nat) (v : Nat), s.takes (Reg.FUS_CTX_WIN_START_LO f) = true ∧ f < 8 ∧ v < 2 ^ 32) ∧
  (∃ (s : State), s.takes Reg.MAP_CTRL = true ∧ (s.func mapFunc).life = .off ∧ s.mapBases.set = true ∧ s.bitOf Reg.MAP_STATUS 3 = false ∧ s.pairPrimary = false) ∧
  (∃ (s : State) (i : Nat), s.takes (Reg.VIS_STRM_GRID_CTRL i) = true ∧ i < 16) ∧
  (∃ (s : State), s.takes Reg.OBS_ENG_LATCH = true ∧ s.fld Reg.OBS_ENG_SEL 0 6 < engineCount (s.fld Reg.OBS_ENG_SEL 8 4)) ∧
  (∃ (s : State), s.takes Reg.OBS_ENG_LATCH = true ∧ engineCount (s.fld Reg.OBS_ENG_SEL 8 4) ≤ s.fld Reg.OBS_ENG_SEL 0 6) ∧
  (∃ (s : State) (r : Nat) (o : Nat), s.takes Reg.OBS_BRAKE_CTRL = true ∧ r < 256 ∧ s.obs.brake = none ∧ o ≠ Reg.OBS_BRAKE_CTRL) ∧
  (∃ (s : State), s.takes Reg.OBS_SCAN_CMD = true ∧ s.obs.scan = none) ∧
  (∃ (s : State), s.takes Reg.OBS_SCAN_CMD = true ∧ s.obs.scan ≠ none) ∧
  (∃ (s : State) (v : Nat), s.takes Reg.CRB_RESET_CTRL = true ∧ v < 2 ^ 32 ∧ v / 2 ^ 16 = 0xC1E9 ∧ v % 2 = 1) ∧
  (∃ (s : State), s.takes Reg.CRB_HOST_BOOT_CTRL = true ∧ s.crb.trying = .hostWait) ∧
  (∃ (s : State), s.takes Reg.CRB_HOST_BOOT_CTRL = true ∧ s.crb.trying ≠ .hostWait) ∧
  (∃ (s : State) (v : Nat), s.takes Reg.CRB_SDM_DIV = true ∧ 480 ≤ v ∧ v ≤ 2400 ∧ v % 8 = 0 ∧ (∀ k, k < 24 → (s.func (0x020 + k)).life = .off)) ∧
  (∃ (s : State) (v : Nat), s.takes Reg.CRB_PDM_DIV = true ∧ 1200 ≤ v ∧ v ≤ 4800 ∧ v % 8 = 0 ∧ (∀ k, k < 32 → (s.func (0x038 + k)).life = .off)) :=
  ⟨⟨live, 0, by decide +kernel⟩,
  ⟨live.setBit Reg.CCU_CTRL 0, 0, by decide +kernel⟩,
  ⟨live, by decide +kernel⟩,
  ⟨live, 7, 4294967295, by decide +kernel⟩,
  ⟨((((live.setRegN Reg.MAP_STORE_BASE_LO 64).setRegN Reg.MAP_DIR_BASE_LO 64).setRegN Reg.MAP_KF_BASE_LO 64).setRegN Reg.MAP_DESC_BASE_LO 64).setRegN Reg.MAP_EDGE_BASE_LO 64, by decide +kernel⟩,
  ⟨live, 15, by decide +kernel⟩,
  ⟨live.setFld Reg.OBS_ENG_SEL 8 4 15, by decide +kernel⟩,
  ⟨live.setFld Reg.OBS_ENG_SEL 0 6 63, by decide +kernel⟩,
  ⟨live, 255, 0, by decide +kernel⟩,
  ⟨live, by decide +kernel⟩,
  ⟨{ live with obs := { live.obs with scan := some (0, 0, false) } }, by decide +kernel⟩,
  ⟨live, 0xC1E90001, by decide +kernel, by decide, by decide, by decide⟩,
  ⟨{ live with crb := { live.crb with trying := .hostWait } }, by decide +kernel⟩,
  ⟨live, by decide +kernel⟩,
  ⟨live, 480, by decide +kernel, by decide, by decide, by decide, below_of (by decide +kernel)⟩,
  ⟨live, 4800, by decide +kernel, by decide, by decide, by decide, below_of (by decide +kernel)⟩⟩

theorem witness_TimeAndPtpTimersComplete :
  (∃ (s : State) (c : Change) (rest : List Change), s.alive = true ∧ s.tim.held = c :: rest) ∧
  (∃ (s : State) (w : Slew), s.alive = true ∧ s.tim.slew = some w) ∧
  (∃ (s : State) (p : Nat), s.alive = true ∧ let x := s.ptpWake p; let a := x.ptpPort p; x.portLive p = true ∧ a.profile ≠ 0 ∧ a.state = .master) ∧
  (∃ (s : State) (p : Nat), s.alive = true ∧ let x := s.ptpWake p; let a := x.ptpPort p; x.portLive p = true ∧ a.profile ≠ 0 ∧ a.state = .master) ∧
  (∃ (s : State) (p : Nat), s.alive = true ∧ let x := s.ptpWake p; let a := x.ptpPort p; x.portLive p = true ∧ a.profile = 1 ∧ a.state = .slave) ∧
  (∃ (s : State) (p : Nat), s.alive = true ∧ let x := s.ptpWake p; let a := x.ptpPort p; x.portLive p = true ∧ (a.profile = 2 ∨ a.profile = 3)) ∧
  (∃ (s : State) (p : Nat), s.alive = true ∧ let x := s.ptpWake p; let a := x.ptpPort p; x.portLive p = true ∧ a.profile = 3) ∧
  (∃ (s : State) (p : Nat), s.alive = true ∧ (s.ptpPort p).follows = true ∧ s.syncState = 2) ∧
  (∃ (s : State) (p : Nat), s.alive = true ∧ (s.ptpPort p).role ≠ 0 ∧ (s.ptpPort p).profile ≠ 0) :=
  ⟨⟨{ live with tim := { live.tim with held := [.step 5] } }, .step 5, [], by decide +kernel⟩,
  ⟨{ live with tim := { live.tim with slew := some ⟨5, 5, 0⟩ } }, ⟨5, 5, 0⟩, by decide +kernel⟩,
  ⟨ptpIn 1 0 3 .master id, 3, by decide +kernel⟩,
  ⟨ptpIn 1 0 3 .master id, 3, by decide +kernel⟩,
  ⟨ptpIn 1 1 0 .slave id, 0, by decide +kernel⟩,
  ⟨ptpIn 3 1 0 .slave id, 0, by decide +kernel⟩,
  ⟨ptpIn 3 1 0 .slave id, 0, by decide +kernel⟩,
  ⟨(ptpIn 1 1 0 .slave id).setFld Reg.TIM_STATUS 0 2 2, 0, by decide +kernel⟩,
  ⟨ptpIn 1 1 0 .slave id, 0, by decide +kernel⟩⟩

theorem witness_PtpEventMessagesComplete :
  (∃ (s : State) (p : Nat) (f : List Byte) (c : Nat) (m : List Byte) (x : State), PtpTaken s p f c m x ∧ (x.ptpPort p).follows = true ∧ ptpTwoStep m = true) ∧
  (∃ (s : State) (p : Nat) (f : List Byte) (c : Nat) (m : List Byte) (x : State), PtpTaken s p f c m x ∧ (x.ptpPort p).follows = true ∧ ptpTwoStep m = false) ∧
  (∃ (s : State) (p : Nat) (f : List Byte) (c : Nat) (m : List Byte) (x : State), PtpTaken s p f c m x ∧ (x.ptpPort p).state = .master) ∧
  (∃ (s : State) (p : Nat) (f : List Byte) (c : Nat) (m : List Byte) (x : State), PtpTaken s p f c m x) ∧
  (∃ (s : State) (p : Nat) (f : List Byte) (c : Nat) (m : List Byte) (x : State) (t1 : Int), PtpTaken s p f c m x ∧ (x.ptpPort p).pdelayReq = some (ptpSeq m, t1) ∧ ptpRequesting m = x.portIdentity p ∧ ptpTwoStep m = true) ∧
  (∃ (s : State) (p : Nat) (f : List Byte) (c : Nat) (m : List Byte) (x : State) (t1 : Int), PtpTaken s p f c m x ∧ (x.ptpPort p).pdelayReq = some (ptpSeq m, t1) ∧ ptpRequesting m = x.portIdentity p ∧ ptpTwoStep m = false) :=
  ⟨⟨ptpIn 1 1 0 .slave id, 0, ptpFrame [(6, 1, 2)], 0, (ptpFrame [(6, 1, 2)]).drop 14, ((((ptpIn 1 1 0 .slave id).count 13 (netCnt 0 9)).ptpForward 0 (ptpFrame [(6, 1, 2)]) ((ptpFrame [(6, 1, 2)]).drop 14) 0).ptpWake 0), ptp_of (by decide +kernel) (by decide +kernel), by decide +kernel⟩,
  ⟨ptpIn 1 1 0 .slave id, 0, ptpFrame [], 0, (ptpFrame []).drop 14, ((((ptpIn 1 1 0 .slave id).count 13 (netCnt 0 9)).ptpForward 0 (ptpFrame []) ((ptpFrame []).drop 14) 0).ptpWake 0), ptp_of (by decide +kernel) (by decide +kernel), by decide +kernel⟩,
  ⟨ptpIn 1 0 0 .master id, 0, ptpFrame [], 0, (ptpFrame []).drop 14, ((((ptpIn 1 0 0 .master id).count 13 (netCnt 0 9)).ptpForward 0 (ptpFrame []) ((ptpFrame []).drop 14) 0).ptpWake 0), ptp_of (by decide +kernel) (by decide +kernel), by decide +kernel⟩,
  ⟨ptpIn 2 0 0 .master id, 0, ptpFrame [], 0, (ptpFrame []).drop 14, ((((ptpIn 2 0 0 .master id).count 13 (netCnt 0 9)).ptpForward 0 (ptpFrame []) ((ptpFrame []).drop 14) 0).ptpWake 0), ptp_of (by decide +kernel) (by decide +kernel)⟩,
  ⟨ptpIn 2 0 0 .master (fun x => { x with pdelayReq := some (5, 77) }), 0, ptpFrame [(6, 1, 2), (31, 1, 5), (47, 2, 0xFEFF), (53, 1, 1)], 0, (ptpFrame [(6, 1, 2), (31, 1, 5), (47, 2, 0xFEFF), (53, 1, 1)]).drop 14, ((((ptpIn 2 0 0 .master (fun x => { x with pdelayReq := some (5, 77) })).count 13 (netCnt 0 9)).ptpForward 0 (ptpFrame [(6, 1, 2), (31, 1, 5), (47, 2, 0xFEFF), (53, 1, 1)]) ((ptpFrame [(6, 1, 2), (31, 1, 5), (47, 2, 0xFEFF), (53, 1, 1)]).drop 14) 0).ptpWake 0), 77, ptp_of (by decide +kernel) (by decide +kernel), by decide +kernel⟩,
  ⟨ptpIn 2 0 0 .master (fun x => { x with pdelayReq := some (5, 77) }), 0, ptpFrame [(31, 1, 5), (47, 2, 0xFEFF), (53, 1, 1)], 0, (ptpFrame [(31, 1, 5), (47, 2, 0xFEFF), (53, 1, 1)]).drop 14, ((((ptpIn 2 0 0 .master (fun x => { x with pdelayReq := some (5, 77) })).count 13 (netCnt 0 9)).ptpForward 0 (ptpFrame [(31, 1, 5), (47, 2, 0xFEFF), (53, 1, 1)]) ((ptpFrame [(31, 1, 5), (47, 2, 0xFEFF), (53, 1, 1)]).drop 14) 0).ptpWake 0), 77, ptp_of (by decide +kernel) (by decide +kernel), by decide +kernel⟩⟩

theorem witness_PtpGeneralMessagesComplete :
  (∃ (s : State) (p : Nat) (f : List Byte) (c : Nat) (m : List Byte) (x : State) (t2 : Int) (k : Int), PtpTaken s p f c m x ∧ (x.ptpPort p).follows = true ∧ (x.ptpPort p).syncWait = some (ptpSeq m, t2, k)) ∧
  (∃ (s : State) (p : Nat) (f : List Byte) (c : Nat) (m : List Byte) (x : State) (t3 : Int) (t1 : Int) (t2 : Int), PtpTaken s p f c m x ∧ (x.ptpPort p).delayReq = some (ptpSeq m, t3) ∧ (x.ptpPort p).lastSync = some (t1, t2) ∧ ptpRequesting m = x.portIdentity p) ∧
  (∃ (s : State) (p : Nat) (f : List Byte) (c : Nat) (m : List Byte) (x : State) (q : Nat) (t1 : Int) (t2 : Int) (t4 : Int) (k : Int), PtpTaken s p f c m x ∧ (x.ptpPort p).pdelayReq = some (q, t1) ∧ (x.ptpPort p).pdelayWait = some (ptpSeq m, t2, t4, k)) ∧
  (∃ (s : State) (p : Nat) (f : List Byte) (c : Nat) (m : List Byte) (x : State), PtpTaken s p f c m x ∧ (x.ptpPort p).role = 1 ∧ (x.ptpPort p).follows = false ∧ (∀ q, q < 4 → q ≠ p → (x.ptpPort q).follows = false)) ∧
  (∃ (s : State) (p : Nat) (f : List Byte) (c : Nat) (m : List Byte) (x : State), PtpTaken s p f c m x ∧ let body := (m.take (beAt m 2 2)).drop 44; body.length = 4 + beAt body 2 2 ∧ 4 ≤ body.length ∧ beAt body 0 2 = 3 ∧ beAt body 4 3 = 0x0080C2 ∧ beAt body 7 3 = 2) ∧
  (∃ (s : State) (p : Nat) (f : List Byte) (c : Nat) (o : Nat), s.alive = true ∧ s.portLive p = true ∧ s.ptpOffset p f = some o ∧ let x := ((s.count 13 (netCnt p 9)).ptpForward p f (f.drop o) c).ptpWake p; (ptpType (f.drop o) = 13 ∨ ((x.ptpPort p).profile ≠ 0 ∧ ptpDomain (f.drop o) = (x.ptpPort p).domain))) :=
  ⟨⟨ptpIn 1 1 0 .slave (fun x => { x with syncWait := some (5, 7, 8) }), 0, ptpFrame [(31, 1, 5)], 0, (ptpFrame [(31, 1, 5)]).drop 14, ((((ptpIn 1 1 0 .slave (fun x => { x with syncWait := some (5, 7, 8) })).count 13 (netCnt 0 9)).ptpForward 0 (ptpFrame [(31, 1, 5)]) ((ptpFrame [(31, 1, 5)]).drop 14) 0).ptpWake 0), 7, 8, ptp_of (by decide +kernel) (by decide +kernel), by decide +kernel⟩,
  ⟨ptpIn 1 1 0 .slave (fun x => { x with delayReq := some (5, 7), lastSync := some (8, 9) }), 0, ptpFrame [(31, 1, 5), (47, 2, 0xFEFF), (53, 1, 1)], 0, (ptpFrame [(31, 1, 5), (47, 2, 0xFEFF), (53, 1, 1)]).drop 14, ((((ptpIn 1 1 0 .slave (fun x => { x with delayReq := some (5, 7), lastSync := some (8, 9) })).count 13 (netCnt 0 9)).ptpForward 0 (ptpFrame [(31, 1, 5), (47, 2, 0xFEFF), (53, 1, 1)]) ((ptpFrame [(31, 1, 5), (47, 2, 0xFEFF), (53, 1, 1)]).drop 14) 0).ptpWake 0), 7, 8, 9, ptp_of (by decide +kernel) (by decide +kernel), by decide +kernel⟩,
  ⟨ptpIn 1 1 0 .slave (fun x => { x with pdelayReq := some (4, 7), pdelayWait := some (5, 1, 2, 3) }), 0, ptpFrame [(31, 1, 5)], 0, (ptpFrame [(31, 1, 5)]).drop 14, ((((ptpIn 1 1 0 .slave (fun x => { x with pdelayReq := some (4, 7), pdelayWait := some (5, 1, 2, 3) })).count 13 (netCnt 0 9)).ptpForward 0 (ptpFrame [(31, 1, 5)]) ((ptpFrame [(31, 1, 5)]).drop 14) 0).ptpWake 0), 4, 7, 1, 2, 3, ptp_of (by decide +kernel) (by decide +kernel), by decide +kernel⟩,
  ⟨ptpIn 1 1 0 .listening id, 0, ptpFrame [], 0, (ptpFrame []).drop 14, ((((ptpIn 1 1 0 .listening id).count 13 (netCnt 0 9)).ptpForward 0 (ptpFrame []) ((ptpFrame []).drop 14) 0).ptpWake 0), ptp_of (by decide +kernel) (by decide +kernel), by decide +kernel, by decide +kernel, fun q h => (by decide +kernel : ∀ k, k < 4 → k ≠ 0 → ((((((ptpIn 1 1 0 .listening id).count 13 (netCnt 0 9)).ptpForward 0 (ptpFrame []) ((ptpFrame []).drop 14) 0).ptpWake 0)).ptpPort k).follows = false) q h⟩,
  ⟨ptpIn 1 1 0 .slave id, 0, ptpFrame [(3, 1, 60), (45, 1, 3), (47, 1, 12), (48, 3, 0xC28000), (53, 1, 2)], 0, (ptpFrame [(3, 1, 60), (45, 1, 3), (47, 1, 12), (48, 3, 0xC28000), (53, 1, 2)]).drop 14, ((((ptpIn 1 1 0 .slave id).count 13 (netCnt 0 9)).ptpForward 0 (ptpFrame [(3, 1, 60), (45, 1, 3), (47, 1, 12), (48, 3, 0xC28000), (53, 1, 2)]) ((ptpFrame [(3, 1, 60), (45, 1, 3), (47, 1, 12), (48, 3, 0xC28000), (53, 1, 2)]).drop 14) 0).ptpWake 0), ptp_of (by decide +kernel) (by decide +kernel), by decide +kernel⟩,
  ⟨ptpIn 1 1 0 .slave id, 0, ptpFrame [], 0, 14, by decide +kernel⟩⟩

theorem witness_EthernetEventsComplete :
  (∃ (s : State) (p : Nat) (f : List Byte), s.alive = true ∧ s.arpFor p f = true) ∧
  (∃ (s : State) (p : Nat), s.alive = true ∧ s.portLive p = true) ∧
  (∃ (s : State) (q : Nat) (w : FwdFrame) (rest : List FwdFrame), s.alive = true ∧ (s.netPort q).fwd = w :: rest ∧ s.portLive q = true ∧ let z := (s.runTo (s.netPort q).pausedUntil).netFlush q; let x := z.setNetPort q { z.netPort q with fwd := rest }; x.portLink q = false) ∧
  (∃ (s : State) (q : Nat) (w : FwdFrame) (rest : List FwdFrame), s.alive = true ∧ (s.netPort q).fwd = w :: rest ∧ s.portLive q = true ∧ let z := (s.runTo (s.netPort q).pausedUntil).netFlush q; let x := z.setNetPort q { z.netPort q with fwd := rest }; x.portLink q = true) ∧
  (∃ (s : State) (q : Nat), s.alive = true ∧ (s.netPort q).fwd = [] ∧ (s.netPort q).hold ≠ [] ∧ s.portLive q = true) ∧
  (∃ (s : State), s.alive = true ∧ s.bitOf Reg.CRB_CLK_STATUS 2 = true) ∧
  (∃ (s : State), s.alive = true) ∧
  (∃ (s : State) (p : Nat) (f : List Byte), s.alive = true ∧ s.portLive p = true ∧ s.maxFrame p < f.length) ∧
  (∃ (s : State) (p : Nat) (f : List Byte), s.alive = true ∧ s.portLive p = true ∧ f.length ≤ s.maxFrame p ∧ etherType f = 0x8808 ∧ beAt f 14 2 = 1) ∧
  (∃ (s : State) (p : Nat) (f : List Byte), s.alive = true ∧ s.portLive p = true ∧ f.length ≤ s.maxFrame p ∧ etherType f = 0x8808 ∧ beAt f 14 2 ≠ 1) ∧
  (∃ (s : State) (p : Nat) (fifo : Nat) (f : List Byte), s.alive = true ∧ s.portLive p = true ∧ f.length ≤ s.maxFrame p ∧ etherType f ≠ 0x8808 ∧ 2 ≤ p ∧ 65536 < fifo) ∧
  (∃ (s : State) (p : Nat) (fifo : Nat) (f : List Byte), s.alive = true ∧ s.portLive p = true ∧ f.length ≤ s.maxFrame p ∧ etherType f ≠ 0x8808 ∧ (¬(2 ≤ p ∧ 65536 < fifo))) :=
  ⟨⟨live.setRegN (Reg.NET_PORT_IPV4 2) 9, 2, bytesOf 64 [(12, 2, 0x0608), (21, 1, 1), (41, 1, 9)], by decide +kernel⟩,
  ⟨funcIn live 0x83 .on, 3, by decide +kernel⟩,
  ⟨(funcIn live 0x81 .on).setNetPort 1 ⟨[⟨zeros 64, 0, false⟩], 9, [], []⟩, 1, ⟨zeros 64, 0, false⟩, [], by decide +kernel⟩,
  ⟨((funcIn live 0x81 .on).setNetPort 1 ⟨[⟨zeros 64, 0, false⟩], 9, [], []⟩).setBit (Reg.NET_PORT_STATUS 1) 0, 1, ⟨zeros 64, 0, false⟩, [], by decide +kernel⟩,
  ⟨(funcIn live 0x81 .on).setNetPort 1 ⟨[], 9, [zeros 64], []⟩, 1, by decide +kernel⟩,
  ⟨live.setBit Reg.CRB_CLK_STATUS 2, by decide +kernel⟩,
  ⟨live, by decide +kernel⟩,
  ⟨(funcIn live 0x83 .on).setFld (Reg.NET_PORT_CTRL 3) 8 14 63, 3, zeros 64, by decide +kernel⟩,
  ⟨(funcIn live 0x83 .on).setFld (Reg.NET_PORT_CTRL 3) 8 14 64, 3, bytesOf 64 [(12, 2, 0x0888), (15, 1, 1)], by decide +kernel⟩,
  ⟨(funcIn live 0x83 .on).setFld (Reg.NET_PORT_CTRL 3) 8 14 64, 3, bytesOf 64 [(12, 2, 0x0888), (15, 1, 2)], by decide +kernel⟩,
  ⟨(funcIn live 0x83 .on).setFld (Reg.NET_PORT_CTRL 3) 8 14 64, 3, 65537, zeros 64, by decide +kernel⟩,
  ⟨(funcIn live 0x83 .on).setFld (Reg.NET_PORT_CTRL 3) 8 14 64, 3, 65536, zeros 64, by decide +kernel⟩⟩

theorem witness_CameraEventsComplete :
  (∃ (s : State) (port : Nat) (vcx : Nat) (rate : Nat), let x := (s.setRegN (Reg.ING_CSI_RATE port) rate).count 1 (portCnt port 0); s.solo = true ∧ vcx ≠ 0 ∧ x.pairPrimary = false) ∧
  (∃ (s : State) (port : Nat) (vc : Nat) (rate : Nat), let x := (((s.setRegN (Reg.ING_CSI_RATE port) rate).count 1 (portCnt port 3)).setBit (Reg.ING_CSI_STATUS port) 4).flagStream port vc 0x04; s.solo = true ∧ x.pairPrimary = false) ∧
  (∃ (s : State) (port : Nat) (vc : Nat) (rate : Nat), let x := (((s.setRegN (Reg.ING_CSI_RATE port) rate).count 1 (portCnt port 3)).setBit (Reg.ING_CSI_STATUS port) 4).flagStream port vc 0x04; s.solo = true ∧ (lostLine port vc x).pairPrimary = false) ∧
  (∃ (s : State) (port : Nat) (vc : Nat) (n : Nat) (ecc : Nat) (rate : Nat) (i : Nat) (w : FsWindow), let h := s.setRegN (Reg.ING_CSI_RATE port) rate; let x0 : State := { h with ing := { h.ing with vcNow := SMap.upd 0 h.ing.vcNow port (· ||| 2 ^ vc) } }; let x := (x0.setCam i { x0.cam i with fsSeen := true }).closeFrame i; let t := ((x.setCam i { x.cam i with window := some { w with taken := true }, frame := some ⟨n, x.now, w.cadence, w.trigTime, 0, 0, [], [], [], false, false, w.ends⟩ }).monStamp (camFunc i) x.now).eccFlag port vc ecc; s.solo = true ∧ ecc ≠ 2 ∧ x0.streamAt port vc = some i ∧ (x.func (camFunc i)).life = .on ∧ (x.cam i).window = some w ∧ w.taken = false ∧ w.opened ≤ x.now ∧ x.now < w.closes ∧ t.pairPrimary = false) ∧
  (∃ (s : State) (port : Nat) (vc : Nat) (ecc : Nat) (rate : Nat) (i : Nat) (w : FsWindow), let h := s.setRegN (Reg.ING_CSI_RATE port) rate; let x0 : State := { h with ing := { h.ing with vcNow := SMap.upd 0 h.ing.vcNow port (· ||| 2 ^ vc) } }; let x := (x0.setCam i { x0.cam i with fsSeen := true }).closeFrame i; let u := ((x.setCam i { x.cam i with extra := true }).count 1 (camCnt i 7)).eccFlag port vc ecc; s.solo = true ∧ ecc ≠ 2 ∧ x0.streamAt port vc = some i ∧ (x.func (camFunc i)).life = .on ∧ ((x.cam i).window = none ∨ ((x.cam i).window = some w ∧ (w.taken = true ∨ x.now < w.opened ∨ w.closes ≤ x.now))) ∧ u.pairPrimary = false) ∧
  (∃ (s : State) (port : Nat) (vc : Nat) (dt : Nat) (ecc : Nat) (rate : Nat) (i : Nat) (ok : Bool) (bs : List Byte) (f : Frame), let x := (s.setRegN (Reg.ING_CSI_RATE port) rate).eccFlag port vc ecc; let c := x.cam i; let flags := (if ok then 0 else 0x08) ||| (if bs.length = lineBytes dt c.width then 0 else 0x10); let y := if ok then x else x.setBit (Reg.ING_CSI_STATUS port) 5; let t := if y.lineRoom i f then (y.setCam i { c with frame := some (f.addLine c (unpackLine dt c.width bs) bs true 0) }).frameFlags i flags else (y.setCam i { c with frame := some (f.addLine c [] [] false 0) }).frameFlags i (flags ||| 0x40); s.solo = true ∧ ecc ≠ 2 ∧ x.streamAt port vc = some i ∧ dt = c.dataType ∧ dt ∉ [0x02, 0x03, 0x10, 0x11] ∧ c.frame = some f ∧ f.closed = false ∧ f.absent = false ∧ f.lines.length < c.height ∧ t.pairPrimary = false) ∧
  (∃ (s : State) (port : Nat) (vc : Nat) (ecc : Nat) (rate : Nat) (i : Nat), let x := (s.setRegN (Reg.ING_CSI_RATE port) rate).eccFlag port vc ecc; s.solo = true ∧ ecc ≠ 2 ∧ x.streamAt port vc = some i ∧ (x.closeFrame i).pairPrimary = false) ∧
  (∃ (s : State) (i : Nat) (w : FsWindow), s.solo = true ∧ (s.cam i).window = some w ∧ let x := s.runToTime w.closes; let y := x.setCam i { x.cam i with window := none }; w.taken = true ∧ (y.visRecord i).pairPrimary = false) ∧
  (∃ (s : State) (i : Nat) (w : FsWindow), s.solo = true ∧ (s.cam i).window = some w ∧ w.taken = false ∧ ((ingWindowClose i s).visRecord i).pairPrimary = false) ∧
  (∃ (s : State), s.alive = true) ∧
  (∃ (s : State) (port : Nat) (vc : Nat), let x := ((s.count 1 (portCnt port 2)).setBit (Reg.ING_CSI_STATUS port) 6).flagStream port vc 0x04; s.solo = true ∧ x.streamAt port vc = none ∧ x.pairPrimary = false) ∧
  (∃ (s : State) (port : Nat) (vc : Nat) (i : Nat) (f : Frame), let x := ((s.count 1 (portCnt port 2)).setBit (Reg.ING_CSI_STATUS port) 6).flagStream port vc 0x04; s.solo = true ∧ x.streamAt port vc = some i ∧ (x.cam i).frame = some f ∧ f.closed = false ∧ f.absent = false ∧ f.lines.length < (x.cam i).height ∧ let t := x.setCam i { x.cam i with frame := some (f.addLine (x.cam i) [] [] false 0) }; t.pairPrimary = false) :=
  ⟨⟨camOn [] none none, 0, 1, 1500, by decide +kernel⟩,
  ⟨camOn [] none none, 0, 0, 1500, by decide +kernel⟩,
  ⟨camOn [] none none, 0, 0, 1500, by decide +kernel⟩,
  ⟨camOn [] (some ⟨0, 1000, 0, 0, false, 1000⟩) none, 0, 0, 7, 0, 1500, 0, ⟨0, 1000, 0, 0, false, 1000⟩, by decide +kernel⟩,
  ⟨camOn [] (some ⟨0, 1000, 0, 0, true, 1000⟩) none, 0, 0, 1, 1500, 0, ⟨0, 1000, 0, 0, true, 1000⟩, by decide +kernel⟩,
  ⟨camOn [(3, 1, 0x2A), (4, 2, 8), (6, 2, 4)] none (some frame0), 0, 0, 0x2A, 1, 1500, 0, true, zeros 8, { frame0 with flags := 2 }, by decide +kernel⟩,
  ⟨camOn [(6, 2, 4)] none (some frame0), 0, 0, 0, 1500, 0, by decide +kernel⟩,
  ⟨camOn [] (some ⟨0, 1000, 0, 0, true, 1000⟩) none, 0, ⟨0, 1000, 0, 0, true, 1000⟩, by decide +kernel⟩,
  ⟨camOn [] (some ⟨0, 1000, 0, 0, false, 1000⟩) none, 0, ⟨0, 1000, 0, 0, false, 1000⟩, by decide +kernel⟩,
  ⟨live, by decide +kernel⟩,
  ⟨live, 7, 3, by decide +kernel⟩,
  ⟨camOn [(6, 2, 4)] none (some frame0), 0, 0, 0, { frame0 with flags := 4 }, by decide +kernel⟩⟩

theorem witness_SensorPinsComplete :
  (∃ (s : State) (c : Nat), s.solo = true ∧ 4096 ≤ (s.bitIn c).run ∧ (s.func (decFunc c)).life = .on ∧ (s.bitIn c).stuck = false) ∧
  (∃ (s : State) (n : Nat) (held : Nat), s.solo = true ∧ (s.func (encFunc n)).life ≠ .off ∧ (s.enc n).qualify ≤ held) ∧
  (∃ (s : State) (n : Nat), s.solo = true ∧ (s.func (encFunc n)).life = .on) ∧
  (∃ (s : State) (port : Nat) (src : Nat) (udp : Nat) (j : Nat) (bs : List Byte), s.solo = true ∧ (List.range 8).find? (fun k => s.lidarPortMatch port src udp k && (s.lidar k).payloadLen == bs.length) = some j ∧ (s.func (lidarFunc j)).life = .on) ∧
  (∃ (s : State) (port : Nat) (src : Nat) (udp : Nat) (j : Nat) (bs : List Byte), s.solo = true ∧ (List.range 8).find? (fun k => s.lidarPortMatch port src udp k && (s.lidar k).payloadLen == bs.length) = some j ∧ (s.func (lidarFunc j)).life ≠ .on) ∧
  (∃ (s : State) (j : Nat), s.solo = true ∧ (s.func (lidarFunc j)).life = .on) ∧
  (∃ (s : State) (c : Nat) (b : Bool), s.solo = true ∧ (s.func (decFunc c)).life.active = true ∧ s.clockOn c = true ∧
    (let x := s.runTo (s.bitIn c).next
     ((x.setBitIn c { x.bitIn c with next := (s.bitIn c).next + x.clockPeriod c }).pushBit c b (s.bitIn c).next).2.isNone = true)) ∧
  (∃ (s : State) (c : Nat) (b : Bool), s.solo = true ∧ (s.func (decFunc c)).life.active = true ∧ s.clockOn c = true ∧
    (let x := s.runTo (s.bitIn c).next
     ((x.setBitIn c { x.bitIn c with next := (s.bitIn c).next + x.clockPeriod c }).pushBit c b (s.bitIn c).next).2.isSome = true)) :=
  ⟨⟨{ funcIn live 0x57 .on with ing := { Ing.reset with bitIns := [(0x37, { BitIn.reset with run := 4096 })] } }, 0x37, by decide +kernel⟩,
  ⟨funcIn live 0x5F .starting, 7, 2, by decide +kernel⟩,
  ⟨funcIn live 0x5F .on, 7, by decide +kernel⟩,
  ⟨lidarIn .on, 0, 0, 2368, 0, zeros 16, by decide +kernel⟩,
  ⟨lidarIn .starting, 0, 0, 2368, 0, zeros 16, by decide +kernel⟩,
  ⟨lidarIn .on, 0, by decide +kernel⟩,
  ⟨soundIn 0, 0, true, by decide +kernel⟩,
  ⟨soundIn 1, 0, true, by decide +kernel⟩⟩

theorem witness_VisionUnitsComplete :
  ∀ x ∈ [((0, 0, 0), 0), ((1, 1, 0), 4), ((2, 0, 0), 2), ((3, 0, 0), 10)],
    let s := visAt x.2; let c := s.visCtx 0; let f : Frame := { frame0 with lines := [[], [], [], []] }
    let u : VisUnit := ⟨[0, 2, 1, 3].getD x.1.1 0, x.1.1, x.1.2.1, x.1.2.2⟩
    s.alive = true ∧ c.active = true ∧ s.visFrame 0 = some f ∧ f.absent = false ∧ (visUnits c.block)[c.cursor]? = some u ∧
      c.cyc + visCost c u ≤ Vb.shareCyc c.block ∧ c.tok + visTok c u ≤ Vb.shareTok c.block ∧
      (x.1.1 = 0 → visTrigger c.block (s.visGrid c) 0 (s.cam 0).height < f.lines.length ∧ s.directRoom 0 = true) := by
  decide +kernel
theorem witness_VisionUnitsComplete_full :
  let c := visFull.visCtx 0; let f : Frame := { frame0 with lines := [[], [], [], []] }; let u : VisUnit := ⟨0, 0, 0, 0⟩
  visFull.alive = true ∧ c.active = true ∧ visFull.visFrame 0 = some f ∧ f.absent = false ∧
    visTrigger c.block (visFull.visGrid c) 0 (visFull.cam 0).height < f.lines.length ∧ (visUnits c.block)[c.cursor]? = some u ∧
    c.cyc + visCost c u ≤ Vb.shareCyc c.block ∧ c.tok + visTok c u ≤ Vb.shareTok c.block ∧ visFull.directRoom 0 = false := by
  decide +kernel

theorem witness_StereoFlowUnitsComplete :
  (∃ (s : State) (q : Nat) (l : Nat) (k : Nat) (u : FstUnit) (lv : List Byte) (rv : List Byte), let c := s.pairCtx q; let b := c.block; let need := min (k + 1) (Vb.bands lv l - 1); s.alive = true ∧ s.waitsAt c.slot c.index = false ∧ visBlockOf (s.img c.slot) (Pb.left b) = some lv ∧ visBlockOf (s.img c.slot) (Pb.right b) = some rv ∧ (stereoUnits lv rv b)[c.cursor]? = some u ∧ u.level = l ∧ u.band = k ∧ c.active = true ∧ c.stopped = false ∧ s.visFlag (Vb.ctx lv) (Vb.bandFlag lv l need) = .ready ∧ s.visFlag (Vb.ctx rv) (Vb.bandFlag rv l need) = .ready) ∧
  (∃ (s : State) (i : Nat) (l : Nat) (k : Nat) (u : FstUnit) (vb : List Byte), let c := s.flowCtx i; let b := c.block; s.alive = true ∧ s.waitsAt c.slot c.index = false ∧ visBlockOf (s.img c.slot) (Fb.stream b) = some vb ∧ (copyUnits vb b)[c.cursor]? = some u ∧ u.level = l ∧ u.band = k ∧ c.active = true ∧ c.stopped = false ∧ s.visFlag i (Vb.bandFlag vb l k) = .ready) ∧
  (∃ (s : State) (i : Nat) (vb : List Byte), let c := s.flowCtx i; let b := c.block; s.alive = true ∧ s.waitsAt c.slot c.index = false ∧ visBlockOf (s.img c.slot) (Fb.stream b) = some vb ∧ c.active = true ∧ c.stopped = false ∧ Fb.source b = 0 ∧ c.cursor = (copyUnits vb b).length ∧ (∀ l ∈ Fb.carried b, s.visFlag i (Vb.listFlag vb l) = .ready)) ∧
  (∃ (s : State) (i : Nat) (k : Nat) (half : Nat) (vb : List Byte), let c := s.flowCtx i; let b := c.block; let tl := s.flowTracks vb b half; s.alive = true ∧ s.waitsAt c.slot c.index = false ∧ visBlockOf (s.img c.slot) (Fb.stream b) = some vb ∧ c.active = true ∧ c.stopped = false ∧ c.cursor = flowLead vb b + k ∧ s.refHalf c vb = some half ∧ s.listDegraded c = false ∧ tl.2 = false ∧ 16 * k < tl.1.length) ∧
  (∃ (s : State) (e : Nat) (i : Nat), let c := s.fstCtx e i; s.alive = true ∧ s.waitsAt c.slot c.index = false ∧ c.active = true ∧ s.fstUnitsOver e i = true ∧ (e = 1 ∨ c.stopped = true ∨ (∀ vb, visBlockOf (s.img c.slot) (Fb.stream c.block) = some vb → c.cursor ≠ flowLead vb c.block ∨ ((s.refHalf c vb).isSome = true ∧ s.listDegraded c = false)))) ∧
  (∃ (s : State) (i : Nat) (vb : List Byte), let c := s.flowCtx i; s.alive = true ∧ s.waitsAt c.slot c.index = false ∧ c.active = true ∧ c.stopped = false ∧ visBlockOf (s.img c.slot) (Fb.stream c.block) = some vb ∧ c.cursor = flowLead vb c.block ∧ s.refHalf c vb = none) ∧
  (∃ (s : State) (i : Nat) (vb : List Byte) (h : Nat), let c := s.flowCtx i; s.alive = true ∧ s.waitsAt c.slot c.index = false ∧ c.active = true ∧ c.stopped = false ∧ visBlockOf (s.img c.slot) (Fb.stream c.block) = some vb ∧ c.cursor = flowLead vb c.block ∧ s.refHalf c vb = some h ∧ s.listDegraded c = true) :=
  ⟨⟨fstAt true pairBlock0 0 id, 0, 0, 0, (stereoUnits (eye 0) (eye 1) pairBlock0).headD ⟨0, 0, 0⟩, eye 0, eye 1, by decide +kernel⟩,
  ⟨fstAt false flowBlock0 0 id, 0, 0, 0, (copyUnits (eye 0) flowBlock0).headD ⟨0, 0, 0⟩, eye 0, by decide +kernel⟩,
  ⟨fstAt false flowBlock0 4 id, 0, eye 0, by decide +kernel⟩,
  ⟨flowRef 5, 0, 0, refAt, eye 0, by decide +kernel⟩,
  ⟨fstAt true pairBlock0 4 id, 1, 0, by decide +kernel⟩,
  ⟨fstAt false flowBlock0 5 id, 0, eye 0, by decide +kernel⟩,
  ⟨cutList, 0, eye 0, refAt, by decide +kernel⟩⟩

theorem witness_PosePathComplete :
  (∃ (s : State), s.alive = true ∧ s.fppOn = true) ∧
  (∃ (s : State) (r : Replay), s.alive = true ∧ s.fpp.replay = some r) ∧
  (∃ (s : State) (set : SampleSet), s.alive = true ∧ s.fpp.set = some set ∧ s.fpp.forced = [] ∧ s.fpp.seed = none ∧ s.fpp.replay = none) :=
  ⟨⟨funcIn live 0x073 .on, by decide +kernel⟩,
  ⟨{ live with fpp := { Fpp.reset with replay := some ⟨⟨zeros 128, true, none⟩, Pose.reset, 0, 0, 0, none, []⟩ } }, ⟨⟨zeros 128, true, none⟩, Pose.reset, 0, 0, 0, none, []⟩, by decide +kernel⟩,
  ⟨{ live with fpp := { Fpp.reset with set := some ⟨[0, 0, 0, 0, 0, 0], 5, 7, 63, false, 0⟩ } }, ⟨[0, 0, 0, 0, 0, 0], 5, 7, 63, false, 0⟩, by decide +kernel⟩⟩

theorem witness_FusionUnitsComplete :
  (∃ (s : State) (f : Nat) (tell : Nat → Option Nat), let x := s.fusTurn f; let c := x.fusCtx f; let j := c.insts.length; s.alive = true ∧ s.waitsAt (s.fusCtx f).slot (s.fusCtx f).index = false ∧ c.active = true ∧ j < Ub.outCount c.block ∧ x.fusTold c j = some tell ∧ x.pairSecondary = false) ∧
  (∃ (s : State) (f : Nat) (tell : Nat → Option Nat), let x := s.fusTurn f; let c := x.fusCtx f; let j := c.insts.length; let n := c.entries.length; let t := x.fusInstant c j; let open_ := (List.range n).filter (fun i => !(x.entryAt c i t (tell i)).complete); s.alive = true ∧ s.waitsAt (s.fusCtx f).slot (s.fusCtx f).index = false ∧ c.active = true ∧ j < Ub.outCount c.block ∧ x.fusTold c j = some tell ∧ x.pairSecondary = true ∧ (∀ i ∈ open_, tell i = some 0)) ∧
  (∃ (s : State) (f : Nat) (j : Nat) (i : Nat) (blk : List (List Byte)), let x := s.fusTurn f; let c := x.fusCtx f; s.alive = true ∧ s.waitsAt (s.fusCtx f).slot (s.fusCtx f).index = false ∧ c.active = true ∧ c.prjCut = false ∧ x.prjNext c = some (j, i, blk)) ∧
  (∃ (s : State) (f : Nat) (y : FusInst), let x := s.fusTurn f; let c := x.fusCtx f; s.alive = true ∧ s.waitsAt (s.fusCtx f).slot (s.fusCtx f).index = false ∧ c.insts[c.recorded]? = some y ∧ c.active = true ∧ c.afeCut = false ∧ y.gridDone = false ∧ Ub.pixel c.block = true ∧ x.prjOver c c.recorded = true ∧ x.metHolds f = false) ∧
  (∃ (s : State) (f : Nat) (id : Nat) (a : Nat) (y : FusInst), let x := s.fusTurn f; let c := x.fusCtx f; s.alive = true ∧ s.waitsAt (s.fusCtx f).slot (s.fusCtx f).index = false ∧ c.insts[c.recorded]? = some y ∧ c.active = true ∧ c.afeCut = false ∧ y.gridDone = true ∧ (x.fusFeatures c y)[y.features]? = some (id, a)) :=
  ⟨⟨fusAt 3 [] id, 0, fun _ => none, by decide +kernel, by decide +kernel, by decide +kernel, by decide +kernel, told_none (by decide +kernel), by decide +kernel⟩,
  ⟨(let s := fusAt 3 [] (fun c => { c with counts := [(0, [0, 0, 0])] }); (funcIn s 0x084 .on).setFld Reg.TDM_STATUS 0 4 14), 0, fun i => some ([0, 0, 0].getD i 0), by decide +kernel, by decide +kernel, by decide +kernel, by decide +kernel, told_counts (by decide +kernel) (by decide +kernel), by decide +kernel, by decide +kernel⟩,
  ⟨fusAt 3 [{ inst0 with points := [(1, [zeros 32])] }] id, 0, 0, 1, [zeros 32], by decide +kernel⟩,
  ⟨fusAt 3 [inst0] id, 0, inst0, by decide +kernel⟩,
  ⟨(let s := fusAt 3 [inst1] id; { s with mem := s.mem.writeBytes (Vb.featureAddr (eye 0) + 28) [1] }), 0, 0, Vb.featureAddr (eye 0) + 64, inst1, by decide +kernel⟩⟩

theorem witness_FusionRecordsComplete :
  (∃ (s : State) (f : Nat) (g : Nat) (y : FusInst), let x := s.fusTurn f; let c := x.fusCtx f; s.alive = true ∧ s.waitsAt (s.fusCtx f).slot (s.fusCtx f).index = false ∧ c.insts[c.recorded]? = some y ∧ c.active = true ∧ c.afeCut = false ∧ c.groups[y.groups]? = some g ∧ (Ub.pixel c.block = true → y.gridDone = true ∧ (x.fusFeatures c y).length ≤ y.features)) ∧
  (∃ (s : State) (f : Nat) (y : FusInst), let x := s.fusTurn f; let c := x.fusCtx f; s.alive = true ∧ s.waitsAt (s.fusCtx f).slot (s.fusCtx f).index = false ∧ c.insts[c.recorded]? = some y ∧ c.active = true ∧ x.prjOver c c.recorded = true ∧ (c.afeCut = true ∨ ((Ub.pixel c.block = true → y.gridDone = true) ∧ (x.fusFeatures c y).length ≤ y.features ∧ c.groups.length ≤ y.groups))) ∧
  (∃ (s : State) (f : Nat) (l : FusLate) (rest : List FusLate), let x := s.fusTurn f; let c := x.fusCtx f; s.alive = true ∧ s.waitsAt (s.fusCtx f).slot (s.fusCtx f).index = false ∧ c.late = l :: rest ∧ c.active = true ∧ c.afeCut = false ∧ Ub.outCount c.block ≤ c.recorded) ∧
  (∃ (s : State) (f : Nat) (i : Nat), let c := s.fusCtx f; let n := SMap.get (0, 2) c.silent i; s.alive = true ∧ c.on = true ∧ 3 ≤ n.1 ∧ c.silentMask.testBit i = false) ∧
  (∃ (s : State) (id : Nat), let k := s.fld (fusVoteReg id) 16 4; s.alive = true ∧ 0x010 ≤ id ∧ id ≤ 0x067 ∧ s.quarantined id = false ∧ k ≤ s.gatedRun id) ∧
  (∃ (s : State) (id : Nat), let m := s.fld (fusVoteReg id) 20 8; s.alive = true ∧ 0x010 ≤ id ∧ id ≤ 0x067 ∧ s.quarantined id = true ∧ m ≤ s.cleanRun id) :=
  ⟨⟨fusAt 7 [inst1] id, 0, 2, inst1, by decide +kernel⟩,
  ⟨fusAt 3 [inst1] id, 0, inst1, by decide +kernel⟩,
  ⟨fusAt 3 [] (fun c => { c with late := [⟨1, 5, 1, 9, zeros 32⟩], recorded := 1 }), 0, ⟨1, 5, 1, 9, zeros 32⟩, [], by decide +kernel⟩,
  ⟨fusAt 3 [] (fun c => { c with silent := [(1, (3, 1))] }), 0, 1, by decide +kernel⟩,
  ⟨live.setFld (fusVoteReg 0x067) 16 4 0, 0x067, by decide +kernel⟩,
  ⟨(live.setFld (fusVoteReg 0x067) 20 8 0).setFld (fusVoteReg 0x067) 0 2 2, 0x067, by decide +kernel⟩⟩

theorem witness_SolverEventsComplete :
  (∃ (s : State) (c : Nat) (d : BsuDesc) (rest : List BsuDesc), let s0 := s.bsuSync; let ch := s0.bsuCh c; let pkt := s0.bsuRead d; let h := pkt.take 64; let st := (pkt.drop 64).take (Bp.structLen h); let s1 := (s0.setBsu c { ch with queue := rest }).bsuRefill c; let n := if Bp.chain h then 1 else d.cfg.count; let cyc := (bsuCost h st d.len true).total + (n - 1) * (bsuCost h st d.len false).total; let r : BsuRun := ⟨d, h, st, pkt.drop (64 + Bp.structLen h), ch.cadOf d, s0.core, s0.core, 0, false, false, [], 0, 0, bsuSig pkt, false, false, false, false, none, 0, none, none⟩; let pay := (s1.setBsu c { s1.bsuCh c with run := some r }).bsuCharge c (Bp.cluster h) cyc (n * bsuTok h st d.len); s.alive = true ∧ c < 64 ∧ ch.queue = d :: rest ∧ ch.run = none ∧ s0.bsuOpen c d = true ∧ s0.lanesFree (chanLanes c (Bp.cluster h)) = true ∧ s0.bsuBehind c (chanLanes c (Bp.cluster h)) = false ∧ bsuCheck c d.cfg d.host.isSome 1 pkt = none ∧ pay.2 = false) ∧
  (∃ (s : State) (c : Nat) (e : Nat) (d : BsuDesc) (rest : List BsuDesc), let s0 := s.bsuSync; let ch := s0.bsuCh c; let pkt := s0.bsuRead d; let h := pkt.take 64; s.alive = true ∧ c < 64 ∧ ch.queue = d :: rest ∧ ch.run = none ∧ s0.bsuOpen c d = true ∧ s0.lanesFree (chanLanes c (Bp.cluster h)) = true ∧ s0.bsuBehind c (chanLanes c (Bp.cluster h)) = false ∧ bsuCheck c d.cfg d.host.isSome 1 pkt = some e) ∧
  (∃ (s : State) (c : Nat) (r : BsuRun) (d : BsuDesc) (rest : List BsuDesc), let s0 := s.bsuSync; let ch := s0.bsuCh c; let pkt := s0.bsuRead d; let h := pkt.take 64; let st := (pkt.drop 64).take (Bp.structLen h); let s1 := (s0.setBsu c { ch with queue := rest }).bsuRefill c; let s2 := s1.bsuWaited c r; let cost := (bsuCost h st d.len true).total; let pay := s2.bsuCharge c (Bp.cluster h) cost (bsuTok h st d.len); s.alive = true ∧ ch.run = some r ∧ ch.queue = d :: rest ∧ r.waiting = true ∧ bsuCheck c r.desc.cfg d.host.isSome (r.iter + 1) pkt = none ∧ pay.2 = false) ∧
  (∃ (s : State) (c : Nat) (r : BsuRun), let s1 := s.bsuSync.bsuAdvance c (2 ^ 80) 64; s.alive = true ∧ (s1.bsuCh c).run = some r ∧ r.desc.cfg.deadline = 0 ∧ r.waiting = false ∧ r.ended = true) ∧
  (∃ (s : State) (c : Nat) (r : BsuRun) (e : BsuRun), let s0 := s.bsuSync; let t := r.start + r.desc.cfg.deadline; s.alive = true ∧ (s0.bsuCh c).run = some r ∧ r.desc.cfg.deadline ≠ 0 ∧ ((s0.bsuAdvance c (2 ^ 80) 64).bsuCh c).run = some e ∧ (e.ended = true → t < e.at_)) :=
  ⟨⟨{ solver 63 [⟨0, 64, 7, some 5, ⟨0, 1, 0x2B8000000, 0⟩⟩] none with host := Memory.writeBytes [] 0 (problem 1 1) }, 63, ⟨0, 64, 7, some 5, ⟨0, 1, 0x2B8000000, 0⟩⟩, [], by decide +kernel⟩,
  ⟨solver 63 [⟨0, 64, 7, some 5, ⟨0, 1, 0x2B8000000, 0⟩⟩] none, 63, 0x83, ⟨0, 64, 7, some 5, ⟨0, 1, 0x2B8000000, 0⟩⟩, [], by decide +kernel⟩,
  ⟨chained ⟨0x1000000000, 64, 7, none, ⟨0, 4, 0x2B8000000, 0⟩⟩, 63, { bsuRun0 ⟨0x1000000000, 64, 7, none, ⟨0, 4, 0x2B8000000, 0⟩⟩ with waiting := true }, ⟨0x1000000000, 64, 7, none, ⟨0, 4, 0x2B8000000, 0⟩⟩, [], by decide +kernel⟩,
  ⟨solver 63 [] (some { bsuRun0 ⟨0x1000000000, 64, 7, none, ⟨0, 4, 0x2B8000000, 0⟩⟩ with ended := true }), 63, { bsuRun0 ⟨0x1000000000, 64, 7, none, ⟨0, 4, 0x2B8000000, 0⟩⟩ with ended := true }, by decide +kernel⟩,
  ⟨solver 63 [] (some { bsuRun0 ⟨0x1000000000, 64, 7, none, ⟨0, 4, 0x2B8000000, 9⟩⟩ with ended := true, at_ := 10 }), 63, { bsuRun0 ⟨0x1000000000, 64, 7, none, ⟨0, 4, 0x2B8000000, 9⟩⟩ with ended := true, at_ := 10 }, { bsuRun0 ⟨0x1000000000, 64, 7, none, ⟨0, 4, 0x2B8000000, 9⟩⟩ with ended := true, at_ := 10 }, by decide +kernel⟩⟩

theorem witness_MapOperationsComplete :
  ∃ (s : State) (pipe : Nat) (op : Nat) (row : Instr) (r0 : Run) (r : Run) (e : MapEnt) (rec : List Byte) (i : Inst) (code : Nat), (op, row) ∈ [(1, Instr.insert pipe), (2, .update pipe), (3, .miss pipe), (4, .retire pipe), (5, .kfInsert pipe), (6, .kfUpdate pipe), (7, .loop pipe), (8, .kfRetire pipe), (9, .activate pipe), (10, .read pipe), (11, .search pipe), (12, .select pipe), (13, .graph pipe)] ∧ let x := s.mapClose r0.slot r0.index 10; let cost := mapCost x rec; s.alive = true ∧ s.runOn 4 pipe = some r0 ∧ x.runOf r0.slot r0.index = some r ∧ x.mapNext r = some (e, rec) ∧ r.insts.find? (fun k => k.unit == pipe) = some i ∧ leAt rec 0 1 = op ∧ i.ended = false ∧ r.waiting = false ∧ limitBits (x.runDesc r) i cost.1 cost.2 = 0 ∧ x.mapCheck x.mapView r (x.mapStage r) rec = some code ∧ (op = 12 → code = 0 → x.selectReady r rec = true) :=
  ⟨mapWork, 0, 5, Instr.kfInsert 0, run0, run0, ⟨0, 8, 0, 0, 0, 0x1000000000⟩, bytesOf 64 [(0, 1, 5)], ⟨0, 0, 0, 0, false, false, 0, []⟩, 0, by simp, by decide +kernel, by decide +kernel, by decide +kernel, next_of (by decide +kernel), by decide +kernel⟩

theorem witness_MapEpochsComplete :
  (∃ (s : State) (e : Nat) (cad : Nat) (hs : List Nat) (late : List Nat), s.alive = true ∧ s.ccu.resolving = some (e, true, hs, cad, late) ∧ hs.contains 1 = true) ∧
  (∃ (s : State) (e : Nat) (cad : Nat) (hs : List Nat) (late : List Nat), s.alive = true ∧ s.ccu.resolving = some (e, true, hs, cad, late) ∧ hs.contains 1 = false) ∧
  (∃ (s : State) (e : Nat) (cad : Nat) (hs : List Nat) (late : List Nat), s.alive = true ∧ s.ccu.resolving = some (e, false, hs, cad, late) ∧ hs.contains 1 = true) ∧
  (∃ (s : State), s.alive = true ∧ s.bitOf Reg.MAP_STATUS 3 = true) :=
  ⟨⟨{ live with ccu := { live.ccu with resolving := some (5, true, [0, 1], 9, []) } }, 5, 9, [0, 1], [], by decide +kernel⟩,
  ⟨{ live with ccu := { live.ccu with resolving := some (5, true, [0], 9, []) } }, 5, 9, [0], [], by decide +kernel⟩,
  ⟨{ live with ccu := { live.ccu with resolving := some (5, false, [0, 1], 9, []) } }, 5, 9, [0, 1], [], by decide +kernel⟩,
  ⟨live.setBit Reg.MAP_STATUS 3, by decide +kernel⟩⟩

theorem witness_MatrixUnitsComplete :
  (∃ (s : State) (arr : Nat) (want : Nat) (row : Instr) (r : Run) (x : MxStage) (i : Inst), (want, row) ∈ [(0, Instr.tileOperation arr), (1, .outputUnit arr), (2, .softmaxUnit arr)] ∧ let ops := mxOps (s.img r.slot) (s.runDesc r); let pos := SMap.get ⟨0, 0, 0, 0, true⟩ x.arrays arr; let b := ops.getD pos.op []; s.alive = true ∧ s.runOn 5 arr = some r ∧ s.mxStage r.slot r.index = some x ∧ r.insts.find? (fun k => k.unit == arr) = some i ∧ pos.done = false ∧ i.ended = false ∧ r.waiting = false ∧ (Mx.units b).getD pos.unit 3 = want ∧ s.mxBandsIn arr b pos.block = false) ∧
  (∃ (s : State) (arr : Nat) (want : Nat) (row : Instr) (r : Run) (x : MxStage) (i : Inst), (want, row) ∈ [(0, Instr.tileOperation arr), (1, .outputUnit arr), (2, .softmaxUnit arr)] ∧ let ops := mxOps (s.img r.slot) (s.runDesc r); let pos := SMap.get ⟨0, 0, 0, 0, true⟩ x.arrays arr; let b := ops.getD pos.op []; s.alive = true ∧ s.runOn 5 arr = some r ∧ s.mxStage r.slot r.index = some x ∧ r.insts.find? (fun k => k.unit == arr) = some i ∧ pos.done = false ∧ i.ended = false ∧ r.waiting = false ∧ (Mx.units b).getD pos.unit 3 = want ∧ s.mxBandsIn arr b pos.block = true ∧ s.mxTilesIn r.slot b pos.block pos.unit = false) ∧
  (∃ (s : State) (arr : Nat) (want : Nat) (row : Instr) (r : Run) (x : MxStage) (i : Inst), (want, row) ∈ [(0, Instr.tileOperation arr), (1, .outputUnit arr), (2, .softmaxUnit arr)] ∧ let ops := mxOps (s.img r.slot) (s.runDesc r); let pos := SMap.get ⟨0, 0, 0, 0, true⟩ x.arrays arr; let b := ops.getD pos.op []; s.alive = true ∧ s.runOn 5 arr = some r ∧ s.mxStage r.slot r.index = some x ∧ r.insts.find? (fun k => k.unit == arr) = some i ∧ pos.done = false ∧ i.ended = false ∧ r.waiting = false ∧ (Mx.units b).getD pos.unit 3 = want ∧ s.mxBandsIn arr b pos.block = true ∧ s.mxTilesIn r.slot b pos.block pos.unit = true ∧ s.mxStepIn r pos.op b pos.block = false) ∧
  (∃ (s : State) (arr : Nat) (want : Nat) (row : Instr) (r : Run) (x : MxStage) (i : Inst), (want, row) ∈ [(0, Instr.tileOperation arr), (1, .outputUnit arr), (2, .softmaxUnit arr)] ∧ let ops := mxOps (s.img r.slot) (s.runDesc r); let pos := SMap.get ⟨0, 0, 0, 0, true⟩ x.arrays arr; let b := ops.getD pos.op []; s.alive = true ∧ s.runOn 5 arr = some r ∧ s.mxStage r.slot r.index = some x ∧ r.insts.find? (fun k => k.unit == arr) = some i ∧ pos.done = false ∧ i.ended = false ∧ r.waiting = false ∧ (Mx.units b).getD pos.unit 3 = want ∧ s.mxBandsIn arr b pos.block = true ∧ s.mxTilesIn r.slot b pos.block pos.unit = true ∧ s.mxStepIn r pos.op b pos.block = true ∧ limitBits (s.runDesc r) i (Mx.cost b want).1 (Mx.cost b want).2 = 0) :=
  ⟨⟨matWork [(357, 1, 1)] 0, 0, 0, Instr.tileOperation 0, run0, ⟨0, 0, 0, [], [(0, ⟨0, 0, 0, 0, false⟩)]⟩, ⟨0, 0, 0, 0, false, false, 0, []⟩, by simp, by decide +kernel⟩,
  ⟨matWork [(384, 8, 0x1000000000)] 0, 0, 0, Instr.tileOperation 0, run0, ⟨0, 0, 0, [], [(0, ⟨0, 0, 0, 0, false⟩)]⟩, ⟨0, 0, 0, 0, false, false, 0, []⟩, by simp, by decide +kernel⟩,
  ⟨matWork [(352, 1, 6)] 1, 0, 0, Instr.tileOperation 0, run0, ⟨0, 0, 0, [], [(0, ⟨0, 1, 0, 0, false⟩)]⟩, ⟨0, 0, 0, 0, false, false, 0, []⟩, by simp, by decide +kernel⟩,
  ⟨matWork [] 0, 0, 0, Instr.tileOperation 0, run0, ⟨0, 0, 0, [], [(0, ⟨0, 0, 0, 0, false⟩)]⟩, ⟨0, 0, 0, 0, false, false, 0, []⟩, by simp, by decide +kernel⟩⟩

theorem witness_CoreIntrinsicsComplete :
  (∃ (s : State) (n : Nat) (pc : Nat) (ofs : Nat) (addr : Nat) (len : Nat) (r : Run) (h : List Byte) (x : State), s.alive = true ∧ CoreIssues s n pc r h x ∧ ofs % 64 = 0 ∧ addr % 64 = 0 ∧ len % 64 = 0 ∧ (addrRow addr len).isSome = true ∧ inRegions h ofs len = true) ∧
  (∃ (s : State) (n : Nat) (k : Nat) (b : GcrBeat), s.alive = true ∧ (s.coreOf n).beats[k]? = some b ∧ b.get = true) ∧
  (∃ (s : State) (n : Nat) (k : Nat) (b : GcrBeat), s.alive = true ∧ (s.coreOf n).beats[k]? = some b ∧ b.get = false) ∧
  (∃ (s : State) (n : Nat) (pc : Nat) (o : Nat) (i : Nat) (r : Run) (h : List Byte) (x : State), s.alive = true ∧ CoreIssues s n pc r h x ∧ r.outFlags[o]? = some i ∧ (x.coreCharge n r 1 0).flagOf r.slot i ≠ .ready) ∧
  (∃ (s : State) (n : Nat) (pc : Nat) (r : Run) (h : List Byte) (x : State), s.alive = true ∧ CoreIssues s n pc r h x) ∧
  (∃ (s : State) (n : Nat) (pc : Nat) (r : Run) (h : List Byte) (x : State), s.alive = true ∧ CoreIssues s n pc r h x) ∧
  (∃ (s : State) (n : Nat) (pc : Nat) (r : Run) (h : List Byte) (x : State), s.alive = true ∧ CoreIssues s n pc r h x) ∧
  (∃ (s : State) (n : Nat) (pc : Nat) (r : Run) (h : List Byte) (x : State), s.alive = true ∧ CoreIssues s n pc r h x) ∧
  (∃ (s : State) (n : Nat) (pc : Nat) (r : Run) (i : Inst), s.alive = true ∧ s.coreInst n = some (r, i) ∧ r.waiting = false ∧ ((s.coreOf n).state = 1 ∨ (s.coreOf n).state = 2) ∧ (s.coreOf n).wait = none ∧ inRange (Gp.codeAddr (Gp.header (s.img r.slot) (s.runDesc r))) (Gp.codeLen (Gp.header (s.img r.slot) (s.runDesc r))) pc = true) :=
  ⟨⟨coreAt 0 [] 1 id, 0, 0, 64, 0x1000000000, 128, run0, Gp.header ((coreAt 0 [] 1 id).img run0.slot) ((coreAt 0 [] 1 id).runDesc run0), (coreAt 0 [] 1 id).setRegN (Reg.GCR_CORE_PC 0) 0, by decide +kernel, issues_of (i := ⟨0, 0, 0, 0, false, false, 0, []⟩) (by decide +kernel) (by decide +kernel), by decide +kernel⟩,
  ⟨coreAt 0 [] 1 (fun x => { x with beats := [⟨true, 64, 0, 0⟩] }), 0, 0, ⟨true, 64, 0, 0⟩, by decide +kernel⟩,
  ⟨coreAt 0 [] 1 (fun x => { x with beats := [⟨false, 64, 0, 0⟩] }), 0, 0, ⟨false, 64, 0, 0⟩, by decide +kernel⟩,
  ⟨coreAt 0 [] 1 id, 0, 0, 0, 2, run0, Gp.header ((coreAt 0 [] 1 id).img run0.slot) ((coreAt 0 [] 1 id).runDesc run0), (coreAt 0 [] 1 id).setRegN (Reg.GCR_CORE_PC 0) 0, by decide +kernel, issues_of (i := ⟨0, 0, 0, 0, false, false, 0, []⟩) (by decide +kernel) (by decide +kernel), by decide +kernel⟩,
  ⟨coreAt 0 [] 1 id, 0, 0, run0, Gp.header ((coreAt 0 [] 1 id).img run0.slot) ((coreAt 0 [] 1 id).runDesc run0), (coreAt 0 [] 1 id).setRegN (Reg.GCR_CORE_PC 0) 0, by decide +kernel, issues_of (i := ⟨0, 0, 0, 0, false, false, 0, []⟩) (by decide +kernel) (by decide +kernel)⟩,
  ⟨coreAt 0 [] 1 id, 0, 0, run0, Gp.header ((coreAt 0 [] 1 id).img run0.slot) ((coreAt 0 [] 1 id).runDesc run0), (coreAt 0 [] 1 id).setRegN (Reg.GCR_CORE_PC 0) 0, by decide +kernel, issues_of (i := ⟨0, 0, 0, 0, false, false, 0, []⟩) (by decide +kernel) (by decide +kernel)⟩,
  ⟨coreAt 0 [] 2 id, 0, 0, run0, Gp.header ((coreAt 0 [] 2 id).img run0.slot) ((coreAt 0 [] 2 id).runDesc run0), (coreAt 0 [] 2 id).setRegN (Reg.GCR_CORE_PC 0) 0, by decide +kernel, issues_of (i := ⟨0, 0, 0, 0, false, false, 0, []⟩) (by decide +kernel) (by decide +kernel)⟩,
  ⟨coreAt 0 [] 1 id, 0, 0, run0, Gp.header ((coreAt 0 [] 1 id).img run0.slot) ((coreAt 0 [] 1 id).runDesc run0), (coreAt 0 [] 1 id).setRegN (Reg.GCR_CORE_PC 0) 0, by decide +kernel, issues_of (i := ⟨0, 0, 0, 0, false, false, 0, []⟩) (by decide +kernel) (by decide +kernel)⟩,
  ⟨coreAt 0 [] 2 id, 0, 0, run0, ⟨0, 0, 0, 0, false, false, 0, []⟩, by decide +kernel⟩⟩

theorem witness_CoreWaitsAndWallsComplete :
  (∃ (s : State) (n : Nat) (pc : Nat) (i : Nat) (rd : Nat) (w : GcrWait) (row : Instr) (r : Run) (h : List Byte) (x : State), (w, row) ∈ [(GcrWait.io, Instr.waitio n pc), (.flag i rd, .flagWait n pc i rd), (.sync, .sync n pc)] ∧ s.alive = true ∧ (s.coreOf n).wait = none ∧ CoreIssues s.bsuSync n pc r h x ∧ (w = .flag i rd → i < Sd.inputCount (x.runDesc r))) ∧
  (∃ (s : State) (n : Nat) (pc : Nat) (ch : Nat) (addr : Nat) (len : Nat) (tag : Nat) (r : Run) (h : List Byte) (x : State), s.alive = true ∧ (s.bsuSync.coreOf n).wait = none ∧ CoreIssues s.bsuSync n pc r h x ∧ let y := x.coreCharge n r 1 0; let p := y.bsuPost ch ⟨addr, len, tag, none, s.bsuSync.bsuForce ch⟩; x.mayPost n 1 ch r = true ∧ p.2 = true) ∧
  (∃ (s : State) (n : Nat) (pc : Nat) (ch : Nat) (addr : Nat) (len : Nat) (tag : Nat) (r : Run) (h : List Byte) (x : State), s.alive = true ∧ (s.bsuSync.coreOf n).wait = none ∧ CoreIssues s.bsuSync n pc r h x ∧ let y := x.coreCharge n r 1 0; let p := y.bsuPost ch ⟨addr, len, tag, none, s.bsuSync.bsuForce ch⟩; x.mayPost n 1 ch r = true ∧ p.2 = false) ∧
  (∃ (s : State) (n : Nat) (pc : Nat) (q : Nat) (ofs : Nat) (r : Run) (h : List Byte) (x : State), s.alive = true ∧ CoreIssues s n pc r h x ∧ let y := x.coreCharge n r 1 0; let b := x.ldB (coreBase n + ofs) 64; let p := y.mapPost q b; x.mayPost n 2 q r = true ∧ inRegions h ofs 64 = true ∧ p.2 = true) ∧
  (∃ (s : State) (n : Nat) (pc : Nat) (q : Nat) (ofs : Nat) (r : Run) (h : List Byte) (x : State), s.alive = true ∧ CoreIssues s n pc r h x ∧ let y := x.coreCharge n r 1 0; let b := x.ldB (coreBase n + ofs) 64; let p := y.mapPost q b; x.mayPost n 2 q r = true ∧ inRegions h ofs 64 = true ∧ p.2 = false) ∧
  (∃ (s : State) (n : Nat) (pc : Nat) (q : Nat) (ofs : Nat) (r : Run) (h : List Byte) (x : State), s.alive = true ∧ CoreIssues s n pc r h x ∧ let y := x.coreCharge n r 1 0; let b := x.ldB (coreBase n + ofs) 32; let p := y.fusPost q b; x.mayPost n 3 q r = true ∧ inRegions h ofs 32 = true ∧ p.2 = true) ∧
  (∃ (s : State) (n : Nat) (pc : Nat) (q : Nat) (ofs : Nat) (r : Run) (h : List Byte) (x : State), s.alive = true ∧ CoreIssues s n pc r h x ∧ let y := x.coreCharge n r 1 0; let b := x.ldB (coreBase n + ofs) 32; let p := y.fusPost q b; x.mayPost n 3 q r = true ∧ inRegions h ofs 32 = true ∧ p.2 = false) ∧
  (∃ (s : State) (n : Nat) (pc : Nat) (ofs : Nat) (r : Run) (h : List Byte) (x : State), s.alive = true ∧ CoreIssues s n pc r h x ∧ let y := x.coreCharge n r 2 0; let b := x.ldB (coreBase n + ofs) 128; let p := y.postCorrection b; x.mayPost n 4 0 r = true ∧ inRegions h ofs 128 = true ∧ p.2 = true) ∧
  (∃ (s : State) (n : Nat) (pc : Nat) (ofs : Nat) (r : Run) (h : List Byte) (x : State), s.alive = true ∧ CoreIssues s n pc r h x ∧ let y := x.coreCharge n r 2 0; let b := x.ldB (coreBase n + ofs) 128; let p := y.postCorrection b; x.mayPost n 4 0 r = true ∧ inRegions h ofs 128 = true ∧ p.2 = false) ∧
  (∃ (s : State) (n : Nat) (i : CoreStep) (r : Run) (h : List Byte) (x : State), s.alive = true ∧ CoreIssues s n i.pc r h x ∧ i.kind ≠ .undefined ∧ (i.kind = .call → (x.coreOf n).depth < 16) ∧ (∀ l ∈ i.loads, inRegions h l.1 l.2 = true) ∧ (∀ l ∈ i.stores, inRegions h l.1 l.2.length = true)) ∧
  (∃ (s : State) (n : Nat) (i : CoreStep) (r : Run) (h : List Byte) (x : State), s.alive = true ∧ CoreIssues s n i.pc r h x ∧ i.kind = .undefined) ∧
  (∃ (s : State) (n : Nat) (i : CoreStep) (r : Run) (h : List Byte) (x : State), s.alive = true ∧ CoreIssues s n i.pc r h x ∧ i.kind = .call ∧ 16 ≤ (x.coreOf n).depth) ∧
  (∃ (s : State) (n : Nat), s.alive = true ∧ (s.coreOf n).state = 1 ∧ (s.coreOf n).walled ≠ 0 ∧ (s.coreOf n).wait = none) ∧
  (∃ (s : State) (n : Nat) (r : Run) (i : Inst), s.alive = true ∧ s.coreInst n = some (r, i) ∧ (s.coreOf n).state = 2 ∧ (s.coreOf n).wait = none ∧ Sd.tidy (s.runDesc r) ≤ (s.coreOf n).tidy) :=
  ⟨⟨coreAt 0 [] 1 id, 0, 0, 0, 5, GcrWait.flag 0 5, Instr.flagWait 0 0 0 5, run0, Gp.header (((coreAt 0 [] 1 id).bsuSync).img run0.slot) (((coreAt 0 [] 1 id).bsuSync).runDesc run0), ((coreAt 0 [] 1 id).bsuSync).setRegN (Reg.GCR_CORE_PC 0) 0, by simp, by decide +kernel, by decide +kernel, issues_of (i := ⟨0, 0, 0, 0, false, false, 0, []⟩) (by decide +kernel) (by decide +kernel), fun _ => by decide +kernel⟩,
  ⟨coreAt 1 [] 1 id, 0, 0, 0, 0x1000000000, 64, 7, run0, Gp.header (((coreAt 1 [] 1 id).bsuSync).img run0.slot) (((coreAt 1 [] 1 id).bsuSync).runDesc run0), ((coreAt 1 [] 1 id).bsuSync).setRegN (Reg.GCR_CORE_PC 0) 0, by decide +kernel, by decide +kernel, issues_of (i := ⟨0, 0, 0, 0, false, false, 0, []⟩) (by decide +kernel) (by decide +kernel), by decide +kernel⟩,
  ⟨(coreAt 1 [] 1 id).setBsu 0 { BsuCh.reset with queue := List.replicate 8 ⟨0, 64, 0, none, ⟨0, 0, 0, 0⟩⟩ }, 0, 0, 0, 0x1000000000, 64, 7, run0, Gp.header ((((coreAt 1 [] 1 id).setBsu 0 { BsuCh.reset with queue := List.replicate 8 ⟨0, 64, 0, none, ⟨0, 0, 0, 0⟩⟩ }).bsuSync).img run0.slot) ((((coreAt 1 [] 1 id).setBsu 0 { BsuCh.reset with queue := List.replicate 8 ⟨0, 64, 0, none, ⟨0, 0, 0, 0⟩⟩ }).bsuSync).runDesc run0), (((coreAt 1 [] 1 id).setBsu 0 { BsuCh.reset with queue := List.replicate 8 ⟨0, 64, 0, none, ⟨0, 0, 0, 0⟩⟩ }).bsuSync).setRegN (Reg.GCR_CORE_PC 0) 0, by decide +kernel, by decide +kernel, issues_of (i := ⟨0, 0, 0, 0, false, false, 0, []⟩) (by decide +kernel) (by decide +kernel), by decide +kernel⟩,
  ⟨(slotIn (coreAt 2 [] 1 id) 1 .on (imageC 4 [(300, 4, 320), (320, 1, 1), (338, 2, 8), (360, 8, 0x1000000000)])), 0, 0, 0, 64, run0, Gp.header ((slotIn (coreAt 2 [] 1 id) 1 .on (imageC 4 [(300, 4, 320), (320, 1, 1), (338, 2, 8), (360, 8, 0x1000000000)])).img run0.slot) ((slotIn (coreAt 2 [] 1 id) 1 .on (imageC 4 [(300, 4, 320), (320, 1, 1), (338, 2, 8), (360, 8, 0x1000000000)])).runDesc run0), (slotIn (coreAt 2 [] 1 id) 1 .on (imageC 4 [(300, 4, 320), (320, 1, 1), (338, 2, 8), (360, 8, 0x1000000000)])).setRegN (Reg.GCR_CORE_PC 0) 0, by decide +kernel, issues_of (i := ⟨0, 0, 0, 0, false, false, 0, []⟩) (by decide +kernel) (by decide +kernel), by decide +kernel⟩,
  ⟨(coreAt 2 [] 1 id), 0, 0, 0, 64, run0, Gp.header ((coreAt 2 [] 1 id).img run0.slot) ((coreAt 2 [] 1 id).runDesc run0), (coreAt 2 [] 1 id).setRegN (Reg.GCR_CORE_PC 0) 0, by decide +kernel, issues_of (i := ⟨0, 0, 0, 0, false, false, 0, []⟩) (by decide +kernel) (by decide +kernel), by decide +kernel⟩,
  ⟨(coreAt 3 [] 1 id), 0, 0, 0, 64, run0, Gp.header ((coreAt 3 [] 1 id).img run0.slot) ((coreAt 3 [] 1 id).runDesc run0), (coreAt 3 [] 1 id).setRegN (Reg.GCR_CORE_PC 0) 0, by decide +kernel, issues_of (i := ⟨0, 0, 0, 0, false, false, 0, []⟩) (by decide +kernel) (by decide +kernel), by decide +kernel⟩,
  ⟨({ coreAt 3 [] 1 id with fus := { Fus.reset with queues := [(0, List.replicate 64 (zeros 32))] } }), 0, 0, 0, 64, run0, Gp.header (({ coreAt 3 [] 1 id with fus := { Fus.reset with queues := [(0, List.replicate 64 (zeros 32))] } }).img run0.slot) (({ coreAt 3 [] 1 id with fus := { Fus.reset with queues := [(0, List.replicate 64 (zeros 32))] } }).runDesc run0), ({ coreAt 3 [] 1 id with fus := { Fus.reset with queues := [(0, List.replicate 64 (zeros 32))] } }).setRegN (Reg.GCR_CORE_PC 0) 0, by decide +kernel, issues_of (i := ⟨0, 0, 0, 0, false, false, 0, []⟩) (by decide +kernel) (by decide +kernel), by decide +kernel⟩,
  ⟨(coreAt 4 [] 1 id), 0, 0, 64, run0, Gp.header ((coreAt 4 [] 1 id).img run0.slot) ((coreAt 4 [] 1 id).runDesc run0), (coreAt 4 [] 1 id).setRegN (Reg.GCR_CORE_PC 0) 0, by decide +kernel, issues_of (i := ⟨0, 0, 0, 0, false, false, 0, []⟩) (by decide +kernel) (by decide +kernel), by decide +kernel⟩,
  ⟨({ coreAt 4 [] 1 id with fpp := { Fpp.reset with queue := List.replicate 4 ⟨zeros 128, false, none⟩ } }), 0, 0, 64, run0, Gp.header (({ coreAt 4 [] 1 id with fpp := { Fpp.reset with queue := List.replicate 4 ⟨zeros 128, false, none⟩ } }).img run0.slot) (({ coreAt 4 [] 1 id with fpp := { Fpp.reset with queue := List.replicate 4 ⟨zeros 128, false, none⟩ } }).runDesc run0), ({ coreAt 4 [] 1 id with fpp := { Fpp.reset with queue := List.replicate 4 ⟨zeros 128, false, none⟩ } }).setRegN (Reg.GCR_CORE_PC 0) 0, by decide +kernel, issues_of (i := ⟨0, 0, 0, 0, false, false, 0, []⟩) (by decide +kernel) (by decide +kernel), by decide +kernel⟩,
  ⟨coreAt 0 [] 1 id, 0, ⟨0, true, .call, [], [], [], []⟩, run0, Gp.header ((coreAt 0 [] 1 id).img run0.slot) ((coreAt 0 [] 1 id).runDesc run0), (coreAt 0 [] 1 id).setRegN (Reg.GCR_CORE_PC 0) 0, by decide +kernel, issues_of (i := ⟨0, 0, 0, 0, false, false, 0, []⟩) (by decide +kernel) (by decide +kernel), by decide, by decide +kernel, by simp, by simp⟩,
  ⟨coreAt 0 [] 1 id, 0, ⟨0, true, .undefined, [], [], [], []⟩, run0, Gp.header ((coreAt 0 [] 1 id).img run0.slot) ((coreAt 0 [] 1 id).runDesc run0), (coreAt 0 [] 1 id).setRegN (Reg.GCR_CORE_PC 0) 0, by decide +kernel, issues_of (i := ⟨0, 0, 0, 0, false, false, 0, []⟩) (by decide +kernel) (by decide +kernel), rfl⟩,
  ⟨coreAt 0 [] 1 (fun x => { x with depth := 16 }), 0, ⟨0, true, .call, [], [], [], []⟩, run0, Gp.header ((coreAt 0 [] 1 (fun x => { x with depth := 16 })).img run0.slot) ((coreAt 0 [] 1 (fun x => { x with depth := 16 })).runDesc run0), (coreAt 0 [] 1 (fun x => { x with depth := 16 })).setRegN (Reg.GCR_CORE_PC 0) 0, by decide +kernel, issues_of (i := ⟨0, 0, 0, 0, false, false, 0, []⟩) (by decide +kernel) (by decide +kernel), rfl, by decide +kernel⟩,
  ⟨coreAt 0 [] 1 (fun x => { x with walled := 1 }), 0, by decide +kernel⟩,
  ⟨coreAt 0 [] 2 (fun x => { x with tidy := 50 }), 0, run0, ⟨0, 0, 0, 0, false, false, 0, []⟩, by decide +kernel⟩⟩

theorem witness_TierCopiesComplete :
  (∃ (s : State) (slot : Nat) (k : Nat) (i : Nat) (e : List Byte), s.alive = true ∧ (fetchEntries (s.slot slot).image)[k]? = some e ∧ s.objOf (objDecl (s.slot slot).image (Pe.object e)) = some i ∧ ((s.slot slot).running = true ∨ (s.slot slot).life = .starting) ∧ (65536 * slot + k) ∉ s.memt.issued) ∧
  (∃ (s : State) (n : Nat) (slot : Nat) (f : Nat) (fault : Bool) (c : Copy) (o : MemObj), s.alive = true ∧ s.memt.copies[n]? = some c ∧ c.why = .fetch slot f ∧ s.obj c.obj = some o ∧ (∀ x ∈ s.memt.copies.take n, ¬(x.obj = c.obj ∧ x.slot = c.slot)) ∧ s.workPaid (2 * flagKey slot f + 1) = true ∧ let src := o.tileAddr c.tile; let bytes := s.ldB src tileLen; fault = false ∧ (inFlash src 1 = true → flashTileOk bytes = true)) ∧
  (∃ (s : State) (n : Nat) (slot : Nat) (f : Nat) (fault : Bool) (c : Copy) (o : MemObj), s.alive = true ∧ s.memt.copies[n]? = some c ∧ c.why = .fetch slot f ∧ s.obj c.obj = some o ∧ (∀ x ∈ s.memt.copies.take n, ¬(x.obj = c.obj ∧ x.slot = c.slot)) ∧ s.workPaid (2 * flagKey slot f + 1) = true ∧ let src := o.tileAddr c.tile; let bytes := s.ldB src tileLen; (fault = true ∨ inFlash src 1 = true ∧ flashTileOk bytes = false)) ∧
  (∃ (s : State) (n : Nat) (c : Copy) (o : MemObj), s.alive = true ∧ s.memt.copies[n]? = some c ∧ s.obj c.obj = some o ∧ (∀ slot f, c.why ≠ .fetch slot f) ∧ (∀ h, c.why ≠ .flush h)) ∧
  (∃ (s : State) (n : Nat) (h : Nat) (c : Copy) (o : MemObj) (j : MemJob), s.alive = true ∧ s.memt.copies[n]? = some c ∧ s.obj c.obj = some o ∧ c.why = .flush h ∧ let x := s.tileBack n c o; let y : State := { x with memt := { x.memt with jobs := x.memt.jobs.map (fun j => if j.key = h then { j with left := j.left - 1, moved := j.moved + 1 } else j) } }; y.memt.jobs.find? (fun j => j.key == h && j.left == 0) = some j) ∧
  (∃ (s : State) (n : Nat) (h : Nat) (c : Copy) (o : MemObj), s.alive = true ∧ s.memt.copies[n]? = some c ∧ s.obj c.obj = some o ∧ c.why = .flush h ∧ let x := s.tileBack n c o; let y : State := { x with memt := { x.memt with jobs := x.memt.jobs.map (fun j => if j.key = h then { j with left := j.left - 1, moved := j.moved + 1 } else j) } }; y.memt.jobs.find? (fun j => j.key == h && j.left == 0) = none) ∧
  (∃ (s : State) (n : Nat) (c : Copy), s.alive = true ∧ s.memt.copies[n]? = some c ∧ c.late = false) :=
  ⟨⟨fetchAt, 0, 0, 3, (fetchEntries fetchImage).headD [], by decide +kernel⟩,
  ⟨copying ⟨3, 0, 0, .fetch 0 4, 500, false, 0⟩ [], 0, 0, 4, false, ⟨3, 0, 0, .fetch 0 4, 500, false, 0⟩, objD, by decide +kernel⟩,
  ⟨copying ⟨3, 0, 0, .fetch 0 4, 500, false, 0⟩ [], 0, 0, 4, true, ⟨3, 0, 0, .fetch 0 4, 500, false, 0⟩, objD, by decide +kernel⟩,
  ⟨copying ⟨3, 0, 0, .eviction, 500, false, 0⟩ [], 0, ⟨3, 0, 0, .eviction, 500, false, 0⟩, objD, by decide +kernel, by decide +kernel, by decide +kernel, (fun _ _ h => by cases h), (fun _ h => by cases h)⟩,
  ⟨(copying ⟨3, 0, 0, .flush 5, 500, false, 0⟩ [⟨5, .flush, 1, 0, 3, false⟩]), 0, 5, ⟨3, 0, 0, .flush 5, 500, false, 0⟩, objD, ⟨5, .flush, 0, 1, 3, false⟩, by decide +kernel⟩,
  ⟨(copying ⟨3, 0, 0, .flush 5, 500, false, 0⟩ [⟨5, .flush, 2, 0, 3, false⟩]), 0, 5, ⟨3, 0, 0, .flush 5, 500, false, 0⟩, objD, by decide +kernel⟩,
  ⟨copying ⟨3, 0, 0, .eviction, 500, false, 0⟩ [], 0, ⟨3, 0, 0, .eviction, 500, false, 0⟩, by decide +kernel⟩⟩

theorem witness_ResidencyEventsComplete :
  (∃ (s : State) (home : Nat) (i : Nat) (o : MemObj), s.alive = true ∧ s.memt.objs.find? (fun e => e.2.home == home && e.2.resident && e.2.state == .promoting) = some (i, o) ∧ s.workPaid (2 * i) = true) ∧
  (∃ (s : State) (home : Nat) (f : Nat), s.alive = true ∧ s.memt.objs.find? (fun e => e.2.home == home && e.2.resident && e.2.state == .promoting) = none ∧ s.map.promoting.find? (fun g => s.tileHome g == home) = some f ∧ (s.promoteTile f false).2 = true) ∧
  (∃ (s : State) (home : Nat) (i : Nat) (o : MemObj), s.alive = true ∧ s.memt.objs.find? (fun e => e.2.home == home && e.2.state == .evicting) = some (i, o) ∧ (∀ c ∈ s.memt.copies, ¬(c.obj = i ∧ c.why = .eviction)) ∧ o.keep = false) ∧
  (∃ (s : State) (home : Nat) (i : Nat) (o : MemObj), s.alive = true ∧ s.memt.objs.find? (fun e => e.2.home == home && e.2.state == .evicting) = some (i, o) ∧ (∀ c ∈ s.memt.copies, ¬(c.obj = i ∧ c.why = .eviction)) ∧ o.keep = true) :=
  ⟨⟨withObj (obj0 .promoting), 0x4000000000, 3, obj0 .promoting, by decide +kernel⟩,
  ⟨promoting5, 0x1000100000 + 16448 * 5, 5, by decide +kernel⟩,
  ⟨withObj (obj0 .evicting), 0x4000000000, 3, obj0 .evicting, by decide +kernel⟩,
  ⟨withObj { obj0 .evicting with keep := true }, 0x4000000000, 3, { obj0 .evicting with keep := true }, by decide +kernel⟩⟩

theorem witness_FlashAndDramEventsComplete :
  (∃ (s : State) (failed : Bool) (spareLeft : Bool) (w : FlashWrite) (rest : List FlashWrite), s.alive = true ∧ s.memt.flash = w :: rest ∧ failed = true ∧ spareLeft = true) ∧
  (∃ (s : State) (failed : Bool) (spareLeft : Bool) (gc : Bool) (mean : Nat) (top : Nat) (spare : Nat) (beats : Nat) (w : FlashWrite) (rest : List FlashWrite), s.alive = true ∧ s.memt.flash = w :: rest ∧ let x := s.flashTold mean top spare beats gc; let y := x.flashWrote w failed; (¬(failed = true ∧ spareLeft = true)) ∧ y.memt.jobs.find? (fun j => j.key == w.key && j.left == 0) = none) ∧
  (∃ (s : State) (failed : Bool) (spareLeft : Bool) (gc : Bool) (mean : Nat) (top : Nat) (spare : Nat) (beats : Nat) (w : FlashWrite) (rest : List FlashWrite) (j : MemJob), s.alive = true ∧ s.memt.flash = w :: rest ∧ let x := s.flashTold mean top spare beats gc; let y := x.flashWrote w failed; (¬(failed = true ∧ spareLeft = true)) ∧ y.memt.jobs.find? (fun j => j.key == w.key && j.left == 0) = some j ∧ j.kind = .archive) ∧
  (∃ (s : State) (failed : Bool) (spareLeft : Bool) (gc : Bool) (mean : Nat) (top : Nat) (spare : Nat) (beats : Nat) (w : FlashWrite) (rest : List FlashWrite) (j : MemJob), s.alive = true ∧ s.memt.flash = w :: rest ∧ let x := s.flashTold mean top spare beats gc; let y := x.flashWrote w failed; (¬(failed = true ∧ spareLeft = true)) ∧ y.memt.jobs.find? (fun j => j.key == w.key && j.left == 0) = some j ∧ j.kind ≠ .archive) ∧
  (∃ (s : State) (mean : Nat), s.alive = true ∧ 2700 ≤ mean ∧ s.bitOf Reg.MEM_FLASH_STATUS 0 = false) ∧
  (∃ (s : State) (mean : Nat) (spare : Nat), s.alive = true ∧ (3000 ≤ mean ∨ spare < 256) ∧ s.bitOf Reg.MEM_FLASH_STATUS 1 = false) ∧
  (∃ (s : State) (addr : Nat), s.alive = true ∧ inDram addr 1 = true) ∧
  (∃ (s : State), s.alive = true) :=
  ⟨⟨{ live with memt := { Memt.reset with flash := [⟨0x4000000000, zeros 64, 5⟩], jobs := [] } }, true, true, ⟨0x4000000000, zeros 64, 5⟩, [], by decide +kernel⟩,
  ⟨{ live with memt := { Memt.reset with flash := [⟨0x4000000000, zeros 64, 5⟩], jobs := [⟨5, .flashWrite, 2, 0, 0, false⟩] } }, false, true, false, 0, 0, 0, 0, ⟨0x4000000000, zeros 64, 5⟩, [], by decide +kernel⟩,
  ⟨{ live with memt := { Memt.reset with flash := [⟨0x4000000000, zeros 64, 5⟩], jobs := [⟨5, .archive, 1, 0, 0, false⟩] } }, false, true, false, 0, 0, 0, 0, ⟨0x4000000000, zeros 64, 5⟩, [], ⟨5, .archive, 0, 0, 0, false⟩, by decide +kernel⟩,
  ⟨{ live with memt := { Memt.reset with flash := [⟨0x4000000000, zeros 64, 5⟩], jobs := [⟨5, .flashWrite, 1, 0, 0, false⟩] } }, false, true, false, 0, 0, 0, 0, ⟨0x4000000000, zeros 64, 5⟩, [], ⟨5, .flashWrite, 0, 0, 0, false⟩, by decide +kernel⟩,
  ⟨live, 2700, by decide +kernel⟩,
  ⟨live, 0, 255, by decide +kernel⟩,
  ⟨live, 0x1FFFFFFFFF, by decide +kernel⟩,
  ⟨live, by decide +kernel⟩⟩

theorem witness_LinkFramesComplete :
  (∃ (s : State), s.alive = true ∧ (s.func tdmFunc).life = .starting ∧ s.linkState = 1 ∧ s.bitOf Reg.CRB_CLK_STATUS 3 = true) ∧
  (∃ (s : State), s.alive = true ∧ (16 ≤ s.tdm.naks.2 ∨ 16 ≤ s.tdm.naksSent.2)) ∧
  (∃ (s : State), s.alive = true ∧ 2 ^ 20 < (s.tdm.replay.map (fun f => f.bytes.length)).sum) ∧
  (∃ (s : State), s.alive = true ∧ (∃ e ∈ s.tdm.ownDigest, e.1 + 2 ≤ s.ccu.cadence)) ∧
  (∃ (s : State), s.alive = true ∧ 2 ≤ s.linkState) ∧
  (∃ (s : State) (x : State) (f : LinkIn), LinkTakes s false f x) ∧
  (∃ (s : State) (x : State) (f : LinkIn), LinkTakes s true f x) ∧
  (∃ (s : State) (x : State) (f : LinkIn), LinkTakes s true f x ∧ x.role = 1) ∧
  (∃ (s : State) (x : State) (f : LinkIn), LinkTakes s true f x ∧ x.role = 2) ∧
  (∃ (s : State) (x : State) (f : LinkIn), LinkTakes s true f x ∧ x.role = 2 ∧ let echo := leAt f.payload 8 8; let y := if echo = 0 then x else x.setRegN Reg.TDM_LINK_DELAY ((x.raw - echo) / 2); y.linkOn = false) ∧
  (∃ (s : State) (x : State) (f : LinkIn), LinkTakes s true f x ∧ x.role = 2 ∧ let echo := leAt f.payload 8 8; let y := if echo = 0 then x else x.setRegN Reg.TDM_LINK_DELAY ((x.raw - echo) / 2); let ofs : Int := (leAt f.payload 0 8 : Int) + y.regN Reg.TDM_LINK_DELAY - y.now; y.linkOn = true ∧ y.regN Reg.TIM_STEP_THRESH < ofs.natAbs) ∧
  (∃ (s : State) (x : State) (f : LinkIn), LinkTakes s true f x ∧ x.role = 2 ∧ let echo := leAt f.payload 8 8; let y := if echo = 0 then x else x.setRegN Reg.TDM_LINK_DELAY ((x.raw - echo) / 2); let ofs : Int := (leAt f.payload 0 8 : Int) + y.regN Reg.TDM_LINK_DELAY - y.now; y.linkOn = true ∧ ofs.natAbs ≤ y.regN Reg.TIM_STEP_THRESH) :=
  ⟨⟨((funcIn live 0x084 .starting).setFld Reg.TDM_STATUS 0 4 (1 + 4)).setBit Reg.CRB_CLK_STATUS 3, by decide +kernel⟩,
  ⟨(let s := linked 1 3; { s with tdm := { s.tdm with naks := (7, 16) } }), by decide +kernel⟩,
  ⟨(let s := linked 1 3; { s with tdm := { s.tdm with replay := List.replicate 257 ⟨0, List.replicate 4096 0⟩ } }), by decide +kernel⟩,
  ⟨(let s := linked 1 3; { s with tdm := { s.tdm with ownDigest := [(0, [])] }, ccu := { s.ccu with cadence := 2 } }), by decide +kernel, ⟨(0, []), by decide +kernel, by decide +kernel⟩⟩,
  ⟨linked 1 2, by decide +kernel⟩,
  ⟨linked 1 3, linkGot (linked 1 3) ⟨0, 1, 0, 0, []⟩, ⟨0, 1, 0, 0, []⟩, link_of (by decide +kernel)⟩,
  ⟨linked 1 3, linkSeq (linked 1 3) ⟨0, 1, 0, 0, zeros 136⟩, ⟨0, 1, 0, 0, zeros 136⟩, link_seq (by decide +kernel) (by decide +kernel)⟩,
  ⟨linked 1 3, linkSeq (linked 1 3) ⟨0, 1, 0, 0, []⟩, ⟨0, 1, 0, 0, []⟩, link_seq (by decide +kernel) (by decide +kernel), by decide +kernel⟩,
  ⟨linked 2 3, linkSeq (linked 2 3) ⟨0, 1, 0, 0, zeros 16⟩, ⟨0, 1, 0, 0, zeros 16⟩, link_seq (by decide +kernel) (by decide +kernel), by decide +kernel⟩,
  ⟨(funcIn live 0x084 .starting).setFld Reg.TDM_STATUS 0 4 10, linkSeq ((funcIn live 0x084 .starting).setFld Reg.TDM_STATUS 0 4 10) ⟨0, 1, 0, 0, zeros 16⟩, ⟨0, 1, 0, 0, zeros 16⟩, link_seq (by decide +kernel) (by decide +kernel), by decide +kernel⟩,
  ⟨(linked 2 3).setRegN Reg.TIM_STEP_THRESH 100, linkSeq ((linked 2 3).setRegN Reg.TIM_STEP_THRESH 100) ⟨0, 1, 0, 0, bytesOf 16 [(0, 4, 1000000)]⟩, ⟨0, 1, 0, 0, bytesOf 16 [(0, 4, 1000000)]⟩, link_seq (by decide +kernel) (by decide +kernel), by decide +kernel⟩,
  ⟨(linked 2 3).setRegN Reg.TIM_STEP_THRESH 100, linkSeq ((linked 2 3).setRegN Reg.TIM_STEP_THRESH 100) ⟨0, 1, 0, 0, zeros 16⟩, ⟨0, 1, 0, 0, zeros 16⟩, link_seq (by decide +kernel) (by decide +kernel), by decide +kernel⟩⟩

theorem witness_LinkItemsComplete :
  (∃ (s : State) (x : State) (f : LinkIn), LinkTakes s true f x ∧ x.noPins = true ∧ let all := x.tdm.line ++ f.payload; let cam := x.cam (leAt all 0 2 - camFunc 0); (6 + ceilDiv (cam.width * leAt all 5 1) 8 ≤ all.length ∨ f.flags.testBit 0 = true)) ∧
  (∃ (s : State) (x : State) (f : LinkIn), LinkTakes s true f x ∧ x.noPins = true ∧ let all := x.tdm.line ++ f.payload; let cam := x.cam (leAt all 0 2 - camFunc 0); all.length < 6 + ceilDiv (cam.width * leAt all 5 1) 8 ∧ f.flags.testBit 0 = false) ∧
  (∃ (s : State) (x : State) (f : LinkIn), LinkTakes s true f x ∧ x.noPins = true ∧ (f.payload.length < 4096 ∨ f.flags.testBit 0 = true)) ∧
  (∃ (s : State) (x : State) (f : LinkIn), LinkTakes s true f x ∧ x.noPins = true ∧ 4096 ≤ f.payload.length ∧ f.flags.testBit 0 = false) ∧
  (∃ (s : State) (x : State) (f : LinkIn), LinkTakes s true f x ∧ x.noPins = true ∧ let off := leAt f.payload 0 4; 0x2000000 ≤ off) ∧
  (∃ (s : State) (x : State) (f : LinkIn), LinkTakes s true f x ∧ x.noPins = true ∧ let off := leAt f.payload 0 4; let en := (List.range 4).map (fun i => (leAt f.payload 8 1).testBit i); off < 0x2000000 ∧ byteMask en ≠ 0) ∧
  (∃ (s : State) (x : State) (f : LinkIn), LinkTakes s true f x ∧ x.noPins = true ∧ let off := leAt f.payload 0 4; let en := (List.range 4).map (fun i => (leAt f.payload 8 1).testBit i); off < 0x2000000 ∧ byteMask en = 0) ∧
  (∃ (s : State) (x : State) (f : LinkIn), LinkTakes s true f x ∧ x.noPins = true) ∧
  (∃ (s : State) (x : State) (f : LinkIn), LinkTakes s true f x ∧ x.noPins = true ∧ let due := Ph.instant f.payload; (due < x.now + usTime 50 ∨ x.opNear due = true)) ∧
  (∃ (s : State) (x : State) (f : LinkIn), LinkTakes s true f x ∧ x.noPins = true ∧ let due := Ph.instant f.payload; x.now + usTime 50 ≤ due ∧ x.opNear due = false) :=
  ⟨⟨linked 2 3, linkSeq (linked 2 3) ⟨1, 1, 0, 0, bytesOf 8 [(0, 2, 0x10)]⟩, ⟨1, 1, 0, 0, bytesOf 8 [(0, 2, 0x10)]⟩, link_seq (by decide +kernel) (by decide +kernel), by decide +kernel⟩,
  ⟨linked 2 3, linkSeq (linked 2 3) ⟨0, 1, 0, 0, bytesOf 4 [(0, 2, 0x10)]⟩, ⟨0, 1, 0, 0, bytesOf 4 [(0, 2, 0x10)]⟩, link_seq (by decide +kernel) (by decide +kernel), by decide +kernel⟩,
  ⟨linked 2 3, linkSeq (linked 2 3) ⟨0, 1, 0, 0, zeros 4095⟩, ⟨0, 1, 0, 0, zeros 4095⟩, link_seq (by decide +kernel) (by decide +kernel), by decide +kernel⟩,
  ⟨linked 2 3, linkSeq (linked 2 3) ⟨0, 1, 0, 0, zeros 4096⟩, ⟨0, 1, 0, 0, zeros 4096⟩, link_seq (by decide +kernel) (by decide +kernel), by decide +kernel⟩,
  ⟨linked 2 3, linkSeq (linked 2 3) ⟨0, 1, 0, 0, bytesOf 16 [(0, 4, 0x2000000)]⟩, ⟨0, 1, 0, 0, bytesOf 16 [(0, 4, 0x2000000)]⟩, link_seq (by decide +kernel) (by decide +kernel), by decide +kernel⟩,
  ⟨linked 2 3, linkSeq (linked 2 3) ⟨0, 1, 0, 0, bytesOf 16 [(0, 4, 0x1FFFFFC), (8, 1, 15)]⟩, ⟨0, 1, 0, 0, bytesOf 16 [(0, 4, 0x1FFFFFC), (8, 1, 15)]⟩, link_seq (by decide +kernel) (by decide +kernel), by decide +kernel⟩,
  ⟨linked 2 3, linkSeq (linked 2 3) ⟨0, 1, 0, 0, bytesOf 16 [(0, 4, 0x1FFFFFC)]⟩, ⟨0, 1, 0, 0, bytesOf 16 [(0, 4, 0x1FFFFFC)]⟩, link_seq (by decide +kernel) (by decide +kernel), by decide +kernel⟩,
  ⟨linked 2 3, linkSeq (linked 2 3) ⟨0, 1, 0, 0, zeros 16⟩, ⟨0, 1, 0, 0, zeros 16⟩, link_seq (by decide +kernel) (by decide +kernel), by decide +kernel⟩,
  ⟨linked 2 3, linkSeq (linked 2 3) ⟨0, 1, 0, 0, pelBytes 3 0 39999 []⟩, ⟨0, 1, 0, 0, pelBytes 3 0 39999 []⟩, link_seq (by decide +kernel) (by decide +kernel), by decide +kernel⟩,
  ⟨linked 2 3, linkSeq (linked 2 3) ⟨0, 1, 0, 0, pelBytes 3 0 40000 []⟩, ⟨0, 1, 0, 0, pelBytes 3 0 40000 []⟩, link_seq (by decide +kernel) (by decide +kernel), by decide +kernel⟩⟩

theorem witness_PelotonEventsComplete :
  (∃ (s : State) (r : Round), s.alive = true ∧ s.joined = true ∧ s.role ≠ 2 ∧ s.barrierOpen.pel.round = some r ∧ r.reported = false) ∧
  (∃ (s : State) (x : State) (b : List Byte) (r : Round), PelTakes s 1 b x ∧ let y := if x.pel.round.isNone && decide (x.pel.lastRound < Ph.instant b) then x.openRound (Ph.instant b) else x; y.pel.round = some r ∧ r.instant = Ph.instant b) ∧
  (∃ (s : State) (r : Round), s.alive = true ∧ s.joined = true ∧ s.role ≠ 2 ∧ s.pel.round = some r ∧ r.reported = true ∧ s.isRoot r = true) ∧
  (∃ (s : State) (x : State) (b : List Byte), PelTakes s 2 b x ∧ x.pel.lastRound < Ph.instant b) ∧
  (∃ (s : State) (x : State) (b : List Byte), PelTakes s 2 b x ∧ Ph.instant b ≤ x.pel.lastRound) ∧
  (∃ (s : State) (r : Round), s.alive = true ∧ s.pel.round = some r) ∧
  (∃ (s : State) (x : State) (b : List Byte), PelTakes s 3 b x ∧ Ph.root b ≠ x.pel.me ∧ let due := Ph.instant b; due < x.now + usTime 50) ∧
  (∃ (s : State) (x : State) (b : List Byte), PelTakes s 3 b x ∧ Ph.root b ≠ x.pel.me ∧ let due := Ph.instant b; x.now + usTime 50 ≤ due) ∧
  (∃ (s : State) (x : State) (b : List Byte), PelTakes s 4 b x) ∧
  (∃ (s : State) (x : State) (b : List Byte), PelTakes s 5 b x ∧ let d := Ph.payload b; let k := leAt d 8 1; let root := Ph.root b; root ≠ x.pel.me ∧ k < 16) ∧
  (∃ (s : State) (key : Nat) (a : PelTile), s.alive = true ∧ s.pel.tiles.find? (fun x => x.key == key) = some a) :=
  ⟨⟨joinedWith 0 [], ⟨(joinedWith 0 []).nextRound, (joinedWith 0 []).ownBits, (joinedWith 0 []).pelSlow, false, false, false⟩, by decide +kernel⟩,
  ⟨pelWith (fun p => { p with round := some ⟨5000000, 1, false, false, false, false⟩ }), (pelWith (fun p => { p with round := some ⟨5000000, 1, false, false, false, false⟩ })).count 13 60, pelBytes 1 0 5000000 [], ⟨5000000, 1, false, false, false, false⟩, pel_of (by decide +kernel), by decide +kernel⟩,
  ⟨(pelWith (fun p => { p with round := some ⟨5000000, 1, false, true, false, false⟩ })).setPresent 3, ⟨5000000, 1, false, true, false, false⟩, by decide +kernel⟩,
  ⟨joinedWith 1 [], (joinedWith 1 []).count 13 60, pelBytes 2 0 5000000 [], pel_of (by decide +kernel), by decide +kernel⟩,
  ⟨pelWith (fun p => { p with lastRound := 5000000 }), (pelWith (fun p => { p with lastRound := 5000000 })).count 13 60, pelBytes 2 0 5000000 [], pel_of (by decide +kernel), by decide +kernel⟩,
  ⟨pelWith (fun p => { p with round := some ⟨5000000, 1, false, true, false, false⟩ }), ⟨5000000, 1, false, true, false, false⟩, by decide +kernel⟩,
  ⟨joinedWith 0 [], (joinedWith 0 []).count 13 60, pelBytes 3 1 39999 [(0, 1, 1)], pel_of (by decide +kernel), by decide +kernel⟩,
  ⟨joinedWith 0 [], (joinedWith 0 []).count 13 60, pelBytes 3 1 40000 [(0, 1, 1)], pel_of (by decide +kernel), by decide +kernel⟩,
  ⟨joinedWith 0 [], (joinedWith 0 []).count 13 60, pelBytes 4 0 0 [], pel_of (by decide +kernel)⟩,
  ⟨joinedWith 0 [], (joinedWith 0 []).count 13 60, pelBytes 5 1 0 [(8, 1, 15)], pel_of (by decide +kernel), by decide +kernel⟩,
  ⟨pelWith (fun p => { p with tiles := [⟨9, 100, 1, []⟩] }), 9, ⟨9, 100, 1, []⟩, by decide +kernel⟩⟩

theorem witness_MetrologyEventsComplete :
  (∃ (s : State) (sn : MetSend), s.alive = true ∧ s.met.snap = some sn) ∧
  (∃ (s : State) (m : MetSend), s.alive = true ∧ s.met.tx = some m) ∧
  (∃ (s : State) (rx : MetRx), s.met.oasis.started = true ∧ s.met.oasis.rx = some rx) ∧
  (∃ (s : State) (f : List Byte), s.met.oasis.started = true ∧ s.met.oasis.frame = some f) ∧
  (∃ (s : State) (high : Bool), let o := s.met.oasis; o.sealed = high ∧ o.started = true) ∧
  (∃ (s : State) (high : Bool), let o := s.met.oasis; o.sealed = high ∧ o.started = false) ∧
  (∃ (s : State) (high : Bool), let o := s.met.oasis; o.sealed ≠ high) ∧
  (∃ (s : State) (r : List Byte) (rest : List (Nat × List Byte)), s.alive = true ∧ s.met.oasis.path = (1, r) :: rest ∧ leAt r 28 1 = 1) ∧
  (∃ (s : State) (r : List Byte) (rest : List (Nat × List Byte)), s.alive = true ∧ s.met.oasis.path = (1, r) :: rest ∧ leAt r 28 1 ≠ 1) ∧
  (∃ (s : State) (r : List Byte) (rest : List (Nat × List Byte)), s.alive = true ∧ s.met.oasis.path = (2, r) :: rest) ∧
  (∃ (s : State), s.alive = true ∧ s.bitOf Reg.MET_GW_STATUS 2 = true) :=
  ⟨⟨{ live with met := { Met.reset with snap := some ⟨0, 100, 0, 0, none⟩ } }, ⟨0, 100, 0, 0, none⟩, by decide +kernel⟩,
  ⟨{ live with met := { Met.reset with tx := some ⟨0, 100, 0, 0, none⟩ } }, ⟨0, 100, 0, 0, none⟩, by decide +kernel⟩,
  ⟨oas (fun o => { o with rx := some ⟨false, 0, zeros 12⟩ }), ⟨false, 0, zeros 12⟩, by decide +kernel⟩,
  ⟨oas (fun o => { o with frame := some (zeros 64) }), zeros 64, by decide +kernel⟩,
  ⟨oas (fun o => { o with sealed := true }), true, by decide +kernel⟩,
  ⟨live, true, by decide +kernel⟩,
  ⟨oas (fun o => { o with sealed := false }), true, by decide +kernel⟩,
  ⟨oas (fun o => { o with path := [(1, bytesOf 64 [(28, 1, 1)])] }), bytesOf 64 [(28, 1, 1)], [], by decide +kernel⟩,
  ⟨oas (fun o => { o with path := [(1, zeros 64)] }), zeros 64, [], by decide +kernel⟩,
  ⟨oas (fun o => { o with path := [(2, zeros 64)] }), zeros 64, [], by decide +kernel⟩,
  ⟨live.setBit Reg.MET_GW_STATUS 2, by decide +kernel⟩⟩

theorem witness_OasisRequestsComplete :
  (∃ (s : State), s.met.oasis.started = true ∧ (s.met.oasis.sealed = true ∨ s.met.oasis.frame = none)) ∧
  (∃ (s : State) (ty : Nat) (ofs : Nat) (len : Nat) (bs : List Byte) (pay : List Byte) (f : List Byte) (row : Instr), s.met.oasis.started = true ∧ s.met.oasis.sealed = false ∧ s.met.oasis.frame = some f ∧ (ty, pay, row) ∈ [(0x83, [], Instr.paramRead), (0x84, bs, .paramWrite bs), (0x85, [], .paramCommit), (0x86, leBytes 4 ofs ++ bs, .imageLoad ofs bs), (0x87, leBytes 4 len ++ bs, .imageCommit len bs)]) ∧
  (∃ (s : State) (ty : Nat) (ofs : Nat) (len : Nat) (bs : List Byte) (row : Instr), s.met.oasis.started = true ∧ s.met.oasis.sealed = true ∧ (ty, row) ∈ [(0x84, Instr.paramWrite bs), (0x85, .paramCommit), (0x86, .imageLoad ofs bs), (0x87, .imageCommit len bs)]) ∧
  (∃ (s : State) (bs : List Byte), s.met.oasis.started = true ∧ s.met.oasis.sealed = false ∧ s.met.oasis.frame = none ∧ bs.length = 256) ∧
  (∃ (s : State) (bs : List Byte), s.met.oasis.started = true ∧ s.met.oasis.sealed = false ∧ s.met.oasis.frame = none ∧ bs.length ≠ 256) ∧
  (∃ (s : State) (ofs : Nat) (bs : List Byte), s.met.oasis.started = true ∧ s.met.oasis.sealed = false ∧ s.met.oasis.frame = none ∧ bs ≠ [] ∧ ofs < 2 ^ 32 ∧ bs.length ≤ 1024 ∧ ofs + bs.length ≤ 1572864) ∧
  (∃ (s : State) (ofs : Nat) (bs : List Byte), s.met.oasis.started = true ∧ s.met.oasis.sealed = false ∧ s.met.oasis.frame = none ∧ ofs < 2 ^ 32 ∧ (bs = [] ∨ 1024 < bs.length ∨ 1572864 < ofs + bs.length)) ∧
  (∃ (s : State), s.met.oasis.started = true ∧ s.met.oasis.sealed = false ∧ s.met.oasis.frame = none ∧ let o := s.met.oasis; 65535 ≤ o.counter) ∧
  (∃ (s : State) (b : List Byte), s.met.oasis.started = true ∧ s.met.oasis.sealed = false ∧ s.met.oasis.frame = none ∧ s.met.oasis.counter < 65535 ∧ s.met.oasis.staged = some b ∧ let o := s.met.oasis; metParamsOk b = true ∧ b ≠ o.params) ∧
  (∃ (s : State) (b : List Byte), s.met.oasis.started = true ∧ s.met.oasis.sealed = false ∧ s.met.oasis.frame = none ∧ s.met.oasis.counter < 65535 ∧ s.met.oasis.staged = some b ∧ let o := s.met.oasis; metParamsOk b = true ∧ b = o.params) ∧
  (∃ (s : State) (b : List Byte), s.met.oasis.started = true ∧ s.met.oasis.sealed = false ∧ s.met.oasis.frame = none ∧ s.met.oasis.counter < 65535 ∧ s.met.oasis.staged = some b ∧ metParamsOk b = false) ∧
  (let s := oas (fun o => { o with sealed := false }); s.met.oasis.started = true ∧ s.met.oasis.sealed = false ∧ s.met.oasis.frame = none ∧ s.met.oasis.counter < 65535 ∧ 0 < 1572864 ∧ (zeros 96).length = 96 ∧ (let m : MetImage := ⟨s.met.oasis.load.bytes, 1572864, zeros 96⟩; m.passes = true ∨ m.passes = false)) :=
  ⟨⟨oas id, by decide +kernel⟩,
  ⟨oas (fun o => { o with sealed := false, frame := some (zeros 64) }), 0x85, 0, 0, [], [], zeros 64, Instr.paramCommit, by decide +kernel, by decide +kernel, by decide +kernel, by simp⟩,
  ⟨oas (fun o => { o with sealed := true }), 0x85, 0, 0, [], Instr.paramCommit, by decide +kernel, by decide +kernel, by simp⟩,
  ⟨oas (fun o => { o with sealed := false }), zeros 256, by decide +kernel⟩,
  ⟨oas (fun o => { o with sealed := false }), zeros 255, by decide +kernel⟩,
  ⟨oas (fun o => { o with sealed := false }), 1571840, zeros 1024, by decide +kernel⟩,
  ⟨oas (fun o => { o with sealed := false }), 1572864, zeros 1, by decide +kernel⟩,
  ⟨oas (fun o => { o with sealed := false, counter := 65535 }), by decide +kernel⟩,
  ⟨oas (fun o => { o with sealed := false, staged := some metParams64 }), metParams64, by decide +kernel⟩,
  ⟨oas (fun o => { o with sealed := false, staged := some metParams64, params := metParams64 }), metParams64, by decide +kernel⟩,
  ⟨oas (fun o => { o with sealed := false, staged := some (zeros 256) }), zeros 256, by decide +kernel⟩,
  ⟨by decide +kernel, by decide +kernel, by decide +kernel, by decide +kernel, by decide, by decide +kernel, (Bool.eq_false_or_eq_true _)⟩⟩

theorem witness_ObservationEventsComplete :
  (∃ (s : State), s.alive = true ∧ s.tracing = true ∧ Td.pcLog2 s.traceDesc ≠ 0) ∧
  (∃ (s : State), s.alive = true) ∧
  (∃ (s : State) (t : Nat), s.alive = true ∧ s.nextInstant = some t) ∧
  (∃ (s : State) (d : Dump), s.alive = true ∧ s.obs.dumps.find? s.dumpReady = some d) ∧
  (∃ (s : State), s.alive = true) ∧
  (∃ (s : State) (pkt : List Byte) (rest : List (List Byte)), s.crb.released = true ∧ s.obs.trace.fifo = pkt :: rest ∧ let d := s.traceDesc; let mem := Td.toMem d && !s.obs.stopped; let y := if Td.toPort d then s.runTo (coreOfRaw s.portStart) else s; (Td.toPort d = true ∨ mem = true) ∧ (mem = true → y.bitOf Reg.OBS_STATUS 3 = false → y.obs.trace.group.length = 3 → y.traceBeatOk = true)) :=
  ⟨⟨traceWith [(2, 1, 8)] .on [], by decide +kernel⟩,
  ⟨live, by decide +kernel⟩,
  ⟨{ live with ccu := { live.ccu with lastInstant := some 0 } }, 32000000, by decide +kernel⟩,
  ⟨{ live with ccu := { live.ccu with cadence := 5 }, obs := { live.obs with dumps := [⟨1, 7, 9, 4, 0, 20000, [], false⟩] } }, ⟨1, 7, 9, 4, 0, 20000, [], false⟩, by decide +kernel⟩,
  ⟨live, by decide +kernel⟩,
  ⟨traceWith [(1, 1, 3)] .on [zeros 16], zeros 16, [], by decide +kernel⟩⟩

theorem witness_BrakeAndScanEventsComplete :
  (∃ (s : State) (b : BrakeReq), s.alive = true ∧ s.obs.brake = some b) ∧
  (∃ (s : State), s.alive = true) ∧
  (∃ (s : State), s.obs.stopped = true) ∧
  (∃ (s : State) (kind : Nat) (a : Nat) (braked : Bool), s.obs.scan = some (kind, a, braked) ∧ s.bitOf Reg.OBS_SCAN_STATUS 4 = false ∧ braked = false) ∧
  (∃ (s : State) (kind : Nat) (a : Nat) (braked : Bool), s.obs.scan = some (kind, a, braked) ∧ s.bitOf Reg.OBS_SCAN_STATUS 4 = false ∧ braked = true ∧ kind = 0) ∧
  (∃ (s : State) (kind : Nat) (a : Nat) (braked : Bool), s.obs.scan = some (kind, a, braked) ∧ s.bitOf Reg.OBS_SCAN_STATUS 4 = false ∧ let there := a % 64 = 0 ∧ (if kind = 1 then inDram a 64 else inFlash a 64) = true; braked = true ∧ kind ≠ 0 ∧ (¬there)) ∧
  (∃ (s : State) (kind : Nat) (a : Nat) (braked : Bool), s.obs.scan = some (kind, a, braked) ∧ s.bitOf Reg.OBS_SCAN_STATUS 4 = false ∧ let there := a % 64 = 0 ∧ (if kind = 1 then inDram a 64 else inFlash a 64) = true; braked = true ∧ kind ≠ 0 ∧ there) ∧
  (∃ (s : State), s.obs.scan.isSome = true) ∧
  (∃ (s : State) (ins : Nat), (¬(ins = 4 ∧ s.obs.scan.isSome = true)) ∧ ins = 1) ∧
  (∃ (s : State) (ins : Nat), (¬(ins = 4 ∧ s.obs.scan.isSome = true)) ∧ (ins = 0 ∨ 4 < ins)) ∧
  (∃ (s : State) (ins : Nat), (¬(ins = 4 ∧ s.obs.scan.isSome = true)) ∧ (ins = 2 ∨ ins = 3)) ∧
  (∃ (s : State) (ins : Nat), (¬(ins = 4 ∧ s.obs.scan.isSome = true)) ∧ ins = 4) ∧
  (∃ (s : State) (b : Bool), s.alive = true ∧ s.bitOf Reg.GCR_CTL_STATUS (if b then 2 else 1) = true ∧ s.bitOf Reg.GCR_CTL_STATUS (if b then 1 else 2) = false) ∧
  (∃ (s : State) (b : Bool), s.alive = true ∧ s.bitOf Reg.GCR_CTL_STATUS (if b then 2 else 1) = true ∧ s.bitOf Reg.GCR_CTL_STATUS (if b then 1 else 2) = true) :=
  ⟨⟨{ live with obs := { live.obs with brake := some ⟨100, 1, 0, 7, true⟩ } }, ⟨100, 1, 0, 7, true⟩, by decide +kernel⟩,
  ⟨live, by decide +kernel⟩,
  ⟨brakedWith [], by decide +kernel⟩,
  ⟨scanning false 1 0, 1, 0, false, by decide +kernel⟩,
  ⟨scanning true 0 0, 0, 0, true, by decide +kernel⟩,
  ⟨scanning true 1 0, 1, 0, true, by decide +kernel⟩,
  ⟨scanning true 1 0x1000000040, 1, 0x1000000040, true, by decide +kernel⟩,
  ⟨scanning false 1 0, by decide +kernel⟩,
  ⟨brakedWith [], 1, by decide +kernel⟩,
  ⟨brakedWith [], 5, by decide +kernel⟩,
  ⟨brakedWith [], 3, by decide +kernel⟩,
  ⟨brakedWith [], 4, by decide +kernel⟩,
  ⟨live.setFld Reg.GCR_CTL_STATUS 1 2 2, true, by decide +kernel⟩,
  ⟨live.setFld Reg.GCR_CTL_STATUS 1 2 3, true, by decide +kernel⟩⟩

theorem witness_StartUpEventsComplete :
  (∃ (s : State) (k : Nat) (cold : Bool) (row : Bool → Instr), (k, cold, row) ∈ [(0, true, Instr.porstN), (1, false, .rstN), (3, false, .rootPllUnlock)] ∧ k ∉ s.crb.held) ∧
  (∃ (s : State) (k : Nat) (cold : Bool) (row : Bool → Instr), (k, cold, row) ∈ [(0, true, Instr.porstN), (1, false, .rstN), (3, false, .rootPllUnlock)] ∧ k ∈ s.crb.held) ∧
  (∃ (s : State) (t : Int), tripAt < t ∧ 4 ∉ s.crb.held) ∧
  (∃ (s : State) (t : Int), tripBelow ≤ t ∧ t ≤ tripAt ∧ s.alive = true) ∧
  (∃ (s : State) (t : Int), t < tripBelow ∧ s.alive = false) ∧
  (∃ (s : State) (pll : Nat), s.alive = true ∧ 1 ≤ pll ∧ pll ≤ 4 ∧ pll = 1) ∧
  (∃ (s : State) (pll : Nat), s.alive = true ∧ 1 ≤ pll ∧ pll ≤ 4 ∧ pll = 2) ∧
  (∃ (s : State) (pll : Nat), s.alive = true ∧ 1 ≤ pll ∧ pll ≤ 4 ∧ pll = 3) ∧
  (∃ (s : State) (pll : Nat), s.alive = true ∧ 1 ≤ pll ∧ pll ≤ 4 ∧ pll = 4) ∧
  (∃ (s : State), s.crb.released = false ∧ s.crb.held = []) ∧
  (∃ (s : State) (x : State) (nor : List Byte) (b : List Byte) (k : Nat), s.alive = true ∧ (s.crb.trying = .slotA ∧ x = s.xspiUsed ∧ b = nor ∧ k = 0 ∨ s.crb.trying = .slotB ∧ x = s.xspiUsed ∧ b = nor ∧ k = 1 ∨ s.crb.trying = .hostCheck ∧ x = s ∧ b = s.hostImage ∧ k = 2) ∧ let code := bootCode x.crb.fuses b; code = 0) ∧
  (∃ (s : State) (x : State) (nor : List Byte) (b : List Byte) (k : Nat), s.alive = true ∧ (s.crb.trying = .slotA ∧ x = s.xspiUsed ∧ b = nor ∧ k = 0 ∨ s.crb.trying = .slotB ∧ x = s.xspiUsed ∧ b = nor ∧ k = 1 ∨ s.crb.trying = .hostCheck ∧ x = s ∧ b = s.hostImage ∧ k = 2) ∧ let code := bootCode x.crb.fuses b; code ≠ 0) ∧
  (∃ (s : State), s.alive = true ∧ (s.crb.trying = .slotA ∨ s.crb.trying = .slotB)) ∧
  (∃ (s : State), s.alive = true ∧ s.fld Reg.CRB_BOOT_STATUS 0 2 = 2 ∧ s.bitOf Reg.CRB_START_STATUS 0 = false) ∧
  (∃ (s : State) (width : Nat) (speed : Nat), s.crb.released = true ∧ s.bitOf Reg.CRB_CLK_STATUS 4 = true ∧ width ∈ [1, 2, 4, 8] ∧ 1 ≤ speed ∧ speed ≤ 5) ∧
  (∃ (s : State), s.crb.barUp = true) :=
  ⟨⟨live, 3, false, Instr.rootPllUnlock, by simp, by decide +kernel⟩,
  ⟨{ live with crb := { live.crb with held := [3] } }, 3, false, Instr.rootPllUnlock, by simp, by decide +kernel⟩,
  ⟨live, 1761, by unfold tripAt; split <;> decide, by decide +kernel⟩,
  ⟨live, 1560, by unfold tripBelow; split <;> decide, by unfold tripAt; split <;> decide, by decide +kernel⟩,
  ⟨State.reset, 1359, by unfold tripBelow; split <;> decide, by decide +kernel⟩,
  ⟨live, 1, by decide +kernel⟩,
  ⟨live, 2, by decide +kernel⟩,
  ⟨live, 3, by decide +kernel⟩,
  ⟨live, 4, by decide +kernel⟩,
  ⟨State.reset, by decide +kernel⟩,
  ⟨trying .slotA, (trying .slotA).xspiUsed, bootImage, bootImage, 0, by decide +kernel, Or.inl ⟨rfl, rfl, rfl, rfl⟩, by decide +kernel⟩,
  ⟨trying .slotB, (trying .slotB).xspiUsed, [], [], 1, by decide +kernel, Or.inr (Or.inl ⟨rfl, rfl, rfl, rfl⟩), by decide +kernel⟩,
  ⟨trying .slotA, by decide +kernel⟩,
  ⟨(live.setFld Reg.CRB_BOOT_STATUS 0 2 2).clrBit Reg.CRB_START_STATUS 0, by decide +kernel⟩,
  ⟨live.setBit Reg.CRB_CLK_STATUS 4, 2, 5, by decide +kernel⟩,
  ⟨live, by decide +kernel⟩⟩

end Sys2Proof.Tests
end

section
/-! PROOF. The state after reset (R14). -/

namespace Sys2Proof.Machine

/-- No register is written yet after reset, so each holds its reset value. -/
theorem State.reset_reg (o : Nat) : State.reset.reg o = resetWord o := rfl

/-- Settles O3: nothing waits after reset, each unit stands as its own reset leaves it, and no register is written. -/
theorem resetHoldAtReset : Obligations.ResetHoldAtReset := by
  have noRelease : ∀ b, Instr.resetRelease b ∉ State.reset.pending := fun _ => List.not_mem_nil
  have inReset : InReset State.reset :=
    ⟨rfl, noRelease, rfl, rfl, rfl, rfl, rfl, rfl, rfl, rfl, rfl, rfl, rfl, rfl, rfl, rfl, rfl, rfl, rfl, rfl, rfl, rfl, rfl, rfl, rfl,
      fun o _ _ => State.reset_reg o⟩
  exact ⟨inReset, State.reset_reg, rfl, rfl⟩

end Sys2Proof.Machine
end

section
/-! PROOF. What one CORE cycle leaves of what is read of a state, and what the limits of Table 20.2 say where a host access is carried out. -/

namespace Sys2Proof.Machine

variable (s : State)

@[simp] theorem State.reg_tick (o : Nat) : s.tick.reg o = s.reg o := State.reg_congr s.tick_regs o
@[simp] theorem State.regN_tick (o : Nat) : s.tick.regN o = s.regN o := by simp [State.regN]
@[simp] theorem State.fld_tick (o lo n : Nat) : s.tick.fld o lo n = s.fld o lo n := by simp [State.fld]
@[simp] theorem State.bitOf_tick (o i : Nat) : s.tick.bitOf o i = s.bitOf o i := by simp [State.bitOf]
@[simp] theorem State.pair_tick (lo hi : Nat) : s.tick.pair lo hi = s.pair lo hi := by simp [State.pair]
@[simp] theorem State.func_tick (id : Nat) : s.tick.func id = s.func id := by simp [State.func]
@[simp] theorem State.allSlotsOff_tick : s.tick.allSlotsOff = s.allSlotsOff := by simp [State.allSlotsOff, State.slot]
@[simp] theorem State.mapBases_tick : s.tick.mapBases = s.mapBases := by simp [State.mapBases]
@[simp] theorem State.bootFailed_tick : s.tick.bootFailed = s.bootFailed := by simp [State.bootFailed]
@[simp] theorem State.alive_tick : s.tick.alive = s.alive := by simp [State.alive]
@[simp] theorem State.pairPrimary_tick : s.tick.pairPrimary = s.pairPrimary := by
  unfold State.tick
  split <;> rfl

variable {s}

theorem State.tick_released (h : s.crb.released = true) : s.tick = { s with core := s.core + 1 } := if_pos h

theorem State.released_of_barAnswers (h : s.barAnswers = true) : s.crb.released = true :=
  ((Bool.and_eq_true _ _).mp h).1

theorem State.takes_iff {off : Nat} : s.takes off = true ↔ s.barAnswers = true ∧ s.writeLimit off = .carried := by
  simp [State.takes]

/-- A braked part carries out no host write, so one that is carried out finds the part running (R426). -/
theorem State.stopped_of_takes {off : Nat} (h : s.takes off = true) : s.obs.stopped = false := by
  obtain ⟨-, hw⟩ := State.takes_iff.mp h
  cases hs : s.obs.stopped with
  | false => rfl
  | true => simp [State.writeLimit, hs] at hw

end Sys2Proof.Machine
end

section
/-! PROOF. Host reads of BAR0 (R11, R13, R426, R453): the enabled bytes, the RC field that clears, and a braked part. -/

namespace Sys2Proof.Machine

variable {s : State} {off : Nat} {en : List Bool}

/-- A read that enables no byte of the DW returns none. -/
theorem enabledBytes_none (v : Nat) (h : (en.take 4).any id = false) : enabledBytes v en = [] := by
  have hz : (leBytes 4 v).zip en = (leBytes 4 v).zip (en.take 4) := by
    rw [List.zip_eq_zip_take_min, List.zip_eq_zip_take_min (l₂ := en.take 4)]
    simp [leBytes, List.take_take]
  rw [enabledBytes, hz, List.filterMap_eq_nil_iff]
  intro e he
  have : e.2 = false := by simpa using List.any_eq_false.mp h _ (List.of_mem_zip he).2
  simp [this]

theorem enabledBytes_allBytes (v : Nat) : enabledBytes v allBytes = leBytes 4 v := rfl

/-! ### RC fields (R13) -/

theorem State.readClear_frame : s.readClear off en = { s with regs := (s.readClear off en).regs } := by
  unfold State.readClear
  split
  · split <;> rfl
  · rfl

theorem State.reg_readClear_ne {o : Nat} (h : o ≠ off) : (s.readClear off en).reg o = s.reg o := by
  unfold State.readClear
  split
  · split
    · exact State.reg_setReg_ne _ _ _ _ h.symm
    · rfl
  · rfl

/-- A read that does not enable all four bytes of the DW clears nothing. -/
theorem State.readClear_unless (h : ¬ ((en.take 4).all id = true ∧ 4 ≤ en.length)) : s.readClear off en = s := by
  unfold State.readClear
  split
  · exact if_neg fun hc => h hc.2
  · rfl

theorem State.readClear_part (hl : en.length = 4) (h : en ≠ allBytes) : s.readClear off en = s := by
  refine State.readClear_unless fun ⟨ha, _⟩ => h (List.eq_replicate_iff.mpr ⟨hl, fun b hb => ?_⟩)
  exact List.all_eq_true.mp ha b (by rwa [List.take_of_length_le hl.le])

/-- A read that enables no byte clears nothing. -/
theorem State.readClear_none (h : (en.take 4).any id = false) : s.readClear off en = s := by
  refine State.readClear_unless fun ⟨ha, hlen⟩ => ?_
  obtain ⟨b, rest, rfl⟩ := List.exists_cons_of_length_pos (Nat.lt_of_lt_of_le (by decide) hlen)
  have hb : b ∈ (b :: rest).take 4 := List.mem_cons_self
  exact List.any_eq_false.mp h b hb (List.all_eq_true.mp ha b hb)

/-- A register without an RC field is left as it is. -/
theorem State.readClear_noRc (h : ∀ r, regAt off = some r → r.1.rc = 0) : s.readClear off en = s := by
  unfold State.readClear
  split
  case h_1 r i j hr => exact if_neg fun hc => hc.1 (h _ hr)
  case h_2 => rfl

/-- A read of the whole DW clears the bits of the RC field. -/
theorem State.reg_readClear_whole {r : RegRow × Nat × Nat} (hr : regAt off = some r) (hrc : r.1.rc ≠ 0) :
    (s.readClear off allBytes).reg off = s.reg off &&& BitVec.ofNat 32 (2 ^ 32 - 1 - r.1.rc) := by
  have e : s.readClear off allBytes = s.setRegN off (s.regN off &&& (2 ^ 32 - 1 - r.1.rc)) := by
    obtain ⟨row, i, j⟩ := r
    simp only [State.readClear, hr]
    exact if_pos ⟨hrc, rfl, by decide⟩
  rw [e, State.setRegN, State.reg_setReg_same, State.regN, BitVec.ofNat_and, BitVec.ofNat_toNat, BitVec.setWidth_eq]

/-! ### One DW -/

/-- A register that is not read through a latch, latches nothing and draws no free value: a running part returns the enabled bytes of what
it shows, and the read's one side effect is that of an RC field. -/
theorem State.readDw_plain (hb : s.bootFailed = false) (hs : s.obs.stopped = false) (ho : off < 0x2000000)
    (hl : latchedHi off = false) (hn : latchedBy off = []) (hd : drawsFree off = false) :
    s.readDw off en = (enabledBytes (s.readReg off) en, s.readClear off en) := by
  unfold State.readDw
  cases he : (en.take 4).any id with
  | false => simp [enabledBytes_none _ he, State.readClear_none he]
  | true => simp [hb, hs, Nat.not_le.mpr ho, hl, hn, hd]

/-- What a part that does not run shows of its SRAM has no side effect. -/
theorem State.see_idle (h : s.alive = false) {a : Nat} (ha : a < 0x7000000) (n : Nat) : (s.see a n).2 = s := by
  unfold State.see
  rw [h, if_neg Bool.false_ne_true]
  extract_lets raw cells own bs
  split
  case isTrue hw => exact absurd hw (Nat.not_le.mpr ha)
  case isFalse => rw [Bool.and_false, if_neg Bool.false_ne_true]

theorem State.windowDw_idle (h : s.alive = false) (off : Nat) : ∃ v, s.windowDw off = (v, s) := by
  by_cases hc : off < 0x4000000 ∧ s.windowAddr off < 0x7000000
  · have e : s.windowDw off = (leNat (s.see (s.windowAddr off) 4).1, (s.see (s.windowAddr off) 4).2) := if_pos hc
    exact ⟨_, by rw [e, State.see_idle h hc.2]⟩
  · exact ⟨0, if_neg hc⟩

/-- A braked part's read changes at most the latches (R426). -/
theorem State.readDw_braked (hs : s.obs.stopped = true) :
    ∃ l, (s.readDw off en).2 = { s with hif := { s.hif with latch := l } } := by
  have ha : s.alive = false := by simp [State.alive, hs]
  unfold State.readDw
  split
  · exact ⟨_, rfl⟩
  · split
    · exact ⟨_, rfl⟩
    · split
      · obtain ⟨v, hv⟩ := State.windowDw_idle ha off
        rw [hv]
        exact ⟨_, rfl⟩
      · exact ⟨_, rfl⟩

/-- A host read takes a CORE cycle of its own and delivers the bytes of the DW at its address. -/
theorem exec_rcFieldRead (h : s.barAnswers = true) (off : Nat) (en : List Bool) :
    exec (.rcFieldRead off en) s = .next (State.completion (s.tick.readDw (off / 4 * 4) en)).tick :=
  congrArg Host.Outcome.next (if_pos h)

/-- The read of a plain register by the host, as one state. -/
theorem exec_rcFieldRead_plain (h : s.barAnswers = true) (hb : s.bootFailed = false) (hs : s.obs.stopped = false)
    (h4 : off % 4 = 0) (ho : off < 0x2000000) (hl : latchedHi off = false) (hn : latchedBy off = []) (hd : drawsFree off = false) :
    exec (.rcFieldRead off en) s =
      .next (State.completion (enabledBytes (s.tick.readReg off) en, s.tick.readClear off en)).tick := by
  have e : off / 4 * 4 = off := by omega
  rw [exec_rcFieldRead h, e, State.readDw_plain (by simpa using hb) (by simpa using hs) ho hl hn hd]

theorem State.completion_tick_reg (bs : List Byte) (x : State) (o : Nat) : (State.completion (bs, x)).tick.reg o = x.reg o :=
  (State.reg_tick _ o).trans rfl

/-- Settles O12: a read of a plain register has the side effect of `State.readClear` alone, and a braked part's that of the latches. -/
theorem readsClear : Obligations.ReadsClear := by
  refine ⟨fun s off en r h hb hs h4 ho hlen hr hrc hl hn hd => ?_, fun s off en h hs => ?_⟩
  · have hrel := State.released_of_barAnswers h
    refine ⟨s.core + 1, _, Nat.le_succ _, exec_rcFieldRead_plain h hb hs h4 ho hl hn hd, ?_, ?_, ?_, ?_, ?_⟩
    · rw [State.tick_hif, State.tick_released hrel]
      rfl
    · rintro rfl
      rw [State.completion_tick_reg]
      exact (State.reg_readClear_whole hr hrc).trans (by rw [State.reg_tick])
    · intro hp
      rw [State.completion_tick_reg, State.readClear_part hlen hp, State.reg_tick]
    · intro o hne
      rw [State.completion_tick_reg, State.reg_readClear_ne hne, State.reg_tick]
    · rw [State.readClear_frame, State.tick_released hrel]
      unfold State.tick
      split <;> rfl
  · obtain ⟨l, hl⟩ := State.readDw_braked (s := s.tick) (off := off / 4 * 4) (en := en) (by simpa using hs)
    refine ⟨_, exec_rcFieldRead h off en, ?_⟩
    rw [State.completion, hl, State.tick_released (State.released_of_barAnswers h)]
    unfold State.tick
    split <;> rfl

end Sys2Proof.Machine
end

section
/-! PROOF. Host requests of BAR0 (R11, R452, R453, R456): whole and paired reads, the write of one DW, a request that breaks the rules,
the window. -/

namespace Sys2Proof.Machine

variable {s : State} {off : Nat} {data : List Byte} {en : List Bool}

theorem State.readDw_whole (hb : s.bootFailed = false) (hs : s.obs.stopped = false) (ho : off < 0x2000000) (hl : latchedHi off = false)
    (hn : latchedBy off = []) (hd : drawsFree off = false) (hr : ∀ r, regAt off = some r → r.1.rc = 0) :
    s.readDw off allBytes = (leBytes 4 (s.readReg off), s) := by
  rw [State.readDw_plain hb hs ho hl hn hd, State.readClear_noRc hr, enabledBytes_allBytes]

theorem exec_latchedPairRead (h : s.barAnswers = true) (off : Nat) :
    let lo := s.tick.readDw (off / 4 * 4) allBytes
    let hi := lo.2.tick.readDw (off / 4 * 4 + 4) allBytes
    exec (.latchedPairRead off false) s = .next (State.completion lo).tick ∧
      exec (.latchedPairRead off true) s = .next (State.completion (lo.1 ++ hi.1, hi.2)).tick := by
  have e : ∀ both, exec (.latchedPairRead off both) s = .next (pairRead off both s) := fun _ => rfl
  refine ⟨?_, ?_⟩ <;> rw [e, pairRead, h] <;> rfl

/-! ### Requests (R452) -/

theorem length_requestDws : (requestDws off data en).length = ceilDiv (off % 4 + data.length) 4 := by
  simp [requestDws, zeros]

/-- The request of one aligned DW. -/
theorem requestDws_word (h4 : off % 4 = 0) (hd : data.length = 4) (he : en.length = 4) :
    requestDws off data en = [(off, leAt data 0 4, byteMask en)] := by
  obtain ⟨a, b, c, d, rfl⟩ : ∃ a b c d, en = [a, b, c, d] := by
    match en, he with
    | [a, b, c, d], _ => exact ⟨a, b, c, d, rfl⟩
  have e : off / 4 * 4 = off := by omega
  simp [requestDws, h4, hd, e, zeros, ceilDiv, List.range_succ]

theorem requestOk_word (h4 : off % 4 = 0) : requestOk off 1 = true := by
  have e : off / 0x100000 = (off / 4 * 4 + 4 * 1 - 1) / 0x100000 := by omega
  rw [requestOk, ← e]
  simp [rng]

theorem requestOk_long {n : Nat} (h : 16 < n) : requestOk off n = false := by
  simp [requestOk, rng, Nat.not_le.mpr h]

theorem State.oversize_running (hs : s.obs.stopped = false) : s.oversize = s.setBit Reg.CRB_BAR_STATUS 2 := by
  simp [State.oversize, hs]

/-- A carried write of one aligned DW is forwarded and lands in its register, in a CORE cycle of its own. -/
theorem exec_registerWrite_word (h : s.takes off = true) (ho : off < 0x2000000) (h4 : off % 4 = 0) (hd : data.length = 4)
    (hm : byteMask (en.take 4) ≠ 0) (he : en.length = 4) :
    exec (.registerWrite off data en) s =
      .next ((s.tick.forwardWrite off (leAt data 0 4) (byteMask en)).regWrite off (leAt data 0 4) (byteMask en)).tick := by
  rw [List.take_of_length_le he.le] at hm
  have hg : ¬ (0x2000000 ≤ off ∨ (!s.barAnswers) = true ∨ data.isEmpty = true) := by
    obtain ⟨hb, -⟩ := State.takes_iff.mp h
    have hne : data ≠ [] := fun e => by simp [e] at hd
    simp [hb, hne, ho]
  show Host.Outcome.next (registerWrite off data en s) = _
  rw [registerWrite, if_neg hg, requestDws_word h4 hd he]
  simp only [List.length_singleton, requestOk_word h4, if_true, winStartOrder, State.hostTurn, State.hostDws]
  rw [State.hostDw_takes ((State.takes_tick s off).trans h) _ _ hm]

/-- A request of more than 16 DW sets OVERSIZE and nothing else. -/
theorem exec_registerWrite_long (h : s.barAnswers = true) (hs : s.obs.stopped = false) (ho : off < 0x2000000) (hd : 64 < data.length) :
    exec (.registerWrite off data en) s = .next (s.setBit Reg.CRB_BAR_STATUS 2) := by
  have hg : ¬ (0x2000000 ≤ off ∨ (!s.barAnswers) = true ∨ data.isEmpty = true) := by
    have hne : data ≠ [] := fun e => by simp [e] at hd
    simp [h, hne, ho]
  have hn : 16 < (requestDws off data en).length := by
    rw [length_requestDws, ceilDiv]
    omega
  show Host.Outcome.next (registerWrite off data en s) = _
  rw [registerWrite, if_neg hg]
  simp [requestOk_long hn, State.oversize_running hs]

theorem barOversize_running (h : s.barAnswers = true) (hs : s.obs.stopped = false) (ho : off < 0x2000000) {dw : Nat}
    (hr : requestOk off dw = false) (write : Bool) :
    barOversize write off dw s =
      (let x := s.setBit Reg.CRB_BAR_STATUS 2
       if write then x else { x with hif := { x.hif with readData := zeros (4 * dw) } }) := by
  rw [barOversize, if_neg (by simp [h, hr, ho]), State.oversize_running hs]

/-- Outside a pair nothing is forwarded, however many DWs a request has. -/
theorem State.each_forwardWrite_alone (h : s.pairPrimary = false) (l : List (Nat × Nat × Nat)) :
    s.each l (fun t d => t.forwardWrite d.1 d.2.1 d.2.2) = s := by
  induction l with
  | nil => rfl
  | cons d rest ih =>
    rw [State.each, List.foldl_cons, State.forwardWrite_alone h]
    exact ih

theorem exec_windowWrite (h : s.takes off = true) (hlo : 0x2000000 ≤ off) (hhi : off < 0x4000000) (hp : s.pairPrimary = false)
    (he : (en.take data.length).any id = true) :
    exec (.windowWrite off data en) s = .next (s.tick.windowLand off data en).tick := by
  obtain ⟨hb, hw⟩ := State.takes_iff.mp h
  show Host.Outcome.next (windowWrite off data en s) = _
  rw [windowWrite, if_neg (by simp [hb, he]; omega), hw]
  simp only [State.hostTurn]
  rw [State.each_forwardWrite_alone (by simpa using hp)]

/-- Settles O31: each request is one of the accesses above, in the CORE cycle the access has of its own (assumption log 62). -/
theorem barRequestsComplete : Obligations.BarRequestsComplete := by
  refine ⟨fun s off en h => exec_rcFieldRead h off en, fun s off en h hb hs h4 ho hl hn hd he hr => ?_,
    fun s off h => exec_latchedPairRead h off,
    fun s off data en h ho h4 hd hm he => exec_registerWrite_word h ho h4 hd hm he,
    fun s off data en h hs ho _ hd => exec_registerWrite_long h hs ho hd,
    fun s off dw h hs ho hr => ⟨congrArg Host.Outcome.next (barOversize_running h hs ho hr true),
      congrArg Host.Outcome.next (barOversize_running h hs ho hr false)⟩,
    fun s off data en h hlo hhi hp he => exec_windowWrite h hlo hhi hp he⟩
  have e : off / 4 * 4 = off := by omega
  subst he
  rw [exec_rcFieldRead h, e]
  exact congrArg (fun r => Host.Outcome.next (State.completion r).tick)
    (State.readDw_whole (by simpa using hb) (by simpa using hs) ho hl hn hd hr)

end Sys2Proof.Machine
end

section
/-! PROOF. The fields of a register word: what `putBits` leaves and sets, and what a write merges (R11). -/

namespace Sys2Proof.Machine

theorem putBits_eq (v lo n x : Nat) :
    putBits v lo n x = 2 ^ lo * (2 ^ n * (v / 2 ^ lo / 2 ^ n) + x % 2 ^ n) + v % 2 ^ lo := by
  have hv : v = 2 ^ lo * (2 ^ n * (v / 2 ^ lo / 2 ^ n)) + v / 2 ^ lo % 2 ^ n * 2 ^ lo + v % 2 ^ lo := by
    calc v = 2 ^ lo * (v / 2 ^ lo) + v % 2 ^ lo := (Nat.div_add_mod _ _).symm
      _ = 2 ^ lo * (2 ^ n * (v / 2 ^ lo / 2 ^ n) + v / 2 ^ lo % 2 ^ n) + v % 2 ^ lo := by rw [Nat.div_add_mod (v / 2 ^ lo)]
      _ = _ := by ring
  rw [putBits, bits, Nat.mul_add, Nat.mul_comm _ (x % 2 ^ n)]
  omega

theorem testBit_putBits (v lo n x i : Nat) :
    (putBits v lo n x).testBit i = if i < lo then v.testBit i else if i < lo + n then x.testBit (i - lo) else v.testBit i := by
  rw [putBits_eq, Nat.testBit_two_pow_mul_add _ (Nat.mod_lt _ (Nat.two_pow_pos lo)),
    Nat.testBit_two_pow_mul_add _ (Nat.mod_lt _ (Nat.two_pow_pos n))]
  split
  case isTrue h => simp [Nat.testBit_mod_two_pow, h]
  case isFalse h =>
    have hin : i - lo < n ↔ i < lo + n := by omega
    simp only [hin, Nat.testBit_mod_two_pow, Nat.testBit_div_two_pow]
    split
    case isTrue hf => simp [hf]
    case isFalse => exact congrArg _ (by omega)

variable (s : State)

theorem State.bitOf_setFld_same (off lo n v : Nat) {i : Nat} (hi : i < 32) :
    (s.setFld off lo n v).bitOf off i = if i < lo then s.bitOf off i else if i < lo + n then v.testBit (i - lo) else s.bitOf off i := by
  simp only [State.bitOf, State.setFld, State.regN_setRegN_same, Nat.testBit_mod_two_pow, hi, decide_true, Bool.true_and,
    testBit_putBits]

theorem State.bitOf_congr {s t : State} {off : Nat} (h : s.reg off = t.reg off) (i : Nat) : s.bitOf off i = t.bitOf off i := by
  simp [State.bitOf, State.regN, h]

/-! ### The merged word -/

/-- A read-write bit of a fully enabled write takes the bit written. -/
theorem RegRow.testBit_merge_rw (r : RegRow) (old : Word) (v : Nat) {i : Nat} (hi : i < 32) (hrw : r.rw.testBit i = true)
    (hc : r.w1c.testBit i = false) (hs : r.w1s.testBit i = false) :
    (r.merge old (BitVec.ofNat 32 v) (BitVec.ofNat 32 0xFFFFFFFF)).toNat.testBit i = v.testBit i := by
  rw [RegRow.merge_whole, BitVec.testBit_toNat]
  simp only [BitVec.getLsbD_or, BitVec.getLsbD_and, BitVec.getLsbD_not, BitVec.getLsbD_ofNat, hi, hrw, hc, hs]
  simp

/-- A read-write field of a fully enabled write takes the field written. -/
theorem RegRow.bits_merge_rw (r : RegRow) (old : Word) (v : Nat) {lo n : Nat} (hn : lo + n ≤ 32)
    (h : ∀ i < n, r.rw.testBit (lo + i) = true ∧ r.w1c.testBit (lo + i) = false ∧ r.w1s.testBit (lo + i) = false) :
    bits (r.merge old (BitVec.ofNat 32 v) (BitVec.ofNat 32 0xFFFFFFFF)).toNat lo n = bits v lo n := by
  refine Nat.eq_of_testBit_eq fun i => ?_
  simp only [bits, Nat.testBit_mod_two_pow, Nat.testBit_div_two_pow]
  by_cases hi : i < n
  · obtain ⟨hrw, hc, hs⟩ := h i hi
    rw [Nat.add_comm i lo, RegRow.testBit_merge_rw r old v (by omega) hrw hc hs]
  · simp [hi]

theorem and_allWord {v : Nat} (h : v < 2 ^ 32) : v &&& 0xFFFFFFFF = v := by
  rw [show 0xFFFFFFFF = 2 ^ 32 - 1 from rfl, Nat.and_two_pow_sub_one_eq_mod, Nat.mod_eq_of_lt h]

end Sys2Proof.Machine
end

section
/-! PROOF. What a write of each register that is a command does (R11, R32, R146, R212, R263, R404, R424, R429, R432, R434, R444). -/

namespace Sys2Proof.Machine

variable {s : State}

/-- A write of a block that is not paired is not forwarded. -/
theorem hostSet_unpaired {off : Nat} (h : s.takes off = true) (hp : pairedBlock off = false) (v : Nat) :
    hostSet off v s = (s.tick.regWrite off v 0xFFFFFFFF).tick := by
  rw [hostSet_takes h, State.forwardWrite_unpaired hp]

/-- A part that is no primary forwards no write. -/
theorem hostSet_alone {off : Nat} (h : s.takes off = true) (hp : s.pairPrimary = false) (v : Nat) :
    hostSet off v s = (s.tick.regWrite off v 0xFFFFFFFF).tick := by
  rw [hostSet_takes h, State.forwardWrite_alone (by simpa using hp)]

/-! ### CCU_CTRL.RUN (R32) -/

theorem State.regWrite_ccuCtrl (s : State) (v : Nat) :
    s.regWrite Reg.CCU_CTRL v 0xFFFFFFFF = cadenceRun (v.testBit 0) (s.putBit Reg.CCU_CTRL 1 (v.testBit 1)) := by
  have h : regAt Reg.CCU_CTRL = some (regOne "CCU_CTRL" 0x100000 0x0 0x3 0 0 0 0 0, 0, 0) := by decide +kernel
  rw [State.regWrite_ccu h s v _ (by decide), writeCcu, if_pos rfl, if_pos (by decide),
    RegRow.testBit_merge_rw _ _ v (by decide) (by decide) (by decide) (by decide),
    RegRow.testBit_merge_rw _ _ v (by decide) (by decide) (by decide) (by decide)]

theorem cadenceRun_start {x : State} (h : x.bitOf Reg.CCU_CTRL 0 = false) :
    cadenceRun true x = { (x.setBit Reg.CCU_CTRL 0).setBit Reg.CCU_STATUS 0 with
      ccu := { x.ccu with lastInstant := some x.now, stepped := 0 } } := by
  simp only [cadenceRun, h, if_true]
  rfl

theorem cadenceRun_stop {x : State} (h : x.bitOf Reg.CCU_CTRL 0 = true) (ho : x.allSlotsOff = true) :
    cadenceRun false x = { (x.clrBit Reg.CCU_CTRL 0).clrBit Reg.CCU_STATUS 0 with
      ccu := { x.ccu with lastInstant := none, stepped := 0, trigDue := [] } } := by
  simp only [cadenceRun, h, ho]
  rfl

/-- The state in which a write of RUN acts: REALIGN_EVENT, which the write repeats, is in force. -/
def State.runWritten (s : State) (run : Bool) : State :=
  s.tick.putBit Reg.CCU_CTRL 1 ((putBits (s.regN Reg.CCU_CTRL) 0 1 (b2n run)).testBit 1)

theorem exec_cadenceRun (h : s.takes Reg.CCU_CTRL = true) (hp : s.pairPrimary = false) (run : Bool) :
    exec (.cadenceRun run) s = .next (cadenceRun run (s.runWritten run)).tick := by
  have hrun : (putBits (s.regN Reg.CCU_CTRL) 0 1 (b2n run)).testBit 0 = run := by
    rw [testBit_putBits]
    cases run <;> rfl
  show Host.Outcome.next (hostSet Reg.CCU_CTRL (putBits (s.regN Reg.CCU_CTRL) 0 1 (b2n run)) s) = _
  rw [hostSet_alone h hp, State.regWrite_ccuCtrl, hrun, State.runWritten]

theorem State.bitOf_runWritten (s : State) (run : Bool) : (s.runWritten run).bitOf Reg.CCU_CTRL 0 = s.bitOf Reg.CCU_CTRL 0 := by
  simp [State.runWritten, State.putBit, State.bitOf_setFld_same _ _ 1 1 _ (by decide : 0 < 32)]

theorem State.reg_runWritten_ne (s : State) (run : Bool) {o : Nat} (h : o ≠ Reg.CCU_CTRL) : (s.runWritten run).reg o = s.reg o :=
  (State.reg_setFld_ne _ _ _ _ _ _ h.symm).trans (State.reg_tick s o)

/-- RUN and its status bit are set together, and no other register with them. -/
theorem State.setRunBits (x : State) (v : Nat) :
    let y := (x.setFld Reg.CCU_CTRL 0 1 v).setFld Reg.CCU_STATUS 0 1 v
    y.bitOf Reg.CCU_CTRL 0 = v.testBit 0 ∧ y.bitOf Reg.CCU_STATUS 0 = v.testBit 0 ∧
      ∀ o, o ≠ Reg.CCU_CTRL → o ≠ Reg.CCU_STATUS → y.reg o = x.reg o := by
  have hctrl : ((x.setFld Reg.CCU_CTRL 0 1 v).setFld Reg.CCU_STATUS 0 1 v).bitOf Reg.CCU_CTRL 0 =
      (x.setFld Reg.CCU_CTRL 0 1 v).bitOf Reg.CCU_CTRL 0 :=
    State.bitOf_congr (State.reg_setFld_ne _ Reg.CCU_STATUS _ _ _ Reg.CCU_CTRL (by decide)) 0
  refine ⟨hctrl.trans ?_, ?_, fun o h1 h2 => ?_⟩
  · exact State.bitOf_setFld_same x _ 0 1 v (by decide)
  · exact State.bitOf_setFld_same (x.setFld Reg.CCU_CTRL 0 1 v) _ 0 1 v (by decide)
  · rw [State.reg_setFld_ne _ _ _ _ _ _ h2.symm, State.reg_setFld_ne _ _ _ _ _ _ h1.symm]

/-- RUN written 1 to a stopped cadence starts the grid. -/
theorem exec_cadenceRun_start (h : s.takes Reg.CCU_CTRL = true) (hp : s.pairPrimary = false) (hr : s.bitOf Reg.CCU_CTRL 0 = false) :
    ∃ t : State, exec (.cadenceRun true) s = .next t.tick ∧ t.bitOf Reg.CCU_CTRL 0 = true ∧ t.bitOf Reg.CCU_STATUS 0 = true ∧
      t = { s.tick with regs := t.regs, ccu := { s.ccu with lastInstant := some s.tick.now, stepped := 0 } } ∧
      ∀ o, o ≠ Reg.CCU_CTRL → o ≠ Reg.CCU_STATUS → t.reg o = s.reg o := by
  obtain ⟨hctrl, hstatus, hframe⟩ := State.setRunBits (s.runWritten true) 1
  refine ⟨_, exec_cadenceRun h hp true, ?_⟩
  rw [cadenceRun_start ((State.bitOf_runWritten s true).trans hr)]
  refine ⟨hctrl, hstatus, ?_, fun o h1 h2 => (hframe o h1 h2).trans (State.reg_runWritten_ne s true h1)⟩
  rw [← State.tick_ccu s]
  rfl

/-- RUN written 0 with every slot OFF stops the grid. -/
theorem exec_cadenceRun_stop (h : s.takes Reg.CCU_CTRL = true) (hp : s.pairPrimary = false) (hr : s.bitOf Reg.CCU_CTRL 0 = true)
    (ho : s.allSlotsOff = true) :
    ∃ t : State, exec (.cadenceRun false) s = .next t.tick ∧ t.bitOf Reg.CCU_CTRL 0 = false ∧ t.bitOf Reg.CCU_STATUS 0 = false ∧
      t = { s.tick with regs := t.regs, ccu := { s.ccu with lastInstant := none, stepped := 0, trigDue := [] } } ∧
      ∀ o, o ≠ Reg.CCU_CTRL → o ≠ Reg.CCU_STATUS → t.reg o = s.reg o := by
  obtain ⟨hctrl, hstatus, hframe⟩ := State.setRunBits (s.runWritten false) 0
  refine ⟨_, exec_cadenceRun h hp false, ?_⟩
  rw [cadenceRun_stop ((State.bitOf_runWritten s false).trans hr) ((State.allSlotsOff_tick s).trans ho)]
  refine ⟨hctrl, hstatus, ?_, fun o h1 h2 => (hframe o h1 h2).trans (State.reg_runWritten_ne s false h1)⟩
  rw [← State.tick_ccu s]
  rfl

/-! ### Paired blocks: FPP_CTRL, FUS_CTXf_WIN_START_LO, MAP_CTRL, VIS_STRMs_GRID_CTRL -/

theorem State.regWrite_fppCtrl (s : State) (v m : Nat) :
    s.regWrite Reg.FPP_CTRL v m = if (v &&& m).testBit 0 then fppSeedReq s else s := by
  obtain ⟨⟨r, i, j⟩, h⟩ := Option.isSome_iff_exists.mp (by decide +kernel : (regAt Reg.FPP_CTRL).isSome = true)
  exact (State.regWrite_fpp h s v m (by decide)).trans (if_pos rfl)

theorem hostSet_seedReq (h : s.takes Reg.FPP_CTRL = true) :
    hostSet Reg.FPP_CTRL 1 s = ((s.tick.forwardWrite Reg.FPP_CTRL 1 0xFFFFFFFF).setBit Reg.FPP_CTRL 0).tick := by
  rw [hostSet_takes h, State.regWrite_fppCtrl, if_pos (by decide), fppSeedReq]

theorem regAt_winStartLo {f : Nat} (hf : f < 8) :
    regAt (Reg.FUS_CTX_WIN_START_LO f) = some (regArr "FUS_CTX_WIN_START_LO" 0x800104 8 32 0xFFFFFFFF 0xFFFFFFFF 0 0 0 0 0, f, 0) := by
  have key : ∀ f < 8, regAt (Reg.FUS_CTX_WIN_START_LO f) =
      some (regArr "FUS_CTX_WIN_START_LO" 0x800104 8 32 0xFFFFFFFF 0xFFFFFFFF 0 0 0 0 0, f, 0) := by decide +kernel
  exact key f hf

theorem State.regWrite_winStartLo (s : State) {f v : Nat} (hf : f < 8) (hv : v < 2 ^ 32) :
    s.regWrite (Reg.FUS_CTX_WIN_START_LO f) v 0xFFFFFFFF = fusWinStart f v s := by
  have hb : Reg.FUS_CTX_WIN_START_LO f / 0x100000 = 8 := by unfold Reg.FUS_CTX_WIN_START_LO; omega
  have hi : (Reg.FUS_CTX_WIN_START_LO f - Reg.FUS_CTX_WIN_START_LO 0) / 32 = f := by unfold Reg.FUS_CTX_WIN_START_LO; omega
  have hg : rng (Reg.FUS_CTX_WIN_START_LO f) (Reg.FUS_CTX_WIN_START_LO 0) (Reg.FUS_CTX_WIN_START_LO 7) = true ∧
      (Reg.FUS_CTX_WIN_START_LO f - Reg.FUS_CTX_WIN_START_LO 0) % 32 = 0 := by
    unfold rng Reg.FUS_CTX_WIN_START_LO
    rw [Bool.and_eq_true, decide_eq_true_eq, decide_eq_true_eq]
    omega
  rw [State.regWrite_fus (regAt_winStartLo hf) s v _ hb, RegRow.merge_word _ _ v rfl rfl rfl hv, writeFus, if_pos hg, hi]

theorem exec_winStartWrite {f v : Nat} (h : s.takes (Reg.FUS_CTX_WIN_START_LO f) = true) (hf : f < 8) (hv : v < 2 ^ 32) :
    exec (.winStartWrite f v) s = .next (fusWinStart f v (s.tick.forwardWrite (Reg.FUS_CTX_WIN_START_LO f) v 0xFFFFFFFF)).tick := by
  show Host.Outcome.next (if f < 8 then hostSet (Reg.FUS_CTX_WIN_START_LO f) (v % 2 ^ 32) s else s) = _
  rw [if_pos hf, Nat.mod_eq_of_lt hv, hostSet_takes h, State.regWrite_winStartLo _ hf hv]

theorem State.regWrite_mapCtrl (s : State) (v m : Nat) :
    s.regWrite Reg.MAP_CTRL v m = if (v &&& m).testBit 0 then mapInit s else s := by
  obtain ⟨⟨r, i, j⟩, h⟩ := Option.isSome_iff_exists.mp (by decide +kernel : (regAt Reg.MAP_CTRL).isSome = true)
  exact (State.regWrite_map h s v m (by decide)).trans (if_pos rfl)

theorem hostSet_mapInit (h : s.takes Reg.MAP_CTRL = true) (hoff : (s.func mapFunc).life = .off) (hb : s.mapBases.set = true)
    (hi : s.bitOf Reg.MAP_STATUS 3 = false) (hp : s.pairPrimary = false) :
    hostSet Reg.MAP_CTRL 1 s = (s.tick.setBit Reg.MAP_STATUS 3).tick := by
  rw [hostSet_alone h hp, State.regWrite_mapCtrl, if_pos (by decide), mapInit, if_pos (by simp [hoff, hb, hi])]

theorem State.regWrite_gridCtrl (s : State) {i which : Nat} (hi : i < 16) (hw : which = 1 ∨ which = 2) :
    s.regWrite (Reg.VIS_STRM_GRID_CTRL i) which 0xFFFFFFFF = visGridAsk i which s := by
  have key : ∀ i < 16, (regAt (Reg.VIS_STRM_GRID_CTRL i)).isSome = true := by decide +kernel
  obtain ⟨⟨r, a, b⟩, h⟩ := Option.isSome_iff_exists.mp (key i hi)
  have hb : Reg.VIS_STRM_GRID_CTRL i / 0x100000 = 6 := by unfold Reg.VIS_STRM_GRID_CTRL; omega
  have hlo : ¬ Reg.VIS_STRM_GRID_CTRL i < Reg.VIS_STRM_STATUS 0 := by unfold Reg.VIS_STRM_GRID_CTRL Reg.VIS_STRM_STATUS; omega
  have hk : (Reg.VIS_STRM_GRID_CTRL i - Reg.VIS_STRM_STATUS 0) % 32 = 12 := by
    unfold Reg.VIS_STRM_GRID_CTRL Reg.VIS_STRM_STATUS; omega
  have hn : (Reg.VIS_STRM_GRID_CTRL i - Reg.VIS_STRM_STATUS 0) / 32 = i := by
    unfold Reg.VIS_STRM_GRID_CTRL Reg.VIS_STRM_STATUS; omega
  rw [State.regWrite_vis h s _ _ hb, writeVis, if_neg hlo, hk, hn]
  obtain rfl | rfl := hw <;> rfl

theorem exec_gridRequest {i : Nat} (h : s.takes (Reg.VIS_STRM_GRID_CTRL i) = true) (hi : i < 16) :
    exec (.gridRequest i) s = .next (visGridAsk i 1 (s.tick.forwardWrite (Reg.VIS_STRM_GRID_CTRL i) 1 0xFFFFFFFF)).tick := by
  show Host.Outcome.next (if i < 16 then hostSet (Reg.VIS_STRM_GRID_CTRL i) 1 s else s) = _
  rw [if_pos hi, hostSet_takes h, State.regWrite_gridCtrl _ hi (.inl rfl)]

theorem exec_gridRevert {i : Nat} (h : s.takes (Reg.VIS_STRM_GRID_CTRL i) = true) (hi : i < 16) :
    exec (.gridRevert i) s = .next (visGridAsk i 2 (s.tick.forwardWrite (Reg.VIS_STRM_GRID_CTRL i) 2 0xFFFFFFFF)).tick := by
  show Host.Outcome.next (if i < 16 then hostSet (Reg.VIS_STRM_GRID_CTRL i) 2 s else s) = _
  rw [if_pos hi, hostSet_takes h, State.regWrite_gridCtrl _ hi (.inr rfl)]

/-! ### OBS: the engine bank latch, the Brake, the scan (R404, R424, R429) -/

theorem State.regWrite_engLatch (s : State) (v m : Nat) :
    s.regWrite Reg.OBS_ENG_LATCH v m = if (v &&& m).testBit 0 then engLatch s else s := by
  obtain ⟨⟨r, i, j⟩, h⟩ := Option.isSome_iff_exists.mp (by decide +kernel : (regAt Reg.OBS_ENG_LATCH).isSome = true)
  exact (State.regWrite_obs h s v m (by decide)).trans (if_pos rfl)

theorem hostSet_engLatch (h : s.takes Reg.OBS_ENG_LATCH = true) : hostSet Reg.OBS_ENG_LATCH 1 s = (engLatch s.tick).tick := by
  rw [hostSet_unpaired h (by decide), State.regWrite_engLatch, if_pos (by decide)]

/-- LATCH copies both banks of the engine that OBS_ENG_SEL names. -/
theorem hostSet_engLatch_copies (h : s.takes Reg.OBS_ENG_LATCH = true)
    (he : s.fld Reg.OBS_ENG_SEL 0 6 < engineCount (s.fld Reg.OBS_ENG_SEL 8 4)) :
    hostSet Reg.OBS_ENG_LATCH 1 s = (s.tick.each (List.range 64) (fun t w => t.setRegN (Reg.OBS_ENG_HOLD w)
      (leAt (s.tick.bankPair (s.fld Reg.OBS_ENG_SEL 8 4) (s.fld Reg.OBS_ENG_SEL 0 6)) (4 * w) 4))).tick := by
  rw [hostSet_engLatch h]
  simp only [engLatch, State.fld_tick, if_neg (Nat.not_le.mpr he)]

theorem hostSet_engLatch_ignored (h : s.takes Reg.OBS_ENG_LATCH = true)
    (he : engineCount (s.fld Reg.OBS_ENG_SEL 8 4) ≤ s.fld Reg.OBS_ENG_SEL 0 6) :
    hostSet Reg.OBS_ENG_LATCH 1 s = (s.tick.setBit Reg.OBS_STATUS 5).tick := by
  rw [hostSet_engLatch h]
  simp only [engLatch, State.fld_tick, if_pos he]

theorem State.regWrite_brakeCtrl (s : State) {v : Nat} (hv : v < 2 ^ 32) (hb : v.testBit 0 = true) :
    ∃ new, s.regWrite Reg.OBS_BRAKE_CTRL v 0xFFFFFFFF = (s.setRegN Reg.OBS_BRAKE_CTRL new).brakeSource 1 (bits v 8 8) := by
  obtain ⟨⟨r, i, j⟩, h⟩ := Option.isSome_iff_exists.mp (by decide +kernel : (regAt Reg.OBS_BRAKE_CTRL).isSome = true)
  rw [State.regWrite_obs h s v _ (by decide), and_allWord hv, writeObs, if_neg (by decide), if_pos rfl, if_pos hb]
  exact ⟨_, rfl⟩

/-- The first source of a running part raises the Brake request of this cycle. -/
theorem State.brakeSource_first (hs : s.obs.stopped = false) (hb : s.obs.brake = none) (code reason : Nat) :
    s.brakeSource code reason =
      { s with obs := { s.obs with brake := some ⟨s.core, 2 ^ code, code, reason, code == 0⟩ } } := by
  simp [State.brakeSource, hs, hb]

theorem exec_obsBrakeCtrlBrake {r : Nat} (h : s.takes Reg.OBS_BRAKE_CTRL = true) (hr : r < 256) (hb : s.obs.brake = none) :
    ∃ t : State, exec (.obsBrakeCtrlBrake r) s = .next t.tick ∧
      t = { s.tick with regs := t.regs, obs := { s.obs with brake := some ⟨s.tick.core, 2, 1, r, false⟩ } } ∧
      ∀ o, o ≠ Reg.OBS_BRAKE_CTRL → t.reg o = s.reg o := by
  have hf : s.fld Reg.OBS_BRAKE_CTRL 1 1 < 2 := Nat.mod_lt _ (by decide)
  let v := 1 + 2 * s.fld Reg.OBS_BRAKE_CTRL 1 1 + 256 * (r % 256)
  have hbit : v.testBit 0 = true := by
    simp only [Nat.testBit_zero, decide_eq_true_eq]
    omega
  have hreason : bits v 8 8 = r := by
    simp only [bits, v]
    omega
  obtain ⟨new, hw⟩ := State.regWrite_brakeCtrl s.tick (v := v) (by omega) hbit
  have hset : hostSet Reg.OBS_BRAKE_CTRL v s = ((s.tick.setRegN Reg.OBS_BRAKE_CTRL new).brakeSource 1 r).tick := by
    rw [hostSet_unpaired h (by decide), hw, hreason]
  refine ⟨_, congrArg Host.Outcome.next hset, ?_, fun o ho => ?_⟩ <;>
    rw [State.brakeSource_first (by simpa using State.stopped_of_takes h) (by simpa using hb)]
  · rw [← State.tick_obs s]
    rfl
  · exact (State.reg_setReg_ne _ _ _ _ ho.symm).trans (State.reg_tick s o)

/-- START with no scan running begins one of kind `k`, at the address that OBS_SCAN_ADDR holds. -/
theorem scanCmd_start {new w k : Nat} (hk : bits new 1 2 = k) (h3 : k ≠ 3) (hw : w.testBit 0 = true) (hn : s.obs.scan = none) :
    scanCmd new w s = { ((s.setFld Reg.OBS_SCAN_CMD 1 2 k).setBit Reg.OBS_SCAN_CMD 0).setBit Reg.OBS_SCAN_STATUS 0 with
      obs := { s.obs with scan := some (k, s.pair Reg.OBS_SCAN_ADDR_LO Reg.OBS_SCAN_ADDR_HI, s.obs.stopped) } } := by
  simp only [scanCmd, hk, if_neg h3, hw, hn]
  rfl

theorem scanCmd_busy {new w k : Nat} (hk : bits new 1 2 = k) (h3 : k ≠ 3) (hb : s.obs.scan ≠ none) :
    scanCmd new w s = s.setFld Reg.OBS_SCAN_CMD 1 2 k := by
  simp [scanCmd, hk, h3, Option.isSome_iff_ne_none.mpr hb]

/-- START with KIND `k`, as the three scan commands write it. -/
theorem hostSet_scanCmd (h : s.takes Reg.OBS_SCAN_CMD = true) {k : Nat} (hk : k < 3) :
    ∃ new, bits new 1 2 = k ∧ hostSet Reg.OBS_SCAN_CMD (1 + 2 * k) s = (scanCmd new (1 + 2 * k) s.tick).tick := by
  have hr : regAt Reg.OBS_SCAN_CMD = some (regOne "OBS_SCAN_CMD" 0x1000060 0x0 0x6 0 0 0x1 0 0, 0, 0) := by decide +kernel
  have hkind : bits (1 + 2 * k) 1 2 = k := by
    unfold bits
    omega
  rw [hostSet_unpaired h (by decide), State.regWrite_obs hr _ _ _ (by decide), and_allWord (by omega)]
  exact ⟨_, (RegRow.bits_merge_rw _ _ _ (by decide) (by decide)).trans hkind, rfl⟩

theorem hostSet_scan_start (h : s.takes Reg.OBS_SCAN_CMD = true) (hn : s.obs.scan = none) {k : Nat} (hk : k < 3) :
    hostSet Reg.OBS_SCAN_CMD (1 + 2 * k) s =
      (let x := ((s.tick.setFld Reg.OBS_SCAN_CMD 1 2 k).setBit Reg.OBS_SCAN_CMD 0).setBit Reg.OBS_SCAN_STATUS 0
       ({ x with obs := { x.obs with scan := some (k, s.pair Reg.OBS_SCAN_ADDR_LO Reg.OBS_SCAN_ADDR_HI, s.obs.stopped) } } : State).tick) := by
  obtain ⟨new, hb, e⟩ := hostSet_scanCmd h hk
  have hw : (1 + 2 * k).testBit 0 = true := by
    simp only [Nat.testBit_zero, decide_eq_true_eq]
    omega
  rw [e, scanCmd_start hb (by omega) hw (by simpa using hn), State.pair_tick, ← State.tick_obs s]
  rfl

theorem hostSet_scan_busy (h : s.takes Reg.OBS_SCAN_CMD = true) (hb : s.obs.scan ≠ none) {k : Nat} (hk : k < 3) :
    hostSet Reg.OBS_SCAN_CMD (1 + 2 * k) s = (s.tick.setFld Reg.OBS_SCAN_CMD 1 2 k).tick := by
  obtain ⟨new, hn, e⟩ := hostSet_scanCmd h hk
  rw [e, scanCmd_busy hn (by omega) (by simpa using hb)]

/-! ### CRB: the software reset, the host boot, the clock divisors (R432, R434, R444) -/

theorem State.regWrite_resetCtrl (s : State) (v m : Nat) : s.regWrite Reg.CRB_RESET_CTRL v m = softwareReset (v &&& m) s := by
  obtain ⟨⟨r, i, j⟩, h⟩ := Option.isSome_iff_exists.mp (by decide +kernel : (regAt Reg.CRB_RESET_CTRL).isSome = true)
  exact (State.regWrite_crb h s v m (by decide)).trans (if_pos rfl)

theorem hostSet_softwareReset {v : Nat} (h : s.takes Reg.CRB_RESET_CTRL = true) (hv : v < 2 ^ 32) (hk : v / 2 ^ 16 = 0xC1E9)
    (h1 : v % 2 = 1) : hostSet Reg.CRB_RESET_CTRL v s = (s.tick.deviceReset 2 false).tick := by
  have hkey : bits v 16 16 = 0xC1E9 ∧ v.testBit 0 = true := ⟨by rw [bits, hk]; rfl, by simp [Nat.testBit_zero, h1]⟩
  rw [hostSet_unpaired h (by decide), State.regWrite_resetCtrl, and_allWord hv, softwareReset, if_pos hkey]

theorem State.regWrite_hostBootCtrl (s : State) (v m : Nat) :
    s.regWrite Reg.CRB_HOST_BOOT_CTRL v m = if (v &&& m).testBit 0 then hostBootGo s else s := by
  obtain ⟨⟨r, i, j⟩, h⟩ := Option.isSome_iff_exists.mp (by decide +kernel : (regAt Reg.CRB_HOST_BOOT_CTRL).isSome = true)
  rw [State.regWrite_crb h s v m (by decide)]
  rfl

theorem hostSet_hostBootGo (h : s.takes Reg.CRB_HOST_BOOT_CTRL = true) :
    hostSet Reg.CRB_HOST_BOOT_CTRL 1 s = (hostBootGo s.tick).tick := by
  rw [hostSet_unpaired h (by decide), State.regWrite_hostBootCtrl, if_pos (by decide)]

theorem hostSet_hostBootGo_waiting (h : s.takes Reg.CRB_HOST_BOOT_CTRL = true) (ht : s.crb.trying = .hostWait) :
    hostSet Reg.CRB_HOST_BOOT_CTRL 1 s = ({ (s.tick.setBit Reg.CRB_HOST_BOOT_CTRL 0).clrBit Reg.CRB_BOOT_STATUS 2 with
      crb := { s.crb with trying := .hostCheck } } : State).tick := by
  rw [hostSet_hostBootGo h, hostBootGo, State.tick_crb, if_pos ht]

theorem hostSet_hostBootGo_idle (h : s.takes Reg.CRB_HOST_BOOT_CTRL = true) (ht : s.crb.trying ≠ .hostWait) :
    hostSet Reg.CRB_HOST_BOOT_CTRL 1 s = (s.tick.setBit Reg.CRB_HOST_BOOT_CTRL 0).tick := by
  rw [hostSet_hostBootGo h, hostBootGo, State.tick_crb, if_neg ht]

/-- A divisor in its range, with no channel of its clock enabled, is taken with its clock's next phase. -/
theorem divisorWrite_sdm {v : Nat} (hlo : 480 ≤ v) (hhi : v ≤ 2400) (h8 : v % 8 = 0) (hi : ∀ k, k < 24 → (s.func (0x020 + k)).life = .off) :
    divisorWrite false v s = { s.setRegN Reg.CRB_SDM_DIV v with
      crb := { s.crb with sdmPhase := (s.core / 6 + 1) * 6, sdmWas := s.clockNow false } } := by
  have hidle : ((List.range 24).map (· + 0x020)).all (fun id => (s.func id).life == Life.off) = true := by
    simpa [Nat.add_comm] using hi
  simp only [divisorWrite, rng, hlo, hhi, h8, hidle, Bool.false_eq_true, if_false]
  rfl

theorem divisorWrite_pdm {v : Nat} (hlo : 1200 ≤ v) (hhi : v ≤ 4800) (h8 : v % 8 = 0) (hi : ∀ k, k < 32 → (s.func (0x038 + k)).life = .off) :
    divisorWrite true v s = { s.setRegN Reg.CRB_PDM_DIV v with
      crb := { s.crb with pdmPhase := (s.core / 6 + 1) * 6, pdmWas := s.clockNow true } } := by
  have hidle : ((List.range 32).map (· + 0x038)).all (fun id => (s.func id).life == Life.off) = true := by
    simpa [Nat.add_comm] using hi
  simp only [divisorWrite, rng, hlo, hhi, h8, hidle, if_true]
  rfl

theorem State.regWrite_sdmDiv (s : State) {v : Nat} (hv : v < 2 ^ 12) :
    s.regWrite Reg.CRB_SDM_DIV v 0xFFFFFFFF = divisorWrite false v s := by
  have h : regAt Reg.CRB_SDM_DIV = some (regOne "CRB_SDM_DIV" 0x1100110 0x258 0xFFF 0 0 0 0 0, 0, 0) := by decide +kernel
  rw [State.regWrite_crb h s v _ (by decide), writeCrb, if_neg (by decide), if_pos rfl,
    RegRow.bits_merge_rw _ _ v (by decide) (by decide), bits, Nat.pow_zero, Nat.div_one, Nat.mod_eq_of_lt hv]

theorem State.regWrite_pdmDiv (s : State) {v : Nat} (hv : v < 2 ^ 13) :
    s.regWrite Reg.CRB_PDM_DIV v 0xFFFFFFFF = divisorWrite true v s := by
  have h : regAt Reg.CRB_PDM_DIV = some (regOne "CRB_PDM_DIV" 0x1100114 0x600 0x1FFF 0 0 0 0 0, 0, 0) := by decide +kernel
  rw [State.regWrite_crb h s v _ (by decide), writeCrb, if_neg (by decide), if_neg (by decide), if_pos rfl,
    RegRow.bits_merge_rw _ _ v (by decide) (by decide), bits, Nat.pow_zero, Nat.div_one, Nat.mod_eq_of_lt hv]

theorem hostSet_sdmDiv {v : Nat} (h : s.takes Reg.CRB_SDM_DIV = true) (hlo : 480 ≤ v) (hhi : v ≤ 2400) (h8 : v % 8 = 0)
    (hi : ∀ k, k < 24 → (s.func (0x020 + k)).life = .off) :
    hostSet Reg.CRB_SDM_DIV v s = ({ s.tick.setRegN Reg.CRB_SDM_DIV v with
      crb := { s.crb with sdmPhase := (s.tick.core / 6 + 1) * 6, sdmWas := s.tick.clockNow false } } : State).tick := by
  rw [hostSet_unpaired h (by decide), State.regWrite_sdmDiv _ (by omega), divisorWrite_sdm hlo hhi h8 (by simpa using hi), State.tick_crb]

theorem hostSet_pdmDiv {v : Nat} (h : s.takes Reg.CRB_PDM_DIV = true) (hlo : 1200 ≤ v) (hhi : v ≤ 4800) (h8 : v % 8 = 0)
    (hi : ∀ k, k < 32 → (s.func (0x038 + k)).life = .off) :
    hostSet Reg.CRB_PDM_DIV v s = ({ s.tick.setRegN Reg.CRB_PDM_DIV v with
      crb := { s.crb with pdmPhase := (s.tick.core / 6 + 1) * 6, pdmWas := s.tick.clockNow true } } : State).tick := by
  rw [hostSet_unpaired h (by decide), State.regWrite_pdmDiv _ (by omega), divisorWrite_pdm hlo hhi h8 (by simpa using hi), State.tick_crb]

/-- Settles O32, one register after the other: each row is a host write of its register. -/
theorem registerCommandsComplete : Obligations.RegisterCommandsComplete := by
  refine ⟨fun s h hp => ⟨exec_cadenceRun_start h hp, exec_cadenceRun_stop h hp⟩,
    fun s h => congrArg Host.Outcome.next (hostSet_seedReq h),
    fun s f v h hf hv => exec_winStartWrite h hf hv,
    fun s h hoff hb hi hp => congrArg Host.Outcome.next (hostSet_mapInit h hoff hb hi hp),
    fun s i h hi => ⟨exec_gridRequest h hi, exec_gridRevert h hi⟩,
    fun s h => ⟨fun he => congrArg Host.Outcome.next (hostSet_engLatch_copies h he),
      fun he => congrArg Host.Outcome.next (hostSet_engLatch_ignored h he)⟩,
    fun s r h hr hb => exec_obsBrakeCtrlBrake h hr hb,
    fun s h hn => ⟨?_, ?_, ?_⟩,
    fun s h hb => ⟨?_, ?_, ?_⟩,
    fun s v h hv hk h1 => congrArg Host.Outcome.next (hostSet_softwareReset h hv hk h1),
    fun s h ht => congrArg Host.Outcome.next (hostSet_hostBootGo_waiting h ht),
    fun s h ht => congrArg Host.Outcome.next (hostSet_hostBootGo_idle h ht),
    fun s v h hlo hhi h8 hi => congrArg Host.Outcome.next (hostSet_sdmDiv h hlo hhi h8 hi),
    fun s v h hlo hhi h8 hi => congrArg Host.Outcome.next (hostSet_pdmDiv h hlo hhi h8 hi)⟩
  · exact congrArg Host.Outcome.next (hostSet_scan_start h hn (k := 0) (by decide))
  · exact congrArg Host.Outcome.next (hostSet_scan_start h hn (k := 1) (by decide))
  · exact congrArg Host.Outcome.next (hostSet_scan_start h hn (k := 2) (by decide))
  · exact congrArg Host.Outcome.next (hostSet_scan_busy h hb (k := 0) (by decide))
  · exact congrArg Host.Outcome.next (hostSet_scan_busy h hb (k := 1) (by decide))
  · exact congrArg Host.Outcome.next (hostSet_scan_busy h hb (k := 2) (by decide))

end Sys2Proof.Machine
end

section
/-! PROOF. Events of a part that runs (assumption log 6): their meaning answers. -/

namespace Sys2Proof.Machine

variable {s : State}

theorem State.act_alive (h : s.alive = true) (f : State → State) : s.act f = f s := if_pos h

/-- An event whose row acts with `f` answers, on a part that runs, what `f` makes of the state. -/
theorem exec_of_act {i : Instr} {f : State → State} {t : State} (h : s.alive = true) (hi : exec i s = .next (s.act f)) (ht : f s = t) :
    exec i s = .next t := by
  rw [hi, State.act_alive h, ht]

end Sys2Proof.Machine
end

section
/-! PROOF. Cadence events and drains (R18, R35, R36, R42, R83, R84): what each event does where its condition holds. -/

namespace Sys2Proof.Machine

variable {s : State}

/-! ### The boundary and the start bound -/

theorem cadenceBoundary_of_opening {o : Opening} (h : s.opening = some o) :
    cadenceBoundary s = (s.runToTime o.instant).openBoundary o false none := by
  simp only [cadenceBoundary, h]

theorem startBoundExceeded_of_bound {id : Nat} (hl : (s.func id).life = .starting) (hk : (s.func id).startedAt + 16 ≤ s.ccu.cadence)
    (hm : (s.ccu.cadence - (s.func id).startedAt) % 16 = 0) (hb : (s.func id).boundAt ≠ s.ccu.cadence) :
    startBoundExceeded id s = (s.updFunc id (fun f => { f with boundAt := s.ccu.cadence })).event (if isSensor id then 1 else 11) 0xFF01
      (if isSensor id then St.sensorAbsent else St.internalFault) 0x04 id (result [(20, 2, id), (22, 1, Life.code .starting)]) :=
  if_pos ⟨hl, Nat.le_sub_of_add_le' hk, hm, hb⟩

/-! ### Camera triggers (R36) -/

/-- The trigger of `pin`, due at `t`, has gone active: its pulse ends WIDTH × 16 TIME cycles from here. -/
def State.pulseBegins (s : State) (pin t : Nat) : State :=
  let x := s.runToTime t
  { x with ccu := { x.ccu with
      trigDue := SMap.erase x.ccu.trigDue pin,
      trigEnd := SMap.set x.ccu.trigEnd pin (x.raw + 16 * max 1 (x.fld (Reg.CCU_TRIG_CTRL pin) 16 16)) } }

/-- The windows that the pulse of `pin` opens: those of the ON streams it exposes, up to the end of the claiming Route's cadence (R109). -/
def State.pulseWindows (y : State) (pin t : Nat) : State :=
  let sl := y.slot (y.fld (Reg.CCU_TRIG_CTRL pin) 0 4)
  y.each (List.range 16) (fun st i =>
    if (st.func (camFunc i)).life == Life.on && (st.cam i).trigger == pin then
      st.openWindow i t (sl.runInstant + Img.stride sl.image * y.regN Reg.CCU_CADENCE_PERIOD) sl.runCadence t
        (sl.runCadence + max 1 (Img.stride sl.image))
    else st)

theorem cameraTrigger_of_due {pin t : Nat} (h : SMap.find s.ccu.trigDue pin = some t) :
    cameraTrigger pin s = (s.pulseBegins pin t).pulseWindows pin t := by
  simp only [cameraTrigger, h]
  rfl

theorem triggerPulseEnd_of_running {pin t : Nat} (h : SMap.find s.ccu.trigEnd pin = some t) :
    triggerPulseEnd pin s = { s.runTo (coreOfRaw t) with ccu := { (s.runTo (coreOfRaw t)).ccu with
      trigEnd := SMap.erase (s.runTo (coreOfRaw t)).ccu.trigEnd pin } } := by
  simp only [triggerPulseEnd, h]

/-! ### Drains that outlast their bound -/

theorem drainOverrun_of_func {id : Nat} (hid : 16 ≤ id) (hl : (s.func id).life = .draining) (ho : (s.func id).overran = false) :
    drainOverrun id s =
      (let x := ((s.runTo (s.func id).drainBy).updFunc id (fun f => { f with overran := true })).count 11 3
       if 0x020 ≤ id ∧ id < 0x058 then x.count 2 (decCnt (id - 0x020) 2) else x) := by
  have hc : (s.func id).life = .draining ∧ (!(s.func id).overran) = true := ⟨hl, by rw [ho]; rfl⟩
  rw [drainOverrun, if_neg (Nat.not_lt.mpr hid)]
  exact if_pos hc

theorem drainOverrun_of_slot {n : Nat} (hn : n < 16) (hl : (s.slot n).life = .draining)
    (ht : (s.slot n).lastTransition < s.ccu.cadence) (ho : (s.slot n).overran = false) :
    drainOverrun n s = (s.updSlot n (fun f => { f with overran := true })).count 11 3 := by
  have hc : (s.slot n).life = .draining ∧ (s.slot n).lastTransition < s.ccu.cadence ∧ (!(s.slot n).overran) = true :=
    ⟨hl, ht, by rw [ho]; rfl⟩
  rw [drainOverrun, if_pos hn]
  exact if_pos hc

/-! ### Drains that end -/

/-- Function `id` enters OFF: what its unit still does for the drain, its lifecycle, and the unit's state that OFF clears. -/
def State.funcOff (y : State) (id : Nat) : State :=
  let w := (if id = 0x073 then y.fppOff else if 0x020 ≤ id ∧ id < 0x058 then y.audioClose (id - 0x020) else y).updFunc id
    (fun f => { f with life := .off, lastTransition := y.ccu.cadence, overran := false })
  if id < 0x020 then w.setCam (id - 0x010) { w.cam (id - 0x010) with window := none }
  else if id < 0x058 then w.decClear (id - 0x020)
  else if id = 0x084 then w.tdmOff else if id = 0x087 then w.metOff else w

theorem functionDrainComplete_of_drained {id : Nat} (hl : (s.func id).life = .draining) (hd : s.funcDrained id = true) :
    functionDrainComplete id s =
      ((s.runTo (max (s.coreAt s.ccu.boundaryTime + 1) (if id = posePort then s.poseEnd else 0))).funcOff id).event 11 0xFF01 St.ok 0x03 id
        (result [(20, 2, id), (22, 1, Life.code .off)]) := by
  have hc : ¬ (((s.func id).life != Life.draining || !s.funcDrained id) = true) := by
    rw [hl, hd]
    decide
  exact if_neg hc

/-- Route `n` enters OFF: its lifecycle, and what each unit holds for it. -/
def State.routeOff (s : State) (n : Nat) : State :=
  let x := s.updSlot n (fun f => { f with life := .off, lastTransition := s.ccu.cadence, overran := false })
  (((((((x.memRouteOff n).visRouteOff n).fstActive n false).fusRouteOff n).bsuRouteOff n).mapRouteOff n).mxRouteOff n).showTriggers n false

theorem routeDrainComplete_of_drained {n : Nat} (hl : (s.slot n).life = .draining) (hd : s.memDrained n = true)
    (hr : s.ccu.runs.any (fun r => r.slot == n) = false) :
    routeDrainComplete n s = (s.routeOff n).event 11 0xFF02 St.ok 0x03 n (result [(20, 1, n)]) := by
  have hc : ¬ (((s.slot n).life != Life.draining || !s.memDrained n || s.ccu.runs.any (fun r => r.slot == n)) = true) := by
    rw [hl, hd, hr]
    decide
  exact if_neg hc

/-- Settles O25, one event after the other: each is the meaning of its row, taken where its condition holds. -/
theorem cadenceAndDrainEventsComplete : Obligations.CadenceAndDrainEventsComplete := by
  refine ⟨fun s o ha ho => ?boundary, fun s id ha hl hk hm hb => ?startBound, fun s pin t ha ht => ?trigger, fun s pin t ha ht => ?pulseEnd,
    fun s id ha hid hl ho => ?funcOverrun, fun s n ha hn hl ht ho => ?slotOverrun, fun s id ha hl hd => ?funcDrain,
    fun s n ha hl hd hr => ?routeDrain⟩
  case boundary => exact exec_of_act ha rfl (cadenceBoundary_of_opening ho)
  case startBound => exact ⟨_, exec_of_act ha rfl (startBoundExceeded_of_bound hl hk hm hb), State.event_reported _ _ _ _ _ _ _⟩
  case trigger => exact exec_of_act ha rfl (cameraTrigger_of_due ht)
  case pulseEnd => exact exec_of_act ha rfl (triggerPulseEnd_of_running ht)
  case funcOverrun => exact exec_of_act ha rfl (drainOverrun_of_func hid hl ho)
  case slotOverrun => exact exec_of_act ha rfl (drainOverrun_of_slot hn hl ht ho)
  case funcDrain => exact ⟨_, exec_of_act ha rfl (functionDrainComplete_of_drained hl hd), State.event_reported _ _ _ _ _ _ _⟩
  case routeDrain => exact ⟨_, exec_of_act ha rfl (routeDrainComplete_of_drained hl hd hr), State.event_reported _ _ _ _ _ _ _⟩

end Sys2Proof.Machine
end

section
/-! PROOF. Draft epochs (R20, R222): the resolution of the oldest decided epoch, and its acknowledgements. -/

namespace Sys2Proof.Machine

variable {s : State} {e u cad : Nat} {c : Bool} {hs late : List Nat} {rest : List (Nat × Option Bool)}

/-! ### Acknowledgements -/

/-- An acknowledgement removes its holder, the last one the epoch. -/
theorem State.ackEpoch_of_resolving (h : s.ccu.resolving = some (e, c, hs, cad, late)) (u : Nat) :
    s.ackEpoch u = { s with ccu :=
      if (hs.filter (· != u)).isEmpty then { s.ccu with resolving := none, epochs := s.ccu.epochs.filter (fun x => x.1 != e) }
      else { s.ccu with resolving := some (e, c, hs.filter (· != u), cad, late) } } := by
  simp only [State.ackEpoch, h]
  split <;> rfl

theorem resolutionAck_of_holder (h : s.ccu.resolving = some (e, c, hs, cad, late)) (hu : hs.contains u = true)
    (hm : u = 1 → s.mapHolds e = false) : resolutionAck u e s = s.ackEpoch u := by
  have hc : ¬ (e ≠ e ∨ (!hs.contains u) = true ∨ (u = 1 ∧ s.mapHolds e = true)) := by
    rintro (he | hn | ⟨h1, hh⟩)
    · exact he rfl
    · exact absurd hn (by rw [hu]; decide)
    · exact absurd hh (by rw [hm h1]; decide)
  simp only [resolutionAck, h]
  exact if_neg hc

theorem resolutionAckTimeout_of_late (h : s.ccu.resolving = some (e, c, hs, cad, late)) (hu : hs.contains u = true)
    (hl : late.contains u = false) (hn : cad < s.ccu.cadence) :
    resolutionAckTimeout u e s = ({ s with ccu := { s.ccu with resolving := some (e, c, hs, cad, u :: late) } } : State).event 11 0xFF02
      St.internalFault 0x08 0x073 (result [(20, 4, e % 2 ^ 32), (24, 1, u)]) := by
  have hc : ¬ (e ≠ e ∨ (!hs.contains u) = true ∨ late.contains u = true ∨ s.ccu.cadence ≤ cad) := by
    rw [hu, hl]
    simpa using hn
  simp only [resolutionAckTimeout, h]
  exact if_neg hc

/-! ### The resolution -/

/-- The units that hold the epoch once FPP has answered: FPP is 0, MAP 1 (R222). -/
def resolutionHolders (x : State × Bool) (e : Nat) : List Nat :=
  (if x.2 then [] else [0]) ++ (if x.1.mapHolds e then [1] else [])

/-- The resolution of epoch `e` is issued to the units that hold it. -/
def State.issueResolution (s : State) (e : Nat) (c : Bool) : State :=
  let x := s.fppResolve e c
  { x.1 with ccu := { x.1.ccu with resolving := some (e, c, resolutionHolders x e, s.ccu.cadence, []) } }

theorem State.issueResolution_resolving (s : State) (e : Nat) (c : Bool) :
    (s.issueResolution e c).ccu.resolving = some (e, c, resolutionHolders (s.fppResolve e c) e, s.ccu.cadence, []) := rfl

/-- The register that shows the last epoch resolved as `c`. -/
def lastResolvedReg (c : Bool) : Nat := if c then Reg.MAP_LAST_COMMIT else Reg.MAP_LAST_SQUASH

theorem epochResolution_of_oldest (hr : s.ccu.resolving = none) (he : s.ccu.epochs = (e, some c) :: rest) :
    epochResolution e c s =
      (let x := s.fppResolve e c
       let y := s.issueResolution e c
       let z := if x.1.mapHolds e then y else y.setRegN (lastResolvedReg c) (e % 2 ^ 32)
       if (resolutionHolders x e).isEmpty then z.ackEpoch 0 else z) := by
  simp only [epochResolution, hr, he]
  exact if_neg (by simp)

/-- MAP holds the epoch. -/
theorem epochResolution_of_mapHolds (hr : s.ccu.resolving = none) (he : s.ccu.epochs = (e, some c) :: rest)
    (hm : (s.fppResolve e c).1.mapHolds e = true) : epochResolution e c s = s.issueResolution e c := by
  have hh : (resolutionHolders (s.fppResolve e c) e).isEmpty = false := by simp [resolutionHolders, hm]
  simp [epochResolution_of_oldest hr he, hh, hm]

/-- FPP alone holds the epoch. -/
theorem epochResolution_of_fppHolds (hr : s.ccu.resolving = none) (he : s.ccu.epochs = (e, some c) :: rest)
    (hm : (s.fppResolve e c).1.mapHolds e = false) (hf : (s.fppResolve e c).2 = false) :
    epochResolution e c s = (s.issueResolution e c).setRegN (lastResolvedReg c) (e % 2 ^ 32) := by
  have hh : (resolutionHolders (s.fppResolve e c) e).isEmpty = false := by simp [resolutionHolders, hf]
  simp [epochResolution_of_oldest hr he, hh, hm]

/-- No unit holds the epoch: it is acknowledged at once. -/
theorem epochResolution_of_unheld (hr : s.ccu.resolving = none) (he : s.ccu.epochs = (e, some c) :: rest)
    (hm : (s.fppResolve e c).1.mapHolds e = false) (hf : (s.fppResolve e c).2 = true) :
    epochResolution e c s = { (s.issueResolution e c).setRegN (lastResolvedReg c) (e % 2 ^ 32) with
      ccu := { (s.issueResolution e c).ccu with
        resolving := none, epochs := (s.fppResolve e c).1.ccu.epochs.filter (fun q => q.1 != e) } } := by
  have hh : resolutionHolders (s.fppResolve e c) e = [] := by simp [resolutionHolders, hm, hf]
  have hi : ((s.issueResolution e c).setRegN (lastResolvedReg c) (e % 2 ^ 32)).ccu.resolving = some (e, c, [], s.ccu.cadence, []) := by
    rw [State.setRegN_ccu, State.issueResolution_resolving, hh]
  have ha : epochResolution e c s = ((s.issueResolution e c).setRegN (lastResolvedReg c) (e % 2 ^ 32)).ackEpoch 0 := by
    simp [epochResolution_of_oldest hr he, hh, hm]
  rw [ha, State.ackEpoch_of_resolving hi]
  rfl

/-- Settles O27: a resolution by who holds the epoch, then the acknowledgement and its timeout. -/
theorem epochEventsComplete : Obligations.EpochEventsComplete := by
  refine ⟨fun s e c rest ha hr he => ⟨fun hm => ?mapHolds, fun hm hf => ?fppHolds, fun hm hf => ?unheld⟩,
    fun s u e cad c hs late ha hr hu hm => ?ack, fun s u e cad c hs late ha hr hu hl hn => ?timeout⟩
  case mapHolds => exact exec_of_act ha rfl (epochResolution_of_mapHolds hr he hm)
  case fppHolds => exact exec_of_act ha rfl (epochResolution_of_fppHolds hr he hm hf)
  case unheld =>
    exact ⟨_, exec_of_act ha rfl (epochResolution_of_unheld hr he hm hf), rfl, rfl,
      (State.regN_setRegN_same _ _ _).trans (Nat.mod_mod _ _)⟩
  case ack => exact exec_of_act ha rfl ((resolutionAck_of_holder hr hu hm).trans (State.ackEpoch_of_resolving hr u))
  case timeout => exact ⟨_, exec_of_act ha rfl (resolutionAckTimeout_of_late hr hu hl hn), State.event_reported _ _ _ _ _ _ _⟩

end Sys2Proof.Machine
end

section
/-! PROOF. Route commands (R39, R41, R45, R473): the meaning of each opcode where none of its checks refuses it. -/

namespace Sys2Proof.Machine

/-! ### What an enable and a disable note in a slot (R41) -/

section
variable {s : State} {n : Nat}

/-- A change of a slot is what it makes of the slot as it stands. -/
theorem State.updSlot_congr {f g : Slot → Slot} (h : f (s.slot n) = g (s.slot n)) : s.updSlot n f = s.updSlot n g := by
  have hu : SMap.upd Slot.reset s.ccu.slots n f = SMap.upd Slot.reset s.ccu.slots n g := congrArg (SMap.set s.ccu.slots n) h
  unfold State.updSlot
  rw [hu]

theorem State.slotEnable_off (h : (s.slot n).life = .off) :
    s.slotEnable n = (s.updSlot n (fun g => { g with accepted := some true }), false) := by
  simp only [State.slotEnable, h]

theorem State.slotEnable_draining (h : (s.slot n).life = .draining) :
    s.slotEnable n = (s.updSlot n (fun g => { g with enablePending := true }), true) := by
  simp only [State.slotEnable, h]

theorem State.slotEnable_active (h : (s.slot n).life = .starting ∨ (s.slot n).life = .on) :
    s.slotEnable n = (s.updSlot n (fun g => { g with accepted := none }), false) := by
  rcases h with h | h <;> simp only [State.slotEnable, h]

theorem State.slotDisable_active (h : (s.slot n).life = .starting ∨ (s.slot n).life = .on) :
    s.slotDisable n = s.updSlot n (fun g => { g with enablePending := false, accepted := some false }) :=
  State.updSlot_congr (by rcases h with h | h <;> simp only [h])

theorem State.slotDisable_inactive (h : (s.slot n).life = .off ∨ (s.slot n).life = .draining) :
    s.slotDisable n = s.updSlot n (fun g => { g with enablePending := false, accepted := none }) :=
  State.updSlot_congr (by rcases h with h | h <;> simp only [h])

/-- The Result's fields that show slot `n` as `g`. -/
def slotReply (n : Nat) (g : Slot) : List (Nat × Nat × Nat) := [(20, 1, n), (21, 1, g.life.code), (22, 1, b2n g.enablePending)]

/-- The Result of ROUTE_ENABLE and ROUTE_DISABLE shows the slot as the command leaves it. -/
theorem State.slotFields_updSlot (s : State) (n : Nat) (f : Slot → Slot) : (s.updSlot n f).slotFields n = slotReply n (f (s.slot n)) := by
  simp only [State.slotFields, slotReply, State.slot_updSlot_same]

end

/-! ### The meaning of each opcode, where no check refuses it -/

section
variable {p : CmdPacket} {e : State}

theorem bodyRouteLoad_of_passing (hn : param p 16 1 ≤ 15) (hlo : 512 ≤ param p 32 4) (hhi : param p 32 4 ≤ 16777312)
    (hheld : slotIn e.hif.longs.dropLast (param p 16 1) = false) (hempty : (e.slot (param p 16 1)).image = [])
    (hok : e.loadRefusal (e.hostLd (param p 24 8) (param p 32 4)) (param p 32 4)
      (e.imgs (slotList.filter (fun k => !(e.slot k).image.isEmpty))) = none) :
    bodyRouteLoad p e =
      (let bs := e.hostLd (param p 24 8) (param p 32 4)
       (Reply.accepted, (((e.chargePool 7 (ceilDiv (param p 32 4) 64) 0 (some e.longKey)).updSlot (param p 16 1)
         (fun x => { x with image := bs.take (Img.imageLen bs), status := [] })).memLoad (param p 16 1)).longDone e.longKey St.ok 0
           (result [(20, 1, param p 16 1), (24, 4, leAt bs 200 4)]))) := by
  have hr : rng (param p 32 4) 512 16777312 = true := by simp [rng, hlo, hhi]
  simp [bodyRouteLoad, Nat.not_lt.mpr hn, hr, hheld, hempty, hok]

theorem bodyRouteUnload_of_off (hn : param p 16 1 ≤ 15) (hheld : e.slotHeld (param p 16 1) = false)
    (hoff : (e.slot (param p 16 1)).life = .off) (hstart : (e.slot (param p 16 1)).startPending = false) :
    bodyRouteUnload p e = (Reply.ok [(20, 1, param p 16 1)],
      if (e.slot (param p 16 1)).image = [] then e else e.unload (param p 16 1)) := by
  by_cases hi : (e.slot (param p 16 1)).image = []
  · simp [bodyRouteUnload, Nat.not_lt.mpr hn, hheld, hi]
  · simp [bodyRouteUnload, Nat.not_lt.mpr hn, hheld, hoff, hstart, hi]

theorem bodyRouteEnable_of_passing (hn : param p 16 1 ≤ 15) (hheld : e.slotHeld (param p 16 1) = false)
    (himg : (e.slot (param p 16 1)).image ≠ [])
    (hok : e.enableRefusal (param p 16 1) (e.countingSlots (param p 16 1)) = none) {f : Slot → Slot} {b : Bool}
    (hf : e.slotEnable (param p 16 1) = (e.updSlot (param p 16 1) f, b)) :
    bodyRouteEnable p e = (⟨if b then St.pending else St.ok, 0, result (slotReply (param p 16 1) (f (e.slot (param p 16 1))))⟩,
      e.updSlot (param p 16 1) f) := by
  simp [bodyRouteEnable, Nat.not_lt.mpr hn, hheld, himg, hok, hf, State.slotFields_updSlot]

theorem bodyRouteDisable_of_empty (hn : param p 16 1 ≤ 15) (hheld : e.slotHeld (param p 16 1) = false)
    (himg : (e.slot (param p 16 1)).image = []) : bodyRouteDisable p e = (Reply.ok (e.slotFields (param p 16 1)), e) := by
  simp [bodyRouteDisable, Nat.not_lt.mpr hn, hheld, himg]

theorem bodyRouteDisable_of_loaded (hn : param p 16 1 ≤ 15) (hheld : e.slotHeld (param p 16 1) = false)
    (himg : (e.slot (param p 16 1)).image ≠ []) {f : Slot → Slot} (hf : e.slotDisable (param p 16 1) = e.updSlot (param p 16 1) f) :
    bodyRouteDisable p e = (Reply.ok (slotReply (param p 16 1) (f (e.slot (param p 16 1)))), e.updSlot (param p 16 1) f) := by
  simp [bodyRouteDisable, Nat.not_lt.mpr hn, hheld, himg, hf, State.slotFields_updSlot]

theorem bodyRouteSwitch_now (hok : switchRefusal e (param p 16 2) (param p 18 2) = none) (hat : param p 24 8 = 0) :
    bodyRouteSwitch p e =
      (Reply.ok [(20, 2, param p 16 2), (22, 2, param p 18 2), (24, 2, (e.switchRoutes (param p 16 2) (param p 18 2)).2)],
        (e.switchRoutes (param p 16 2) (param p 18 2)).1) := by
  simp only [bodyRouteSwitch, hok]
  exact if_pos hat

theorem bodyRouteSwitch_timed (hok : switchRefusal e (param p 16 2) (param p 18 2) = none) (hat : param p 24 8 ≠ 0)
    (htime : e.opTime (param p 24 8) (usTime 50) = false) (hnear : e.opNear (param p 24 8) = false) :
    bodyRouteSwitch p e = (Reply.ok [(20, 2, param p 16 2), (22, 2, param p 18 2)],
      e.arm ⟨3, param p 16 2, param p 18 2, param p 24 8, none, [], true⟩) := by
  simp [bodyRouteSwitch, hok, hat, htime, hnear]

/-- The stage status records of slot `n` in index order (R45). -/
def State.statusRecords (s : State) (n : Nat) : List Byte :=
  (List.range (Img.stageCount (s.slot n).image)).flatMap (fun i => SMap.get (zeros 32) (s.slot n).status i)

theorem bodyRouteQuery_of_loaded (hn : param p 16 1 ≤ 15) (himg : (e.slot (param p 16 1)).image ≠ []) :
    bodyRouteQuery p e =
      (let bs := e.statusRecords (param p 16 1)
       (Reply.accepted, ((e.chargePool 7 (ceilDiv bs.length 64) 0 (some e.longKey)).hostSt (param p 24 8) bs).longDone e.longKey St.ok 0
         (result [(20, 1, param p 16 1), (22, 2, Img.stageCount (e.slot (param p 16 1)).image), (24, 4, e.routeState (param p 16 1))]))) := by
  simp [bodyRouteQuery, Nat.not_lt.mpr hn, himg, State.statusRecords]

end

/-! ### The entry state of a long command -/

theorem State.ctlWork_hif (s : State) (layer operator kind : Nat) : (s.ctlWork layer operator kind).hif = s.hif := by
  obtain ⟨_, h⟩ := State.ctlWork_frame s layer operator kind
  rw [h]

theorem State.dropLast_longs_enterLong (s : State) (code : Nat) (p : CmdPacket) (o : OpSpec) :
    (s.enterLong code p o).hif.longs.dropLast = s.hif.longs := by
  obtain ⟨_, _, _, _, h, -⟩ := State.enterLong_frame s code p o
  rw [h]
  exact List.dropLast_concat

/-- The long commands outstanding before one more are those of its entry state without its own. -/
theorem State.dropLast_longs_entry (s : State) (p : CmdPacket) {code : Nat} {o : OpSpec} (ho : opSpec code = some o) (hk : o.kind = .long) :
    (s.entry code p).hif.longs.dropLast = s.hif.longs := by
  simp only [State.entry, ho, hk, if_true, State.dropLast_longs_enterLong]
  split
  · rw [State.ctlWork_hif]
  · rw [State.setRegN_hif, State.ctlWork_hif]

/-- Settles O17, one command after the other: each is its opcode's meaning in the entry state, replied. -/
theorem routeCommandsComplete : Obligations.RouteCommandsComplete := by
  refine ⟨fun p s ha hn hlo hhi hheld hempty hok => ?load, fun p s ha hn hheld hoff hstart => ?unload,
    fun p s ha hn hheld himg hok => ?enable, fun p s ha hn hheld => ?disable, fun p s ha hok hat => ?switch, fun p s ha hn himg => ?query⟩
  case load =>
    have hlongs : slotIn (s.entry 0x0201 p).hif.longs.dropLast (param p 16 1) = false := by
      rw [State.dropLast_longs_entry s p rfl rfl]
      exact hheld
    exact ⟨_, rfl, command_replied ha rfl (bodyRouteLoad_of_passing hn hlo hhi hlongs hempty hok) rfl rfl (fun _ => rfl)⟩
  case unload => exact ⟨_, rfl, command_replied ha rfl (bodyRouteUnload_of_off hn hheld hoff hstart) rfl rfl (by decide)⟩
  case enable =>
    have body {f : Slot → Slot} {b : Bool} := bodyRouteEnable_of_passing hn hheld himg hok (f := f) (b := b)
    refine ⟨_, rfl, fun hl => ?_, fun hl => ?_, fun hl => ?_⟩
    · exact command_replied ha rfl (body (State.slotEnable_off hl) :) rfl rfl (by decide)
    · exact command_replied ha rfl (body (State.slotEnable_active hl) :) rfl rfl (by decide)
    · exact command_replied ha rfl (body (State.slotEnable_draining hl) :) rfl rfl (by decide)
  case disable =>
    refine ⟨_, rfl, fun himg => ?_, fun himg hl => ?_, fun himg hl => ?_⟩
    · exact command_replied ha rfl (bodyRouteDisable_of_empty hn hheld himg) rfl rfl (by decide)
    · exact command_replied ha rfl (bodyRouteDisable_of_loaded hn hheld himg (State.slotDisable_active hl) :) rfl rfl (by decide)
    · exact command_replied ha rfl (bodyRouteDisable_of_loaded hn hheld himg (State.slotDisable_inactive hl) :) rfl rfl (by decide)
  case switch =>
    refine ⟨_, rfl, fun h0 => ?_, fun h0 => ?_⟩
    · exact command_replied ha rfl (bodyRouteSwitch_now hok h0) rfl rfl (by decide)
    · obtain ⟨htime, hnear⟩ := hat.resolve_left h0
      exact command_replied ha rfl (bodyRouteSwitch_timed hok h0 htime hnear) rfl rfl (by decide)
  case query => exact ⟨_, rfl, command_replied ha rfl (bodyRouteQuery_of_loaded hn himg) rfl rfl (fun _ => rfl)⟩

end Sys2Proof.Machine
end

section
/-! PROOF. Stage events (R43 to R45, R53): the start by what its weights' flags show, the deadline by where it lies, the end. -/

namespace Sys2Proof.Machine

variable {s : State} {n i : Nat}

/-! ### Start (R43, R53) -/

section
variable {outs ws : List Nat}

/-- Stage `i` of Route `n` has begun at its start offset: its packet is traced, its output flags are EMPTY. -/
def State.stageBegun (s : State) (n i : Nat) (outs : List Nat) : State :=
  let d := Img.desc (s.slot n).image i
  ((s.runToTime ((s.slot n).runInstant + Sd.start d)).emitSlot 1 n 0x10 (Sd.layer d)
    (leBytes 2 (Sd.operator d) ++ zeros 2 ++ leBytes 4 (s.slot n).runCadence)).each outs
    (fun st k => st.setFlag n k Flag.empty (Sd.layer d) (Sd.operator d))

/-- The weight flags of the stage that are not READY when it begins. -/
def State.lateWeights (s : State) (n i : Nat) (outs ws : List Nat) : List Nat :=
  (weightFlags (s.slot n).image (Img.desc (s.slot n).image i) ws).filter (fun k => (s.stageBegun n i outs).flagOf n k != Flag.ready)

/-- The start of a stage whose weights are late, reported with `status` and counted in counter `c`. -/
def State.stageLate (s : State) (n i : Nat) (outs ws : List Nat) (status c : Nat) : State :=
  let d := Img.desc (s.slot n).image i
  ((s.stageBegun n i outs).lateEvent n (Sd.layer d) (Sd.operator d) status (s.lateWeights n i outs ws)).count 11 c

theorem stageStart_of_startable (h : s.startable n i = true) :
    stageStart n i outs ws s =
      (let d := Img.desc (s.slot n).image i
       if (s.lateWeights n i outs ws).isEmpty then (s.stageBegun n i outs).launch n i i outs false
       else if (Sd.flags d).testBit 1 then
         if (Sd.flags d).testBit 2 then
           (s.stageLate n i outs ws St.freewheelTaken 6).launchNone n i outs Flag.ready St.freewheelTaken
         else (s.stageLate n i outs ws St.freewheelTaken 6).launch n i (Sd.freewheelStage d) outs true
       else (s.stageLate n i outs ws St.staleResult 7).launchNone n i outs Flag.stale St.staleResult) := by
  have hc : ¬ ((!s.startable n i) = true) := by
    rw [h]
    decide
  exact if_neg hc

theorem stageStart_of_ready (h : s.startable n i = true) (hl : s.lateWeights n i outs ws = []) :
    stageStart n i outs ws s = (s.stageBegun n i outs).launch n i i outs false := by
  simp [stageStart_of_startable h, hl]

/-- Late weights of a stage with a Freewheel variant: that descriptor runs in its place. -/
theorem stageStart_of_variant (h : s.startable n i = true) (hl : s.lateWeights n i outs ws ≠ [])
    (hf : (Sd.flags (Img.desc (s.slot n).image i)).testBit 1 = true) (hr : (Sd.flags (Img.desc (s.slot n).image i)).testBit 2 = false) :
    stageStart n i outs ws s = (s.stageLate n i outs ws St.freewheelTaken 6).launch n i
      (Sd.freewheelStage (Img.desc (s.slot n).image i)) outs true := by
  simp [stageStart_of_startable h, hl, hf, hr]

/-- Late weights of a stage that reuses its last output. -/
theorem stageStart_of_reuse (h : s.startable n i = true) (hl : s.lateWeights n i outs ws ≠ [])
    (hf : (Sd.flags (Img.desc (s.slot n).image i)).testBit 1 = true) (hr : (Sd.flags (Img.desc (s.slot n).image i)).testBit 2 = true) :
    stageStart n i outs ws s =
      (s.stageLate n i outs ws St.freewheelTaken 6).launchNone n i outs Flag.ready St.freewheelTaken := by
  simp [stageStart_of_startable h, hl, hf, hr]

/-- Late weights of a stage without Freewheel. -/
theorem stageStart_of_stale (h : s.startable n i = true) (hl : s.lateWeights n i outs ws ≠ [])
    (hf : (Sd.flags (Img.desc (s.slot n).image i)).testBit 1 = false) :
    stageStart n i outs ws s = (s.stageLate n i outs ws St.staleResult 7).launchNone n i outs Flag.stale St.staleResult := by
  simp [stageStart_of_startable h, hl, hf]

end

/-! ### Deadline and end (R44, R45) -/

section
variable {r : Run}

theorem deadlineAbort_inside (h : s.runOf n i = some r) (hd : Sd.deadline (s.runDesc r) ≠ Img.period (s.img n)) :
    deadlineAbort n i s = (s.runToTime (r.instant + Sd.deadline (s.runDesc r))).abortRun r := by
  simp only [deadlineAbort, h]
  rw [if_neg hd]

/-- A deadline at the Route's period comes in the CORE cycle before the boundary's. -/
theorem deadlineAbort_at_period (h : s.runOf n i = some r) (hd : Sd.deadline (s.runDesc r) = Img.period (s.img n)) :
    deadlineAbort n i s = (s.runTo (s.coreAt (r.instant + Sd.deadline (s.runDesc r)) - 1)).abortRun r := by
  simp only [deadlineAbort, h]
  rw [if_pos hd]

theorem stageEnd_of_ended {r' : Run} (h : s.mapSync.runOf n i = some r) (hw : r.waiting = false)
    (he : r.insts.all (fun k => k.ended) = true ∨ 7 ≤ Sd.cls (s.mapSync.runDesc r)) (h' : (s.mapSync.unitEnd r).runOf n i = some r') :
    stageEnd n i s = ((s.mapSync.unitEnd r).stageDone r' ((s.mapSync.unitEnd r).stageStatus r')).mapSync := by
  have hend : (r.insts.all (fun k => k.ended) || decide (7 ≤ Sd.cls (s.mapSync.runDesc r))) = true :=
    (Bool.or_eq_true _ _).mpr (he.imp id decide_eq_true)
  have hc : ¬ ((r.waiting || !(r.insts.all (fun k => k.ended) || decide (7 ≤ Sd.cls (s.mapSync.runDesc r)))) = true) := by
    rw [hw, hend]
    decide
  simp only [stageEnd, h]
  rw [if_neg hc]
  simp only [h']

end

/-- Settles O26: a start by its weights and its descriptor's Freewheel flags, then the deadline and the end. -/
theorem stageEventsComplete : Obligations.StageEventsComplete := by
  refine ⟨fun s n i outs ws ha hs => ⟨fun hl => ?ready, fun hl hf hr => ?variant, fun hl hf hr => ?reuse, fun hl hf => ?stale⟩,
    fun s n i r ha hr hd => ?inside, fun s n i r ha hr hd => ?atPeriod, fun s n i r r' ha hr hw he hr' => ?ended⟩
  case ready => exact exec_of_act ha rfl (stageStart_of_ready hs hl)
  case variant => exact exec_of_act ha rfl (stageStart_of_variant hs hl hf hr)
  case reuse => exact exec_of_act ha rfl (stageStart_of_reuse hs hl hf hr)
  case stale => exact exec_of_act ha rfl (stageStart_of_stale hs hl hf)
  case inside => exact exec_of_act ha rfl (deadlineAbort_inside hr hd)
  case atPeriod => exact exec_of_act ha rfl (deadlineAbort_at_period hr hd)
  case ended => exact exec_of_act ha rfl (stageEnd_of_ended hr hw he hr')

end Sys2Proof.Machine
end

section
/-! PROOF. Trace, monitors, dumps and credits (R51, R409 to R423): what each event does where its condition holds. -/

namespace Sys2Proof.Machine

variable {s : State}

/-! ### The timers of a running trace, the monitors' swap, the oldest dump -/

theorem traceSyncTimer_of_tracing (h : s.tracing = true) :
    traceSyncTimer s = (s.runTo (ceilDiv (3 * (s.obs.trace.lastSync + 2 ^ 30)) 2)).emitSync :=
  if_pos h

theorem pcSample_of_tracing (h : s.tracing = true) (hp : Td.pcLog2 s.traceDesc ≠ 0) : pcSample s = s.pcSampled :=
  if_neg (by simp [h, hp])

theorem monSwap_of_nextInstant {t : Nat} (h : s.nextInstant = some t) :
    monSwap s = { s.runToTime t with obs := { s.obs with monitors := s.obs.monitors.map (fun (e : Nat × Monitor) =>
      (e.1, if e.2.age != 256 && e.2.due then { e.2.swap (s.ccu.cadence + 1) with age := 256, crossed := false } else e.2)) } } := by
  simp only [monSwap, h]
  rfl

theorem dumpCopy_of_oldest {d : Dump} (h : s.obs.dumps.find? s.dumpReady = some d) : dumpCopy s = s.dumpCopied d := by
  simp only [dumpCopy, h]

/-! ### The oldest packet of the FIFO (R417 to R419) -/

/-- The memory ring is a destination of the trace: a stopped die's FIFO goes to the port alone. -/
def State.ringTakes (s : State) : Bool := Td.toMem s.traceDesc && !s.obs.stopped

/-- The state in which the oldest packet is taken: at the port's clock edge, where the trace goes to the port. -/
def State.atPortEdge (s : State) : State := if Td.toPort s.traceDesc then s.runTo (coreOfRaw s.portStart) else s

@[simp] theorem State.atPortEdge_obs (s : State) : s.atPortEdge.obs = s.obs := by
  unfold State.atPortEdge
  split <;> rfl

/-- The FIFO's oldest packet `pkt` has left for its destinations, and what waited behind the FIFO has entered it. -/
def State.packetLeft (s : State) (pkt : List Byte) (rest : List (List Byte)) : State :=
  let d := s.traceDesc
  (s.atPortEdge.updTrace (fun t => { t with
    fifo := rest
    port := if Td.toPort d then pkt :: t.port else t.port
    portAt := if Td.toPort d then some s.portStart else t.portAt })).traceEnter

/-- A packet leaves the FIFO where the trace has a destination, and the ring, if it is one, has room for the beat the packet completes. -/
theorem tracePacketTaken_of_oldest {pkt : List Byte} {rest : List (List Byte)} (hf : s.obs.trace.fifo = pkt :: rest)
    (hdst : Td.toPort s.traceDesc = true ∨ s.ringTakes = true)
    (hroom : s.ringTakes = true → s.atPortEdge.bitOf Reg.OBS_STATUS 3 = false → s.atPortEdge.obs.trace.group.length = 3 →
      s.atPortEdge.traceBeatOk = true) :
    tracePacketTaken s =
      (let x := s.packetLeft pkt rest
       if s.obs.stopped then x else (if s.ringTakes then x.traceToMem pkt else x).traceFlush) := by
  have hedge : (if Td.toPort s.traceDesc && !s.obs.trace.fifo.isEmpty then s.runTo (coreOfRaw s.portStart) else s) = s.atPortEdge := by
    simp [hf, State.atPortEdge]
  have hring : (Td.toMem s.traceDesc && !s.atPortEdge.obs.stopped) = s.ringTakes := by rw [State.atPortEdge_obs, State.ringTakes]
  have hfifo : s.atPortEdge.obs.trace.fifo = pkt :: rest := by rw [State.atPortEdge_obs, hf]
  have hgoes : ¬ ((!Td.toPort s.traceDesc && !s.ringTakes) = true) := by
    rcases hdst with h | h <;> simp [h]
  have hfree : ¬ ((s.ringTakes && !s.atPortEdge.bitOf Reg.OBS_STATUS 3 && s.atPortEdge.obs.trace.group.length == 3 &&
      !s.atPortEdge.traceBeatOk) = true) := by
    simp only [Bool.and_eq_true, Bool.not_eq_true', beq_iff_eq]
    rintro ⟨⟨⟨hm, hfull⟩, hg⟩, hno⟩
    exact absurd (hroom hm hfull hg) (by rw [hno]; decide)
  simp only [tracePacketTaken, hedge, hring, hfifo]
  rw [if_neg hgoes, if_neg hfree, State.atPortEdge_obs]
  rfl

/-- Settles O58, one event after the other: each is the meaning of its row, taken where its condition holds. -/
theorem observationEventsComplete : Obligations.ObservationEventsComplete := by
  refine ⟨fun s ha ht => ⟨?sync, fun hp => ?pc⟩, fun s ha => ?levels, fun s t ha ht => ?swap, fun s d ha hd => ?dump, fun s ha => ?credit,
    fun s pkt rest hrel hf hdst hroom => ?packet⟩
  case sync => exact exec_of_act ha rfl (traceSyncTimer_of_tracing ht)
  case pc => exact exec_of_act ha rfl (pcSample_of_tracing ht hp)
  case levels => exact exec_of_act ha rfl rfl
  case swap => exact exec_of_act ha rfl (monSwap_of_nextInstant ht)
  case dump => exact exec_of_act ha rfl (dumpCopy_of_oldest hd)
  case credit => exact exec_of_act ha rfl rfl
  case packet =>
    have hwhen : s.when s.crb.released tracePacketTaken = tracePacketTaken s := if_pos hrel
    exact congrArg Host.Outcome.next (hwhen.trans (tracePacketTaken_of_oldest hf hdst hroom))

end Sys2Proof.Machine
end

section
/-! PROOF. The acceptance of a fetched command (R66, R69 to R71, Table 3.5), step by step: the session, the sequence, the header, the
family. -/

namespace Sys2Proof.Machine

/-! ### What the control cores' work leaves of what is read of a state -/

section
variable (s : State) (layer operator kind : Nat)

@[simp] theorem State.reg_ctlWork (o : Nat) : (s.ctlWork layer operator kind).reg o = s.reg o := by
  obtain ⟨_, h⟩ := State.ctlWork_frame s layer operator kind
  rw [h]
  rfl

@[simp] theorem State.regN_ctlWork (o : Nat) : (s.ctlWork layer operator kind).regN o = s.regN o := by simp [State.regN]

@[simp] theorem State.context_ctlWork : (s.ctlWork layer operator kind).context = s.context := by simp [State.context, State.fld]

@[simp] theorem State.isBraked_ctlWork : (s.ctlWork layer operator kind).isBraked = s.isBraked := by
  obtain ⟨_, h⟩ := State.ctlWork_frame s layer operator kind
  rw [h]
  rfl

@[simp] theorem State.fenced_ctlWork (p : CmdPacket) : (s.ctlWork layer operator kind).fenced p = s.fenced p := by
  simp [State.fenced, State.ctlWork_hif]

@[simp] theorem State.func_ctlWork (id : Nat) : (s.ctlWork layer operator kind).func id = s.func id := by
  obtain ⟨_, h⟩ := State.ctlWork_frame s layer operator kind
  rw [h]
  rfl

end

/-! ### The fetch -/

section
variable {s : State} {code : Nat} {p : CmdPacket}

/-- A part that is ready and holds no command back checks a fetched one at once. -/
theorem command_taken (ha : s.alive = true) (hr : s.isReady = true) (hb : s.crb.barUp = true) (hw : s.hif.waiting = []) :
    command code p s = (s.ctlWork p.layer p.operator 2).take code p := by
  obtain ⟨hrel, hstop⟩ : s.crb.released = true ∧ s.obs.stopped = false := by simpa [State.alive] using ha
  simp [command, State.fetched, hrel, hr, hb, hstop, State.ctlWork_hif, hw]

/-- A row of a sequenced command is the command of its opcode. -/
theorem exec_sequencedRow {row : Instr} (h : (code, row) ∈ sequencedRows p) (s : State) : exec row s = .next (command code p s) := by
  have rows : (sequencedRows p).map (fun e => exec e.2 s) = (sequencedRows p).map (fun e => .next (command e.1 p s)) := rfl
  exact List.map_inj_left.1 rows _ h

/-- A sequenced command is one of Table 3.9, and step 1 of Table 3.5 is its own. -/
theorem opSpec_sequencedRow {row : Instr} (h : (code, row) ∈ sequencedRows p) :
    (opSpec code).isSome = true ∧ outOfSequence code = false := by
  have rows : (sequencedRows p).all (fun e => (opSpec e.1).isSome && !outOfSequence e.1) = true := rfl
  simpa using List.all_eq_true.1 rows _ h

theorem outOfSequence_eq_false : outOfSequence code = false ↔ ¬ (code = 0x0101 ∨ code = 0x0103) := by simp [outOfSequence]

/-! ### Step 1 and 2: the session and the sequence -/

/-- How far a packet's HSEQ lies ahead of the one expected (R70). -/
def State.hseqAhead (s : State) (p : CmdPacket) : Nat := (p.hseq + 2 ^ 32 - s.regN Reg.HIF_NEXT_HSEQ) % 2 ^ 32

theorem State.take_without_session (hoc : outOfSequence code = false) (h0 : s.context = 0) :
    s.take code p = s.answer code p ⟨St.badContext, 1, zeros 12⟩ false := by
  rw [State.take, if_neg (outOfSequence_eq_false.1 hoc), if_pos h0]

theorem State.take_of_other_session (hoc : outOfSequence code = false) (h0 : s.context ≠ 0) (hc : p.context ≠ s.context) :
    s.take code p = s.answer code p ⟨St.badContext, 0, zeros 12⟩ false := by
  rw [State.take, if_neg (outOfSequence_eq_false.1 hoc), if_neg h0, if_pos hc]

/-- In its session a packet goes by the distance of its HSEQ from the one expected. -/
theorem State.take_in_session (hoc : outOfSequence code = false) (h0 : s.context ≠ 0) (hc : p.context = s.context) :
    s.take code p =
      if s.hseqAhead p = 0 then
        if s.fenced p then s.hold code p
        else (s.setRegN Reg.HIF_NEXT_HSEQ ((s.regN Reg.HIF_NEXT_HSEQ + 1) % 2 ^ 32)).checked true true code p
      else if s.hseqAhead p < 2 ^ 31 then s.answer code p ⟨St.seqGap, 0, result [(20, 4, s.regN Reg.HIF_NEXT_HSEQ)]⟩ false
      else s.duplicate code p := by
  rw [State.take, if_neg (outOfSequence_eq_false.1 hoc), if_neg h0, if_neg (not_not_intro hc)]
  rfl

theorem State.take_ahead (hoc : outOfSequence code = false) (h0 : s.context ≠ 0) (hc : p.context = s.context) (hlo : 0 < s.hseqAhead p)
    (hhi : s.hseqAhead p < 2 ^ 31) :
    s.take code p = s.answer code p ⟨St.seqGap, 0, result [(20, 4, s.regN Reg.HIF_NEXT_HSEQ)]⟩ false := by
  rw [State.take_in_session hoc h0 hc, if_neg (Nat.ne_of_gt hlo), if_pos hhi]

theorem State.take_behind (hoc : outOfSequence code = false) (h0 : s.context ≠ 0) (hc : p.context = s.context)
    (hd : 2 ^ 31 ≤ s.hseqAhead p) : s.take code p = s.duplicate code p := by
  rw [State.take_in_session hoc h0 hc, if_neg (by omega), if_neg (Nat.not_lt.2 hd)]

theorem State.take_in_sequence (hoc : outOfSequence code = false) (h0 : s.context ≠ 0) (hc : p.context = s.context)
    (hq : p.hseq = s.regN Reg.HIF_NEXT_HSEQ) (hf : s.fenced p = false) :
    s.take code p = (s.setRegN Reg.HIF_NEXT_HSEQ ((s.regN Reg.HIF_NEXT_HSEQ + 1) % 2 ^ 32)).checked true true code p := by
  have hd : s.hseqAhead p = 0 := by simp [State.hseqAhead, hq]
  rw [State.take_in_session hoc h0 hc, if_pos hd, if_neg (by simp [hf])]

theorem State.take_out_of_sequence (hoc : outOfSequence code = true) (hf : s.fenced p = false) :
    s.take code p = s.checked true false code p := by
  have hcode : code = 0x0101 ∨ code = 0x0103 := by simpa [outOfSequence] using hoc
  rw [State.take, if_pos hcode, if_neg (by simp [hf])]

/-- A duplicate whose original reply is retained no more (R71). -/
theorem State.duplicate_forgotten (h : s.hif.buf.reverse.find? (fun r => r.consumed && r.hseq == p.hseq) = none) :
    s.duplicate code p = s.answer code p ⟨St.seqDuplicate, 1, result [(20, 4, 0xFFFFFFFF)]⟩ false := by
  simp only [State.duplicate, h]

/-- A duplicate whose original reply `r` is retained (R71). -/
theorem State.duplicate_retained {r : Record} (h : s.hif.buf.reverse.find? (fun r => r.consumed && r.hseq == p.hseq) = some r) :
    s.duplicate code p = (s.answer code p ⟨St.seqDuplicate, if r.opcode = code then 0 else 2,
      result [(20, 4, r.dseq), (24, 1, r.status), (25, 1, r.detail), (26, 2, r.opcode)]⟩ false).copies (p.flags.testBit 0) [r] := by
  simp only [State.duplicate, h]

/-! ### Steps 3 to 5: the Brake, the header, the family, the opcode -/

theorem State.checked_bad_header {own consumed : Bool} {d : Nat} (hb : s.isBraked = false) (hh : headerRefusal (opSpec code) p = some d) :
    s.checked own consumed code p = s.answer code p (Reply.bad d) consumed := by
  simp only [State.checked, hb, hh]
  rfl

theorem State.checked_bad_family {own consumed : Bool} {o : OpSpec} {r : Reply} (hb : s.isBraked = false)
    (hh : headerRefusal (opSpec code) p = none) (ho : opSpec code = some o) (hf : s.familyRefusal own code = some r)
    (hr : r.detail ≠ 0x58) :
    s.checked own consumed code p = s.answer code p r consumed := by
  rw [ho] at hh
  simp only [State.checked, hb, ho, hh, hf, if_neg hr]
  rfl

/-- What refuses a family is read of the start status, the Tandem role and its function (R353, R447). -/
theorem State.familyRefusal_congr {s t : State} (hr : ∀ o, o ≠ Reg.HIF_NEXT_HSEQ → t.reg o = s.reg o)
    (hf : t.func tdmFunc = s.func tdmFunc) (own : Bool) (code : Nat) : t.familyRefusal own code = s.familyRefusal own code := by
  have hrole : t.role = s.role := by simp only [State.role, State.fld, State.regN, hr Reg.TDM_STATUS (by decide)]
  have hdram : t.dramFailed = s.dramFailed := by
    simp only [State.dramFailed, State.bitOf, State.regN, hr Reg.CRB_START_STATUS (by decide)]
  simp only [State.familyRefusal, hrole, hdram, hf]

@[simp] theorem State.familyRefusal_ctlWork (s : State) (layer operator kind : Nat) (own : Bool) (code : Nat) :
    (s.ctlWork layer operator kind).familyRefusal own code = s.familyRefusal own code :=
  State.familyRefusal_congr (fun o _ => State.reg_ctlWork s layer operator kind o) (State.func_ctlWork s layer operator kind tdmFunc)
    own code

/-- The HSEQ expected is no matter of a family's refusal, nor of the Brake's. -/
@[simp] theorem State.familyRefusal_setNextHseq (s : State) (v : Nat) (own : Bool) (code : Nat) :
    (s.setRegN Reg.HIF_NEXT_HSEQ v).familyRefusal own code = s.familyRefusal own code :=
  State.familyRefusal_congr (fun _ h => State.reg_setReg_ne _ _ _ _ h.symm) rfl own code

@[simp] theorem State.isBraked_setNextHseq (s : State) (v : Nat) : (s.setRegN Reg.HIF_NEXT_HSEQ v).isBraked = s.isBraked := rfl

end

/-- Settles O7, one step of Table 3.5 after the other: what the session and the sequence make of the fetched packet. -/
theorem sequenceChecks : Obligations.SequenceChecks := by
  intro s code p row hrow ha hr hb hw
  obtain ⟨-, hoc⟩ := opSpec_sequencedRow hrow
  have hbuf : (s.ctlWork p.layer p.operator 2).hif.buf = s.hif.buf := by rw [State.ctlWork_hif]
  have hahead : (s.ctlWork p.layer p.operator 2).hseqAhead p = (p.hseq + 2 ^ 32 - s.regN Reg.HIF_NEXT_HSEQ) % 2 ^ 32 := by
    simp [State.hseqAhead]
  have hctx := State.context_ctlWork s p.layer p.operator 2
  refine ⟨_, exec_sequencedRow hrow s, ?_⟩
  rw [command_taken ha hr hb hw]
  refine ⟨fun h0 => ?_, fun h0 hc => ?_, fun h0 hc hlo hhi => ?_, fun h0 hc hd hnone => ?_, fun r h0 hc hd hsome => ?_⟩
  · rw [State.take_without_session hoc (hctx.trans h0)]
    exact State.answer_recorded _ code p _ false
  · rw [State.take_of_other_session hoc (by rwa [hctx]) (by rwa [hctx])]
    exact State.answer_recorded _ code p _ false
  · rw [State.take_ahead hoc (by rwa [hctx]) (by rwa [hctx]) (by rwa [hahead]) (by rwa [hahead]), State.regN_ctlWork]
    exact State.answer_recorded _ code p _ false
  · rw [State.take_behind hoc (by rwa [hctx]) (by rwa [hctx]) (by rwa [hahead]), State.duplicate_forgotten (by rwa [hbuf])]
    exact State.answer_recorded _ code p _ false
  · rw [State.take_behind hoc (by rwa [hctx]) (by rwa [hctx]) (by rwa [hahead]), State.duplicate_retained (by rwa [hbuf])]
    exact ⟨_, rfl, State.answer_recorded _ code p _ false⟩

/-- Settles O8: the packet in sequence comes to the header's and the family's checks, whose refusal is the answer. -/
theorem refusedCommandsChangeNothing : Obligations.RefusedCommandsChangeNothing := by
  intro s code p row hrow ha hr hb hw hbrk hfen h0 hc hq
  obtain ⟨hdef, hoc⟩ := opSpec_sequencedRow hrow
  obtain ⟨o, ho⟩ := Option.isSome_iff_exists.1 hdef
  have htake : command code p s = ((s.ctlWork p.layer p.operator 2).setRegN Reg.HIF_NEXT_HSEQ ((p.hseq + 1) % 2 ^ 32)).checked
      true true code p := by
    rw [command_taken ha hr hb hw, State.take_in_sequence hoc (by simpa using h0) (by simpa using hc) (by simpa using hq)
      (by simpa using hfen), State.regN_ctlWork, hq]
  refine ⟨fun d hd => ⟨_, exec_sequencedRow hrow s, ?_⟩, fun r hh hf hr => ⟨_, exec_sequencedRow hrow s, ?_⟩⟩
  · rw [htake, State.checked_bad_header (by simpa using hbrk) hd]
    exact State.answer_recorded _ code p _ true
  · rw [htake, State.checked_bad_family (by simpa using hbrk) hh ho (by simpa using hf) hr]
    exact State.answer_recorded _ code p _ true

end Sys2Proof.Machine
end

section
/-! PROOF. Records (R72): their numbers, and what the replay buffer keeps. -/

namespace Sys2Proof.Machine

section
variable (s : State)

/-- Signalling a vector sets at most its pending bit. -/
theorem State.reg_signal_ne (v : Nat) {o : Nat} (hlo : o ≠ Reg.HIF_MSIX_PBA_LO) (hhi : o ≠ Reg.HIF_MSIX_PBA_HI) :
    (s.signal v).reg o = s.reg o := by
  unfold State.signal State.msiSend
  split
  · rfl
  split
  · rfl
  split
  case isTrue =>
    split
    · exact State.reg_setBit_ne _ _ _ _ hlo.symm
    · exact State.reg_setBit_ne _ _ _ _ hhi.symm
  case isFalse => rfl

@[simp] theorem State.signal_buf (v : Nat) : (s.signal v).hif.buf = s.hif.buf := by
  obtain ⟨_, _, _, _, _, h, -⟩ := State.signal_frame s v
  rw [h]

/-- The retained records that a new one leaves in the buffer: the oldest of 4,096 makes room. -/
def State.keptRecords (s : State) : List Record := if 4096 ≤ s.hif.buf.length then s.hif.buf.tail else s.hif.buf

theorem State.keptRecords_eq_drop (h : s.hif.buf.length ≤ 4096) : s.keptRecords = s.hif.buf.drop (s.hif.buf.length - 4095) := by
  unfold State.keptRecords
  split
  case isTrue hfull => rw [show s.hif.buf.length - 4095 = 1 by omega, List.drop_one]
  case isFalse hroom => rw [show s.hif.buf.length - 4095 = 0 by omega, List.drop_zero]

variable (opcode status detail hseq : Nat) (res : List Byte) (consumed quiet : Bool) (vector : Option Nat) (waits : Bool)

/-- The record a report makes: the next DSEQ, the time of the cycle. -/
def State.nextRecord : Record :=
  ⟨opcode, status, detail, hseq, (s.regN Reg.HIF_LAST_DSEQ + 1) % 2 ^ 32, s.now, (res ++ zeros 12).take 12, consumed, quiet⟩

/-- The state in which record number `n` has entered the buffer `buf`, before what it loses is reported. -/
def State.enterRecord (buf : List Record) (out : List Delivery) (n : Nat) : State :=
  (({ s with hif := { s.hif with buf := buf, out := out } } : State).setRegN Reg.HIF_LAST_DSEQ n).setRegN Reg.HIF_OLDEST_DSEQ
    (if buf.length = 4096 then (n + 2 ^ 32 - 4095) % 2 ^ 32 else 1)

/-- The registers in which a new record shows beside its number. -/
def lossRegs : List Nat := [Reg.OBS_STATUS, Reg.HIF_RING_STATUS, Reg.HIF_MSIX_PBA_LO, Reg.HIF_MSIX_PBA_HI]

/-- A new record joins the kept ones; what else it reports touches neither the buffer nor the numbers. -/
theorem State.createRecord_enters : ∃ out,
    (s.createRecord opcode status detail hseq res consumed quiet vector waits).hif.buf =
      s.keptRecords ++ [s.nextRecord opcode status detail hseq res consumed quiet] ∧
    ∀ o, o ∉ lossRegs → (s.createRecord opcode status detail hseq res consumed quiet vector waits).reg o =
      (s.enterRecord (s.keptRecords ++ [s.nextRecord opcode status detail hseq res consumed quiet]) out
        ((s.regN Reg.HIF_LAST_DSEQ + 1) % 2 ^ 32)).reg o := by
  unfold State.createRecord
  extract_lets dseq rec_ full gone buf lost out src s1 s2 y s3
  have hbuf : s.keptRecords ++ [s.nextRecord opcode status detail hseq res consumed quiet] = buf := by
    simp only [buf, full, State.keptRecords, decide_eq_true_eq]
    rfl
  rw [hbuf]
  have ne : ∀ {o k}, o ∉ lossRegs → k ∈ lossRegs → o ≠ k := fun h hk e => h (e ▸ hk)
  have hs3 : s3.hif.buf = s2.hif.buf ∧ ∀ o, o ∉ lossRegs → s3.reg o = s2.reg o := by
    have hy : (if s.obs.stopped = true then y else y.count 14 5).hif = s2.hif ∧
        ∀ o, o ∉ lossRegs → (if s.obs.stopped = true then y else y.count 14 5).reg o = s2.reg o := by
      have hset : ∀ o, o ∉ lossRegs → y.reg o = s2.reg o := fun o ho => State.reg_setBit_ne _ _ _ _ (ne ho (by decide)).symm
      split <;> exact ⟨rfl, hset⟩
    simp only [s3]
    split
    · refine ⟨by rw [State.signal_buf, hy.1], fun o ho => ?_⟩
      rw [State.reg_signal_ne _ _ (ne ho (by decide)) (ne ho (by decide)), hy.2 o ho]
    · exact ⟨rfl, fun _ _ => rfl⟩
  obtain ⟨_, _, _, hemit, hreg⟩ := State.emit_frame (s3.count 14 4) (some 2) 0x21 0 opcode
    ([BitVec.ofNat 8 status, BitVec.ofNat 8 detail] ++ zeros 2 ++ leBytes 4 dseq) (if waits then some [] else none)
  refine ⟨out ++ [⟨rec_, false, vector⟩], ?_⟩
  split
  · exact hs3
  · exact ⟨by rw [hemit]; exact hs3.1, fun o ho => (hreg o (ne ho (by decide))).trans (hs3.2 o ho)⟩

theorem State.createRecord_buf : (s.createRecord opcode status detail hseq res consumed quiet vector waits).hif.buf =
    s.keptRecords ++ [s.nextRecord opcode status detail hseq res consumed quiet] := by
  obtain ⟨_, h, -⟩ := State.createRecord_enters s opcode status detail hseq res consumed quiet vector waits
  exact h

theorem State.createRecord_lastDseq : (s.createRecord opcode status detail hseq res consumed quiet vector waits).regN Reg.HIF_LAST_DSEQ =
    (s.regN Reg.HIF_LAST_DSEQ + 1) % 2 ^ 32 := by
  obtain ⟨_, -, h⟩ := State.createRecord_enters s opcode status detail hseq res consumed quiet vector waits
  rw [State.regN, h _ (by decide), ← State.regN, State.enterRecord, State.regN_setRegN_ne _ _ _ _ (by decide), State.regN_setRegN_same,
    Nat.mod_mod]

theorem State.createRecord_oldestDseq :
    (s.createRecord opcode status detail hseq res consumed quiet vector waits).regN Reg.HIF_OLDEST_DSEQ =
      if (s.createRecord opcode status detail hseq res consumed quiet vector waits).hif.buf.length = 4096
      then ((s.regN Reg.HIF_LAST_DSEQ + 1) % 2 ^ 32 + 2 ^ 32 - 4095) % 2 ^ 32 else 1 := by
  obtain ⟨_, hbuf, h⟩ := State.createRecord_enters s opcode status detail hseq res consumed quiet vector waits
  rw [State.regN, h _ (by decide), ← State.regN, State.enterRecord, State.regN_setRegN_same, hbuf]
  split
  · exact Nat.mod_mod _ _
  · rfl

/-! ### The reply of a command -/

theorem State.answer_lastDseq (code : Nat) (p : CmdPacket) (r : Reply) :
    (s.answer code p r consumed).regN Reg.HIF_LAST_DSEQ = (s.regN Reg.HIF_LAST_DSEQ + 1) % 2 ^ 32 := by
  have reply : ∀ x : State, (x.replyRecord code r.status r.detail p.hseq r.result consumed (p.flags.testBit 0)).regN Reg.HIF_LAST_DSEQ =
      (x.regN Reg.HIF_LAST_DSEQ + 1) % 2 ^ 32 := fun x => by
    unfold State.replyRecord
    extract_lets y
    have hy := State.createRecord_lastDseq x code r.status r.detail p.hseq r.result consumed (p.flags.testBit 0)
      (if p.flags.testBit 0 = true then none else some 0) true
    split
    · exact hy
    · obtain ⟨_, h⟩ := State.countStatus_frame y (opUnit code) r.status
      rw [h]
      exact hy
  unfold State.answer
  extract_lets x
  have hx : x.regN Reg.HIF_LAST_DSEQ = s.regN Reg.HIF_LAST_DSEQ := by
    simp only [x]
    split <;> rfl
  rw [reply, hx]

end
end Sys2Proof.Machine
end

section
/-! PROOF. Sessions (R67, R72, R74 to R77): the entry state of a command that is not long, the meaning of each session command, and what a
session's end leaves. -/

namespace Sys2Proof.Machine

/-! ### The entry state of a command that is not long -/

section
variable {code : Nat} {o : OpSpec} (ho : opSpec code = some o) (hk : o.kind ≠ .long) (s : State) (p : CmdPacket)
include ho hk

/-- Before its meaning runs, a command that is not long has the control cores' work done and its HSEQ consumed. -/
theorem State.entry_of_not_long : s.entry code p =
    if outOfSequence code then s.ctlWork p.layer p.operator 2
    else (s.ctlWork p.layer p.operator 2).setRegN Reg.HIF_NEXT_HSEQ ((s.regN Reg.HIF_NEXT_HSEQ + 1) % 2 ^ 32) := by
  simp only [State.entry, ho, if_neg hk]

/-- Beside the HSEQ expected it has counted the control cores' work and drawn a free value. -/
theorem State.entry_frame : ∃ b r, s.entry code p = { s with obs := { s.obs with banks := b }, free := s.free + 1, regs := r } ∧
    ∀ x, x ≠ Reg.HIF_NEXT_HSEQ → (s.entry code p).reg x = s.reg x := by
  obtain ⟨b, h⟩ := State.ctlWork_frame s p.layer p.operator 2
  rw [State.entry_of_not_long ho hk]
  split
  · exact ⟨b, s.regs, h, fun x _ => State.reg_ctlWork s _ _ _ x⟩
  · exact ⟨b, _, by rw [h]; rfl, fun x hx => (State.reg_setReg_ne _ _ _ _ hx.symm).trans (State.reg_ctlWork s _ _ _ x)⟩

theorem State.entry_hif : (s.entry code p).hif = s.hif := by
  obtain ⟨_, _, h, -⟩ := State.entry_frame ho hk s p
  rw [h]

theorem State.entry_ccu : (s.entry code p).ccu = s.ccu := by
  obtain ⟨_, _, h, -⟩ := State.entry_frame ho hk s p
  rw [h]

theorem State.regN_entry {x : Nat} (hx : x ≠ Reg.HIF_NEXT_HSEQ) : (s.entry code p).regN x = s.regN x := by
  obtain ⟨_, _, -, h⟩ := State.entry_frame ho hk s p
  rw [State.regN, State.regN, h x hx]

theorem State.context_entry : (s.entry code p).context = s.context := by
  rw [State.context, State.context, State.fld, State.fld, State.regN_entry ho hk s p (by decide)]

end

/-! ### The meaning of each session command -/

section
variable {p : CmdPacket} {e : State}

theorem bodySessionOpen_of_free (ht : param p 16 1 ≤ 1) (hfree : e.context = 0 ∨ param p 16 1 = 1) :
    bodySessionOpen p e =
      (let c := if e.hif.lastContext = 65535 then 1 else e.hif.lastContext + 1
       (Reply.ok [(20, 2, c), (22, 2, 1), (24, 4, e.regN Reg.CRB_FW_VERSION), (28, 4, e.regN Reg.HIF_OLDEST_DSEQ)],
        (({ e with hif := { e.hif with lastContext := c } } : State).setRegN Reg.HIF_CONTEXT c).setRegN Reg.HIF_NEXT_HSEQ
          ((p.hseq + 1) % 2 ^ 32))) := by
  have hbusy : ¬ (e.context ≠ 0 ∧ param p 16 1 = 0) := by omega
  rw [bodySessionOpen, if_neg (Nat.not_lt.2 ht), if_neg hbusy]

/-- The place of a DSEQ, counted from the oldest retained one. -/
def State.dseqPlace (e : State) (first : Nat) : Nat := (first + 2 ^ 32 - e.regN Reg.HIF_OLDEST_DSEQ) % 2 ^ 32

theorem bodyReplay_eq (h1 : 1 ≤ param p 20 2) (h2 : param p 20 2 ≤ 4096) :
    bodyReplay p e =
      (let first := param p 16 4; let count := param p 20 2; let k := e.dseqPlace first; let quiet := p.flags.testBit 0
       if k < e.hif.buf.length then
         (⟨St.ok, 0, result [(20, 4, first), (24, 2, ((e.hif.buf.drop k).take count).length)]⟩,
           e.copies quiet ((e.hif.buf.drop k).take count))
       else if 2 ^ 31 ≤ k then
         (⟨St.ok, 1, result [(20, 4, e.regN Reg.HIF_OLDEST_DSEQ), (24, 2, (e.hif.buf.take count).length)]⟩,
           e.copies quiet (e.hif.buf.take count))
       else (⟨St.ok, 2, zeros 12⟩, e)) := by
  rw [bodyReplay, if_neg (by omega)]
  rfl

end

/-- The Result of a record is its first 12 bytes, filled up with zeros. -/
theorem Recorded.of_result {e t : State} {opcode status detail hseq : Nat} {res res' : List Byte} {consumed quiet : Bool}
    (h : Recorded e opcode status detail hseq res consumed quiet t) (hres : (res' ++ zeros 12).take 12 = (res ++ zeros 12).take 12) :
    Recorded e opcode status detail hseq res' consumed quiet t := by
  obtain ⟨hlast, hsame⟩ := h
  exact ⟨hres ▸ hlast, hsame⟩

theorem take_zeros_take (l : List Byte) (n : Nat) : (l.take n ++ zeros n).take n = ((l ++ zeros n).take n ++ zeros n).take n := by
  simp only [List.take_append, List.take_take, zeros, List.length_take, List.length_append, List.length_replicate, List.take_replicate]
  rcases Nat.le_total n l.length with h | h
  · simp [h]
  · simp [h]

/-- Settles O15, one command after the other: each is its opcode's meaning in the entry state, replied. -/
theorem sessionCommandsComplete : Obligations.SessionCommandsComplete := by
  refine ⟨fun p s ha ht hfree => ?opened, fun p s ha => ?closed, fun p s ha => ?queried, fun p s ha h1 h2 => ?replayed,
    fun p s ha => ?nop, fun code p s ha hundef hcode => ?undefined⟩
  case opened =>
    have hb := bodySessionOpen_of_free (e := s.entry 0x0101 p) ht (hfree.imp_left ((State.context_entry rfl (by decide) s p).trans ·))
    have hlast : (s.entry 0x0101 p).hif.lastContext = s.hif.lastContext := by rw [State.entry_hif rfl (by decide)]
    rw [hlast, State.regN_entry rfl (by decide) s p (by decide), State.regN_entry rfl (by decide) s p (by decide)] at hb
    exact ⟨_, rfl, command_admitted ha rfl hb rfl nofun⟩
  case closed => exact ⟨_, rfl, command_replied ha rfl (rfl : bodySessionClose p _ = _) rfl rfl nofun⟩
  case queried =>
    have hb : bodySessionQuery p (s.entry 0x0103 p) =
        (Reply.ok [(20, 4, s.regN Reg.HIF_NEXT_HSEQ), (24, 4, s.regN Reg.HIF_LAST_DSEQ), (28, 2, s.context), (30, 2, s.residentMask)],
          if param p 16 8 = 0 then s.entry 0x0103 p
          else (s.entry 0x0103 p).hostSt (param p 16 8) (s.entry 0x0103 p).snapshotBytes) := by
      obtain ⟨_, h⟩ := State.ctlWork_frame s p.layer p.operator 2
      rw [State.entry_of_not_long rfl (by decide), h]
      rfl
    exact ⟨_, rfl, command_admitted ha rfl hb rfl nofun⟩
  case replayed =>
    have hb := bodyReplay_eq (e := s.entry 0x0104 p) h1 h2
    have hold := State.regN_entry rfl (by decide) (code := 0x0104) s p (x := Reg.HIF_OLDEST_DSEQ) (by decide)
    simp only [State.dseqPlace, hold, State.entry_hif (code := 0x0104) rfl (by decide) s p] at hb
    refine ⟨_, rfl, fun hk => ?_, fun hk hlo => ?_, fun hk hhi => ?_⟩
    · exact command_replied ha rfl (hb.trans (if_pos hk)) rfl rfl nofun
    · exact command_replied ha rfl (hb.trans ((if_neg (Nat.not_lt.2 hk)).trans (if_pos hlo))) rfl rfl nofun
    · exact command_replied ha rfl (hb.trans ((if_neg (Nat.not_lt.2 hk)).trans (if_neg (Nat.not_le.2 hhi)))) rfl rfl nofun
  case nop =>
    have hrec : Replied (s.entry 0x0105 p) 0x0105 p St.ok 0 ((p.params ++ zeros 12).take 12) (command 0x0105 p s) :=
      command_replied ha rfl rfl rfl rfl nofun
    exact ⟨_, rfl, hrec.of_result (take_zeros_take p.params 12)⟩
  case undefined =>
    have hexec : exec (.badOpcode code p) s = .next (command code p s) := by
      show Host.Outcome.next (if (opSpec code).isSome ∨ 65536 ≤ code then s else command code p s) = _
      rw [if_neg (by simp [hundef, hcode])]
    exact ⟨_, hexec, command_undefined ha hundef⟩

end Sys2Proof.Machine
end

section
/-! PROOF. Sessions and the numbers of records (R72, R76): a command that is not long is answered by one record, the next in number. -/

namespace Sys2Proof.Machine

/-! ### What a report leaves -/

section
variable {e t : State} (h : SameButReport e t)
include h

/-- Beside its report a state differs from the one reported on in the host interface, the registers and what is observed. -/
theorem SameButReport.frame : ∃ hif regs obs, t = { e with hif := hif, regs := regs, obs := obs } := ⟨_, _, _, h.1⟩

theorem SameButReport.func (id : Nat) : t.func id = e.func id := by
  obtain ⟨_, _, _, ht⟩ := h.frame
  rw [ht]
  rfl

theorem SameButReport.brake : t.obs.brake = e.obs.brake := by rw [h.1]

end

/-! ### A packet that passes the checks of Table 3.5 -/

section
variable {s : State} {code : Nat} {p : CmdPacket}

theorem State.passes_spec (h : s.passes code p = true) :
    (s.alive = true ∧ s.isReady = true ∧ s.crb.barUp = true ∧ s.hif.waiting = []) ∧
      (s.isBraked = false ∧ s.pairPrimary = false ∧ s.fenced p = false) ∧
      (outOfSequence code = true ∨ s.context ≠ 0 ∧ p.context = s.context ∧ p.hseq = s.regN Reg.HIF_NEXT_HSEQ) ∧
      headerRefusal (opSpec code) p = none ∧ s.familyRefusal true code = none := by
  simp only [State.passes, Bool.and_eq_true, Bool.or_eq_true, Bool.not_eq_true', Option.isNone_iff_eq_none, List.isEmpty_iff, bne_iff_ne,
    beq_iff_eq] at h
  obtain ⟨⟨⟨⟨⟨⟨⟨⟨⟨⟨ha, hr⟩, hb⟩, hw⟩, hbrk⟩, hprim⟩, hfen⟩, hseq⟩, hhdr⟩, hfam⟩, -⟩ := h
  exact ⟨⟨ha, hr, hb, hw⟩, ⟨hbrk, hprim, hfen⟩, hseq.imp_right fun ⟨⟨h0, hc⟩, hq⟩ => ⟨h0, hc, hq⟩, hhdr, hfam⟩

variable {o : OpSpec} (ho : opSpec code = some o) (hk : o.kind ≠ .long)
include ho hk

/-- A packet that passes comes to the checks from step 3 on in its entry state. -/
theorem command_entered (h : s.passes code p = true) : command code p s = (s.entry code p).checked true (!outOfSequence code) code p := by
  obtain ⟨⟨ha, hr, hb, hw⟩, ⟨-, -, hfen⟩, hseq, -⟩ := State.passes_spec h
  rw [command_taken ha hr hb hw, State.entry_of_not_long ho hk]
  cases hoc : outOfSequence code with
  | true => exact State.take_out_of_sequence hoc (by simpa using hfen)
  | false =>
    obtain ⟨h0, hc, hq⟩ := hseq.resolve_left (by simp [hoc])
    rw [State.take_in_sequence hoc (by simpa using h0) (by simpa using hc) (by simpa using hq) (by simpa using hfen), State.regN_ctlWork]
    rfl

/-- A command that no common check refuses is answered as its opcode's meaning has it; an accepted one is traced before. -/
theorem State.checked_answers (hb : s.isBraked = false) (hh : headerRefusal (opSpec code) p = none)
    (hf : s.familyRefusal true code = none) (hp : s.pairPrimary = false) (consumed : Bool) :
    ∃ c, s.checked true consumed code p =
      (if refusal (opBody code p s).1.status then (opBody code p s).2 else (opBody code p s).2.traceCommand code p).answer code p
        (opBody code p s).1 c := by
  rw [ho] at hh
  simp only [State.checked, hb, ho, hh, hf, State.runBody, if_neg hk, hp, State.forwardCommand, Bool.not_false, Bool.or_true,
    Bool.true_or, if_true, Bool.false_eq_true, if_false]
  split
  · exact ⟨_, rfl⟩
  · exact ⟨_, rfl⟩

/-- A command that passes the checks and is not long makes one record, the next in number, where its meaning leaves the number. -/
theorem command_lastDseq (h : s.passes code p = true)
    (hbody : ∀ e, (opBody code p e).2.regN Reg.HIF_LAST_DSEQ = e.regN Reg.HIF_LAST_DSEQ) :
    (command code p s).regN Reg.HIF_LAST_DSEQ = (s.regN Reg.HIF_LAST_DSEQ + 1) % 2 ^ 32 := by
  obtain ⟨-, ⟨hbrk, hprim, -⟩, -, hhdr, hfam⟩ := State.passes_spec h
  obtain ⟨b, r, he, hr⟩ := State.entry_frame ho hk s p
  have hfunc : (s.entry code p).func tdmFunc = s.func tdmFunc := by
    rw [he]
    rfl
  obtain ⟨c, hc⟩ := State.checked_answers ho hk (s := s.entry code p) (p := p) (by rw [he]; exact hbrk) hhdr
    ((State.familyRefusal_congr hr hfunc true code).trans hfam) ((State.pairPrimary_congr (hr _ (by decide)) hfunc).trans hprim)
    (!outOfSequence code)
  have htrace : ∀ x : State, (x.traceCommand code p).regN Reg.HIF_LAST_DSEQ = x.regN Reg.HIF_LAST_DSEQ := fun x => by
    obtain ⟨_, _, _, -, hx⟩ := State.traceCommand_frame x code p
    rw [State.regN, State.regN, hx _ (by decide)]
  rw [command_entered ho hk h, hc, State.answer_lastDseq, ← State.regN_entry ho hk s p (by decide), ← hbody (s.entry code p)]
  split
  · rfl
  · rw [htrace]

end

/-! ### What opening and closing a session leave -/

theorem bodySessionOpen_lastDseq (p : CmdPacket) (e : State) :
    (bodySessionOpen p e).2.regN Reg.HIF_LAST_DSEQ = e.regN Reg.HIF_LAST_DSEQ := by
  by_cases ht : param p 16 1 ≤ 1
  · by_cases hfree : e.context = 0 ∨ param p 16 1 = 1
    · rw [bodySessionOpen_of_free ht hfree]
      exact (State.regN_setRegN_ne _ _ _ _ (by decide)).trans (State.regN_setRegN_ne _ _ _ _ (by decide))
    · rw [bodySessionOpen, if_neg (Nat.not_lt.2 ht), if_pos (by omega)]
  · rw [bodySessionOpen, if_pos (Nat.not_le.1 ht)]

theorem bodySessionClose_lastDseq (p : CmdPacket) (e : State) :
    (bodySessionClose p e).2.regN Reg.HIF_LAST_DSEQ = e.regN Reg.HIF_LAST_DSEQ :=
  State.regN_setRegN_ne _ _ _ _ (by decide)

/-- Settles O10: a record's number and its buffer are what its making says, and a session command makes one record. -/
theorem recordsNumbered : Obligations.RecordsNumbered := by
  refine ⟨fun s opcode status detail hseq res consumed quiet vector hlen => ?_, fun p s code row hrow ha => ?_, rfl, rfl⟩
  · have hold := State.createRecord_oldestDseq s opcode status detail hseq res consumed quiet vector true
    refine ⟨State.createRecord_lastDseq .., ?_, fun hfull => hold.trans (if_pos hfull),
      fun hroom => hold.trans (if_neg (Nat.ne_of_lt hroom))⟩
    rw [State.createRecord_buf, State.keptRecords_eq_drop s hlen]
    rfl
  · obtain ⟨hpass, -⟩ := Bool.and_eq_true_iff.1 ha
    simp only [List.mem_cons, Prod.mk.injEq, List.not_mem_nil, or_false] at hrow
    rcases hrow with ⟨rfl, rfl⟩ | ⟨rfl, rfl⟩
    · exact ⟨_, rfl, command_lastDseq rfl nofun hpass (bodySessionOpen_lastDseq p)⟩
    · exact ⟨_, rfl, command_lastDseq rfl nofun hpass (bodySessionClose_lastDseq p)⟩

/-- Settles O9: what closing leaves is the frame of its reply; a packet without a session fails the sequence checks. -/
theorem sessionCloseEnds : Obligations.SessionCloseEnds := by
  obtain ⟨opened, closed, queried, -⟩ := sessionCommandsComplete
  refine ⟨fun p s ha => ?close, fun s code p row hrow ha hr hb hw h0 => ?refused, fun p s h0 ha ht => ?reopen, fun p s h0 ha => ?query⟩
  case close =>
    obtain ⟨t, hexec, -, hsame⟩ := closed p s ha
    obtain ⟨_, _, he, -⟩ := State.entry_frame (code := 0x0102) rfl nofun s p
    have hctx : t.regN Reg.HIF_CONTEXT = 0 := by
      rw [State.regN, hsame.2 _ (by decide), ← State.regN, State.regN_setRegN_same]
      rfl
    obtain ⟨_, _, _, ht⟩ := hsame.frame
    refine ⟨t, hexec, hctx, ?_⟩
    rw [ht, he]
    exact ⟨rfl, rfl, rfl, rfl, rfl, rfl, rfl, rfl, rfl, rfl, rfl, rfl, rfl, rfl, rfl⟩
  case refused =>
    obtain ⟨t, hexec, hnone, -⟩ := sequenceChecks s code p row hrow ha hr hb hw
    exact ⟨t, hexec, hnone h0⟩
  case reopen =>
    obtain ⟨t, hexec, hlast, -⟩ := opened p s ha ht (.inl h0)
    exact ⟨t, _, hexec, hlast, rfl⟩
  case query =>
    obtain ⟨t, hexec, hlast, -⟩ := queried p s ha
    exact ⟨t, _, hexec, hlast, rfl⟩

end Sys2Proof.Machine
end

section
/-! PROOF. Function commands (R83): what an enable and a disable note in a function, and the meaning of each opcode where no check refuses
it. -/

namespace Sys2Proof.Machine

/-! ### What an enable and a disable note in a function -/

section
variable {s : State} {id : Nat}

/-- A change of a function is what it makes of the function as it stands. -/
theorem State.updFunc_congr {f g : Func → Func} (h : f (s.func id) = g (s.func id)) : s.updFunc id f = s.updFunc id g := by
  have hu : SMap.upd Func.reset s.ccu.funcs id f = SMap.upd Func.reset s.ccu.funcs id g := congrArg (SMap.set s.ccu.funcs id) h
  unfold State.updFunc
  rw [hu]

theorem State.funcEnable_off (h : (s.func id).life = .off) :
    s.funcEnable id = (s.updFunc id (fun f => { f with accepted := some true }), false) := by
  simp only [State.funcEnable, h]

theorem State.funcEnable_draining (h : (s.func id).life = .draining) :
    s.funcEnable id = (s.updFunc id (fun f => { f with enablePending := true }), true) := by
  simp only [State.funcEnable, h]

theorem State.funcEnable_active (h : (s.func id).life = .starting ∨ (s.func id).life = .on) :
    s.funcEnable id = (s.updFunc id (fun f => { f with accepted := none }), false) := by
  rcases h with h | h <;> simp only [State.funcEnable, h]

theorem State.funcDisable_active (h : (s.func id).life = .starting ∨ (s.func id).life = .on) :
    s.funcDisable id = s.updFunc id (fun f => { f with enablePending := false, accepted := some false }) :=
  State.updFunc_congr (by rcases h with h | h <;> simp only [h])

theorem State.funcDisable_inactive (h : (s.func id).life = .off ∨ (s.func id).life = .draining) :
    s.funcDisable id = s.updFunc id (fun f => { f with enablePending := false, accepted := none }) :=
  State.updFunc_congr (by rcases h with h | h <;> simp only [h])

/-- The Result's fields that show function `id` as `f`. -/
def funcReply (id : Nat) (f : Func) : List (Nat × Nat × Nat) := [(20, 2, id), (22, 1, f.life.code), (23, 1, b2n f.enablePending)]

/-- A FUNC_ID from 16 on names a function of its own, not a Route slot. -/
theorem State.lifeOf_func (s : State) (h : 16 ≤ id) : s.lifeOf id = (s.func id).life := if_neg (Nat.not_lt.2 h)

theorem State.funcFields_func (s : State) (h : 16 ≤ id) : s.funcFields id = funcReply id (s.func id) := by
  have hp : s.pendingOf id = (s.func id).enablePending := if_neg (Nat.not_lt.2 h)
  rw [State.funcFields, State.lifeOf_func s h, hp, funcReply]

/-- The Result of FUNC_ENABLE and FUNC_DISABLE shows the function as the command leaves it. -/
theorem State.funcFields_updFunc (s : State) (h : 16 ≤ id) (f : Func → Func) :
    (s.updFunc id f).funcFields id = funcReply id (f (s.func id)) := by
  rw [State.funcFields_func _ h, State.func_updFunc_same]

/-- FUNC_ENABLE refuses the Route slots' FUNC_IDs. -/
theorem State.funcEnableRefusal_none (h : s.funcEnableRefusal id = none) : 16 ≤ id := by
  by_contra hlt
  rw [State.funcEnableRefusal, if_pos (Nat.not_le.1 hlt)] at h
  split at h <;> cases h

end

/-! ### The meaning of each opcode, where no check refuses it -/

section
variable {p : CmdPacket} {e : State} {f : Func → Func}

theorem bodyFuncEnable_of_passing (hok : e.funcEnableRefusal (param p 16 2) = none) {b : Bool}
    (hf : e.funcEnable (param p 16 2) = (e.updFunc (param p 16 2) f, b)) :
    bodyFuncEnable p e = (⟨if b then St.pending else St.ok, 0, result (funcReply (param p 16 2) (f (e.func (param p 16 2))))⟩,
      e.updFunc (param p 16 2) f) := by
  simp only [bodyFuncEnable, hok, hf, State.funcFields_updFunc e (State.funcEnableRefusal_none hok)]

/-- No Route that uses the function stands in the way of FUNC_DISABLE while every slot is OFF. -/
theorem bodyFuncDisable_of_slotsOff (hdef : funcDefined (param p 16 2) = true) (hid : 16 ≤ param p 16 2)
    (hoff : ∀ n, n < 16 → (e.slot n).life = .off) (hf : e.funcDisable (param p 16 2) = e.updFunc (param p 16 2) f) :
    bodyFuncDisable p e = (Reply.ok (funcReply (param p 16 2) (f (e.func (param p 16 2)))), e.updFunc (param p 16 2) f) := by
  have hfree : slotList.any (fun n => (e.slot n).life.active && usesFunc (e.img n) (param p 16 2)) = false := by
    refine List.any_eq_false.2 fun n hn => ?_
    simp [hoff n (List.mem_range.1 hn), Life.active]
  rw [bodyFuncDisable, if_neg (by simp [hdef]), if_neg (Nat.not_lt.2 hid), if_neg (by simp [hfree]), hf]
  simp only [State.funcFields_updFunc e hid]

theorem bodyFuncQuery_of_defined (hdef : funcDefined (param p 16 2) = true) (hid : 16 ≤ param p 16 2) :
    bodyFuncQuery p e = (Reply.ok (funcReply (param p 16 2) (e.func (param p 16 2)) ++
      [(24, 8, (e.func (param p 16 2)).lastTransition)]), e) := by
  rw [bodyFuncQuery, if_neg (by simp [hdef]), State.funcFields_func e hid, if_neg (Nat.not_lt.2 hid)]

end

/-- Settles O16, one command after the other: each is its opcode's meaning in the entry state, replied. -/
theorem functionCommandsComplete : Obligations.FunctionCommandsComplete := by
  refine ⟨fun p s ha hok => ?enable, fun p s ha hdef hid hoff => ?disable, fun p s ha hdef hid => ?query⟩
  case enable =>
    have body {f : Func → Func} {b : Bool} := bodyFuncEnable_of_passing hok (f := f) (b := b)
    refine ⟨_, rfl, fun hl => ?_, fun hl => ?_, fun hl => ?_⟩
    · exact command_replied ha rfl (body (State.funcEnable_off hl) :) rfl rfl nofun
    · exact command_replied ha rfl (body (State.funcEnable_active hl) :) rfl rfl nofun
    · exact command_replied ha rfl (body (State.funcEnable_draining hl) :) rfl rfl nofun
  case disable =>
    have body {f : Func → Func} := bodyFuncDisable_of_slotsOff hdef hid hoff (f := f)
    refine ⟨_, rfl, fun hl => ?_, fun hl => ?_⟩
    · exact command_replied ha rfl (body (State.funcDisable_active hl) :) rfl rfl nofun
    · exact command_replied ha rfl (body (State.funcDisable_inactive hl) :) rfl rfl nofun
  case query => exact ⟨_, rfl, command_replied ha rfl (bodyFuncQuery_of_defined hdef hid) rfl rfl nofun⟩

end Sys2Proof.Machine
end

section
/-! PROOF. Sensor commands (R83, R108, R118, R128): the meaning of each opcode where none of its checks refuses it. -/

namespace Sys2Proof.Machine

section
variable {p : CmdPacket} {e : State}

theorem bodySensorConfig_of_passing (hdef : funcDefined (param p 16 2) = true) (hok : e.sensorRefusal (param p 16 2) p.ext = none) :
    bodySensorConfig p e = (Reply.ok [(20, 2, param p 16 2)], e.takeSensor (param p 16 2) p.ext) := by
  simp [bodySensorConfig, hdef, hok]

/-- A sensor that takes its descriptor is configured. -/
theorem State.configured_takeSensor (s : State) (id : Nat) (d : List Byte) : ((s.takeSensor id d).func id).configured = true := by
  have hcfg : ((s.updFunc id (fun f => { f with configured := true })).func id).configured = true := by rw [State.func_updFunc_same]
  unfold State.takeSensor
  extract_lets s1
  split
  · exact hcfg
  split
  · exact hcfg
  · exact hcfg

/-- An active context of FUS names the sensor in one of its entries. -/
def State.fusNamed (e : State) (id : Nat) : Bool :=
  e.fus.ctxs.any (fun x => x.2.on && (List.range (2 * x.2.entries.length)).any (fun k => x.2.funcOf k == id))

theorem bodySensorQuery_of_sensor (hdef : funcDefined (param p 16 2) = true) (hsen : isSensor (param p 16 2) = true) :
    bodySensorQuery p e =
      (let id := param p 16 2; let n := SMap.get (0, 0) e.fus.last id
       (Reply.ok [(20, 2, id), (22, 1, (e.func id).life.code), (23, 1, if e.fusNamed id then e.voteState id else 0), (24, 4, n.1),
         (28, 4, if e.fusNamed id then n.2 else 0)], e)) := by
  have hid : 16 ≤ param p 16 2 := by
    simp only [isSensor, Bool.and_eq_true, decide_eq_true_eq] at hsen
    exact hsen.1
  rw [bodySensorQuery, if_neg (by simp [hdef]), if_neg (by simp [hsen]), State.lifeOf_func e hid]
  rfl

theorem bodyMirageConfig_of_passing (hid : (rng (param p 16 2) 0x010 0x01F || rng (param p 16 2) 0x058 0x067) = true)
    (hk : rng (param p 18 1) 1 15 = true) (hm : rng (param p 19 1) 1 255 = true) :
    bodyMirageConfig p e = (Reply.ok [(20, 2, param p 16 2)],
      { e with fus := { e.fus with mirage := SMap.set e.fus.mirage (param p 16 2) (param p 18 1, param p 19 1) } }) := by
  rw [bodyMirageConfig, if_neg (by simp [hid]), if_neg (by simp [hk, hm])]

theorem bodyLidarTemplate_of_passing (hj : param p 16 1 ≤ 7) (hoff : (e.func (lidarFunc (param p 16 1))).life = .off)
    (hok : lidarDescOk p.ext = true) :
    bodyLidarTemplate p e = (Reply.ok [(20, 1, param p 16 1)],
      (e.setLidar (param p 16 1) { e.lidar (param p 16 1) with desc := p.ext }).updFunc (lidarFunc (param p 16 1))
        (fun f => { f with configured := true })) := by
  rw [bodyLidarTemplate, if_neg (Nat.not_lt.2 hj), if_neg (by simp [hoff]), if_neg (by simp [hok])]

theorem bodyDecConfig_of_passing (hok : e.decRefusal (param p 16 1) p.ext = none) :
    bodyDecConfig p e =
      (let t := e.setCh (param p 16 1) { e.ch (param p 16 1) with setting := p.ext }
       (Reply.ok [(20, 1, param p 16 1), (24, 4, (t.groupDelay (param p 16 1) 0).toNat)], t)) := by
  simp only [bodyDecConfig, hok, State.takeSetting]

end

/-- Settles O18, one command after the other: each is its opcode's meaning in the entry state, replied. -/
theorem sensorCommandsComplete : Obligations.SensorCommandsComplete := by
  refine ⟨fun p s ha hdef hok => ?config, fun p s ha hdef hsen => ?query, fun p s ha hid hk1 hk2 hm1 hm2 => ?mirage,
    fun p s ha hj hoff hok => ?lidar, fun p s ha hok => ?dec⟩
  case config =>
    have hrep : Replied ((s.entry 0x0301 p).takeSensor (param p 16 2) p.ext) 0x0301 p St.ok 0 (result [(20, 2, param p 16 2)])
        (command 0x0301 p s) := command_replied ha rfl (bodySensorConfig_of_passing hdef hok) rfl rfl nofun
    exact ⟨_, rfl, hrep, (congrArg Func.configured (hrep.2.func _)).trans (State.configured_takeSensor ..)⟩
  case query => exact ⟨_, rfl, command_replied ha rfl (bodySensorQuery_of_sensor hdef hsen) rfl rfl nofun⟩
  case mirage =>
    have hk : rng (param p 18 1) 1 15 = true := by simp [rng, hk1, hk2]
    have hm : rng (param p 19 1) 1 255 = true := by simp [rng, hm1, hm2]
    exact ⟨_, rfl, command_replied ha rfl (bodyMirageConfig_of_passing hid hk hm) rfl rfl nofun⟩
  case lidar => exact ⟨_, rfl, command_replied ha rfl (bodyLidarTemplate_of_passing hj hoff hok) rfl rfl nofun⟩
  case dec => exact ⟨_, rfl, command_replied ha rfl (bodyDecConfig_of_passing hok) rfl rfl nofun⟩

end Sys2Proof.Machine
end

section
/-! PROOF. Observation commands (R79, R406, R409, R414, R422): the meaning of each opcode where none of its checks refuses it. -/

namespace Sys2Proof.Machine

section
variable {p : CmdPacket} {e : State}

theorem bodyCounterRead_of_subsystem (h1 : 1 ≤ param p 16 1) (h15 : param p 16 1 ≤ 15) :
    bodyCounterRead p e =
      (let x := e.bankOpen 15 0 p.layer p.operator 2 0xFF; let bs := x.counterBlock (param p 16 1); let n := ceilDiv bs.length 64
       let y := ((x.obsFlits n).chargePool 7 n 0 (some e.longKey)).hostSt (param p 24 8) bs
       (Reply.accepted, ((y.bankBusy 15 0 n).bankEnd 15 0).longDone e.longKey St.ok 0 (result [(20, 4, bs.length)]))) := by
  have hsub : rng (param p 16 1) 1 15 = true := by simp [rng, h1, h15]
  rw [bodyCounterRead, if_neg (by simp [hsub])]

/-- A monitor of descriptor `d` that begins in cadence `n`, both of its banks empty. -/
def freshMonitor (d : List Byte) (n : Nat) : Monitor :=
  ⟨d, { MonBank.reset with cadence := n }, { MonBank.reset with cadence := n }, 0, false, none⟩

theorem bodyMonitorConfig_of_valid (hm : param p 16 1 < 64) (hlen : p.ext.length = 64) (hsrc : leAt p.ext 0 1 ≤ 10)
    (hmode : leAt p.ext 1 1 < 8) (hshift : leAt p.ext 2 1 ≤ 33) (hzero : zeroIn p.ext 32 64 = true)
    (hsel : selectorOk (leAt p.ext 0 1) (leAt p.ext 4 2) (leAt p.ext 6 2) = true) :
    bodyMonitorConfig p e = (Reply.ok [(20, 1, param p 16 1)],
      { e with obs := { e.obs with monitors := SMap.set e.obs.monitors (param p 16 1) (freshMonitor p.ext e.ccu.cadence) } }) := by
  rw [bodyMonitorConfig, if_neg (by simp [hm, hlen, hsrc, hmode, hshift, hzero, hsel])]
  rfl

theorem bodyTraceConfig_of_passing (hok : e.traceRefusal p.ext = none) :
    bodyTraceConfig p e = (Reply.ok [], e.updTrace (fun x => { x with desc := p.ext })) := by
  unfold bodyTraceConfig
  rw [hok]

theorem bodyTensorDump_of_free (hlo : e.ccu.cadence < param p 28 8) (hhi : param p 28 8 ≤ e.ccu.cadence + 65536)
    (hlen : 16512 ≤ param p 24 4) (hroom : e.obs.dumps.length < 4)
    (hnew : ∀ d ∈ e.obs.dumps, ¬ (d.layer = p.layer ∧ d.operator = p.operator ∧ d.cadence = param p 28 8)) :
    bodyTensorDump p e = (Reply.accepted, ({ e with obs := { e.obs with dumps := e.obs.dumps ++
      [(⟨e.longKey, p.layer, p.operator, param p 28 8, param p 16 8, param p 24 4, [], false⟩ : Dump)] } } : State).showDumps) := by
  have hfree : ¬ (4 ≤ e.obs.dumps.length ∨
      e.obs.dumps.any (fun d => d.layer == p.layer && d.operator == p.operator && d.cadence == param p 28 8) = true) := by
    rintro (hfull | hany)
    · omega
    · obtain ⟨d, hd, hsame⟩ := List.any_eq_true.1 hany
      simp only [Bool.and_eq_true, beq_iff_eq] at hsame
      obtain ⟨⟨hlayer, hop⟩, hcad⟩ := hsame
      exact hnew d hd ⟨hlayer, hop, hcad⟩
  rw [bodyTensorDump, if_neg (by omega), if_neg (Nat.not_lt.2 hlen), if_neg hfree]

end

/-- An accepted BRAKE command of a part without a Brake source makes source 0 the first (R424). -/
theorem State.brake_entry (s : State) (p : CmdPacket) (ha : s.alive = true) (hb : s.obs.brake = none) (reason : Nat) :
    ((s.entry 0x0905 p).brakeSource 0 reason).obs.brake = some ⟨s.core, 1, 0, reason, true⟩ := by
  obtain ⟨_, hstop⟩ : s.crb.released = true ∧ s.obs.stopped = false := by simpa [State.alive] using ha
  obtain ⟨_, _, he, -⟩ := State.entry_frame (code := 0x0905) rfl nofun s p
  have hes : (s.entry 0x0905 p).obs.stopped = false := by
    rw [he]
    exact hstop
  have heb : (s.entry 0x0905 p).obs.brake = none := by
    rw [he]
    exact hb
  rw [State.brakeSource_first hes heb, he]
  rfl

/-- Settles O23, one command after the other: each is its opcode's meaning in the entry state, replied. -/
theorem observationCommandsComplete : Obligations.ObservationCommandsComplete := by
  refine ⟨fun p s ha h1 h15 => ?counters, fun p s ha hm hlen hsrc hmode hshift hzero hsel => ?monitor, fun p s ha hok => ?trace,
    fun p s ha hlo hhi hlen hroom hnew => ?dump, fun p s ha => ?brake⟩
  case counters => exact ⟨_, rfl, command_replied ha rfl (bodyCounterRead_of_subsystem h1 h15) rfl rfl (fun _ => rfl)⟩
  case monitor =>
    exact ⟨_, rfl, command_replied ha rfl (bodyMonitorConfig_of_valid hm hlen hsrc hmode hshift hzero hsel) rfl rfl nofun⟩
  case trace => exact ⟨_, rfl, command_replied ha rfl (bodyTraceConfig_of_passing hok) rfl rfl nofun⟩
  case dump => exact ⟨_, rfl, command_replied ha rfl (bodyTensorDump_of_free hlo hhi hlen hroom hnew) rfl rfl (fun _ => rfl)⟩
  case brake =>
    have hrep : Replied ((s.entry 0x0905 p).brakeSource 0 (param p 16 1)) 0x0905 p St.braked 0 (zeros 12) (command 0x0905 p s) :=
      command_replied ha rfl (rfl : bodyBrake p _ = _) rfl rfl nofun
    obtain ⟨⟨halive, -⟩, -⟩ := State.passes_spec (Bool.and_eq_true_iff.1 ha).1
    exact ⟨_, rfl, hrep, fun hb => hrep.2.brake.trans (State.brake_entry s p halive hb _)⟩

end Sys2Proof.Machine
end

section
/-! PROOF. Host ring registers and MSI-X entries (R58, R59, R61, R82, R459): where a host's write of each lands. -/

namespace Sys2Proof.Machine

variable {s : State}

/-! ### HIF_RPL_HEAD and HIF_CMD_TAIL -/

theorem State.regWrite_rplHead (s : State) {h : Nat} (hh : h < 2 ^ 32) :
    s.regWrite Reg.HIF_RPL_HEAD h 0xFFFFFFFF = s.setRegN Reg.HIF_RPL_HEAD h := by
  have hrow : regAt Reg.HIF_RPL_HEAD = some (regOne "HIF_RPL_HEAD" 0x12C 0x0 0xFFFFFFFF 0 0 0 0 0, 0, 0) := by decide +kernel
  rw [State.regWrite_hif hrow s h _ (by decide), RegRow.merge_word _ _ h rfl rfl rfl hh, writeHif, if_neg (by decide), if_neg (by decide),
    if_neg (by decide), if_neg (by decide)]

theorem State.regWrite_cmdTail (s : State) {n : Nat} (hn : n < 2 ^ 32) : s.regWrite Reg.HIF_CMD_TAIL n 0xFFFFFFFF = s.doorbell n := by
  have hrow : regAt Reg.HIF_CMD_TAIL = some (regOne "HIF_CMD_TAIL" 0x114 0x0 0xFFFFFFFF 0 0 0 0 0, 0, 0) := by decide +kernel
  rw [State.regWrite_hif hrow s n _ (by decide), RegRow.merge_word _ _ n rfl rfl rfl hn, writeHif, if_neg (by decide), if_neg (by decide),
    if_pos rfl]

theorem exec_hifRplHead (h : s.takes Reg.HIF_RPL_HEAD = true) {n : Nat} (hn : n < 2 ^ 32) :
    exec (.hifRplHead n) s = .next (s.tick.setRegN Reg.HIF_RPL_HEAD n).tick := by
  show Host.Outcome.next (hostSet Reg.HIF_RPL_HEAD n s) = _
  rw [hostSet_unpaired h (by decide), State.regWrite_rplHead _ hn]

/-- What the host has stored in its memory stands when its doorbell acts. -/
theorem exec_hifCmdTail (h : s.takes Reg.HIF_CMD_TAIL = true) {n : Nat} (hn : n < 2 ^ 32) (w : HostWrites) :
    exec (.hifCmdTail n w) s = .next ((({ s with host := s.host.writeAll w } : State).tick.doorbell n)).tick := by
  show Host.Outcome.next (hostSet Reg.HIF_CMD_TAIL n { s with host := s.host.writeAll w }) = _
  rw [hostSet_unpaired (off := Reg.HIF_CMD_TAIL) (s := { s with host := s.host.writeAll w }) h (by decide), State.regWrite_cmdTail _ hn]

theorem State.doorbell_within {x : State} {n : Nat} (h : (n + 2 ^ 32 - x.regN Reg.HIF_CMD_HEAD) % 2 ^ 32 ≤ x.cmdSlots) :
    x.doorbell n = (x.setRegN Reg.HIF_CMD_TAIL n).fetchAll := if_neg (Nat.not_lt.2 h)

theorem State.doorbell_beyond {x : State} {n : Nat} (h : x.cmdSlots < (n + 2 ^ 32 - x.regN Reg.HIF_CMD_HEAD) % 2 ^ 32) :
    x.doorbell n = x.setBit Reg.HIF_RING_STATUS 4 := if_pos h

/-! ### HIF_RING_CTRL.ENABLE (R61) -/

/-- A write of HIF_RING_CTRL lands, and a change of ENABLE acts. -/
theorem State.regWrite_ringCtrl (s : State) (v : Nat) : ∃ new, new.testBit 0 = v.testBit 0 ∧
    s.regWrite Reg.HIF_RING_CTRL v 0xFFFFFFFF =
      (s.setRegN Reg.HIF_RING_CTRL new).ringSwitch (s.bitOf Reg.HIF_RING_CTRL 0) (v.testBit 0) := by
  have hrow : regAt Reg.HIF_RING_CTRL = some (regOne "HIF_RING_CTRL" 0x100 0x0 0x3 0 0 0 0 0, 0, 0) := by decide +kernel
  have hbit := RegRow.testBit_merge_rw (regOne "HIF_RING_CTRL" 0x100 0x0 0x3 0 0 0 0 0) (s.reg Reg.HIF_RING_CTRL) v (i := 0) (by decide)
    (by decide) (by decide) (by decide)
  refine ⟨_, hbit, ?_⟩
  rw [State.regWrite_hif hrow s v _ (by decide), writeHif, if_neg (by decide), if_pos rfl, hbit]

theorem State.ringSwitch_enable (x : State) : x.ringSwitch false true =
    (x.setRegN Reg.HIF_CMD_HEAD (x.regN Reg.HIF_CMD_TAIL)).setRegN Reg.HIF_RPL_TAIL
      ((x.setRegN Reg.HIF_CMD_HEAD (x.regN Reg.HIF_CMD_TAIL)).regN Reg.HIF_RPL_HEAD) := by
  rw [State.regN_setRegN_ne _ _ _ _ (by decide)]
  rfl

theorem State.ringSwitch_disable (x : State) (was : Bool) : x.ringSwitch was false = x := rfl

theorem State.bitOf_setRegN (x : State) {o v i : Nat} (hi : i < 32) : (x.setRegN o v).bitOf o i = v.testBit i := by
  rw [State.bitOf, State.regN_setRegN_same, Nat.testBit_mod_two_pow]
  simp [hi]

/-- A register takes another one's word whole. -/
theorem State.reg_setRegN_regN (x y : State) (o o' : Nat) : (x.setRegN o (y.regN o')).reg o = y.reg o' := by
  rw [State.setRegN, State.reg_setReg_same, State.regN, BitVec.ofNat_toNat, BitVec.setWidth_eq]

theorem exec_ringEnable (h : s.takes Reg.HIF_RING_CTRL = true) (hoff : s.bitOf Reg.HIF_RING_CTRL 0 = false) :
    ∃ t : State, exec .ringEnable s = .next t.tick ∧ t = { s.tick with regs := t.regs } ∧ t.bitOf Reg.HIF_RING_CTRL 0 = true ∧
      t.reg Reg.HIF_CMD_HEAD = s.reg Reg.HIF_CMD_TAIL ∧ t.reg Reg.HIF_RPL_TAIL = s.reg Reg.HIF_RPL_HEAD ∧
      ∀ o, o ≠ Reg.HIF_RING_CTRL → o ≠ Reg.HIF_CMD_HEAD → o ≠ Reg.HIF_RPL_TAIL → t.reg o = s.reg o := by
  have hbit : (s.regN Reg.HIF_RING_CTRL ||| 1).testBit 0 = true := by simp
  obtain ⟨new, hnew, hw⟩ := State.regWrite_ringCtrl s.tick (s.regN Reg.HIF_RING_CTRL ||| 1)
  rw [hbit] at hnew hw
  rw [State.bitOf_tick, hoff, State.ringSwitch_enable] at hw
  have ctrl : ∀ o, o ≠ Reg.HIF_RING_CTRL → (s.tick.setRegN Reg.HIF_RING_CTRL new).reg o = s.reg o := fun o ho =>
    (State.reg_setReg_ne _ _ _ _ ho.symm).trans (State.reg_tick s o)
  have head : ∀ (x : State) (v o : Nat), o ≠ Reg.HIF_CMD_HEAD → (x.setRegN Reg.HIF_CMD_HEAD v).reg o = x.reg o := fun x v o ho =>
    State.reg_setReg_ne _ _ _ _ ho.symm
  have tail : ∀ (x : State) (v o : Nat), o ≠ Reg.HIF_RPL_TAIL → (x.setRegN Reg.HIF_RPL_TAIL v).reg o = x.reg o := fun x v o ho =>
    State.reg_setReg_ne _ _ _ _ ho.symm
  refine ⟨s.tick.regWrite Reg.HIF_RING_CTRL (s.regN Reg.HIF_RING_CTRL ||| 1) 0xFFFFFFFF,
    congrArg Host.Outcome.next (hostSet_unpaired h (by decide) _), ?_⟩
  rw [hw]
  refine ⟨rfl, ?_, ?_, ?_, fun o h1 h2 h3 => ?_⟩
  · rw [State.bitOf_congr (tail _ _ _ (by decide)), State.bitOf_congr (head _ _ _ (by decide)), State.bitOf_setRegN _ (by decide), hnew]
  · rw [tail _ _ _ (by decide), State.reg_setRegN_regN, ctrl _ (by decide)]
  · rw [State.reg_setRegN_regN, head _ _ _ (by decide), ctrl _ (by decide)]
  · rw [tail _ _ _ h3, head _ _ _ h2, ctrl _ h1]

theorem exec_ringDisable (h : s.takes Reg.HIF_RING_CTRL = true) :
    ∃ t : State, exec .ringDisable s = .next t.tick ∧ t = { s.tick with regs := t.regs } ∧ t.bitOf Reg.HIF_RING_CTRL 0 = false ∧
      ∀ o, o ≠ Reg.HIF_RING_CTRL → t.reg o = s.reg o := by
  have hbit : (putBits (s.regN Reg.HIF_RING_CTRL) 0 1 0).testBit 0 = false := by rw [testBit_putBits]; rfl
  obtain ⟨new, hnew, hw⟩ := State.regWrite_ringCtrl s.tick (putBits (s.regN Reg.HIF_RING_CTRL) 0 1 0)
  rw [hbit] at hnew hw
  rw [State.ringSwitch_disable] at hw
  refine ⟨_, congrArg Host.Outcome.next (hostSet_unpaired h (by decide) _), ?_⟩
  rw [hw]
  exact ⟨rfl, (State.bitOf_setRegN _ (by decide)).trans hnew,
    fun o ho => (State.reg_setReg_ne _ _ _ _ ho.symm).trans (State.reg_tick s o)⟩

/-! ### HIF_MSIX_CTRL (R459) -/

/-- A write of 0 unmasks a vector, and its pending message is sent. -/
theorem State.regWrite_msixCtrl (s : State) {v : Nat} (hv : v < 64) : ∃ new, new.testBit 0 = false ∧
    s.regWrite (Reg.HIF_MSIX_CTRL v) 0 0xFFFFFFFF = (s.setRegN (Reg.HIF_MSIX_CTRL v) new).msiRelease v := by
  have rows : ∀ v < 64, regAt (Reg.HIF_MSIX_CTRL v) = some (regArr "HIF_MSIX_CTRL" 0x800C 64 16 0x1 0x1 0 0 0 0 0, v, 0) := by
    decide +kernel
  have plain : ∀ v < 64, ringConfig.contains (Reg.HIF_MSIX_CTRL v) = false ∧ Reg.HIF_MSIX_CTRL v ≠ Reg.HIF_RING_CTRL ∧
      Reg.HIF_MSIX_CTRL v ≠ Reg.HIF_CMD_TAIL := by decide
  obtain ⟨hcfg, hring, htail⟩ := plain v hv
  have hb : Reg.HIF_MSIX_CTRL v / 0x100000 = 0 := by unfold Reg.HIF_MSIX_CTRL; omega
  have hmsix : Reg.HIF_MSIX_CTRL 0 ≤ Reg.HIF_MSIX_CTRL v ∧ Reg.HIF_MSIX_CTRL v ≤ Reg.HIF_MSIX_CTRL 63 ∧
      Reg.HIF_MSIX_CTRL v % 16 = 12 := by
    unfold Reg.HIF_MSIX_CTRL; omega
  have hvec : (Reg.HIF_MSIX_CTRL v - Reg.HIF_MSIX_CTRL 0) / 16 = v := by unfold Reg.HIF_MSIX_CTRL; omega
  refine ⟨_, RegRow.testBit_merge_rw (regArr "HIF_MSIX_CTRL" 0x800C 64 16 0x1 0x1 0 0 0 0 0) (s.reg (Reg.HIF_MSIX_CTRL v)) 0 (i := 0)
    (by decide) (by decide) (by decide) (by decide), ?_⟩
  rw [State.regWrite_hif (rows v hv) s 0 _ hb, writeHif, if_neg (by rw [hcfg]; decide), if_neg hring, if_neg htail, if_pos hmsix, hvec]

/-- A vector's pending bit is none of the MSI-X entries. -/
theorem State.msiPending_setMsixCtrl (s : State) (v k w : Nat) : (s.setRegN (Reg.HIF_MSIX_CTRL v) w).msiPending k = s.msiPending k := by
  have hlo : Reg.HIF_MSIX_CTRL v ≠ Reg.HIF_MSIX_PBA_LO := by unfold Reg.HIF_MSIX_CTRL Reg.HIF_MSIX_PBA_LO; omega
  have hhi : Reg.HIF_MSIX_CTRL v ≠ Reg.HIF_MSIX_PBA_HI := by unfold Reg.HIF_MSIX_CTRL Reg.HIF_MSIX_PBA_HI; omega
  simp only [State.msiPending, State.bitOf, State.regN_setRegN_ne _ _ _ _ hlo, State.regN_setRegN_ne _ _ _ _ hhi]

theorem State.msiRelease_idle {x : State} {v : Nat} (h : x.msiPending v = false) : x.msiRelease v = x := by
  rw [State.msiRelease, if_neg (by simp [h])]

theorem exec_msixUnmask {v : Nat} (h : s.takes (Reg.HIF_MSIX_CTRL v) = true) (hv : v < 64) (hp : s.msiPending v = false) :
    ∃ t : State, exec (.msixUnmask v) s = .next t.tick ∧ t = { s.tick with regs := t.regs } ∧
      t.bitOf (Reg.HIF_MSIX_CTRL v) 0 = false ∧ ∀ o, o ≠ Reg.HIF_MSIX_CTRL v → t.reg o = s.reg o := by
  obtain ⟨new, hnew, hw⟩ := State.regWrite_msixCtrl s.tick hv
  have hpend : (s.tick.setRegN (Reg.HIF_MSIX_CTRL v) new).msiPending v = false := by
    rw [State.msiPending_setMsixCtrl]
    simpa [State.msiPending] using hp
  rw [State.msiRelease_idle hpend] at hw
  have hblock : pairedBlock (Reg.HIF_MSIX_CTRL v) = false := by
    have hb : Reg.HIF_MSIX_CTRL v / 0x100000 = 0 := by unfold Reg.HIF_MSIX_CTRL; omega
    have hlo : ¬ 0x2000000 ≤ Reg.HIF_MSIX_CTRL v := by unfold Reg.HIF_MSIX_CTRL; omega
    simp [pairedBlock, hb, hlo, rng]
  have hexec : exec (.msixUnmask v) s = .next (hostSet (Reg.HIF_MSIX_CTRL v) 0 s) := congrArg Host.Outcome.next (if_pos hv)
  refine ⟨_, hexec.trans (congrArg Host.Outcome.next (hostSet_unpaired h hblock 0)), ?_⟩
  rw [hw]
  exact ⟨rfl, (State.bitOf_setRegN _ (by decide)).trans hnew,
    fun o ho => (State.reg_setReg_ne _ _ _ _ ho.symm).trans (State.reg_tick s o)⟩

/-- Settles O29, one register after the other: each is what its write leaves. -/
theorem ringRegistersComplete : Obligations.RingRegistersComplete := by
  refine ⟨fun s h ht hh => exec_hifRplHead ht hh, fun s n w ht hn => ?tail, fun s ht hoff => exec_ringEnable ht hoff,
    fun s ht => exec_ringDisable ht, fun s v ht hv hp => exec_msixUnmask ht hv hp⟩
  case tail =>
    have hslots : ({ s with host := s.host.writeAll w } : State).tick.cmdSlots = s.cmdSlots := congrArg (2 ^ ·) (State.fld_tick _ _ _ _)
    have hhead : ({ s with host := s.host.writeAll w } : State).tick.regN Reg.HIF_CMD_HEAD = s.regN Reg.HIF_CMD_HEAD := State.regN_tick _ _
    refine ⟨fun hin => ?_, fun hout => ?_⟩
    · rw [exec_hifCmdTail ht hn, State.doorbell_within (by rw [hslots, hhead]; exact hin)]
    · rw [exec_hifCmdTail ht hn, State.doorbell_beyond (by rw [hslots, hhead]; exact hout)]

end Sys2Proof.Machine
end

section
/-! PROOF. Host interface events (R59, R62, R82, R459): reply delivery, access errors, the end of a long command, holdoff, bus mastering
and MSI-X. -/

namespace Sys2Proof.Machine

variable {s : State}

/-! ### The rings -/

theorem replyDelivery_of_waiting (hbm : s.busMaster = true) (hen : s.bitOf Reg.HIF_RING_CTRL 0 = true) (hroom : s.replyRoom = true)
    (hout : s.hif.out ≠ []) :
    replyDelivery s =
      (let t := State.deliverAll s.hif.out [] s
       (if t.1.bitOf Reg.HIF_RING_CTRL 1 then
          t.1.hostSt (t.1.pair Reg.HIF_RPL_SHADOW_LO Reg.HIF_RPL_SHADOW_HI) (leBytes 4 (t.1.regN Reg.HIF_RPL_TAIL))
        else t.1).each t.2 State.signal) :=
  if_pos (by simp [hbm, hen, hroom, hout])

theorem commandFetchError_of_fetch {c : FetchCause} {tail : Nat} {w : HostWrites} (hf : s.canFetch = true)
    (hw : (hostSet Reg.HIF_CMD_TAIL tail (({ s with host := s.host.writeAll w } : State).clrBit Reg.HIF_RING_CTRL 0)).cmdWaiting ≠ 0) :
    commandFetchError c tail w s =
      (hostSet Reg.HIF_CMD_TAIL tail (({ s with host := s.host.writeAll w } : State).clrBit Reg.HIF_RING_CTRL 0)).ringError 1
        (fetchBit c) := by
  have hfetch : ({ s with host := s.host.writeAll w } : State).canFetch = true := hf
  rw [commandFetchError, if_pos (by rw [hfetch, Bool.true_and, bne_iff_ne]; exact hw)]

theorem replyWriteError_of_enabled (hbm : s.busMaster = true) (hen : s.bitOf Reg.HIF_RING_CTRL 0 = true) :
    replyWriteError s = s.ringError 2 4 := if_pos (by rw [hbm, hen]; rfl)

/-! ### Long commands -/

/-- A long command whose reads of host memory fail is accepted and has its end with DETAIL 0xE4, where its own checks accept it. -/
theorem State.outcome_readFails {code : Nat} {p : CmdPacket} {o : OpSpec} {c : FetchCause} (hk : o.kind = .long) (hf : p.fault = some c)
    (hr : (hostReads code p).isSome = true) (hacc : (opBody code p (s.entry code p)).1.status = St.accepted) :
    s.outcome code p o = (Reply.accepted,
      ((s.entry code p).setBit Reg.HIF_PCIE_ERR (fetchBit c)).longDone (s.entry code p).longKey St.badParam 0xE4 (zeros 12)) := by
  simp only [State.outcome, if_pos hk, State.readFails, hf]
  exact if_pos (by rw [hr, hacc]; rfl)

theorem command_readFails {code : Nat} {p : CmdPacket} {o : OpSpec} {c : FetchCause} (ho : opSpec code = some o) (hk : o.kind = .long)
    (hoc : outOfSequence code = false) (hf : p.fault = some c) (hr : (hostReads code p).isSome = true) (hp : s.passes code p = true)
    (hacc : (opBody code p (s.entry code p)).1.status = St.accepted) :
    Replied (((s.entry code p).setBit Reg.HIF_PCIE_ERR (fetchBit c)).longDone (s.entry code p).longKey St.badParam 0xE4 (zeros 12)) code p
      St.accepted 0 (zeros 12) (command code p s) := by
  have hrec := command_passed hp ho (State.outcome_readFails hk hf hr hacc) rfl (fun _ => rfl)
  rwa [show consumes code Reply.accepted.status = true by simp [consumes, hoc]] at hrec

/-- The reply of a long command that ends, before what waited behind a FENCE goes on. -/
def State.longReply (x : State) (h : Nat) (l : Long) (e : LongResult) : State :=
  (({ x with hif := { x.hif with longs := dropFirst (x.longDue h) x.hif.longs } } : State).dmaEnd l.engine (e.detail == 0xE4)).replyRecord
    l.opcode e.status e.detail h e.result false (l.packet.flags.testBit 0)

theorem longCompletion_of_due {h : Nat} {l : Long} {e : LongResult}
    (hl : (s.longRead h).hif.longs.find? ((s.longRead h).longDue h) = some l) (he : l.effect = some e) :
    longCompletion h s = ((s.longRead h).longReply h l e).unfence := by
  simp only [longCompletion, hl, he, State.longReply]

/-! ### Interrupts and configuration writes -/

theorem holdoffExpiry_of_running {v t : Nat} (h : SMap.find s.hif.holdoff v = some t) :
    holdoffExpiry v s =
      (let x := s.runTo t
       let y : State := { x with hif := { x.hif with holdoff := SMap.erase x.hif.holdoff v, owed := x.hif.owed.filter (· != v) } }
       if s.hif.owed.contains v then y.signal v else y) := by
  simp only [holdoffExpiry, h]

theorem busMasterEnable_on (s : State) : busMasterEnable true s = (s.putBit Reg.HIF_PCIE_STATUS 10 true).fetchAll := by
  rw [busMasterEnable, if_pos rfl]

theorem busMasterEnable_off (s : State) : busMasterEnable false s = s.putBit Reg.HIF_PCIE_STATUS 10 false := rfl

theorem State.when_true {c : Bool} (h : c = true) (f : State → State) : s.when c f = f s := if_pos h

/-- Settles O30, one event after the other: each is the meaning of its row, taken where its condition holds. -/
theorem hostEventsComplete : Obligations.HostEventsComplete := by
  refine ⟨fun s hbm hen hroom hout => ?delivery, fun s c tail w hf hw => ?fetchError, fun s p c r hr hf hp hacc => ?readError,
    fun s hbm hen => ?writeError, fun s v t h => ?holdoff, fun s h => ⟨?masterOn, ?masterOff⟩, fun s m h => ⟨?msixOn, ?msixOff⟩,
    fun s h l e ha hl he => ?longEnd⟩
  case delivery => exact congrArg Host.Outcome.next (replyDelivery_of_waiting hbm hen hroom hout)
  case fetchError => exact congrArg Host.Outcome.next (commandFetchError_of_fetch hf hw)
  case readError =>
    simp only [List.mem_cons, List.not_mem_nil, or_false] at hr
    rcases hr with rfl | rfl | rfl | rfl
    · exact ⟨_, rfl, command_readFails rfl rfl rfl hf rfl hp hacc⟩
    · exact ⟨_, rfl, command_readFails rfl rfl rfl hf rfl hp hacc⟩
    · exact ⟨_, rfl, command_readFails rfl rfl rfl hf rfl hp hacc⟩
    · exact ⟨_, rfl, command_readFails rfl rfl rfl hf rfl hp hacc⟩
  case writeError => exact congrArg Host.Outcome.next (replyWriteError_of_enabled hbm hen)
  case holdoff => exact congrArg Host.Outcome.next (holdoffExpiry_of_running h)
  case masterOn => exact congrArg Host.Outcome.next ((State.when_true h _).trans (busMasterEnable_on s))
  case masterOff => exact congrArg Host.Outcome.next ((State.when_true h _).trans (busMasterEnable_off s))
  case msixOn => exact congrArg Host.Outcome.next (State.when_true h (msixEnable true m))
  case msixOff => exact congrArg Host.Outcome.next (State.when_true h (msixEnable false m))
  case longEnd => exact ⟨_, exec_of_act ha rfl (longCompletion_of_due hl he), State.replyRecord_recorded _ _ _ _ _ _ _ _⟩

end Sys2Proof.Machine
end

section
/-! PROOF. Time and PTP commands (R86, R88, R90, R98): the meaning of each opcode where none of its checks refuses it. -/

namespace Sys2Proof.Machine

section
variable {p : CmdPacket} {e : State} {c : Change}

/-! ### The spacing of time changes (R86) -/

theorem State.takeChange_free (hfree : e.changeFree c = true) : e.takeChange c = (e, false) := if_pos hfree

theorem State.takeChange_due (hfree : e.changeFree c = false) (hheld : e.tim.held = []) (hdue : e.changeDue ≤ e.raw + 1) :
    e.takeChange c = (e.applyChange (e.raw + 1) c, false) := by
  rw [State.takeChange, if_neg (by simp [hfree]), if_pos (by simp [hheld, hdue])]

theorem State.takeChange_early (hfree : e.changeFree c = false) (hearly : e.tim.held ≠ [] ∨ e.raw + 1 < e.changeDue) :
    e.takeChange c = ({ e with tim := { e.tim with held := e.tim.held ++ [c] } }, true) := by
  have hnot : ¬ ((e.tim.held.isEmpty && decide (e.changeDue ≤ e.raw + 1)) = true) := by
    simpa only [Bool.and_eq_true, List.isEmpty_iff, decide_eq_true_eq, not_and_or, Nat.not_le] using hearly
  rw [State.takeChange, if_neg (by simp [hfree]), if_neg hnot]

/-! ### The meaning of each command -/

theorem bodyTimeAdjust_of_allowed {t : State} {held : Bool}
    (hok : e.adjustRefusal (param p 16 1) (sparam p 24 8) (sparam p 32 4) = none)
    (ht : e.takeChange (e.changeOf (param p 16 1) (sparam p 24 8) (sparam p 32 4)) = (t, held)) :
    bodyTimeAdjust p e = (⟨St.ok, b2n held, result [(20, 1, param p 16 1)]⟩, t) := by
  simp only [bodyTimeAdjust, hok, ht]

theorem bodyPtpConfig_of_passing (hok : ptpRefusal (param p 16 1) p.ext = none) :
    bodyPtpConfig p e = (Reply.ok [(20, 1, param p 16 1)], e.takePtp (param p 16 1) p.ext) := by
  simp only [bodyPtpConfig, hok]

/-- A command's entry takes no cycle and leaves TIM. -/
theorem State.now_entry {code : Nat} {o : OpSpec} (ho : opSpec code = some o) (hk : o.kind ≠ .long) (s : State) (p : CmdPacket) :
    (s.entry code p).now = s.now := by
  obtain ⟨_, _, h, -⟩ := State.entry_frame ho hk s p
  rw [h]
  rfl

end

/-- Settles O21, one command after the other: each is its opcode's meaning in the entry state, replied; a time change by its spacing. -/
theorem timeCommandsComplete : Obligations.TimeCommandsComplete := by
  refine ⟨fun p s ha => ?read, fun p s ha hok => ⟨_, rfl, fun hfree => ?free, fun hfree hdue => ?due, fun hfree hearly => ?early⟩,
    fun p s ha hok => ?config⟩
  case read =>
    have hb : bodyTimeRead p (s.entry 0x0701 p) =
        (Reply.ok [(20, 8, s.now), (28, 4, (s.entry 0x0701 p).timStatus)], s.entry 0x0701 p) := by
      rw [bodyTimeRead, State.now_entry rfl (by decide)]
    exact ⟨_, rfl, command_replied ha rfl hb rfl rfl nofun⟩
  case free => exact command_replied ha rfl (bodyTimeAdjust_of_allowed hok (State.takeChange_free hfree)) rfl rfl nofun
  case due => exact command_replied ha rfl (bodyTimeAdjust_of_allowed hok (State.takeChange_due hfree hdue.1 hdue.2)) rfl rfl nofun
  case early => exact command_replied ha rfl (bodyTimeAdjust_of_allowed hok (State.takeChange_early hfree hearly)) rfl rfl nofun
  case config => exact ⟨_, rfl, command_replied ha rfl (bodyPtpConfig_of_passing hok) rfl rfl nofun⟩

end Sys2Proof.Machine
end

section
/-! PROOF. Time base events and PTP timers (R86, R88, R97, R99, Table 4.7): what each does where its condition holds. -/

namespace Sys2Proof.Machine

variable {s : State} {p : Nat}

/-! ### Time base events -/

theorem timHeld_of_oldest {c : Change} {rest : List Change} (h : s.tim.held = c :: rest) :
    timHeld s =
      (let r := max s.changeDue s.raw; let x := s.runTo (coreOfRaw r)
       ({ x with tim := { x.tim with held := rest } }).applyChange r c) := by
  simp only [timHeld, h]

theorem timSlewEnd_of_running {w : Slew} (h : s.tim.slew = some w) :
    timSlewEnd s =
      (let r := w.r + w.length; let x := s.runTo (coreOfRaw r)
       (x.openSeg r (w.delta * 2 ^ 40 - w.done r) (x.effRate none)).setSlew none) := by
  simp only [timSlewEnd, h]

/-! ### PTP timers -/

/-- A live port with a profile passes the guard of its message intervals. -/
theorem State.ptpMaySend {x : State} (hlive : x.portLive p = true) (hprof : (x.ptpPort p).profile ≠ 0) :
    ¬ ((!x.portLive p || (x.ptpPort p).profile == 0) = true) := by
  simp [hlive, hprof]

theorem ptpSyncTimeout_of_locked (hf : (s.ptpPort p).follows = true) (hs : s.syncState = 2) :
    ptpSyncTimeout p s = (s.setPtp p { s.ptpPort p with lockRun := 0 }).setSync p 3 := if_pos ⟨hf, hs⟩

/-- Port `p` has no master any more: it listens for one, or is one. -/
def State.masterLost (s : State) (p : Nat) : State :=
  let x := s.putPtpState p (if (s.ptpPort p).role = 1 then .listening else .master)
  x.setPtp p { x.ptpPort p with parent := [], lockRun := 0, syncWait := none }

theorem ptpAnnounceTimeout_of_profile (hrole : (s.ptpPort p).role ≠ 0) (hprof : (s.ptpPort p).profile ≠ 0) :
    ptpAnnounceTimeout p s = if (s.ptpPort p).follows then (s.masterLost p).leaveSlave p else s.masterLost p :=
  if_neg (not_or.2 ⟨hrole, hprof⟩)

/-- Settles O33, one event after the other: each is the meaning of its row, taken where its condition holds; a message interval by the
branch of its message type. -/
theorem timeAndPtpTimersComplete : Obligations.TimeAndPtpTimersComplete := by
  refine ⟨fun s c rest ha hc => ?held, fun s w ha hw => ?slewEnd, fun s p ha hlive hprof hm => ⟨?sync, ?announce⟩,
    fun s p ha hlive hprof hs => ?delayReq, fun s p ha hlive hprof => ?pdelayReq, fun s p ha hlive hprof => ?signaling,
    fun s p ha hf hs => ?syncLost, fun s p ha hrole hprof => ?announceLost⟩
  case held => exact exec_of_act ha rfl (timHeld_of_oldest hc)
  case slewEnd => exact exec_of_act ha rfl (timSlewEnd_of_running hw)
  case sync => exact exec_of_act ha rfl ((if_neg (State.ptpMaySend hlive hprof)).trans (if_pos hm))
  case announce => exact exec_of_act ha rfl ((if_neg (State.ptpMaySend hlive hprof)).trans (if_pos hm))
  case delayReq =>
    exact exec_of_act ha rfl ((if_neg (State.ptpMaySend hlive (by simp [hprof]))).trans (if_pos (by simp [hprof, hs])))
  case pdelayReq =>
    have h0 : ((s.ptpWake p).ptpPort p).profile ≠ 0 := by omega
    exact exec_of_act ha rfl ((if_neg (State.ptpMaySend hlive h0)).trans (if_pos hprof))
  case signaling => exact exec_of_act ha rfl ((if_neg (State.ptpMaySend hlive (by simp [hprof]))).trans (if_pos hprof))
  case syncLost => exact exec_of_act ha rfl (ptpSyncTimeout_of_locked hf hs)
  case announceLost => exact exec_of_act ha rfl (ptpAnnounceTimeout_of_profile hrole hprof)

end Sys2Proof.Machine
end

section
/-! PROOF. PTP messages received (R97, R98, R100, Tables 4.5 and 4.7): what each message does at a port that takes it. -/

namespace Sys2Proof.Machine

section
variable {s x : State} {p c : Nat} {f m : List Byte}

/-! ### Reception -/

/-- The message of a frame is handled where it is a Management message or one of the port's domain with PTP on. -/
theorem ptpTake_of_offset {o : Nat} (g : List Byte → State → State) (hl : s.portLive p = true) (ho : s.ptpOffset p f = some o)
    (hd : ptpType (f.drop o) = 13 ∨
      (((((s.count 13 (netCnt p 9)).ptpForward p f (f.drop o) c).ptpWake p).ptpPort p).profile ≠ 0 ∧
        ptpDomain (f.drop o) = ((((s.count 13 (netCnt p 9)).ptpForward p f (f.drop o) c).ptpWake p).ptpPort p).domain)) :
    ptpTake p f c g s = g (f.drop o) (((s.count 13 (netCnt p 9)).ptpForward p f (f.drop o) c).ptpWake p) := by
  rw [ptpTake, if_neg (by simp [hl]), ho]
  exact if_pos hd

/-- A PTP row answers what its message's handler makes of the state in which the port has taken the message. -/
theorem exec_of_taken {i : Instr} {g : List Byte → State → State} {t : State} (h : PtpTaken s p f c m x)
    (hi : exec i s = .next (s.act (ptpTake p f c g))) (ht : g m x = t) : exec i s = .next t := by
  obtain ⟨ha, hl, ⟨o, ho, rfl⟩, rfl, hprof, hdom⟩ := h
  exact exec_of_act ha hi ((ptpTake_of_offset g hl ho (.inr ⟨hprof, hdom⟩)).trans ht)

/-! ### Event messages -/

/-- A Sync at port `p` takes the servo from HOLDOVER back to ACQUIRING, where the servo acts (Table 4.7). -/
def State.reacquired (x : State) (p : Nat) : State :=
  if x.syncState = 3 ∧ x.servoOwns = true ∧ x.noPins = false then (x.setPtp p { x.ptpPort p with lockRun := 0 }).setSync p 1 else x

theorem ptpSyncMsg_of_follows (hf : (x.ptpPort p).follows = true) :
    ptpSyncMsg p c m x =
      (let y := x.reacquired p
       if ptpTwoStep m then y.setPtp p { y.ptpPort p with syncWait := some (ptpSeq m, x.rxTime p c, ptpCorrection m) }
       else y.measured p (ptpStamp m + ptpCorrection m) (x.rxTime p c)) := by
  simp only [ptpSyncMsg, hf, State.reacquired, Bool.not_true, Bool.false_eq_true, if_false, Bool.not_eq_true']

theorem ptpDelayReqMsg_of_master (hm : (x.ptpPort p).state = .master) :
    ptpDelayReqMsg p c m x =
      (let t := stampBytes (x.rxTime p c)
       x.ptpSend p (x.ptpMessage p 9 (ptpSeq m) false (ptpCorrection m - t.2) (x.ptpPort p).logDelay (t.1 ++ ptpSource m))) :=
  if_neg (not_not_intro hm)

theorem ptpPdelayRespMsg_of_own {t1 : Int} (hr : (x.ptpPort p).pdelayReq = some (ptpSeq m, t1))
    (hid : ptpRequesting m = x.portIdentity p) :
    ptpPdelayRespMsg p c m x =
      if ptpTwoStep m then
        x.setPtp p { x.ptpPort p with pdelayWait := some (ptpSeq m, ptpStamp m, x.rxTime p c, ptpCorrection m) }
      else x.linkDelay p t1 0 0 (x.rxTime p c) (ptpCorrection m) := by
  simp only [ptpPdelayRespMsg, hr, hid, and_self, if_true]

/-! ### General messages -/

theorem ptpFollowUpMsg_of_awaited {t2 k : Int} (hf : (x.ptpPort p).follows = true)
    (hw : (x.ptpPort p).syncWait = some (ptpSeq m, t2, k)) :
    ptpFollowUpMsg p m x = x.measured p (ptpStamp m + k + ptpCorrection m) t2 := by
  simp only [ptpFollowUpMsg, hw, hf, Bool.true_and, beq_self_eq_true, if_true]

theorem ptpDelayRespMsg_of_own {t3 t1 t2 : Int} (hr : (x.ptpPort p).delayReq = some (ptpSeq m, t3))
    (hl : (x.ptpPort p).lastSync = some (t1, t2)) (hid : ptpRequesting m = x.portIdentity p) :
    ptpDelayRespMsg p m x =
      (let y := x.putDelay p (rneDiv ((t2 - t3) + (ptpStamp m - ptpCorrection m - t1)) 2)
       y.setPtp p { y.ptpPort p with delayReq := none }) := by
  simp only [ptpDelayRespMsg, hr, hl, hid, and_self, if_true]

theorem ptpPdelayFollowMsg_of_awaited {q : Nat} {t1 t2 t4 k : Int} (hr : (x.ptpPort p).pdelayReq = some (q, t1))
    (hw : (x.ptpPort p).pdelayWait = some (ptpSeq m, t2, t4, k)) :
    ptpPdelayFollowMsg p m x = x.linkDelay p t1 t2 (ptpStamp m) t4 (k + ptpCorrection m) := by
  simp only [ptpPdelayFollowMsg, hr, hw, if_true]

/-- A slave-only port takes any master while no port follows one. -/
theorem ptpAnnounceMsg_of_unled (hrole : (x.ptpPort p).role = 1) (hf : (x.ptpPort p).follows = false)
    (hq : ∀ q, q < 4 → q ≠ p → (x.ptpPort q).follows = false) : ptpAnnounceMsg p m x = x.followMaster p m := by
  have hnone : (List.range 4).find? (fun q => decide (q ≠ p) && (x.ptpPort q).follows) = none := by
    rw [List.find?_eq_none]
    intro q hmem
    by_cases hqp : q = p
    · simp [hqp]
    · simp [hq q (List.mem_range.1 hmem) hqp]
  simp only [ptpAnnounceMsg, hrole, hf, hnone, one_ne_zero, beq_self_eq_true, Bool.true_or, Bool.false_and, Bool.not_true,
    Bool.false_eq_true, if_false]

/-! ### Signaling -/

/-- A body that is one TLV. -/
theorem ptpTlvs_single {body : List Byte} (h4 : 4 ≤ body.length) (hlen : body.length = 4 + beAt body 2 2) :
    ptpTlvs body.length body = [body] := by
  obtain ⟨n, hn⟩ : ∃ n, body.length = n + 1 := ⟨body.length - 1, by omega⟩
  have hnil : ptpTlvs n [] = [] := by cases n <;> rfl
  rw [hn, ptpTlvs, if_neg (Nat.not_lt.2 h4), ← hlen, List.take_length, List.drop_length, hnil]

/-- One interval of a message interval request: −128 keeps it, 126 asks for the descriptor's. -/
def intervalAsked (t : List Byte) (o : Nat) (now deflt : Int) : Int :=
  if sleAt t o 1 = -128 then now else if sleAt t o 1 = 126 then deflt else sleAt t o 1

theorem intervalAsked_of_value {t : List Byte} {o : Nat} {now deflt : Int} (hkeep : sleAt t o 1 ≠ -128) (hdef : sleAt t o 1 ≠ 126) :
    intervalAsked t o now deflt = sleAt t o 1 := by
  rw [intervalAsked, if_neg hkeep, if_neg hdef]

theorem State.ptpTlv_of_intervalRequest {t : List Byte} (htype : beAt t 0 2 = 3) (horg : beAt t 4 3 = 0x0080C2) (hsub : beAt t 7 3 = 2) :
    x.ptpTlv p t = (let a := x.ptpPort p
      x.setPtp p { a with intervals := some (intervalAsked t 10 a.logDelay (sleAt a.desc 6 1),
        intervalAsked t 11 a.logSync (sleAt a.desc 4 1), intervalAsked t 12 a.logAnnounce (sleAt a.desc 5 1)) }) :=
  if_pos ⟨htype, horg, hsub⟩

end

/-- Settles O34, one message after the other: each is handled in the state in which its port has taken it. -/
theorem ptpEventMessagesComplete : Obligations.PtpEventMessagesComplete := by
  refine ⟨fun s p f c m x h hf => ⟨fun h2 => ?syncTwoStep, fun h1 => ?syncOneStep⟩, fun s p f c m x h hm => ?delayReq,
    fun s p f c m x h => ?pdelayReq, fun s p f c m x t1 h hr hid => ⟨fun h2 => ?respTwoStep, fun h1 => ?respOneStep⟩⟩
  case syncTwoStep => exact exec_of_taken h rfl ((ptpSyncMsg_of_follows hf).trans (if_pos h2))
  case syncOneStep => exact exec_of_taken h rfl ((ptpSyncMsg_of_follows hf).trans (if_neg (by simp [h1])))
  case delayReq => exact exec_of_taken h rfl (ptpDelayReqMsg_of_master hm)
  case pdelayReq => exact exec_of_taken h rfl rfl
  case respTwoStep => exact exec_of_taken h rfl ((ptpPdelayRespMsg_of_own hr hid).trans (if_pos h2))
  case respOneStep => exact exec_of_taken h rfl ((ptpPdelayRespMsg_of_own hr hid).trans (if_neg (by simp [h1])))

/-- Settles O35, one message after the other: each is handled in the state in which its port has taken it; the body of a Signaling message
that is one interval request is read as that request alone. -/
theorem ptpGeneralMessagesComplete : Obligations.PtpGeneralMessagesComplete := by
  refine ⟨fun s p f c m x t2 k h hf hw => ?followUp, fun s p f c m x t3 t1 t2 h hr hl hid => ?delayResp,
    fun s p f c m x q t1 t2 t4 k h hr hw => ?peerFollowUp, fun s p f c m x h hrole hf hq => ?announce,
    fun s p f c m x h => ⟨?signaling, fun hlen h4 htype horg hsub => ?intervals⟩, fun s p f c o ha hl ho hd => ?management⟩
  case followUp => exact exec_of_taken h rfl (ptpFollowUpMsg_of_awaited hf hw)
  case delayResp => exact exec_of_taken h rfl (ptpDelayRespMsg_of_own hr hl hid)
  case peerFollowUp => exact exec_of_taken h rfl (ptpPdelayFollowMsg_of_awaited hr hw)
  case announce => exact exec_of_taken h rfl (ptpAnnounceMsg_of_unled hrole hf hq)
  case signaling => exact exec_of_taken h rfl rfl
  case intervals =>
    have hmsg : ptpSignalingMsg p m x = x.ptpTlv p ((m.take (beAt m 2 2)).drop 44) := by
      rw [ptpSignalingMsg, ptpTlvs_single h4 hlen]
      rfl
    refine ⟨_, _, _, _, exec_of_taken h rfl hmsg, State.ptpTlv_of_intervalRequest htype horg hsub, fun o v hov hkeep hdef => ?_⟩
    simp only [List.mem_cons, Prod.mk.injEq, List.not_mem_nil, or_false] at hov
    rcases hov with ⟨rfl, rfl⟩ | ⟨rfl, rfl⟩ | ⟨rfl, rfl⟩ <;> exact intervalAsked_of_value hkeep hdef
  case management => exact exec_of_act ha rfl (ptpTake_of_offset _ hl ho hd)

end Sys2Proof.Machine
end

section
/-! PROOF. Ethernet events and frames received (R93 to R96, R101, R102, Tables 4.4 and 4.13): what each does where its condition holds. -/

namespace Sys2Proof.Machine

section
variable {s : State} {p q : Nat} {f : List Byte}

/-! ### Ports -/

theorem netArp_of_request (h : s.arpFor p f = true) :
    netArp p f s = (let b := etherBody f
      s.netSend p (sourceMac f ++ s.macOf p ++ beBytes 2 0x0806 ++ b.take 6 ++ beBytes 2 2 ++ s.macOf p ++
        beBytes 4 (s.regN (Reg.NET_PORT_IPV4 p)) ++ (b.drop 8).take 10 ++ zeros 18)) :=
  if_neg (by simp [h])

theorem netPause_of_live {quanta : Nat} (h : s.portLive p = true) :
    netPause p quanta s =
      (let x := s.count 13 (netCnt p 8)
       if s.bitOf (Reg.NET_PORT_CTRL p) 6 then
         (x.setNetPort p { x.netPort p with pausedUntil := x.core + x.pauseCycles p quanta }).netFlush p else x) :=
  if_neg (by simp [h])

theorem netLinkUp_of_pll (h : s.bitOf Reg.CRB_CLK_STATUS 2 = true) :
    netLinkUp p s =
      (let r := Reg.NET_PORT_STATUS p
       (((s.setBit r 0).setBit r 1).putBit r 2 (s.bitOf (Reg.NET_PORT_CTRL p) 4)).putBit r 3 (s.fecRuns p)) :=
  if_neg (by simp [h])

theorem netLinkLoss_eq (p : Nat) (s : State) :
    netLinkLoss p s =
      (let x := s.setFld (Reg.NET_PORT_STATUS p) 0 4 0
       if (s.func (netFunc p)).life = .on then (x.setBit (Reg.NET_PORT_STATUS p) 5).count 13 (netCnt p 7) else x) := by
  simp only [netLinkLoss, beq_iff_eq]

/-! ### Egress of the forwarding FIFO (R96, R102) -/

/-- Port `q` once its PAUSE has passed and its own frames that waited have left. -/
def State.resumed (s : State) (q : Nat) : State := (s.runTo (s.netPort q).pausedUntil).netFlush q

theorem netForwardEgress_of_held (hl : s.portLive q = true) (hf : (s.netPort q).fwd = []) (hh : (s.netPort q).hold ≠ []) :
    netForwardEgress q s = s.resumed q := by
  have hgo : ¬ ((!s.portLive q || ((s.netPort q).fwd.isEmpty && (s.netPort q).hold.isEmpty)) = true) := by simp [hl, hh]
  refine (if_neg hgo).trans ?_
  rw [hf]
  rfl

/-- The first frame of the FIFO leaves it, behind the port's own: onto the wire with its residence added, or lost without a link. -/
theorem netForwardEgress_of_queued {w : FwdFrame} {rest : List FwdFrame} (hl : s.portLive q = true)
    (hf : (s.netPort q).fwd = w :: rest) :
    netForwardEgress q s =
      (let x := (s.resumed q).setNetPort q { (s.resumed q).netPort q with fwd := rest }
       if !x.portLink q then x.count 13 (netCnt q 4)
       else
         let y := x.addResidence q w
         ((y.1.setNetPort q { y.1.netPort q with sent := y.2 :: (y.1.netPort q).sent }).count 13 (netCnt q 5)).count 13 (netCnt q 1)) := by
  have hgo : ¬ ((!s.portLive q || ((s.netPort q).fwd.isEmpty && (s.netPort q).hold.isEmpty)) = true) := by simp [hl, hf]
  refine (if_neg hgo).trans ?_
  rw [hf]
  rfl

/-! ### Reception (R93, R95) -/

section
variable {capture fifo : Nat} {isPel : Bool} {pel ptp : State → State} (hlive : s.portLive p = true)
include hlive

theorem netReceive_of_badFcs : netReceive p false f capture fifo isPel pel ptp s = s.count 13 (netCnt p 2) := by
  rw [netReceive, if_neg (by simp [hlive]), if_pos Bool.not_false]

theorem netReceive_of_tooLong (hlen : s.maxFrame p < f.length) :
    netReceive p true f capture fifo isPel pel ptp s = s.count 13 (netCnt p 3) := by
  rw [netReceive, if_neg (by simp [hlive]), if_neg nofun, if_pos hlen]

/-- A frame with a good FCS and within its limit is counted, and goes by its EtherType and by what the FIFO holds. -/
theorem netReceive_of_good (hlen : f.length ≤ s.maxFrame p) :
    netReceive p true f capture fifo isPel pel ptp s =
      (let x := s.count 13 (netCnt p 0)
       let y := if x.bitOf (Reg.NET_PORT_CTRL p) 7 && decide (49152 ≤ fifo) then x.netWire p (x.pauseFrame p 0xFFFF) else x
       if etherType f = 0x8808 then if beAt f 14 2 = 1 then netPause p (beAt f 16 2) x else x.count 13 (netCnt p 3)
       else if 2 ≤ p ∧ 65536 < fifo then x.count 1 (226 + (p - 2))
       else y.dispatch p f capture isPel pel ptp) := by
  rw [netReceive, if_neg (by simp [hlive]), if_neg nofun, if_neg (Nat.not_lt.2 hlen)]

end

end

/-- Settles O36, one event after the other: each is the meaning of its row, taken where its condition holds; a frame received by the first
check it meets. -/
theorem ethernetEventsComplete : Obligations.EthernetEventsComplete := by
  refine ⟨fun s p f ha h => ?arp, fun s p q ha hl => ?pause, fun s q w rest ha hf hl => ⟨fun hdown => ?lost, fun hup => ?sent⟩,
    fun s q ha hf hh hl => ?held, fun s p ha h => ?linkUp, fun s p ha => ?linkLoss,
    fun s p cap fifo f ha hl => ⟨?badFcs, fun hlong => ?tooLong⟩,
    fun s p cap fifo f ha hl hlen => ⟨fun ht h1 => ?pauseReceived, fun ht h1 => ?otherControl, fun ht hp hfull => ?fullFifo,
      fun ht hroom => ?passed⟩⟩
  case arp => exact exec_of_act ha rfl (netArp_of_request h)
  case pause => exact exec_of_act ha rfl (netPause_of_live hl)
  case lost => exact exec_of_act ha rfl ((netForwardEgress_of_queued hl hf).trans (if_pos (by simpa [State.resumed] using hdown)))
  case sent => exact exec_of_act ha rfl ((netForwardEgress_of_queued hl hf).trans (if_neg (by simpa [State.resumed] using hup)))
  case held => exact exec_of_act ha rfl (netForwardEgress_of_held hl hf hh)
  case linkUp => exact exec_of_act ha rfl (netLinkUp_of_pll h)
  case linkLoss => exact exec_of_act ha rfl (netLinkLoss_eq p s)
  case badFcs => exact exec_of_act ha rfl (netReceive_of_badFcs hl)
  case tooLong => exact exec_of_act ha rfl (netReceive_of_tooLong hl hlong)
  case pauseReceived => exact exec_of_act ha rfl ((netReceive_of_good hl hlen).trans ((if_pos ht).trans (if_pos h1)))
  case otherControl => exact exec_of_act ha rfl ((netReceive_of_good hl hlen).trans ((if_pos ht).trans (if_neg h1)))
  case fullFifo => exact exec_of_act ha rfl ((netReceive_of_good hl hlen).trans ((if_neg ht).trans (if_pos ⟨hp, hfull⟩)))
  case passed => exact exec_of_act ha rfl ((netReceive_of_good hl hlen).trans ((if_neg ht).trans (if_neg hroom)))

end Sys2Proof.Machine
end

section
/-! PROOF. Events of the own pins (R357, R364): what their meaning answers on a part whose pins feed its units. -/

namespace Sys2Proof.Machine

variable {s : State}

theorem State.solo_iff : s.solo = true ↔ s.alive = true ∧ s.noPins = false := by
  simp only [State.solo, Bool.and_eq_true, Bool.not_eq_true']

/-- An event of the own pins answers what its meaning makes of the state. -/
theorem exec_of_ownPins {i : Instr} {f : State → State} {t : State} (h : s.solo = true)
    (hi : exec i s = .next (s.act (fun x => x.ownPins f))) (ht : f s = t) : exec i s = .next t := by
  obtain ⟨ha, hp⟩ := State.solo_iff.1 h
  exact exec_of_act ha hi ((if_neg (by simp [hp])).trans ht)

/-- A camera event answers what its meaning makes of the state, where the part is no primary after it and so forwards nothing. -/
theorem exec_of_camEvent {i : Instr} {f : State → State} {t : State} (h : s.solo = true)
    (hi : exec i s = .next (s.act (fun x => x.camEvent f))) (ht : f s = t) (hp : t.pairPrimary = false) : exec i s = .next t :=
  exec_of_ownPins h hi ((if_pos (by simp [ht, hp])).trans ht)

end Sys2Proof.Machine
end

section
/-! PROOF. Camera reception (R105 to R107, R109, R110, Tables 5.2 and 5.4): what each packet does where its condition holds. -/

namespace Sys2Proof.Machine

section
variable {s : State} {port vc vcx ecc rate i n dt : Nat} {ok : Bool} {bs : List Byte} {f : Frame} {w : FsWindow}

/-! ### Headers (R105, R106) -/

section
variable {lost used : State → State}

theorem ingHeader_of_vcx (h : vcx ≠ 0) :
    ingHeader port vc vcx ecc rate lost used s = (s.setRegN (Reg.ING_CSI_RATE port) rate).count 1 (portCnt port 0) := if_pos h

theorem ingHeader_of_uncorrectable :
    ingHeader port vc 0 2 rate lost used s =
      lost ((((s.setRegN (Reg.ING_CSI_RATE port) rate).count 1 (portCnt port 3)).setBit (Reg.ING_CSI_STATUS port) 4).flagStream port vc
        0x04) := rfl

theorem ingHeader_of_good (h : ecc ≠ 2) :
    ingHeader port vc 0 ecc rate lost used s = used (s.setRegN (Reg.ING_CSI_RATE port) rate) := if_neg h

end

/-! ### Frame Start (R109) -/

/-- VC_SEEN of the port shows the virtual channel of a Frame Start. -/
abbrev State.vcShown (s : State) (port vc : Nat) : State :=
  { s with ing := { s.ing with vcNow := SMap.upd 0 s.ing.vcNow port (· ||| 2 ^ vc) } }

/-- A Frame Start is noted for stream `i` and closes the frame that the stream has in reception. -/
abbrev State.startNoted (s : State) (i : Nat) : State := (s.setCam i { s.cam i with fsSeen := true }).closeFrame i

/-- The frame that the first Frame Start inside the window `w` opens. -/
def FsWindow.opensFrame (w : FsWindow) (n stamp : Nat) : Frame :=
  ⟨n, stamp, w.cadence, w.trigTime, 0, 0, [], [], [], false, false, w.ends⟩

section
variable {x : State} (hi : (s.vcShown port vc).streamAt port vc = some i) (hx : (s.vcShown port vc).startNoted i = x)
  (hon : (x.func (camFunc i)).life = .on)
include hi hx hon

/-- The first Frame Start inside an open window starts the window's frame. -/
theorem startFrame_of_open (hw : (x.cam i).window = some w) (hfirst : w.taken = false) (hafter : w.opened ≤ x.now)
    (hbefore : x.now < w.closes) :
    startFrame port vc n s =
      (x.setCam i { x.cam i with window := some { w with taken := true }, frame := some (w.opensFrame n x.now) }).monStamp
        (camFunc i) x.now := by
  simp only [startFrame, hi, hx, hon, hw]
  exact (if_neg (by decide)).trans (if_pos (by simp [hfirst, hafter, hbefore]))

/-- A Frame Start without a window, outside of it, or behind the first one inside it, drops its frame. -/
theorem startFrame_of_shut
    (hw : (x.cam i).window = none ∨ ((x.cam i).window = some w ∧ (w.taken = true ∨ x.now < w.opened ∨ w.closes ≤ x.now))) :
    startFrame port vc n s = (x.setCam i { x.cam i with extra := true }).count 1 (camCnt i 7) := by
  rcases hw with hw | ⟨hw, hshut⟩
  · simp only [startFrame, hi, hx, hon, hw]
    exact if_neg (by decide)
  · have hnot : ¬ ((!w.taken && decide (w.opened ≤ x.now) && decide (x.now < w.closes)) = true) := by
      simp only [Bool.and_eq_true, Bool.not_eq_true', decide_eq_true_eq]
      rintro ⟨⟨hfirst, hafter⟩, hbefore⟩
      rcases hshut with htaken | hearly | hlate
      · exact absurd htaken (by simp [hfirst])
      · omega
      · omega
    simp only [startFrame, hi, hx, hon, hw]
    exact (if_neg (by decide)).trans (if_neg hnot)

end

/-! ### Lines (R106, R107) -/

theorem lostLine_of_noStream (hi : s.streamAt port vc = none) : lostLine port vc s = s := by
  simp only [lostLine, hi]

/-- A lost line of a frame in reception is zero-filled. -/
theorem lostLine_of_open (hi : s.streamAt port vc = some i) (hf : (s.cam i).frame = some f) (hopen : f.closed = false)
    (hpresent : f.absent = false) (hroom : f.lines.length < (s.cam i).height) :
    lostLine port vc s = s.setCam i { s.cam i with frame := some (f.addLine (s.cam i) [] [] false 0) } := by
  simp only [lostLine, hi, hf]
  exact if_neg (by simp [hopen, hpresent, hroom])

/-- What Table 5.2 says is wrong with an image line of data type `dt` and payload `bs` of a stream. -/
def Cam.lineFlags (c : Cam) (dt : Nat) (ok : Bool) (bs : List Byte) : Nat :=
  (if ok then 0 else 0x08) ||| (if bs.length = lineBytes dt c.width then 0 else 0x10)

/-- A mismatch of a payload's CRC-16 shows in its port's status. -/
def State.crcShown (s : State) (port : Nat) (ok : Bool) : State := if ok then s else s.setBit (Reg.ING_CSI_STATUS port) 5

/-- An image line of a frame in reception joins it, as zeros where VIS has no line buffer. -/
theorem imageLine_of_open {x : State} {c : Cam} (hx : s.eccFlag port vc ecc = x) (hi : x.streamAt port vc = some i)
    (hc : x.cam i = c) (hdt : dt = c.dataType) (himage : dt ∉ [0x02, 0x03, 0x10, 0x11]) (hf : c.frame = some f)
    (hopen : f.closed = false) (hpresent : f.absent = false) (hroom : f.lines.length < c.height) :
    imageLine port vc dt ecc ok bs s =
      (let y := x.crcShown port ok
       if y.lineRoom i f then
         (y.setCam i { c with frame := some (f.addLine c (unpackLine dt c.width bs) bs true 0) }).frameFlags i (c.lineFlags dt ok bs)
       else (y.setCam i { c with frame := some (f.addLine c [] [] false 0) }).frameFlags i (c.lineFlags dt ok bs ||| 0x40)) := by
  have hlines : ¬ ([0x02, 0x03, 0x10, 0x11].contains dt = true) := by simpa using himage
  rw [imageLine, hx]
  refine (if_neg hlines).trans ?_
  simp only [hi, hc, hf, hopen, hpresent]
  exact (if_neg (not_not.2 hdt)).trans ((if_neg nofun).trans (if_neg (Nat.not_le.2 hroom)))

/-! ### Frame End and the window's end (R106, R109) -/

theorem ingFrameEnd_of_stream {x : State} (hecc : ecc ≠ 2) (hx : (s.setRegN (Reg.ING_CSI_RATE port) rate).eccFlag port vc ecc = x)
    (hi : x.streamAt port vc = some i) : ingFrameEnd port vc 0 ecc rate s = x.closeFrame i := by
  rw [ingFrameEnd, ingHeader_of_good hecc]
  simp only [hx, hi]

theorem ingWindowClose_of_open (hw : (s.cam i).window = some w) : ingWindowClose i s = (s.runToTime w.closes).closeWindow i w := by
  simp only [ingWindowClose, hw]

end

/-- Settles O37, one event after the other: each is the meaning of its row; a packet by its header, then by its stream's frame or window. -/
theorem cameraEventsComplete : Obligations.CameraEventsComplete := by
  refine ⟨fun s port vc vcx n dt ecc rate ok bs hs hv hp => ⟨?startVcx, ?lineVcx, ?endVcx⟩,
    fun s port vc n dt rate ok bs hs => ⟨fun hp => ⟨?startLost, ?endLost⟩, fun hp => ?lineLost⟩,
    fun s port vc n ecc rate i w hs he hi hon => ⟨fun hw h1 ho hc hp => ?startOpen, fun hw hp => ?startShut⟩,
    fun s port vc dt ecc rate i ok bs f hs he hi hdt him hf hcl hab hroom hp => ?line,
    fun s port vc n ecc rate i hs he hi hp => ?frameEnd,
    fun s i w hs hw => ⟨fun ht hp => ?windowTaken, fun ht hp => ?windowAbsent⟩,
    fun s port rate ha => ?deskew,
    fun s port vc => ⟨fun hs hi hp => ?sotNoStream, fun i f hs hi hf hcl hab hroom hp => ?sotLine⟩⟩
  case startVcx => exact exec_of_camEvent hs rfl (ingHeader_of_vcx hv) hp
  case lineVcx => exact exec_of_camEvent hs rfl (ingHeader_of_vcx hv) hp
  case endVcx => exact exec_of_camEvent hs rfl (ingHeader_of_vcx hv) hp
  case startLost => exact exec_of_camEvent hs rfl ingHeader_of_uncorrectable hp
  case endLost => exact exec_of_camEvent hs rfl ingHeader_of_uncorrectable hp
  case lineLost => exact exec_of_camEvent hs rfl ingHeader_of_uncorrectable hp
  case startOpen =>
    exact exec_of_camEvent hs rfl ((ingHeader_of_good he).trans
      (congrArg (State.eccFlag · port vc ecc) (startFrame_of_open hi rfl hon hw h1 ho hc))) hp
  case startShut =>
    exact exec_of_camEvent hs rfl ((ingHeader_of_good he).trans
      (congrArg (State.eccFlag · port vc ecc) (startFrame_of_shut hi rfl hon hw))) hp
  case line =>
    exact exec_of_camEvent hs rfl ((ingHeader_of_good he).trans (imageLine_of_open rfl hi rfl hdt him hf hcl hab hroom)) hp
  case frameEnd => exact exec_of_camEvent hs rfl (ingFrameEnd_of_stream he rfl hi) hp
  case windowTaken =>
    exact exec_of_camEvent hs rfl (congrArg (State.visRecord · i) ((ingWindowClose_of_open hw).trans (if_pos ht))) hp
  case windowAbsent =>
    have habsent := (ingWindowClose_of_open hw).trans (if_neg (by simp [ht]))
    exact ⟨_, exec_of_camEvent hs rfl (congrArg (State.visRecord · i) habsent) (by rw [← habsent]; exact hp),
      State.event_reported _ _ _ _ _ _ _⟩
  case deskew => exact exec_of_act ha rfl rfl
  case sotNoStream => exact exec_of_camEvent hs rfl (lostLine_of_noStream hi) hp
  case sotLine => exact exec_of_camEvent hs rfl (lostLine_of_open hi hf hcl hab hroom) hp

end Sys2Proof.Machine
end

section
/-! PROOF. Bit inputs, encoders, lidar templates and DEC outputs (R112 to R120, R130, R131): what each event does where its condition
holds. -/

namespace Sys2Proof.Machine

section
variable {s : State}

/-! ### Bit inputs (R113) and DEC outputs (R112, R130) -/

theorem ingStuckRun_of_run {c : Nat} (hrun : 4096 ≤ (s.bitIn c).run) (hon : (s.func (decFunc c)).life = .on)
    (hstuck : (s.bitIn c).stuck = false) : ingStuckRun c s = s.raiseStuck c :=
  if_pos (by simp [hrun, hon, hstuck])

section
variable {c : Nat} {fpp : List Byte → State → State}

/-- A channel that runs takes its levels one after the other. -/
theorem decOutput_of_active {levels : List Bool} (hactive : (s.func (decFunc c)).life.active = true) (hclock : s.clockOn c = true) :
    decOutput c levels fpp s = s.each levels (fun st level => State.decBit c fpp level st) :=
  if_pos (by rw [hactive, hclock]; rfl)

/-- The channel's next sampling cycle: the bit sampled in it, with the output that falls due. -/
def State.sampled (s : State) (c : Nat) (level : Bool) : State × Option DecOut :=
  let x := s.runTo (s.bitIn c).next
  (x.setBitIn c { x.bitIn c with next := (s.bitIn c).next + x.clockPeriod c }).pushBit c level (s.bitIn c).next

theorem State.decBit_of_no_output {level : Bool} (h : (s.sampled c level).2 = none) :
    State.decBit c fpp level s = (s.sampled c level).1.noteReady c := by
  unfold State.sampled at *
  simp only [State.decBit, h]

/-- An output is delivered 48 CORE cycles after its last bit. -/
theorem State.decBit_of_output {level : Bool} {o : DecOut} (h : (s.sampled c level).2 = some o) :
    State.decBit c fpp level s = (((s.sampled c level).1.noteReady c).runTo ((s.bitIn c).next + 48)).decDeliver c o fpp := by
  unfold State.sampled at *
  simp only [State.decBit, h]

end

/-! ### Encoders (R114 to R116) -/

section
variable {n : Nat}

/-- A change of an encoder's inputs that qualifies moves its decoder and its shown count; its edge and its illegal transition count. -/
theorem ingEncoderEdge_of_qualified {a b z : Bool} {sampled held : Nat} (hlive : (s.func (encFunc n)).life ≠ .off)
    (hheld : (s.enc n).qualify ≤ held) :
    ingEncoderEdge n a b z sampled held s =
      (let x := s.runTo (sampled + (s.enc n).qualify)
       let r := (x.enc n).ab a b (s.disc (rawOf sampled))
       let e := r.1.zEdge z (s.disc (rawOf sampled))
       let y := (x.setEnc n e).setRegN (Reg.ING_ENC_COUNT n) e.count
       let counted := if r.2.1 then y.count 1 (encCnt n 0) else y
       if r.2.2 then counted.count 1 (encCnt n 1) else counted) :=
  if_neg (by simp [hlive, hheld])

theorem ingEncoderRecord_of_on (hon : (s.func (encFunc n)).life = .on) :
    ingEncoderRecord n s =
      (let at_ := (s.enc n).base + (s.enc n).records * usTime (s.enc n).recordPeriod
       let x := s.runToTime at_
       ((x.toFus (encFunc n) at_ ((x.enc n).record n)).monStamp (encFunc n) at_).setEnc n
         { x.enc n with edges := 0, moved := false, illegal := false, index := false, records := (x.enc n).records + 1 }) :=
  if_neg (by simp [hon])

end

/-! ### Lidar templates (R117, R120) -/

section
variable {j : Nat}

/-- A packet of template `j` has come now: its silence starts anew and it is counted. -/
def State.lidarSeen (s : State) (j : Nat) : State :=
  (s.setLidar j { s.lidar j with lastSeen := s.now, silentFrom := s.now }).count 1 (lidarCnt j 0)

section
variable {port src udp stamp : Nat} {bs : List Byte}
  (hj : (List.range 8).find? (fun k => s.lidarPortMatch port src udp k && (s.lidar k).payloadLen == bs.length) = some j)
include hj

theorem ingLidarPacket_of_on (hon : (s.func (lidarFunc j)).life = .on) :
    ingLidarPacket port src udp bs stamp s =
      (let y := (s.lidarSeen j).emitPoints j port bs stamp
       y.setLidar j { y.lidar j with seq := (y.lidar j).seq + 1 }) := by
  simp only [ingLidarPacket, hj]
  exact if_pos (by simp [hon])

theorem ingLidarPacket_of_not_on (hnot : (s.func (lidarFunc j)).life ≠ .on) :
    ingLidarPacket port src udp bs stamp s = (s.lidarSeen j).setReady (lidarFunc j) := by
  simp only [ingLidarPacket, hj]
  exact if_neg (by simpa using hnot)

end

theorem ingLidarSilence_of_on (hon : (s.func (lidarFunc j)).life = .on) :
    ingLidarSilence j s =
      (let due := (s.lidar j).silentFrom + 800000 * (s.lidar j).absentMs
       ((s.runToTime due).setLidar j { s.lidar j with silentFrom := due }).event 1 0xFF03 St.sensorAbsent 0x43 (lidarFunc j)
         (result [(20, 2, lidarFunc j), (24, 8, (s.lidar j).lastSeen)])) :=
  if_neg (by simp [hon])

end

end

/-- Settles O38, one event after the other: each is the meaning of its row, taken where its condition holds; one bit of DEC by whether an
output falls due. -/
theorem sensorPinsComplete : Obligations.SensorPinsComplete := by
  refine ⟨fun s c hs hrun hon hstuck => ?stuck, fun s n a b z sampled held hs hlive hheld => ?edge, fun s n hs hon => ?record,
    fun s port src udp j stamp bs hs hj => ⟨fun hon => ?lidarOn, fun hnot => ?lidarReady⟩, fun s j hs hon => ?silence,
    fun s c hs hactive hclock => ⟨fun ls b => ?bits, fun b => ⟨fun h => ?noOutput, fun o h => ?output⟩⟩⟩
  case stuck => exact ⟨_, exec_of_ownPins hs rfl (ingStuckRun_of_run hrun hon hstuck), State.event_reported _ _ _ _ _ _ _⟩
  case edge => exact exec_of_ownPins hs rfl (ingEncoderEdge_of_qualified hlive hheld)
  case record => exact exec_of_ownPins hs rfl (ingEncoderRecord_of_on hon)
  case lidarOn => exact exec_of_ownPins hs rfl (ingLidarPacket_of_on hj hon)
  case lidarReady => exact exec_of_ownPins hs rfl (ingLidarPacket_of_not_on hj hnot)
  case silence => exact ⟨_, exec_of_ownPins hs rfl (ingLidarSilence_of_on hon), State.event_reported _ _ _ _ _ _ _⟩
  case bits => exact exec_of_ownPins hs rfl (decOutput_of_active hactive hclock)
  case noOutput => exact exec_of_ownPins hs rfl ((decOutput_of_active hactive hclock).trans (State.decBit_of_no_output h))
  case output => exact exec_of_ownPins hs rfl ((decOutput_of_active hactive hclock).trans (State.decBit_of_output h))

end Sys2Proof.Machine
end

section
/-! PROOF. Work whose writes count for a digest lane (R362): what it does follows from what its meaning does with its writes counted there. -/

namespace Sys2Proof.Machine

variable {s : State} {lane cadence : Nat} {f g : State → State}

/-- The writes of what follows count for a digest lane and a cadence. -/
abbrev State.writingFor (s : State) (lane cadence : Nat) : State :=
  { s with tdm := { s.tdm with writer := some (lane, cadence) } }

theorem State.writing_congr (h : f (s.writingFor lane cadence) = g (s.writingFor lane cadence)) :
    s.writing lane cadence f = s.writing lane cadence g :=
  congrArg (fun t : State => { t with tdm := { t.tdm with writer := s.tdm.writer } }) h

end Sys2Proof.Machine
end

section
/-! PROOF. Units of the Vision Front engines (R158 to R162): what the next unit of a stream does, where its inputs are in and its
sub-bucket pays for it. -/

namespace Sys2Proof.Machine

section
variable {s : State} {i : Nat} {u : VisUnit} {f : Frame}

/-- Unit `u` of stream `i` is due in frame `f`: it is the next in canonical order (R159), a band of RECT has its trigger line in (R145),
and what is left of the stream's sub-bucket pays for it (R160). -/
structure State.VisDue (s : State) (i : Nat) (u : VisUnit) (f : Frame) : Prop where
  active : (s.visCtx i).active = true
  frame : s.visFrame i = some f
  present : f.absent = false
  next : (visUnits (s.visCtx i).block)[(s.visCtx i).cursor]? = some u
  lineIn : u.engine = 0 → visTrigger (s.visCtx i).block (s.visGrid (s.visCtx i)) u.band (s.cam i).height < f.lines.length
  cyclesPaid : (s.visCtx i).cyc + visCost (s.visCtx i) u ≤ Vb.shareCyc (s.visCtx i).block
  tokensPaid : (s.visCtx i).tok + visTok (s.visCtx i) u ≤ Vb.shareTok (s.visCtx i).block

/-- What lane the writes count for does not bear on what is due. -/
theorem State.VisDue.writingFor (h : s.VisDue i u f) (lane cadence : Nat) : (s.writingFor lane cadence).VisDue i u f where
  active := h.active
  frame := h.frame
  present := h.present
  next := h.next
  lineIn := h.lineIn
  cyclesPaid := h.cyclesPaid
  tokensPaid := h.tokensPaid

/-- Unit `u` issues: its engine's wait ends, its cost and its tokens are charged, and it does its engine's work. -/
abbrev State.visIssue (s : State) (c : VisCtx) (i : Nat) (u : VisUnit) (f : Frame) : State :=
  (s.waitOver c.slot c.index c.pipe (4 * c.pipe + u.engine)).unitWork c.slot c.index c.pipe (visCost c u) (visTok c u)
    (fun _ st => visWork i f c u.engine u.level u.band (visCost c u) (visTok c u) st)

/-- A unit that is due issues where its output has room; else its engine waits. -/
theorem visUnit_of_due {room : Bool} (h : s.VisDue i u f) :
    visUnit i u.engine u.level u.band room s =
      (let c := s.visCtx i
       if room then s.visIssue c i u f else s.waitOn c.slot c.index c.pipe (4 * c.pipe + u.engine) 1) := by
  have hline : ¬ (u.engine = 0 ∧
      f.lines.length ≤ visTrigger (s.visCtx i).block (s.visGrid (s.visCtx i)) u.band (s.cam i).height) :=
    fun ⟨he, hle⟩ => Nat.not_lt.2 hle (h.lineIn he)
  have hspent : b2n (decide (Vb.shareCyc (s.visCtx i).block < (s.visCtx i).cyc + visCost (s.visCtx i) u)) +
      2 * b2n (decide (Vb.shareTok (s.visCtx i).block < (s.visCtx i).tok + visTok (s.visCtx i) u)) = 0 := by
    simp [b2n, h.cyclesPaid, h.tokensPaid]
  cases room <;> simp [visUnit, h.active, h.frame, h.present, h.next, hline, hspent]

/-- The row of a unit that is due answers its issue, or its engine's wait, the writes counted for lane 1 of the stream's cadence. -/
theorem exec_of_visDue {r : Instr} {room : State → Bool} {free : Bool} (ha : s.alive = true)
    (hr : exec r s = .next (s.act (fun t => t.writing 1 (t.visCtx i).cadence (visUnit i u.engine u.level u.band (room t)))))
    (h : s.VisDue i u f) (hroom : room s = free) :
    exec r s = .next (s.writing 1 (s.visCtx i).cadence (fun x =>
      let c := s.visCtx i
      if free then x.visIssue c i u f else x.waitOn c.slot c.index c.pipe (4 * c.pipe + u.engine) 1)) := by
  subst hroom
  exact exec_of_act ha hr (State.writing_congr (visUnit_of_due (h.writingFor _ _)))

end

/-- Settles O39: every unit whose conditions hold is due, and only a band of RECT can lack room for its output. -/
theorem visionUnitsComplete : Obligations.VisionUnitsComplete := by
  intro s i l k key f c ha hactive hframe hpresent
  have due (e : Nat) (hline : e = 0 → visTrigger c.block (s.visGrid c) k (s.cam i).height < f.lines.length)
      (hnext : (visUnits c.block)[c.cursor]? = some ⟨key, e, l, k⟩) (hcyc : c.cyc + visCost c ⟨key, e, l, k⟩ ≤ Vb.shareCyc c.block)
      (htok : c.tok + visTok c ⟨key, e, l, k⟩ ≤ Vb.shareTok c.block) : s.VisDue i ⟨key, e, l, k⟩ f :=
    ⟨hactive, hframe, hpresent, hnext, hline, hcyc, htok⟩
  refine ⟨?rect, ?rectWaits, fun hnext hcyc htok _ => ?pyr, fun hnext hcyc htok _ => ?crn, fun hnext hcyc htok _ => ?dsc⟩
  case rect =>
    rintro rfl hline _ hnext hcyc htok hroom
    exact exec_of_visDue (room := (·.directRoom i)) ha rfl (due 0 (fun _ => hline) hnext hcyc htok) (hroom rfl)
  case rectWaits =>
    rintro rfl hline hnext hcyc htok hfull
    exact exec_of_visDue (room := (·.directRoom i)) ha rfl (due 0 (fun _ => hline) hnext hcyc htok) hfull
  case pyr => exact exec_of_visDue (room := fun _ => true) ha rfl (due 1 (by simp) hnext hcyc htok) rfl
  case crn => exact exec_of_visDue (room := fun _ => true) ha rfl (due 2 (by simp) hnext hcyc htok) rfl
  case dsc => exact exec_of_visDue (room := fun _ => true) ha rfl (due 3 (by simp) hnext hcyc htok) rfl

end Sys2Proof.Machine
end

section
/-! PROOF. Units of the flow and stereo engines (R166 to R183): what the next unit of a pair or stream does, where its inputs are ready,
and how a context closes. -/

namespace Sys2Proof.Machine

section
variable {s : State}

/-- A row of a context whose stage runs answers what its meaning does, the writes counted for lane 2 of the context's cadence. -/
theorem exec_of_fstRow {r : Instr} {e i : Nat} {f g : State → State} (ha : s.alive = true)
    (hw : s.waitsAt (s.fstCtx e i).slot (s.fstCtx e i).index = false) (hr : exec r s = .next (s.fstRow e i f))
    (h : f (s.writingFor 2 (s.fstCtx e i).cadence) = g (s.writingFor 2 (s.fstCtx e i).cadence)) :
    exec r s = .next (s.writing 2 (s.fstCtx e i).cadence g) :=
  exec_of_act ha hr ((if_neg (by simp [hw])).trans (State.writing_congr h))

/-! ### Stereo (R168 to R175, R181) -/

/-- A band of a pair waits for the band below it of both streams (R181); where both are READY it is paid for and computed. -/
theorem fstStereoBand_of_ready {q : Nat} {u : FstUnit} {lv rv : List Byte}
    (hleft : visBlockOf (s.img (s.pairCtx q).slot) (Pb.left (s.pairCtx q).block) = some lv)
    (hright : visBlockOf (s.img (s.pairCtx q).slot) (Pb.right (s.pairCtx q).block) = some rv)
    (hnext : (stereoUnits lv rv (s.pairCtx q).block)[(s.pairCtx q).cursor]? = some u)
    (hactive : (s.pairCtx q).active = true) (hruns : (s.pairCtx q).stopped = false)
    (hl : s.visFlag (Vb.ctx lv) (Vb.bandFlag lv u.level (min (u.band + 1) (Vb.bands lv u.level - 1))) = .ready)
    (hr : s.visFlag (Vb.ctx rv) (Vb.bandFlag rv u.level (min (u.band + 1) (Vb.bands lv u.level - 1))) = .ready) :
    fstStereoBand q u.level u.band s =
      (let b := (s.pairCtx q).block
       let w := Vb.width lv u.level
       s.fstPay 1 q (16 * (w * (if u.level = Pb.top b then ceilDiv (dmax u.level + 1) 65 else 1) + 24))
         (48 * ceilDiv (2 * w) 64 + (if u.level = Pb.bot b then 16 * ceilDiv w 64 else 0) +
           (if u.level < Pb.top b then 8 * ceilDiv (2 * Vb.width lv (u.level + 1)) 64 else 0))
         (fstStereoWork q u.level u.band w (Vb.height lv u.level) lv rv b (s.pairCtx q))) := by
  simp [fstStereoBand, hleft, hright, hnext, hactive, hruns, hl, hr]

/-! ### Flow (R177 to R181) -/

/-- The flow context of stream `i` is at work on the stream of VIS block `vb`: no unit of it has stopped it. -/
structure State.FlowRuns (s : State) (i : Nat) (vb : List Byte) : Prop where
  stream : visBlockOf (s.img (s.flowCtx i).slot) (Fb.stream (s.flowCtx i).block) = some vb
  active : (s.flowCtx i).active = true
  runs : (s.flowCtx i).stopped = false

section
variable {i : Nat} {vb : List Byte}

/-- What lane the writes count for does not bear on a context's being at work. -/
theorem State.FlowRuns.writingFor (h : s.FlowRuns i vb) (lane cadence : Nat) : (s.writingFor lane cadence).FlowRuns i vb :=
  ⟨h.stream, h.active, h.runs⟩

theorem fstFlowCopy_of_ready {u : FstUnit} (h : s.FlowRuns i vb)
    (hnext : (copyUnits vb (s.flowCtx i).block)[(s.flowCtx i).cursor]? = some u)
    (hband : s.visFlag i (Vb.bandFlag vb u.level u.band) = .ready) :
    fstFlowCopy i u.level u.band s =
      (let w := Vb.width vb u.level
       s.fstPay 0 i (16 * ceilDiv w 32) (32 * ceilDiv (2 * w) 64)
         (fstCopyWork u.level u.band (pad64 (2 * w)) vb (s.flowCtx i).block (s.flowCtx i))) := by
  simp [fstFlowCopy, h.stream, h.active, h.runs, hnext, hband]

/-- The carried levels' lists are all READY, so none is waited for and none degrades the block. -/
theorem fstFlowCarry_of_ready (h : s.FlowRuns i vb) (hsource : Fb.source (s.flowCtx i).block = 0)
    (hcopied : (s.flowCtx i).cursor = (copyUnits vb (s.flowCtx i).block).length)
    (hlists : ∀ l ∈ Fb.carried (s.flowCtx i).block, s.visFlag i (Vb.listFlag vb l) = .ready) :
    fstFlowCarry i s =
      (let b := (s.flowCtx i).block
       s.fstPay 0 i (16 + Fb.maxTracks b / 4) (Fb.maxTracks b / 2) (fstCarryWork i vb b (s.flowCtx i))) := by
  have hnone (f : Flag) (hf : f ≠ .ready) :
      ((Fb.carried (s.flowCtx i).block).map (fun l => s.visFlag i (Vb.listFlag vb l))).contains f = false := by
    rw [List.map_congr_left hlists]
    simp [hf]
  simp only [fstFlowCarry, h.stream, hnone .empty (by decide), hnone .cut (by decide), hnone .stale (by decide)]
  simp [h.active, h.runs, hsource, hcopied]

/-- A band of tracks runs against the read half where that is usable, the list whole and not degraded (R178, R183). -/
theorem fstTrackBand_of_listed {k half : Nat} (h : s.FlowRuns i vb)
    (hnext : (s.flowCtx i).cursor = flowLead vb (s.flowCtx i).block + k) (hhalf : s.refHalf (s.flowCtx i) vb = some half)
    (hlist : s.listDegraded (s.flowCtx i) = false) (hwhole : (s.flowTracks vb (s.flowCtx i).block half).2 = false)
    (hleft : 16 * k < (s.flowTracks vb (s.flowCtx i).block half).1.length) :
    fstTrackBand i k s =
      (let b := (s.flowCtx i).block
       let tracks := (s.flowTracks vb b half).1
       s.fstPay 0 i (16 + 16 * ((Fb.levels b).map (fun l => 12 + 4 * Fb.iter b l)).sum)
         (16 * ((Fb.levels b).map (fun l => 10 + 10 * Fb.iter b l)).sum + 4)
         (fstTrackWork i k half tracks.length vb b tracks (s.flowCtx i))) := by
  simp [fstTrackBand, h.stream, h.active, h.runs, hnext, hhalf, hlist, hwhole, hleft]

/-! ### The close unit (R181, R183) -/

/-- Before its tracks, a flow block without a usable read half closes with REF_MISSING. -/
theorem fstCloseUnit_of_refMissing (h : s.FlowRuns i vb) (hlead : (s.flowCtx i).cursor = flowLead vb (s.flowCtx i).block)
    (hhalf : s.refHalf (s.flowCtx i) vb = none) :
    fstCloseUnit 0 i s = (((s.fstStop 0 i 1).setBit (Reg.FST_FLOW_STATUS i) 0).degrade (s.flowCtx i).slot
      (s.flowCtx i).index).fstClose 0 i := by
  simp [fstCloseUnit, State.fstCtx, h.stream, h.active, h.runs, hlead, hhalf]

/-- Before its tracks, a flow block whose list is CUT or STALE closes with LIST_DEGRADED. -/
theorem fstCloseUnit_of_listDegraded {half : Nat} (h : s.FlowRuns i vb)
    (hlead : (s.flowCtx i).cursor = flowLead vb (s.flowCtx i).block) (hhalf : s.refHalf (s.flowCtx i) vb = some half)
    (hlist : s.listDegraded (s.flowCtx i) = true) :
    fstCloseUnit 0 i s = ((s.fstStop 0 i 4).degrade (s.flowCtx i).slot (s.flowCtx i).index).fstClose 0 i := by
  simp [fstCloseUnit, State.fstCtx, h.stream, h.active, h.runs, hlead, hhalf, hlist]

end

/-- Nothing cuts short the context `c` of engine `e`: it is a pair, or it is stopped, or its tracks have begun, or they may begin. -/
def State.FstEndsWhole (s : State) (e : Nat) (c : FstCtx) : Prop :=
  e = 1 ∨ c.stopped = true ∨ ∀ vb, visBlockOf (s.img c.slot) (Fb.stream c.block) = some vb →
    c.cursor ≠ flowLead vb c.block ∨ ((s.refHalf c vb).isSome = true ∧ s.listDegraded c = false)

/-- A context all of whose units are over closes. -/
theorem fstCloseUnit_of_over {e i : Nat} (hactive : (s.fstCtx e i).active = true) (hover : s.fstUnitsOver e i = true)
    (hwhole : s.FstEndsWhole e (s.fstCtx e i)) : fstCloseUnit e i s = s.fstClose e i := by
  simp only [fstCloseUnit, hactive, hover]
  cases hb : visBlockOf (s.img (s.fstCtx e i).slot) (Fb.stream (s.fstCtx e i).block) with
  | none => rfl
  | some vb =>
    by_cases hlead : e = 0 ∧ (s.fstCtx e i).stopped = false ∧ (s.fstCtx e i).cursor = flowLead vb (s.fstCtx e i).block
    · obtain ⟨rfl, hruns, hcursor⟩ := hlead
      obtain h | h | h := hwhole
      · cases h
      · simp [h] at hruns
      · obtain h | ⟨hhalf, hlist⟩ := h vb hb
        · exact absurd hcursor h
        · simp [hruns, hcursor, Option.isNone_eq_false_iff.2 hhalf, hlist]
    · simp [if_neg hlead]

end

/-- Settles O40, one row after the other: each is the meaning of its unit, taken where its inputs are ready. -/
theorem stereoFlowUnitsComplete : Obligations.StereoFlowUnitsComplete := by
  refine ⟨?stereo, ?copy, ?carry, ?track, ?close, ?closeEarly⟩
  case stereo =>
    rintro s q l k u lv rv c b w h need ha hw hleft hright hnext rfl rfl hactive hruns hl hr
    exact exec_of_fstRow (e := 1) ha hw rfl
      (fstStereoBand_of_ready (s := s.writingFor 2 c.cadence) hleft hright hnext hactive hruns hl hr)
  case copy =>
    rintro s i l k u vb c b w ha hw hb hnext rfl rfl hactive hruns hband
    exact exec_of_fstRow (e := 0) ha hw rfl
      (fstFlowCopy_of_ready (State.FlowRuns.writingFor ⟨hb, hactive, hruns⟩ 2 c.cadence) hnext hband)
  case carry =>
    intro s i vb c b ha hw hb hactive hruns hsource hcopied hlists
    exact exec_of_fstRow (e := 0) ha hw rfl
      (fstFlowCarry_of_ready (State.FlowRuns.writingFor ⟨hb, hactive, hruns⟩ 2 c.cadence) hsource hcopied hlists)
  case track =>
    intro s i k half vb c b tl ha hw hb hactive hruns hnext hhalf hlist hwhole hleft
    exact exec_of_fstRow (e := 0) ha hw rfl
      (fstTrackBand_of_listed (State.FlowRuns.writingFor ⟨hb, hactive, hruns⟩ 2 c.cadence) hnext hhalf hlist hwhole hleft)
  case close =>
    intro s e i c ha hw hactive hover hwhole
    exact exec_of_fstRow ha hw rfl (fstCloseUnit_of_over (s := s.writingFor 2 c.cadence) hactive hover hwhole)
  case closeEarly =>
    intro s i vb c ha hw hactive hruns hb hlead
    have hflow : (s.writingFor 2 c.cadence).FlowRuns i vb := State.FlowRuns.writingFor ⟨hb, hactive, hruns⟩ 2 c.cadence
    exact ⟨fun hhalf => exec_of_fstRow (e := 0) ha hw rfl (fstCloseUnit_of_refMissing hflow hlead hhalf),
      fun _ hhalf hlist => exec_of_fstRow (e := 0) ha hw rfl (fstCloseUnit_of_listDegraded hflow hlead hhalf hlist)⟩

end Sys2Proof.Machine
end

section
/-! PROOF. Units of FUS (R191 to R207): the next unit of a context, where its trigger has come, the votes' quarantine and a silent
encoder's report. -/

namespace Sys2Proof.Machine

section
variable {s : State}

/-- A row of a context whose stage runs answers what its meaning makes of the state, the writes counted for lane 3 of the context's
cadence. -/
theorem exec_of_fusRow {r : Instr} {f : Nat} {g : State → State} {t : State} (ha : s.alive = true)
    (hw : s.waitsAt (s.fusCtx f).slot (s.fusCtx f).index = false) (hr : exec r s = .next (s.fusRow f g))
    (h : g (s.writingFor 3 (s.fusCtx f).cadence) = t) :
    exec r s = .next (s.writing 3 (s.fusCtx f).cadence (fun _ => t)) :=
  exec_of_act ha hr ((if_neg (by simp [hw])).trans (State.writing_congr h))

/-- The entries the next instant still waits for. -/
def State.openEntries (x : State) (f : Nat) (tell : Nat → Option Nat) : List Nat :=
  let c := x.fusCtx f
  (List.range c.entries.length).filter (fun i => !(x.entryAt c i (x.fusInstant c c.insts.length) (tell i)).complete)

/-! ### Units of a context at work: `x` is the state with what has reached FUS handled -/

section
variable {x : State} {f : Nat} (hx : s.fusHandle f = x) (hactive : (x.fusCtx f).active = true)
include hx hactive

/-! #### Emission (R192, R195) -/

section
variable {tell : Nat → Option Nat} (hleft : (x.fusCtx f).insts.length < Ub.outCount (x.fusCtx f).block)
  (htold : x.fusTold (x.fusCtx f) (x.fusCtx f).insts.length = some tell)
include hleft htold

theorem fusEmission_of_told :
    fusEmission f s =
      (let c := x.fusCtx f
       let j := c.insts.length
       let t := x.fusInstant c j
       let opens := x.openEntries f tell
       if x.pairSecondary then (if opens.any (fun i => tell i != some 0) then x else fusEmit f j t c tell x x)
       else fusEmit f j t c tell x (x.runToTime ((opens.map (fun i => t + Ue.wait (c.entry i))).foldl max 0))) := by
  simp only [fusEmission, hx, htold]
  exact if_neg (by simp [hactive, hleft])

/-- The wait limits bound the wait of a part that is no secondary. -/
theorem fusEmission_of_not_secondary (hp : x.pairSecondary = false) :
    fusEmission f s =
      (let c := x.fusCtx f
       let j := c.insts.length
       let t := x.fusInstant c j
       fusEmit f j t c tell x (x.runToTime (((x.openEntries f tell).map (fun i => t + Ue.wait (c.entry i))).foldl max 0))) :=
  (fusEmission_of_told hx hactive hleft htold).trans (if_neg (by simp [hp]))

/-- A secondary waits for the records it was told of, so only an entry it was told no record of may be open. -/
theorem fusEmission_of_secondary (hp : x.pairSecondary = true) (hopen : ∀ i ∈ x.openEntries f tell, tell i = some 0) :
    fusEmission f s =
      (let c := x.fusCtx f
       let j := c.insts.length
       fusEmit f j (x.fusInstant c j) c tell x x) :=
  (fusEmission_of_told hx hactive hleft htold).trans ((if_pos hp).trans (if_neg (by simpa using hopen)))

end

/-! #### PRJ (R197, R207) -/

theorem fusPrjBlock_of_next {j i : Nat} {blk : List (List Byte)} (hruns : (x.fusCtx f).prjCut = false)
    (hnext : x.prjNext (x.fusCtx f) = some (j, i, blk)) :
    fusPrjBlock f s =
      (let c := x.fusCtx f
       let m := ((x.img c.slot).drop (Ue.addr (c.entry i))).take 128
       (x.fusPay f 1 (16 + 2 * blk.length) 0 (fun st =>
         (st.modProj f j (fun z => { z with projected := SMap.upd 0 z.projected i (· + blk.length) })).each blk
           (fun st2 p => st2.fusPoint f j m p (x.fusGrid c).1 (x.fusGrid c).2.1))).fusPrjEnd f) := by
  simp only [fusPrjBlock, hx, hnext]
  exact if_neg (by simp [hactive, hruns])

/-! #### AFE at instant `y` (R198, R199, R202, R206) -/

section
variable {y : FusInst} (hy : (x.fusCtx f).insts[(x.fusCtx f).recorded]? = some y)
include hy

/-- The instant record follows every other unit of the instant, or AFE's cut. -/
theorem fusInstantRecord_of_done (hprj : x.prjOver (x.fusCtx f) (x.fusCtx f).recorded = true)
    (hdone : (x.fusCtx f).afeCut = true ∨ ((Ub.pixel (x.fusCtx f).block = true → y.gridDone = true) ∧
      (x.fusFeatures (x.fusCtx f) y).length ≤ y.features ∧ (x.fusCtx f).groups.length ≤ y.groups)) :
    fusInstantRecord f s = ((x.fusWriteInstant f y false).fusAfeEnd f).fusPrjEnd f := by
  simp only [fusInstantRecord, hx, hy]
  refine if_neg ?_
  obtain hcut | ⟨hgrid, hfeatures, hgroups⟩ := hdone
  · simp [hactive, hprj, hcut]
  · have hpixel : (!Ub.pixel (x.fusCtx f).block || y.gridDone) = true := by
      cases hp : Ub.pixel (x.fusCtx f).block with
      | false => rfl
      | true => exact hgrid hp
    simp [hactive, hprj, hpixel, hfeatures, hgroups]

variable (hruns : (x.fusCtx f).afeCut = false)
include hruns

/-- The grid follows the instant's projection, and waits while a snapshot of it is taken (R382). -/
theorem fusPixelGrid_of_projected (hopen : y.gridDone = false) (hpixel : Ub.pixel (x.fusCtx f).block = true)
    (hprj : x.prjOver (x.fusCtx f) (x.fusCtx f).recorded = true) (hmet : x.metHolds f = false) :
    fusPixelGrid f s =
      (let c := x.fusCtx f
       let l := (x.fusGrid c).1; let w := (x.fusGrid c).2.1; let h := (x.fusGrid c).2.2
       let pair := Ub.pixPair c.block != 0xFF
       x.fusPay f 0 (64 + ceilDiv (w * h) 4) (ceilDiv (4 * w * h) 64 + (if pair then ceilDiv (3 * w * h) 64 else 0))
         (fusGridWork f l w h pair c y)) := by
  simp only [fusPixelGrid, hx, hy]
  exact if_neg (by simp [hactive, hruns, hopen, hpixel, hprj, hmet])

theorem fusFeature_of_gridDone {id a : Nat} (hgrid : y.gridDone = true)
    (hnext : (x.fusFeatures (x.fusCtx f) y)[y.features]? = some (id, a)) :
    fusFeature f s = x.fusPay f 0 24 1 (fusFeatureWork f id a (x.fusCtx f) y) := by
  simp only [fusFeature, hx, hy, hnext]
  exact if_neg (by simp [hactive, hruns, hgrid])

/-- The vote groups follow the grid and the feature records of an instant that has them. -/
theorem fusStateRecord_of_featuresOver {g : Nat} (hnext : (x.fusCtx f).groups[y.groups]? = some g)
    (hover : Ub.pixel (x.fusCtx f).block = true → y.gridDone = true ∧ (x.fusFeatures (x.fusCtx f) y).length ≤ y.features) :
    fusStateRecord f s = x.fusPay f 0 48 0 (fusStateWork f g (x.fusCtx f) y) := by
  simp only [fusStateRecord, hx, hy, hnext]
  refine if_neg ?_
  cases hp : Ub.pixel (x.fusCtx f).block with
  | false => simp [hactive, hruns]
  | true =>
    obtain ⟨hgrid, hfeatures⟩ := hover hp
    simp [hactive, hruns, hgrid, hfeatures]

end

/-! #### Delayed records (R194, R206) -/

theorem fusDelayed_of_late {l : FusLate} {rest : List FusLate} (hlate : (x.fusCtx f).late = l :: rest)
    (hruns : (x.fusCtx f).afeCut = false) (hrecorded : Ub.outCount (x.fusCtx f).block ≤ (x.fusCtx f).recorded) :
    fusDelayed f s = (x.fusPay f 0 16 1 (fusDelayedWork f l rest)).fusAfeEnd f := by
  simp only [fusDelayed, hx, hlate]
  exact if_neg (by simp [hactive, hruns, hrecorded])

end

/-! ### Silence and votes (R201, R204) -/

theorem fusSilentEncoder_of_silent {f i : Nat} (hon : (s.fusCtx f).on = true) (hsilent : 3 ≤ (SMap.get (0, 2) (s.fusCtx f).silent i).1)
    (hnew : (s.fusCtx f).silentMask.testBit i = false) :
    fusSilentEncoder f i s =
      (let c := s.fusCtx f
       let func := if (SMap.get (0, 2) c.silent i).2 = 0 then Ue.func (c.entry i) else Ue.pair (c.entry i)
       (s.setFus f { c with silentMask := c.silentMask ||| 2 ^ i }).event 5 0xFF03 St.sensorAbsent 0x45 func
         (result [(20, 2, func), (23, 1, f), (24, 8, s.ccu.cadence - 1)])) :=
  if_neg (by simp [hon, hsilent, hnew])

section
variable {id : Nat} (hlo : 0x010 ≤ id) (hhi : id ≤ 0x067)
include hlo hhi

theorem fusQuarantine_of_gated (hadmitted : s.quarantined id = false) (hrun : s.fld (fusVoteReg id) 16 4 ≤ s.gatedRun id) :
    fusQuarantine id s =
      (((s.setRuns id 0 0).setFld (fusVoteReg id) 0 2 2).count 5 (fusVoteCnt id 1)).event 5 0xFF03 St.sensorQuarantined 0x46 id
        (result [(20, 2, id), (22, 1, 2), (23, 1, s.fld (fusVoteReg id) 16 4), (24, 8, s.ccu.cadence)]) :=
  if_neg (by simp [rng, hlo, hhi, hadmitted, hrun])

theorem fusReadmit_of_clean (hquar : s.quarantined id = true) (hrun : s.fld (fusVoteReg id) 20 8 ≤ s.cleanRun id) :
    fusReadmit id s =
      (let x := ((s.setRuns id 0 0).setFld (fusVoteReg id) 0 2 0).voteUpdate id
       x.event 5 0xFF03 St.sensorQuarantined 0x47 id
         (result [(20, 2, id), (22, 1, x.voteState id), (23, 1, s.fld (fusVoteReg id) 20 8), (24, 8, s.ccu.cadence)])) :=
  if_neg (by simp [rng, hlo, hhi, hquar, hrun])

end

end

/-- Settles O42, one row after the other: each is the meaning of its unit in the turn's state, the emission by the part's role in a
pair. -/
theorem fusionUnitsComplete : Obligations.FusionUnitsComplete := by
  refine ⟨fun s f tell ha hw hactive hleft htold => ⟨fun hp => ?primary, fun hp hopen => ?secondary⟩,
    fun s f j i blk ha hw hactive hruns hnext => ?prj, fun s f y ha hw hy hactive hruns hopen hpixel hprj hmet => ?grid,
    fun s f id a y ha hw hy hactive hruns hgrid hnext => ?feature⟩
  case primary => exact exec_of_fusRow ha hw rfl (fusEmission_of_not_secondary rfl hactive hleft htold hp)
  case secondary => exact exec_of_fusRow ha hw rfl (fusEmission_of_secondary rfl hactive hleft htold hp hopen)
  case prj => exact exec_of_fusRow ha hw rfl (fusPrjBlock_of_next rfl hactive hruns hnext)
  case grid => exact exec_of_fusRow ha hw rfl (fusPixelGrid_of_projected rfl hactive hy hruns hopen hpixel hprj hmet)
  case feature => exact exec_of_fusRow ha hw rfl (fusFeature_of_gridDone rfl hactive hy hruns hgrid hnext)

/-- Settles O43, one row after the other: each is the meaning of its unit or event, taken where its condition holds. -/
theorem fusionRecordsComplete : Obligations.FusionRecordsComplete := by
  refine ⟨fun s f g y ha hw hy hactive hruns hnext hover => ?state, fun s f y ha hw hy hactive hprj hdone => ?instant,
    fun s f l rest ha hw hlate hactive hruns hrecorded => ?delayed, fun s f i ha hon hsilent hnew => ?silent,
    fun s id ha hlo hhi hadmitted hrun => ?quarantine, fun s id ha hlo hhi hquar hrun => ?readmission⟩
  case state => exact exec_of_fusRow ha hw rfl (fusStateRecord_of_featuresOver rfl hactive hy hruns hnext hover)
  case instant => exact exec_of_fusRow ha hw rfl (fusInstantRecord_of_done rfl hactive hy hprj hdone)
  case delayed => exact exec_of_fusRow ha hw rfl (fusDelayed_of_late rfl hactive hlate hruns hrecorded)
  case silent => exact ⟨_, exec_of_act ha rfl (fusSilentEncoder_of_silent hon hsilent hnew), State.event_reported _ _ _ _ _ _ _⟩
  case quarantine => exact ⟨_, exec_of_act ha rfl (fusQuarantine_of_gated hlo hhi hadmitted hrun), State.event_reported _ _ _ _ _ _ _⟩
  case readmission => exact ⟨_, exec_of_act ha rfl (fusReadmit_of_clean hlo hhi hquar hrun), State.event_reported _ _ _ _ _ _ _⟩

end Sys2Proof.Machine
end

section
/-! PROOF. The Fast Pose Path (R210 to R228): the window without a set, the end of a replay, a set of the live path that neither a seed nor
a replay concerns. -/

namespace Sys2Proof.Machine

variable {s : State}

/-! ### The set that is late (R211) -/

theorem fppNoSet_of_on (hon : s.fppOn = true) :
    fppNoSet s =
      (let due := s.fpp.waitFrom + 16 * s.outputPeriod (s.axisChannel 0)
       let x := s.runTo due
       (x.setFpp (fun f => { f with waitFrom := due })).event 6 0xFF03 St.sensorAbsent 0x4C (decFunc x.lateChannel)
         (result [(20, 2, decFunc x.lateChannel), (24, 8, x.fpp.lastStamp)])) :=
  if_neg (by simp [hon])

/-! ### The end of a replay (R224) -/

theorem fppReplayComplete_of_replay {r : Replay} (hr : s.fpp.replay = some r) :
    fppReplayComplete s = (s.runTo (replayEnd s.fpp.ring r r.free)).runReplay (replayEnd s.fpp.ring r r.free) := by
  simp only [fppReplayComplete, hr]

/-! ### The live path (R215) -/

@[simp] theorem State.setFpp_fpp (f : Fpp → Fpp) : (s.setFpp f).fpp = f s.fpp := rfl
@[simp] theorem State.fppCycles_fpp (e n : Nat) : (s.fppCycles e n).fpp = s.fpp := rfl
@[simp] theorem State.bankEnd_fpp (sub e : Nat) : (s.bankEnd sub e).fpp = s.fpp := rfl

/-- Without a seed and a replay the state source is the state before (Table 10.2): the set's values propagate it (R214). The 720 busy
cycles of engine 0's bank are deduced, no rule states them (assumption log 48). -/
theorem fppLive_of_unseeded {set : SampleSet} (fault : Bool) (hset : s.fpp.set = some set) (hforced : s.fpp.forced = [])
    (hseed : s.fpp.seed = none) (hreplay : s.fpp.replay = none) :
    fppLive fault s =
      (let x := ((s.setFpp (fun f => { f with forced := [], set := none })).fppCycles 0 720).bankEnd 6 0
       (x.lateCorrections set none).livePose set fault x.fpp.state []
         (propagate s.imuCfg (x.fpp.state.getD Pose.reset) set.values set.stamp) 0) := by
  simp only [fppLive, hset, hforced, State.bankEnd_fpp, State.fppCycles_fpp, State.setFpp_fpp, hseed, hreplay, List.filterMap_nil]

/-- Settles O41, one row after the other: each is the meaning of its event, taken where its condition holds. -/
theorem posePathComplete : Obligations.PosePathComplete := by
  refine ⟨fun s ha hon => ?absent, fun s r ha hr => ?replayEnds, fun s set fault ha hset hforced hseed hreplay => ?live⟩
  case absent => exact ⟨_, exec_of_act ha rfl (fppNoSet_of_on hon), State.event_reported _ _ _ _ _ _ _⟩
  case replayEnds => exact exec_of_act ha rfl (fppReplayComplete_of_replay hr)
  case live => exact exec_of_act ha rfl (fppLive_of_unseeded fault hset hforced hseed hreplay)

end Sys2Proof.Machine
end

section
/-! PROOF. Map and solver commands (R239, R240, R284 to R287): the meaning of each opcode where none of its checks refuses it. -/

namespace Sys2Proof.Machine

section
variable {p : CmdPacket} {e : State}

/-! ### MAP_READ, TILE_EXPORT and TILE_IMPORT (R285, R286) -/

/-- The entries a MAP_READ may name (DETAIL 0x95): landmarks, keyframes, or tiles along TX within the grid. -/
def mapSpanOk (kind first count : Nat) : Prop :=
  (kind = 0 ∧ first < 2 ^ 25) ∨ (kind = 1 ∧ first < 2 ^ 20) ∨
    (kind = 2 ∧ count ≤ 256 ∧ keyOk first = true ∧ sgn 20 (first % 2 ^ 20) + (count : Int) - 1 ≤ 524287)

theorem bodyMapRead_of_span (hready : e.mapNotReady = false) (h1 : 1 ≤ param p 28 4) (hmax : param p 28 4 ≤ 65536)
    (hspan : mapSpanOk (param p 16 1) (param p 20 8) (param p 28 4)) :
    bodyMapRead p e =
      (let bs := (List.range (param p 28 4)).flatMap (e.mapEntry (param p 16 1) (param p 20 8))
       (Reply.accepted, ((e.chargePool 7 (ceilDiv bs.length 64) (ceilDiv bs.length 64) (some e.longKey)).hostSt (param p 32 8) bs).longDone
         e.longKey St.ok 0 (result [(20, 4, param p 28 4)]))) := by
  have h0 : param p 28 4 ≠ 0 := Nat.ne_of_gt h1
  rw [bodyMapRead, if_neg (by simp [hready]), if_neg]
  rcases hspan with ⟨hk, hf⟩ | ⟨hk, hf⟩ | ⟨hk, hc, hf, hx⟩
  · simpa [hk, h0, hmax] using hf
  · simpa [hk, h0, hmax] using hf
  · simpa [hk, h0, hc, hf] using hx

theorem bodyTileExport_of_found (hready : e.mapNotReady = false) (hkey : keyOk (param p 16 8) = true)
    (hfound : (dirFind e.mem e.mapBases (param p 16 8)).isSome = true) :
    bodyTileExport p e =
      (let t := e.readTile (param p 16 8)
       (Reply.accepted, ((e.chargePool 7 257 257 (some e.longKey)).hostSt (param p 24 8) t).longDone e.longKey St.ok 0
         (result [(20, 8, param p 16 8), (28, 4, leAt t 60 4)]))) := by
  have hsome : (dirFind e.mem e.mapBases (param p 16 8)).isNone = false := by rw [← Option.not_isSome, hfound]; rfl
  rw [bodyTileExport, if_neg (by simp [hready]), if_neg (by simp [hkey, hsome])]

theorem bodyTileImport_of_room {u : State} (hready : e.mapNotReady = false)
    (htile : tileOk (param p 16 8) (e.hostLd (param p 24 8) tileLen) = true) (hbusy : e.tileBusy (param p 16 8) = false)
    (hroom : e.importTile (param p 16 8) (e.hostLd (param p 24 8) tileLen) = some u) :
    bodyTileImport p e =
      (Reply.accepted, (u.chargePool 7 257 257 (some e.longKey)).longDone e.longKey St.ok 0 (result [(20, 8, param p 16 8)])) := by
  rw [bodyTileImport, if_neg (by simp [hready]), if_neg (by simp [htile]), if_neg (by simp [hbusy]), hroom]

/-! ### MAP_ARCHIVE (R284, R287) -/

section
variable {way loc : Nat} (hkey : keyOk (param p 16 8) = true) (hfound : dirFind e.mem e.mapBases (param p 16 8) = some (way, loc))
  (hready : e.mapNotReady = false) (hbusy : e.tileBusy (param p 16 8) = false)
include hkey hfound hready hbusy

/-- Direction 1: the tile takes the lowest free frame `f` of the store. -/
theorem bodyMapArchive_back {f : Nat} (hdir : param p 24 1 = 1) (htier : locTier loc ≠ 1)
    (hfree : leastBelow 131072 (fun k => (SMap.find e.map.data.stored k).isNone) = some f) :
    bodyMapArchive p e =
      (let key := param p 16 8
       (Reply.accepted, ((({ e with
          mem := e.mem.writeBytes way (dirEntry key (locPlace loc) 3)
          map := { e.map with
            moving := e.map.moving ++ [(key, locPlace loc, f, 1)]
            data := { e.map.data with stored := SMap.set e.map.data.stored f key } } } : State).addJob
        ⟨e.longKey, .archive, 0, 0, key, false⟩).chargePool 9 257 257 (some e.longKey)).mapShow)) := by
  have hallowed : (decide (1 < 1) || ((1 : Nat) == 0 && locTier loc == 2) || ((1 : Nat) == 1 && locTier loc == 1)) = false := by
    simp [htier]
  simp only [bodyMapArchive, if_pos hkey, hfound, hready, hdir, hallowed, hbusy, hfree, Bool.false_eq_true, if_false]

/-- Direction 0: the tile takes the lowest free archive slot `k`, padded with zeros to a slot's length (assumption log 33). -/
theorem bodyMapArchive_out {k : Nat} (hdir : param p 24 1 = 0) (htier : locTier loc ≠ 2)
    (hfree : leastBelow (e.regN Reg.MAP_ARC_SLOTS) (fun k => (SMap.find e.map.data.archive k).isNone) = some k)
    (hlock : e.writeLocked = false) :
    bodyMapArchive p e =
      (let key := param p 16 8; let f := locPlace loc
       let x := ({ e with
          mem := e.mem.writeBytes way (dirEntry key f 3)
          map := { e.map with
            moving := e.map.moving ++ [(key, k, f, 0)]
            data := { e.map.data with archive := SMap.set e.map.data.archive k key } } } : State).addJob
         ⟨e.longKey, .archive, 1, 0, key, false⟩
       let w : FlashWrite := ⟨e.arcAddr k, tileBytes e.mem e.map.data e.mapBases f ++ zeros (32768 - tileLen), e.longKey⟩
       (Reply.accepted, (({ x with memt := { x.memt with flash := x.memt.flash ++ [w] } } : State).chargePool 9 257 257
         (some e.longKey)).mapShow)) := by
  have hallowed : (decide (1 < 0) || ((0 : Nat) == 0 && locTier loc == 2) || ((0 : Nat) == 1 && locTier loc == 1)) = false := by
    simp [htier]
  simp only [bodyMapArchive, if_pos hkey, hfound, hready, hdir, hallowed, hbusy, hfree, hlock, Bool.false_eq_true, if_false]

end

/-! ### Solver commands (R239, R240) -/

theorem bodySolveSubmit_of_unbound (hc : param p 16 1 < 64) (hlo : 64 ≤ param p 32 4) (hhi : param p 32 4 ≤ 16777216)
    (hmul : param p 32 4 % 8 = 0) (hbound : e.bitOf (Reg.BSU_CH_STATUS (param p 16 1)) 1 = false) :
    bodySolveSubmit p e =
      (let c := param p 16 1
       (Reply.accepted, (e.setBsu c { e.bsuCh c with waiting := (e.bsuCh c).waiting ++
         [⟨param p 24 8, param p 32 4, 1, some e.longKey, e.bsuForce c⟩] }).bsuRefill c)) := by
  rw [bodySolveSubmit, if_neg (Nat.not_le.2 hc), if_neg (by omega), if_neg (by simp [hbound])]

theorem bodyChannelConfig_of_idle (hc : param p 16 1 < 64) (hmode : param p 17 1 ≤ 1) (hcount : rng (param p 18 1) 1 64 = true)
    (htau : tauOk (param p 24 8 % 2 ^ 36) = true) (hz1 : zeroIn p.params 3 8 = true) (hz2 : zeroIn p.params 20 48 = true)
    (hbound : e.bitOf (Reg.BSU_CH_STATUS (param p 16 1)) 1 = false) (hidle : e.bsuBusy (param p 16 1) = false) :
    bodyChannelConfig p e =
      (let c := param p 16 1
       let v : BsuCfg := ⟨param p 17 1, param p 18 1, param p 24 8 % 2 ^ 36, param p 32 4⟩
       (Reply.ok [(20, 1, c)], (e.setBsu c { e.bsuCh c with base := v }).putForce c v false)) := by
  rw [bodyChannelConfig, if_neg (by simpa [hc, hmode, hcount, hz1, hz2] using htau), if_neg (by simp [hbound]), if_neg (by simp [hidle])]

theorem bodyChannelReset_of_idle (hc : param p 16 1 < 64) (hz : zeroIn p.params 1 48 = true)
    (hbound : e.bitOf (Reg.BSU_CH_STATUS (param p 16 1)) 1 = false) (hidle : e.bsuBusy (param p 16 1) = false) :
    bodyChannelReset p e =
      (let c := param p 16 1
       (Reply.ok [(20, 1, c)], ((e.setBsu c { e.bsuCh c with sig := none, a := [], b := [], x0 := [], sol := [], solCad := 0 }).setRegN
         (Reg.BSU_CH_SIG c) 0).clrBit (Reg.BSU_CH_STATUS c) 0)) := by
  rw [bodyChannelReset, if_neg (by simp [hc, hz]), if_neg (by simp [hbound]), if_neg (by simp [hidle])]

end

/-- Settles O19, one command after the other: each is its opcode's meaning in the entry state, replied. -/
theorem mapAndSolverCommandsComplete : Obligations.MapAndSolverCommandsComplete := by
  refine ⟨fun p s ha hready h1 hmax hspan => ?read, fun p s ha hready hkey hfound => ?exported,
    fun p s u ha hready htile hbusy hroom => ?imported, fun p s way loc f ha hkey hfound hready hdir htier hbusy hfree => ?back,
    fun p s way loc k ha hkey hfound hready hdir htier hbusy hfree hlock => ?out, fun p s ha hc hlo hhi hmul hbound => ?submit,
    fun p s ha hc hmode h1 hmax htau hz1 hz2 hbound hidle => ?config, fun p s ha hc hz hbound hidle => ?reset⟩
  case read => exact ⟨_, rfl, command_replied ha rfl (bodyMapRead_of_span hready h1 hmax hspan) rfl rfl (fun _ => rfl)⟩
  case exported => exact ⟨_, rfl, command_replied ha rfl (bodyTileExport_of_found hready hkey hfound) rfl rfl (fun _ => rfl)⟩
  case imported => exact ⟨_, rfl, command_replied ha rfl (bodyTileImport_of_room hready htile hbusy hroom) rfl rfl (fun _ => rfl)⟩
  case back =>
    exact ⟨_, rfl, command_replied ha rfl (bodyMapArchive_back hkey hfound hready hbusy hdir htier hfree) rfl rfl (fun _ => rfl)⟩
  case out =>
    exact ⟨_, rfl, command_replied ha rfl (bodyMapArchive_out hkey hfound hready hbusy hdir htier hfree hlock) rfl rfl (fun _ => rfl)⟩
  case submit => exact ⟨_, rfl, command_replied ha rfl (bodySolveSubmit_of_unbound hc hlo hhi hmul hbound) rfl rfl (fun _ => rfl)⟩
  case config =>
    have hcount : rng (param p 18 1) 1 64 = true := by simp [rng, h1, hmax]
    exact ⟨_, rfl, command_replied ha rfl (bodyChannelConfig_of_idle hc hmode hcount htau hz1 hz2 hbound hidle) rfl rfl nofun⟩
  case reset => exact ⟨_, rfl, command_replied ha rfl (bodyChannelReset_of_idle hc hz hbound hidle) rfl rfl nofun⟩

end Sys2Proof.Machine
end

section
/-! PROOF. Problems of the Batch Solver Unit (R243 to R252): the issue of a channel's next problem, the next packet of a chained one, the
end of a problem and the deadline before it. -/

namespace Sys2Proof.Machine

variable {s : State} {c : Nat} {d : BsuDesc} {rest : List BsuDesc} {r : BsuRun}

/-! ### Issue (R243, R248) -/

/-- The channel's next problem can be issued: the channel is one of the 64, runs nothing and may take descriptor `d`; the lanes of its
problem are free, and no lower channel of the stage waits for one of them (R233). -/
structure State.BsuIssues (x : State) (c : Nat) (d : BsuDesc) (rest : List BsuDesc) : Prop where
  channel : c < 64
  queue : (x.bsuCh c).queue = d :: rest
  idle : (x.bsuCh c).run = none
  opened : x.bsuOpen c d = true
  free : x.lanesFree (chanLanes c (Bp.cluster ((x.bsuRead d).take 64))) = true
  turn : x.bsuBehind c (chanLanes c (Bp.cluster ((x.bsuRead d).take 64))) = false

/-- The channel after its descriptor at the front has been taken. -/
def State.bsuTaken (x : State) (c : Nat) (rest : List BsuDesc) : State :=
  (x.setBsu c { x.bsuCh c with queue := rest }).bsuRefill c

/-- The run of descriptor `d` as it is issued, before any iteration. -/
def State.bsuIssued (x : State) (c : Nat) (d : BsuDesc) : BsuRun :=
  let pkt := x.bsuRead d; let h := pkt.take 64
  ⟨d, h, (pkt.drop 64).take (Bp.structLen h), pkt.drop (64 + Bp.structLen h), (x.bsuCh c).cadOf d, x.core, x.core, 0, false, false, [], 0, 0,
    bsuSig pkt, false, false, false, false, none, 0, none, none⟩

/-- None of the conditions that keep a problem from its issue holds. -/
theorem State.BsuIssues.unhindered {x : State} (hi : x.BsuIssues c d rest) :
    ¬ ((decide (64 ≤ c) || (x.bsuCh c).run.isSome || !x.bsuOpen c d ||
      !x.lanesFree (chanLanes c (Bp.cluster ((x.bsuRead d).take 64))) ||
      x.bsuBehind c (chanLanes c (Bp.cluster ((x.bsuRead d).take 64)))) = true) := by
  simp [hi.channel, hi.idle, hi.opened, hi.free, hi.turn]

/-- A problem whose packet is unsound ends at once with the check's DETAIL (R241). -/
theorem bsuIssue_of_unsound {e : Nat} (hi : s.bsuSync.BsuIssues c d rest)
    (hcheck : bsuCheck c d.cfg d.host.isSome 1 (s.bsuSync.bsuRead d) = some e) :
    bsuIssue c s =
      (let s1 := s.bsuSync.bsuTaken c rest
       let r := { s.bsuSync.bsuIssued c d with ended := true, stop := some (e, 0) }
       (s1.setBsu c { s1.bsuCh c with run := some r }).bsuFinish c none) := by
  simp only [bsuIssue, hi.queue]
  rw [if_neg hi.unhindered]
  simp only [hcheck]
  rfl

/-- CORE cycles of `n` iterations on one packet, of which the first builds and factors (R238). -/
def bsuCycles (d : BsuDesc) (h st : List Byte) (n : Nat) : Nat :=
  (bsuCost h st d.len true).total + (n - 1) * (bsuCost h st d.len false).total

/-- The charge of the problem of descriptor `d` at its issue, and whether a lane cannot pay it; a chained problem pays for its packet's
one iteration (R245, R248). -/
def State.bsuIssuePay (x : State) (c : Nat) (d : BsuDesc) (rest : List BsuDesc) : State × Bool :=
  let s1 := x.bsuTaken c rest; let r := x.bsuIssued c d
  let n := if Bp.chain r.hdr then 1 else d.cfg.count
  (s1.setBsu c { s1.bsuCh c with run := some r }).bsuCharge c (Bp.cluster r.hdr) (bsuCycles d r.hdr r.struct n)
    (n * bsuTok r.hdr r.struct d.len)

/-- A sound problem that is paid for runs from its first values (R243, R244). -/
theorem bsuIssue_of_paid (hi : s.bsuSync.BsuIssues c d rest)
    (hcheck : bsuCheck c d.cfg d.host.isSome 1 (s.bsuSync.bsuRead d) = none) (hpaid : (s.bsuSync.bsuIssuePay c d rest).2 = false) :
    bsuIssue c s =
      (let s0 := s.bsuSync; let r := s0.bsuIssued c d; let pay := s0.bsuIssuePay c d rest
       let acc := ((s0.bsuTaken c rest).bsuCh c).accept (s0.bsuRead d) r.sig false
       pay.1.bsuBegin c { acc.1 with run := some { (pay.1.bsuCh c).run.getD r with
         x := bsuFirst r.hdr (s0.bsuCh c) acc.1 acc.2
         charged := bsuCycles d r.hdr r.struct (if Bp.chain r.hdr then 1 else d.cfg.count)
         warmMismatch := acc.2 } }) := by
  simp only [bsuIssue, hi.queue]
  rw [if_neg hi.unhindered]
  simp only [hcheck]
  exact if_neg (ne_true_of_eq_false hpaid)

/-! ### The next packet of a chained problem (R245) -/

/-- The charge of the iteration that the packet of descriptor `d` feeds, and whether a lane cannot pay it. -/
def State.bsuChainPay (x : State) (c : Nat) (r : BsuRun) (d : BsuDesc) (rest : List BsuDesc) : State × Bool :=
  let pkt := x.bsuRead d; let h := pkt.take 64; let st := (pkt.drop 64).take (Bp.structLen h)
  ((x.bsuTaken c rest).bsuWaited c r).bsuCharge c (Bp.cluster h) (bsuCost h st d.len true).total (bsuTok h st d.len)

theorem bsuChained_of_paid (hrun : (s.bsuSync.bsuCh c).run = some r) (hqueue : (s.bsuSync.bsuCh c).queue = d :: rest)
    (hwait : r.waiting = true) (hcheck : bsuCheck c r.desc.cfg d.host.isSome (r.iter + 1) (s.bsuSync.bsuRead d) = none)
    (hpaid : (s.bsuSync.bsuChainPay c r d rest).2 = false) :
    bsuChained c s =
      (let s0 := s.bsuSync; let pkt := s0.bsuRead d; let h := pkt.take 64; let st := (pkt.drop 64).take (Bp.structLen h)
       let acc := (((s0.bsuTaken c rest).bsuWaited c r).bsuCh c).accept pkt (bsuSig pkt) true
       let pay := s0.bsuChainPay c r d rest
       pay.1.setBsu c { acc.1 with
         queue := (pay.1.bsuCh c).queue
         waiting := (pay.1.bsuCh c).waiting
         run := some { r with
           desc := { r.desc with addr := d.addr, len := d.len }
           hdr := h
           struct := st
           records := pkt.drop (64 + Bp.structLen h)
           at_ := s0.core
           waiting := false
           sig := bsuSig pkt
           charged := r.charged + (bsuCost h st d.len true).total
           warmMismatch := r.warmMismatch || acc.2
           x := (r.x ++ List.replicate (Bp.values h) 0).take (Bp.values h) } }) := by
  simp only [State.bsuChainPay, State.bsuTaken, hrun] at hpaid
  simp only [bsuChained, State.bsuChainPay, State.bsuTaken, hrun, hqueue, hcheck]
  rw [if_neg (by simp [hwait]), if_neg (by simp [hpaid])]

/-! ### The end and the deadline (R249, R250) -/

/-- A problem without a deadline that has run its iterations and waits for no packet finishes at its end. -/
theorem bsuComplete_of_ended (hrun : ((s.bsuSync.bsuAdvance c (2 ^ 80) 64).bsuCh c).run = some r) (hfree : r.desc.cfg.deadline = 0)
    (hwait : r.waiting = false) (hended : r.ended = true) :
    bsuComplete c s = (((s.bsuSync.bsuAdvance c (2 ^ 80) 64).runTo r.at_).bsuFinish c none).bsuSync := by
  simp only [bsuComplete, hrun]
  rw [if_neg (by simp [hfree]), if_neg (by simp [hwait]), if_neg (by simp [hended])]

/-- A deadline before the end of its problem is met: the clock runs to it, and the problem is missed. -/
theorem bsuDeadlineRow_of_before_end {e : BsuRun} (hrun : (s.bsuSync.bsuCh c).run = some r) (hset : r.desc.cfg.deadline ≠ 0)
    (hend : ((s.bsuSync.bsuAdvance c (2 ^ 80) 64).bsuCh c).run = some e)
    (hbefore : e.ended = true → r.start + r.desc.cfg.deadline < e.at_) :
    bsuDeadlineRow c s =
      (s.bsuSync.runTo (r.start + r.desc.cfg.deadline)).bsuMiss c (r.start + r.desc.cfg.deadline) := by
  simp only [bsuDeadlineRow, hrun, hend]
  rw [if_neg hset, if_neg (fun h => Nat.not_le.2 (hbefore h.1) h.2)]

/-- Settles O44, one event after the other: each is the meaning of its row, taken where its condition holds. -/
theorem solverEventsComplete : Obligations.SolverEventsComplete := by
  refine ⟨fun s c d rest ha hc hq hrun hopen hfree hturn hcheck hpaid => ?paid,
    fun s c e d rest ha hc hq hrun hopen hfree hturn hcheck => ?unsound,
    fun s c r d rest ha hrun hq hwait hcheck hpaid => ?chained, fun s c r ha hrun hdl hwait hended => ?ended,
    fun s c r e ha hrun hset hend hbefore => ?missed⟩
  case paid => exact exec_of_act ha rfl (bsuIssue_of_paid ⟨hc, hq, hrun, hopen, hfree, hturn⟩ hcheck hpaid)
  case unsound => exact exec_of_act ha rfl (bsuIssue_of_unsound ⟨hc, hq, hrun, hopen, hfree, hturn⟩ hcheck)
  case chained => exact exec_of_act ha rfl (bsuChained_of_paid hrun hq hwait hcheck hpaid)
  case ended => exact exec_of_act ha rfl (bsuComplete_of_ended hrun hdl hwait hended)
  case missed => exact exec_of_act ha rfl (bsuDeadlineRow_of_before_end hrun hset hend hbefore)

end Sys2Proof.Machine
end

section
/-! PROOF. What each row can leave of a state, said once (R64, R425, R434): an event of a part that runs, a host command, a host write,
a request to Oasis, or a meaning of the row's own. -/

namespace Sys2Proof.Machine

/-- `Row s c t`: `t` is what the meaning of row `c` makes of `s`, by the kind of that meaning. -/
inductive Row (s : State) : Instr → State → Prop
  | event {c : Instr} (f : State → State) : Row s c (s.act f)
  | command {c : Instr} (code : Nat) (p : CmdPacket) : Row s c (command code p s)
  | write {c : Instr} (off v : Nat) : Row s c (hostSet off v s)
  | oasis {c : Instr} (f : Oasis → Oasis) : Row s c (s.oasis f)
  | onOasis {c : Instr} (f : Oasis → Oasis) : Row s c (s.onOasis f)
  | none {c : Instr} : Row s c s
  | cmdTail (tail : Nat) (writes : HostWrites) :
    Row s (.hifCmdTail tail writes) (hostSet Reg.HIF_CMD_TAIL tail { s with host := s.host.writeAll writes })
  | fetchError (cause : FetchCause) (tail : Nat) (writes : HostWrites) :
    Row s (.commandFetchError cause tail writes) (commandFetchError cause tail writes s)
  | replyDelivery : Row s .replyDelivery (replyDelivery s)
  | replyWriteError : Row s .replyWriteError (replyWriteError s)
  | holdoffExpiry (v : Nat) : Row s (.irqHoldoffExpiry v) (holdoffExpiry v s)
  | busMaster (on : Bool) : Row s (.busMasterEnable on) (s.when s.cfgUp (busMasterEnable on))
  | msix (on masked : Bool) : Row s (.msixEnable on masked) (s.when s.cfgUp (msixEnable on masked))
  | oversize (write : Bool) (off dw : Nat) : Row s (.bar0Oversize write off dw) (barOversize write off dw s)
  | registerWrite (off : Nat) (data : List Byte) (en : List Bool) : Row s (.registerWrite off data en) (registerWrite off data en s)
  | read (off : Nat) (en : List Bool) : Row s (.rcFieldRead off en) (hostRead off en s)
  | pairRead (off : Nat) (both : Bool) : Row s (.latchedPairRead off both) (pairRead off both s)
  | windowWrite (off : Nat) (data : List Byte) (en : List Bool) : Row s (.windowWrite off data en) (windowWrite off data en s)
  | truncated (n : Nat) : Row s (.frameTruncated n) (metTruncated n s)
  | processed : Row s .frameProcessed (metProcessed s)
  | gateway {c : Instr} (type : Nat) (f : State → List Byte → State) : Row s c (gwTake type f s)
  | settled : Row s .memSettled (memSettled s)
  | scanEnd (unmapped fault : Bool) : Row s (.scanAccessEnd unmapped fault) (scanEnd unmapped fault s)
  | tracePacket : Row s .tracePacketTaken (s.when s.crb.released tracePacketTaken)
  | tap (ins : Nat) : Row s (.tapInstruction ins) (tapInstruction ins s)
  | porstN (low : Bool) : Row s (.porstN low) (s.resetLevel 0 true low)
  | rstN (low : Bool) : Row s (.rstN low) (s.resetLevel 1 false low)
  | rootPll (lost : Bool) : Row s (.rootPllUnlock lost) (s.resetLevel 3 false lost)
  | phyPll (pll : Nat) (locked : Bool) : Row s (.phyPllUnlock pll locked) (s.when s.crb.released (phyPll pll locked))
  | thermal (temp : Int) : Row s (.thermalTrip temp) (thermal temp s)
  | pcieReset : Row s .pcieReset s.pcieReset
  | release (bootSel : Bool) : Row s (.resetRelease bootSel) (resetRelease bootSel s)
  | linkUp (width speed : Nat) : Row s (.pcieLinkUp width speed) (s.when s.crb.released (pcieLinkUp width speed))
  | d3hot : Row s .d3hotEntry (d3hot s)

/-- Every row answers a next state, the one of its meaning. -/
theorem exec_row (c : Instr) (s : State) : ∃ t, exec c s = .next t ∧ Row s c t := by
  have guarded : ∀ {c : Instr} {g : Prop} [Decidable g] {x y : State}, Row s c x → Row s c y → Row s c (if g then x else y) := by
    intro c g _ x y hx hy
    split
    · exact hx
    · exact hy
  cases c
  case cadenceBoundary | startBoundExceeded | cameraTrigger | triggerPulseEnd | stageStart | deadlineAbort | stageEnd |
      functionDrainComplete | routeDrainComplete | drainOverrun | epochResolution | resolutionAck | resolutionAckTimeout |
      lockstepMismatch | longCommandCompletion | ethernetFrameReceive | arpRequest | pauseFrame | forwardEgress | ethernetLinkUp |
      ethernetLinkLoss | ptpSync | ptpDelayReq | ptpPdelayReq | ptpPdelayResp | ptpFollowUp | ptpDelayResp | ptpPdelayRespFollowUp |
      ptpAnnounce | ptpSignaling | ptpManagement | ptpMessageInterval | syncReceiptTimeout | announceReceiptTimeout | heldTimeChange |
      slewEnd | frameStart | linePacket | frameEnd | fsWindowClose | stuckRun | encoderEdge | encoderRecord | lidarPacket | lidarSilence
      | initialDeskew | sotError | decOutput | rectBand | pyrBand | crnBand | dscRow | stereoBand | flowCopy | flowCarry | trackBand |
      closeUnit | instantEmission | prjBlock | pixelGrid | featureRecord | stateRecord | instantRecord | delayedRecord | silentEncoder |
      quarantine | readmission | noSampleSet | livePath | replayComplete | problemIssue | chainedPacket | problemComplete |
      solverDeadline | insert | update | miss | retire | kfInsert | kfUpdate | loop | kfRetire | activate | read | search | select |
      graph | mapCommit | mapSquash | initComplete | tileOperation | outputUnit | softmaxUnit | get | put | beatCompletion | waitio |
      flagWait | flagSet | sync | submit | mapPost | statePost | fppCorrect | items | rand | info | endStage | coreInstruction |
      wallTrap | tidyReserveExhausted | boundHit | prefetchIssue | copyComplete | writeBackComplete | promotionComplete |
      evictionComplete | copyLatencyOverrun | flashSlotWrite | wearWarning | writeLock | dramUncorrectable | refreshRatePoll |
      linkTrainingComplete | linkLost | tdmIdle | tdmPair | tdmNak | tdmBoundary | tdmTime | tdmTimeEcho | tdmLine | tdmFrame |
      tdmInertial | tdmAudio | tdmEncoder | tdmPoints | tdmFusCount | tdmCommand | tdmRegwrite | tdmTile | tdmSchedule | tdmDigest |
      tdmSwitch | barrierRound | barrierUp | barrierRelease | barrierDown | barrierTimeout | pelotonScheduleFrame | schedAck |
      globalOperation | tileFrag | tileAssemblyTimeout | snapshotComplete | metrologyFrame | resultPathDiscard | identTimeout |
      tdmCrcFail | tdmIdleSend | traceSyncTimer | pcSample | monitorLevelSample | monitorBankSwap | dumpCopy | brkIn | brakeStop |
      obsCreditRefill | bootImageCheck | xspiReadTimeout | ready =>
    exact ⟨_, rfl, .event _⟩
  case sessionOpen | sessionClose | sessionQuery | replay | nop | funcEnable | funcDisable | funcQuery | routeLoad | routeUnload |
      routeEnable | routeDisable | routeSwitch | routeQuery | sensorConfig | sensorQuery | mirageConfig | lidarTemplate | decConfig |
      mapRead | tileExport | tileImport | mapArchive | solveSubmit | channelConfig | channelReset | memRead | memWrite | memCopy |
      sramWindow | memPromote | memEvict | memFlush | timeRead | timeAdjust | ptpConfig | tandemConfig | tandemStatus | tandemSwitchover
      | pelotonJoin | pelotonLeave | pelotonSchedule | pelotonStatus | counterRead | monitorConfig | traceConfig | tensorDump | brake |
      metIdent | metCounter | metSelect | metResultRead =>
    exact ⟨_, rfl, .command _ _⟩
  case cadenceRun | hifRplHead | ringEnable | ringDisable | seedReq | init | obsEngLatch | obsBrakeCtrlBrake | scanSegmentRead |
      scanDramRead | scanFlashRead | softwareReset | hostBootGo | clockDivisorWrite =>
    exact ⟨_, rfl, .write _ _⟩
  case sealChange | oasisStart | paramRead | paramWrite | paramCommit | imageLoad | imageCommit =>
    exact ⟨_, rfl, .oasis _⟩
  case identPeriod | identReq | logReq =>
    exact ⟨_, rfl, .onOasis _⟩
  case resultRecord | identificationRecord =>
    exact ⟨_, rfl, .gateway _ _⟩
  case badOpcode =>
    exact ⟨_, rfl, guarded .none (.command _ _)⟩
  case msixUnmask | gridRequest | gridRevert | winStartWrite =>
    exact ⟨_, rfl, guarded (.write _ _) .none⟩
  case hifCmdTail => exact ⟨_, rfl, .cmdTail _ _⟩
  case commandFetchError => exact ⟨_, rfl, .fetchError _ _ _⟩
  case replyDelivery => exact ⟨_, rfl, .replyDelivery⟩
  case replyWriteError => exact ⟨_, rfl, .replyWriteError⟩
  case irqHoldoffExpiry => exact ⟨_, rfl, .holdoffExpiry _⟩
  case busMasterEnable => exact ⟨_, rfl, .busMaster _⟩
  case msixEnable => exact ⟨_, rfl, .msix _ _⟩
  case bar0Oversize => exact ⟨_, rfl, .oversize _ _ _⟩
  case registerWrite => exact ⟨_, rfl, .registerWrite _ _ _⟩
  case rcFieldRead => exact ⟨_, rfl, .read _ _⟩
  case latchedPairRead => exact ⟨_, rfl, .pairRead _ _⟩
  case windowWrite => exact ⟨_, rfl, .windowWrite _ _ _⟩
  case frameTruncated => exact ⟨_, rfl, .truncated _⟩
  case frameProcessed => exact ⟨_, rfl, .processed⟩
  case memSettled => exact ⟨_, rfl, .settled⟩
  case scanAccessEnd => exact ⟨_, rfl, .scanEnd _ _⟩
  case tracePacketTaken => exact ⟨_, rfl, .tracePacket⟩
  case tapInstruction => exact ⟨_, rfl, .tap _⟩
  case porstN => exact ⟨_, rfl, .porstN _⟩
  case rstN => exact ⟨_, rfl, .rstN _⟩
  case rootPllUnlock => exact ⟨_, rfl, .rootPll _⟩
  case phyPllUnlock => exact ⟨_, rfl, .phyPll _ _⟩
  case thermalTrip => exact ⟨_, rfl, .thermal _⟩
  case pcieReset => exact ⟨_, rfl, .pcieReset⟩
  case resetRelease => exact ⟨_, rfl, .release _⟩
  case pcieLinkUp => exact ⟨_, rfl, .linkUp _ _⟩
  case d3hotEntry => exact ⟨_, rfl, .d3hot⟩
  case metRxDiscard => exact ⟨_, rfl, .none⟩

/-- Settles O2: each row answers its meaning, and the decoder has no word to spell. -/
theorem everyCommandAnswers : Obligations.EveryCommandAnswers := by
  refine ⟨fun c s => ?_, fun _ _ => rfl, fun _ _ _ => rfl⟩
  obtain ⟨t, ht, -⟩ := exec_row c s
  exact ⟨t, ht⟩

/-- Settles O1: by whether a command waits, and where none does by whether the reset is released. -/
theorem stepRunsFrontCommand : Obligations.StepRunsFrontCommand := by
  refine ⟨fun s c rest => rfl, fun s hq hr => ?running, fun s hq hr => ?held⟩
  case running => simp [step, hq, State.tick, hr]
  case held => simp [step, hq, State.tick, hr]

end Sys2Proof.Machine
end

section
/-! PROOF. A part stopped by the Brake (R425, R426, Table 18.14): what goes on beside what it holds, operation by operation. -/

namespace Sys2Proof.Machine

/-- `t` is `s` but for what goes on in a stopped part: ROOT's count, the registers, the host interface and the host's memory, Oasis, the
trace's flush and the scan, the sources of reset; it holds what `s` holds and waits for what `s` waits for. -/
def StillHeld (s t : State) : Prop :=
  ∃ core regs host hif met obs crb free,
    t = { s with core := core, regs := regs, host := host, hif := hif, met := met, obs := obs, crb := crb, free := free } ∧
    s.core ≤ core ∧ obs.counters = s.obs.counters ∧ obs.monitors = s.obs.monitors ∧ obs.stopped = s.obs.stopped ∧
    crb.fuses = s.crb.fuses ∧ crb.released = s.crb.released

namespace StillHeld

variable {s t u : State}

theorem refl (s : State) : StillHeld s s := ⟨_, _, _, _, _, _, _, _, rfl, le_rfl, rfl, rfl, rfl, rfl, rfl⟩

theorem trans (h : StillHeld s t) (k : StillHeld t u) : StillHeld s u := by
  obtain ⟨_, _, _, _, _, _, _, _, rfl, hc, hn, hm, hs, hf, hr⟩ := h
  obtain ⟨_, _, _, _, _, _, _, _, rfl, kc, kn, km, ks, kf, kr⟩ := k
  exact ⟨_, _, _, _, _, _, _, _, rfl, hc.trans kc, kn.trans hn, km.trans hm, ks.trans hs, kf.trans hf, kr.trans hr⟩

theorem stopped (h : StillHeld s t) (hs : s.obs.stopped = true) : t.obs.stopped = true := by
  obtain ⟨_, _, _, _, _, _, _, _, rfl, -, -, -, hst, -, -⟩ := h
  exact hst.trans hs

/-- Registers, the host interface, the host's memory, Oasis and the free values go on. -/
theorem beside (regs : SMap Word) (host : Memory) (hif : Hif) (met : Met) (free : Nat) :
    StillHeld s { s with regs := regs, host := host, hif := hif, met := met, free := free } :=
  ⟨_, _, _, _, _, _, _, _, rfl, le_rfl, rfl, rfl, rfl, rfl, rfl⟩

/-- What OBS and CRB go on with leaves counters, monitors, the stop, the fuses and the release. -/
theorem units (regs : SMap Word) (obs : Obs) (crb : Crb) (free : Nat) (hn : obs.counters = s.obs.counters)
    (hm : obs.monitors = s.obs.monitors) (hs : obs.stopped = s.obs.stopped) (hf : crb.fuses = s.crb.fuses)
    (hr : crb.released = s.crb.released) : StillHeld s { s with regs := regs, obs := obs, crb := crb, free := free } :=
  ⟨_, _, _, _, _, _, _, _, rfl, le_rfl, hn, hm, hs, hf, hr⟩

theorem setReg (off : Nat) (w : Word) : StillHeld s (s.setReg off w) := beside _ _ _ _ _

theorem setRegN (off v : Nat) : StillHeld s (s.setRegN off v) := setReg _ _

theorem setBit (off i : Nat) : StillHeld s (s.setBit off i) := setReg _ _

theorem clrBit (off i : Nat) : StillHeld s (s.clrBit off i) := setReg _ _

theorem runTo (core : Nat) : StillHeld s (s.runTo core) :=
  ⟨_, _, _, _, _, _, _, _, rfl, le_max_left _ _, rfl, rfl, rfl, rfl, rfl⟩

theorem tick : StillHeld s s.tick := by
  unfold State.tick
  split
  · exact ⟨_, _, _, _, _, _, _, _, rfl, Nat.le_succ _, rfl, rfl, rfl, rfl, rfl⟩
  · exact refl s

theorem hostTurn {f : State → State} (hs : s.obs.stopped = true) (hf : ∀ x : State, x.obs.stopped = true → StillHeld x (f x)) :
    StillHeld s (s.hostTurn f) :=
  (tick.trans (hf _ (tick.stopped hs))).trans tick

/-- A list of steps, each of which leaves a stopped part holding, does so as a whole. -/
theorem each {α : Type} {f : State → α → State} (hf : ∀ x a, StillHeld x (f x a)) (l : List α) : StillHeld s (s.each l f) := by
  induction l generalizing s with
  | nil => exact refl s
  | cons a l ih => exact (hf s a).trans ih

/-! ### Interrupts and records -/

theorem signal (v : Nat) : StillHeld s (s.signal v) := by
  obtain ⟨_, _, _, _, _, h, -⟩ := State.signal_frame s v
  rw [h]
  exact beside _ _ _ _ _

theorem msiRelease (v : Nat) : StillHeld s (s.msiRelease v) := by
  have send : ∀ x : State, StillHeld x (x.msiSend v) := fun x => by
    obtain ⟨_, _, _, h, -⟩ := State.msiSend_frame x v
    rw [h]
    exact beside _ _ _ _ _
  unfold State.msiRelease
  split
  · refine StillHeld.trans ?_ (send _)
    split <;> exact setReg _ _
  · exact refl s

/-- A record of a stopped part is counted and traced no more (R425). -/
theorem createRecord (hs : s.obs.stopped = true) (opcode status detail hseq : Nat) (res : List Byte) (consumed quiet : Bool)
    (vector : Option Nat) : StillHeld s (s.createRecord opcode status detail hseq res consumed quiet vector) := by
  unfold State.createRecord
  extract_lets dseq rec_ full gone buf lost out src s1 s2 x s3
  have entered : StillHeld s s2 := beside _ _ _ _ _
  have counted : (if s.obs.stopped then x else x.count 14 5) = x := if_pos hs
  rw [if_pos hs]
  simp only [s3, counted]
  split
  · exact (entered.trans (setReg _ _)).trans (signal 13)
  · exact entered

theorem answer (hs : s.obs.stopped = true) (code : Nat) (p : CmdPacket) (r : Reply) (consumed : Bool) :
    StillHeld s (s.answer code p r consumed) := by
  have e : s.answer code p r consumed = s.createRecord code r.status r.detail p.hseq r.result consumed (p.flags.testBit 0)
      (if p.flags.testBit 0 then none else some 0) := by
    simp [State.answer, State.replyRecord, hs]
  rw [e]
  exact createRecord hs _ _ _ _ _ _ _ _

/-! ### Host commands: a stopped part answers BRAKED, a refusal or a copy, or holds the command back -/

theorem duplicate (hs : s.obs.stopped = true) (code : Nat) (p : CmdPacket) : StillHeld s (s.duplicate code p) := by
  unfold State.duplicate
  split
  · exact (answer hs _ _ _ _).trans (beside _ _ _ _ _)
  · exact answer hs _ _ _ _

theorem checked (hs : s.obs.stopped = true) (own consumed : Bool) (code : Nat) (p : CmdPacket) :
    StillHeld s (s.checked own consumed code p) := by
  have braked : s.isBraked = true := by simp [State.isBraked, hs]
  have e : s.checked own consumed code p = s.answer code p ⟨St.braked, 0, zeros 12⟩ consumed := by
    simp [State.checked, braked]
  rw [e]
  exact answer hs _ _ _ _

theorem take (hs : s.obs.stopped = true) (code : Nat) (p : CmdPacket) : StillHeld s (s.take code p) := by
  have held : StillHeld s (s.hold code p) := beside _ _ _ _ _
  unfold State.take
  split
  · split
    · exact held
    · exact checked hs _ _ _ _
  · extract_lets ctx next d
    split
    · exact answer hs _ _ _ _
    split
    · exact answer hs _ _ _ _
    split
    · split
      · exact held
      · have taken : StillHeld s (s.setRegN Reg.HIF_NEXT_HSEQ ((next + 1) % 2 ^ 32)) := setRegN _ _
        exact taken.trans (checked (taken.stopped hs) _ _ _ _)
    split
    · exact answer hs _ _ _ _
    · exact duplicate hs _ _

theorem fetched (hs : s.obs.stopped = true) (code : Nat) (p : CmdPacket) : StillHeld s (s.fetched code p) := by
  unfold State.fetched
  simp only [hs, if_true]
  split
  · exact take hs _ _
  · exact beside _ _ _ _ _

theorem command (hs : s.obs.stopped = true) (code : Nat) (p : CmdPacket) : StillHeld s (Machine.command code p s) := by
  unfold Machine.command
  split
  · exact fetched hs _ _
  · exact refl s

/-! ### The rings -/

theorem fetchOne (hs : s.obs.stopped = true) (h : s.fetchOne = some t) : StillHeld s t := by
  simp only [State.fetchOne] at h
  split at h
  · cases h
  · cases h
    exact (setRegN _ _).trans (fetched ((setRegN _ _).stopped hs) _ _)

theorem fetchLoop (hs : s.obs.stopped = true) (fuel : Nat) : StillHeld s (State.fetchLoop fuel s) := by
  induction fuel generalizing s with
  | zero => exact refl s
  | succ fuel ih =>
    rw [State.fetchLoop]
    split
    · cases h : s.fetchOne with
      | none => exact refl s
      | some t => exact (fetchOne hs h).trans (ih ((fetchOne hs h).stopped hs))
    · exact refl s

theorem busMasterEnable (hs : s.obs.stopped = true) (on : Bool) : StillHeld s (Machine.busMasterEnable on s) := by
  unfold Machine.busMasterEnable
  extract_lets s1
  have set : StillHeld s s1 := setReg _ _
  split
  · exact set.trans (fetchLoop (set.stopped hs) _)
  · exact set

theorem msixEnable (on masked : Bool) : StillHeld s (Machine.msixEnable on masked s) := by
  unfold Machine.msixEnable
  extract_lets s1 cleared s2
  have set : StillHeld s s1 := (setRegN _ _).trans (setRegN _ _)
  split
  · have cleared : StillHeld s1 s2 := beside _ _ _ _ _
    exact ((set.trans cleared).trans (each (fun _ v => signal v) _)).trans (each (fun _ v => msiRelease v) _)
  · exact set

theorem ringError (status err : Nat) : StillHeld s (s.ringError status err) :=
  (((setReg _ _).trans (setReg _ _)).trans (setReg _ _)).trans (signal 13)

theorem deliverAll (ds : List Delivery) (vs : List Nat) : StillHeld s (State.deliverAll ds vs s).1 := by
  induction ds generalizing s vs with
  | nil => exact beside _ _ _ _ _
  | cons d rest ih =>
    rw [State.deliverAll]
    split
    · exact StillHeld.trans (beside _ _ _ _ _) (ih _)
    · exact beside _ _ _ _ _

theorem replyDelivery : StillHeld s (Machine.replyDelivery s) := by
  unfold Machine.replyDelivery
  split
  · extract_lets t t1
    have shadowed : StillHeld t.1 t1 := by
      simp only [t1]
      split
      · exact beside _ _ _ _ _
      · exact refl _
    exact ((deliverAll _ _).trans shadowed).trans (each (fun _ v => signal v) _)
  · exact refl s

theorem holdoffExpiry (v : Nat) : StillHeld s (Machine.holdoffExpiry v s) := by
  unfold Machine.holdoffExpiry
  split
  · exact refl s
  · extract_lets s1 owed s2
    have ended : StillHeld s s2 := (runTo _).trans (beside _ _ _ _ _)
    split
    · exact ended.trans (signal v)
    · exact ended

/-! ### Host accesses -/

/-- Of the writes that reach a stopped part none starts more than a scan access (R426). -/
theorem regWrite_obs (s : State) {off : Nat} (hb : off / 0x100000 = 16) (hl : off ≠ Reg.OBS_ENG_LATCH) (v m : Nat)
    (hm : off = Reg.OBS_BRAKE_CTRL → m.testBit 0 = false) : StillHeld s (s.regWrite off v m) := by
  cases hr : regAt off with
  | none => rw [State.regWrite_none hr]; exact refl s
  | some r =>
    rw [State.regWrite_obs hr s v m hb, writeObs, if_neg hl]
    split
    next ho =>
      have quiet : (v &&& m).testBit 0 = false := by rw [Nat.testBit_and, hm ho, Bool.and_false]
      simp only [quiet, Bool.false_eq_true, if_false]
      exact setReg _ _
    next =>
      split
      · unfold scanCmd
        extract_lets kind s1 s2
        split
        · exact setReg _ _
        · exact units _ _ _ _ rfl rfl rfl rfl rfl
      · exact setReg _ _

theorem hostDw (hs : s.obs.stopped = true) (off v m : Nat) : StillHeld s (s.hostDw off v m) := by
  have braked : s.writeLimit off = .braked := by simp [State.writeLimit, hs]
  unfold State.hostDw
  split
  · exact refl s
  · rw [braked]
    simp only [State.brakedWrite]
    split
    next ho =>
      subst ho
      exact regWrite_obs s (by decide) (by decide) v _ (fun _ => by simp)
    next hne =>
      split
      next ho =>
        rcases ho with rfl | rfl | rfl <;> exact regWrite_obs s (by decide) (by decide) v m (fun e => absurd e hne)
      next => exact refl s

theorem hostSet (hs : s.obs.stopped = true) (off v : Nat) : StillHeld s (Machine.hostSet off v s) :=
  hostTurn hs (fun _ hx => hostDw hx _ _ _)

theorem hostDws (hs : s.obs.stopped = true) (l : List (Nat × Nat × Nat)) : StillHeld s (State.hostDws l s) := by
  induction l generalizing s with
  | nil => exact refl s
  | cons a l ih =>
    cases l with
    | nil => exact hostDw hs _ _ _
    | cons b l =>
      have first := (hostDw hs a.1 a.2.1 a.2.2).trans tick
      exact first.trans (ih (first.stopped hs))

theorem registerWrite (hs : s.obs.stopped = true) (off : Nat) (data : List Byte) (en : List Bool) :
    StillHeld s (Machine.registerWrite off data en s) := by
  unfold Machine.registerWrite
  split
  · exact refl s
  · extract_lets dws
    split
    · exact hostTurn hs (fun _ hx => hostDws hx _)
    · rw [State.oversize, if_pos hs]
      exact refl s

theorem oversize (hs : s.obs.stopped = true) (write : Bool) (off dw : Nat) : StillHeld s (barOversize write off dw s) := by
  have e : s.oversize = s := if_pos hs
  unfold barOversize
  split
  · exact refl s
  · simp only [e]
    split
    · exact refl s
    · exact beside _ _ _ _ _

theorem windowWrite (hs : s.obs.stopped = true) (off : Nat) (data : List Byte) (en : List Bool) :
    StillHeld s (Machine.windowWrite off data en s) := by
  have braked : s.writeLimit off = .braked := by simp [State.writeLimit, hs]
  unfold Machine.windowWrite
  split
  · exact refl s
  · rw [braked]
    exact refl s

theorem readDw (hs : s.obs.stopped = true) (off : Nat) (en : List Bool) : StillHeld s (s.readDw off en).2 := by
  obtain ⟨_, h⟩ := State.readDw_braked (off := off) (en := en) hs
  rw [h]
  exact beside _ _ _ _ _

theorem hostRead (hs : s.obs.stopped = true) (off : Nat) (en : List Bool) : StillHeld s (Machine.hostRead off en s) := by
  unfold Machine.hostRead
  split
  · exact hostTurn hs (fun _ hx => (readDw hx _ _).trans (beside _ _ _ _ _))
  · exact refl s

theorem pairRead (hs : s.obs.stopped = true) (off : Nat) (both : Bool) : StillHeld s (Machine.pairRead off both s) := by
  unfold Machine.pairRead
  split
  · exact refl s
  · refine hostTurn hs (fun x hx => ?_)
    have lo := readDw hx (off / 4 * 4) allBytes
    cases both
    · exact lo.trans (beside _ _ _ _ _)
    · have next := lo.trans tick
      exact (next.trans (readDw (next.stopped hx) _ _)).trans (beside _ _ _ _ _)

theorem fetchError (hs : s.obs.stopped = true) (cause : FetchCause) (tail : Nat) (writes : HostWrites) :
    StillHeld s (commandFetchError cause tail writes s) := by
  unfold commandFetchError
  extract_lets s1 s2
  have stored : StillHeld s s1 := beside _ _ _ _ _
  have off : StillHeld s (s1.clrBit Reg.HIF_RING_CTRL 0) := stored.trans (setReg _ _)
  split
  · exact (off.trans (hostSet (off.stopped hs) _ _)).trans (ringError _ _)
  · exact stored.trans (hostSet (stored.stopped hs) _ _)

/-! ### Oasis, the trace's flush, the scan -/

theorem oasis (f : Oasis → Oasis) : StillHeld s (s.oasis f) := beside _ _ _ _ _

theorem onOasis (f : Oasis → Oasis) : StillHeld s (s.onOasis f) := by
  unfold State.onOasis
  split
  · exact oasis f
  · exact refl s

theorem oasisTo (since n : Nat) : StillHeld s (s.oasisTo since n) := by
  unfold State.oasisTo
  split
  · exact refl s
  · exact runTo _

theorem truncated (n : Nat) : StillHeld s (metTruncated n s) := by
  unfold metTruncated
  split
  · exact refl s
  · exact ((oasisTo _ _).trans (beside _ _ _ _ _)).trans (onOasis _)

theorem processed : StillHeld s (metProcessed s) := by
  unfold metProcessed
  split
  · exact refl s
  · exact (oasisTo _ _).trans (onOasis _)

/-- A stopped compute die loses the record at the head of the result path. -/
theorem gateway (hs : s.obs.stopped = true) (type : Nat) (f : State → List Byte → State) : StillHeld s (gwTake type f s) := by
  have dead : s.alive = false := by simp [State.alive, hs]
  unfold gwTake
  split
  · split
    · simp only [dead, Bool.false_eq_true, if_false]
      exact oasis _
    · exact refl s
  · exact refl s

theorem traceEnter (hs : s.obs.stopped = true) : StillHeld s s.traceEnter := by
  unfold State.traceEnter
  split
  · exact refl s
  · extract_lets s1
    rw [if_pos hs]
    exact units _ _ _ _ rfl rfl rfl rfl rfl

theorem tracePacket (hs : s.obs.stopped = true) : StillHeld s (tracePacketTaken s) := by
  unfold tracePacketTaken
  extract_lets d start x toMem
  have begun : StillHeld s x := by
    simp only [x]
    split
    · exact runTo _
    · exact refl s
  have hx := begun.stopped hs
  have port : toMem = false := by simp [toMem, hx]
  split
  · exact begun
  next pkt rest _ =>
    split
    · exact begun
    split
    · exact begun
    have updated : StillHeld x (x.updTrace (fun t => { t with
        fifo := rest, port := if Td.toPort d then pkt :: t.port else t.port,
        portAt := if Td.toPort d then some start else t.portAt })) := units _ _ _ _ rfl rfl rfl rfl rfl
    exact (begun.trans updated).trans (traceEnter (updated.stopped hx))

theorem settled : StillHeld s (memSettled s) := by
  unfold memSettled
  split
  · exact setReg _ _
  · exact refl s

theorem tapTake (ins : Nat) : StillHeld s (s.tapTake ins) := by
  unfold State.tapTake
  extract_lets open_ err out s1
  refine StillHeld.trans ?_ (setReg _ _)
  split <;> exact units _ _ _ _ rfl rfl rfl rfl rfl

theorem tap (ins : Nat) : StillHeld s (tapInstruction ins s) := by
  unfold tapInstruction
  split
  · exact units _ _ _ _ rfl rfl rfl rfl rfl
  · exact tapTake ins

theorem scanDone (err : Nat) : StillHeld s (s.scanDone err) := units _ _ _ _ rfl rfl rfl rfl rfl

theorem scanData (bs : List Byte) : StillHeld s (s.scanData bs) := each (fun _ _ => setReg _ _) _

theorem scanResult (kind a : Nat) (braked unmapped fault : Bool) : StillHeld s (s.scanResult kind a braked unmapped fault) := by
  unfold State.scanResult
  have drawn : ∀ x : State, StillHeld x (x.drawFrees 8) := fun x => beside _ _ _ _ _
  by_cases hk : kind = 0
  · simp only [hk, if_true]
    split
    · exact scanDone 1
    split
    · exact scanDone 2
    split
    · exact scanDone 3
    · exact ((scanData _).trans (drawn _)).trans (scanDone 0)
  · generalize (if kind = 1 then inDram a 64 else inFlash a 64) = there
    rw [if_neg hk]
    split
    · exact scanDone 1
    split
    · exact scanDone 2
    split
    · exact scanDone 3
    · exact (scanData _).trans (scanDone 0)

theorem scanEnd (unmapped fault : Bool) : StillHeld s (Machine.scanEnd unmapped fault s) := by
  unfold Machine.scanEnd
  split
  · exact refl s
  · split
    · exact refl s
    · extract_lets s1
      have ended : StillHeld s s1 := scanResult _ _ _ _ _
      split
      · exact ended.trans (tapTake 4)
      · exact ended

/-! ### CRB -/

theorem pcieReset : StillHeld s s.pcieReset :=
  ⟨_, _, _, _, _, _, _, _, rfl, le_rfl, rfl, rfl, rfl, rfl, rfl⟩

theorem phyPll (hs : s.obs.stopped = true) (pll : Nat) (locked : Bool) : StillHeld s (Machine.phyPll pll locked s) := by
  unfold Machine.phyPll
  split
  · exact refl s
  · split
    · exact pcieReset
    · exact refl s

theorem linkUp (width speed : Nat) : StillHeld s (pcieLinkUp width speed s) := by
  unfold pcieLinkUp
  split
  · exact refl s
  · exact units _ _ _ _ rfl rfl rfl rfl rfl

theorem d3hot : StillHeld s (Machine.d3hot s) := by
  unfold Machine.d3hot
  split
  · exact units _ _ _ _ rfl rfl rfl rfl rfl
  · exact refl s

/-- A source of reset that is no longer asserted. -/
theorem resetLevel_off (source : Nat) (cold : Bool) : StillHeld s (s.resetLevel source cold false) := units _ _ _ _ rfl rfl rfl rfl rfl

end StillHeld

theorem State.when_rel {R : State → State → Prop} {s : State} {f : State → State} (refl : R s s) (hf : R s (f s)) (c : Bool) :
    R s (s.when c f) := by
  unfold State.when
  split
  · exact hf
  · exact refl

theorem State.act_dead {s : State} (h : s.alive = false) (f : State → State) : s.act f = s := by simp [State.act, h]

/-- Whatever row comes to a stopped part but a reset, the part still holds what it held. -/
theorem Row.stillHeld {s t : State} {c : Instr} (h : Row s c t) (hr : s.crb.released = true) (hs : s.obs.stopped = true)
    (hc : Instr.isReset c = false) : StillHeld s t := by
  cases h with
  | event f => rw [State.act_dead (by simp [State.alive, hs])]; exact .refl s
  | command code p => exact .command hs code p
  | write off v => exact .hostSet hs off v
  | oasis f => exact .oasis f
  | onOasis f => exact .onOasis f
  | none => exact .refl s
  | cmdTail tail writes =>
    have stored : StillHeld s { s with host := s.host.writeAll writes } := .beside _ _ _ _ _
    exact stored.trans (.hostSet (stored.stopped hs) _ _)
  | fetchError cause tail writes => exact .fetchError hs cause tail writes
  | replyDelivery => exact .replyDelivery
  | replyWriteError =>
    unfold Machine.replyWriteError
    split
    · exact .ringError _ _
    · exact .refl s
  | holdoffExpiry v => exact .holdoffExpiry v
  | busMaster on => exact State.when_rel (.refl s) (.busMasterEnable hs on) _
  | msix on masked => exact State.when_rel (.refl s) (.msixEnable on masked) _
  | oversize write off dw => exact .oversize hs write off dw
  | registerWrite off data en => exact .registerWrite hs off data en
  | read off en => exact .hostRead hs off en
  | pairRead off both => exact .pairRead hs off both
  | windowWrite off data en => exact .windowWrite hs off data en
  | truncated n => exact .truncated n
  | processed => exact .processed
  | gateway type f => exact .gateway hs type f
  | settled => exact .settled
  | scanEnd unmapped fault => exact .scanEnd unmapped fault
  | tracePacket => exact State.when_rel (.refl s) (.tracePacket hs) _
  | tap ins => exact .tap ins
  | porstN low | rstN low | rootPll lost => cases hc; exact .resetLevel_off _ _
  | phyPll pll locked => exact State.when_rel (.refl s) (.phyPll hs pll locked) _
  | thermal temp => cases hc
  | pcieReset => exact .pcieReset
  | release bootSel => rw [resetRelease, if_pos (by simp [hr])]; exact .refl s
  | linkUp width speed => exact State.when_rel (.refl s) (.linkUp width speed) _
  | d3hot => exact .d3hot

/-- What a state held of `s0`, the next one holds. -/
theorem BrakedAs.next {s0 s t : State} {rest : List Instr} (h : BrakedAs s0 s) (hq : ∀ c ∈ rest, Instr.isReset c = false)
    (k : StillHeld { s with pending := rest } t) : BrakedAs s0 t := by
  obtain ⟨hr, hs, held, -⟩ := h
  obtain ⟨_, _, _, _, _, _, _, _, rfl, kc, kn, km, ks, kf, kr⟩ := k
  obtain ⟨hcore, hmem, hccu, htim, hnet, hing, hdec, hvis, hfst, hfus, hfpp, hbsu, hmap, hmxa, hgcr, hmemt, htdm, hpel, hcnt, hmon,
    hfuses⟩ := held
  exact ⟨kr.trans hr, ks.trans hs, ⟨hcore.trans kc, hmem, hccu, htim, hnet, hing, hdec, hvis, hfst, hfus, hfpp, hbsu, hmap, hmxa, hgcr,
    hmemt, htdm, hpel, kn.trans hcnt, km.trans hmon, kf.trans hfuses⟩, hq⟩

/-- Settles O5: an idle step is a cycle of ROOT, and every row but a reset leaves a stopped part holding what it held. -/
theorem brakeHoldKept : Obligations.BrakeHoldKept := by
  intro s0 s t h ht
  obtain ⟨hr, hs, -, hq⟩ := id h
  cases hp : s.pending with
  | nil =>
    have idle : step s = .next s.tick := by simp [step, hp]
    cases idle.symm.trans ht
    refine BrakedAs.next (rest := []) h (by simp) ?_
    rw [← hp]
    exact StillHeld.tick
  | cons c rest =>
    have hfront : step s = exec c { s with pending := rest } := by simp [step, hp]
    rw [hp] at hq
    obtain ⟨u, hu, row⟩ := exec_row c { s with pending := rest }
    cases (hfront.symm.trans ht).symm.trans hu
    exact h.next (fun d hd => hq d (.tail _ hd)) (row.stillHeld hr hs (hq c (.head _)))

end Sys2Proof.Machine
end

section
/-! PROOF. A part held in reset (R434, R435): what still comes to it, operation by operation. -/

namespace Sys2Proof.Machine

/-- `t` is `s` but for what goes on in a part held in reset: the host's memory, Oasis, the TAP, the sources of reset, the free values and,
of the registers, the cause of reset and the TAP's lock. -/
def StillReset (s t : State) : Prop :=
  ∃ regs host met obs crb free,
    t = { s with regs := regs, host := host, met := met, obs := obs, crb := crb, free := free } ∧
    obs.counters = s.obs.counters ∧ obs.monitors = s.obs.monitors ∧ obs.stopped = s.obs.stopped ∧ obs.scan = s.obs.scan ∧
    crb.released = s.crb.released ∧ crb.barUp = s.crb.barUp ∧
    ∀ o, o ≠ Reg.CRB_RESET_CAUSE → o ≠ Reg.OBS_SCAN_STATUS → t.reg o = s.reg o

namespace StillReset

variable {s t : State}

theorem inReset (k : StillReset s t) (h : InReset s) : InReset t := by
  obtain ⟨_, _, _, _, _, _, rfl, kn, km, ks, kc, kr, kb, kreg⟩ := k
  obtain ⟨hr, hq, hb, hs, hcore, hhif, hccu, htim, hnet, hing, hdec, hvis, hfst, hfus, hfpp, hbsu, hmap, hmxa, hgcr, hmemt, htdm, hpel,
    hcnt, hmon, hscan, hreg⟩ := h
  exact ⟨kr.trans hr, hq, kb.trans hb, ks.trans hs, hcore, hhif, hccu, htim, hnet, hing, hdec, hvis, hfst, hfus, hfpp, hbsu, hmap, hmxa,
    hgcr, hmemt, htdm, hpel, kn.trans hcnt, km.trans hmon, kc.trans hscan, fun o ho hl => (kreg o ho hl).trans (hreg o ho hl)⟩

theorem refl (s : State) : StillReset s s := ⟨_, _, _, _, _, _, rfl, rfl, rfl, rfl, rfl, rfl, rfl, fun _ _ _ => rfl⟩

/-- The host's memory and Oasis go on. -/
theorem beside (host : Memory) (met : Met) : StillReset s { s with host := host, met := met } :=
  ⟨_, _, _, _, _, _, rfl, rfl, rfl, rfl, rfl, rfl, rfl, fun _ _ _ => rfl⟩

theorem onOasis (f : Oasis → Oasis) : StillReset s (s.onOasis f) := by
  unfold State.onOasis
  split
  · exact .beside _ _
  · exact .refl s

theorem tap (ins : Nat) (hscan : s.obs.scan = none) : StillReset s (tapInstruction ins s) := by
  unfold tapInstruction
  rw [if_neg (by simp [hscan])]
  unfold State.tapTake
  extract_lets open_ err out obs s1
  have lock : ∀ x : State, x.regs = s.regs → ∀ o, o ≠ Reg.OBS_SCAN_STATUS →
      (x.putBit Reg.OBS_SCAN_STATUS 4 (ins == 4)).reg o = s.reg o := fun x hx o ho =>
    (State.reg_setFld_ne _ _ _ _ _ _ ho.symm).trans (State.reg_congr hx o)
  split
  · exact ⟨_, _, _, _, _, _, rfl, rfl, rfl, rfl, rfl, rfl, rfl, fun o _ ho => lock s1.drawFree rfl o ho⟩
  · exact ⟨_, _, _, _, _, _, rfl, rfl, rfl, rfl, rfl, rfl, rfl, fun o _ ho => lock s1 rfl o ho⟩

end StillReset

/-! ### What does not come about -/

section
variable {s : State} (h : InReset s)
include h

theorem InReset.alive : s.alive = false := by
  obtain ⟨hr, -⟩ := h
  simp [State.alive, hr]

theorem InReset.barAnswers : s.barAnswers = false := by
  obtain ⟨hr, -⟩ := h
  simp [State.barAnswers, hr]

theorem InReset.tick : s.tick = s := by
  obtain ⟨hr, -⟩ := h
  simp [State.tick, hr]

theorem InReset.hostSet (off v : Nat) : hostSet off v s = s := by
  have write : s.hostDw off v 0xFFFFFFFF = s := by simp [State.hostDw, h.barAnswers]
  simp only [Machine.hostSet, State.hostTurn, h.tick, write]

theorem InReset.oasisTo (since n : Nat) : s.oasisTo since n = s := by
  obtain ⟨hr, -⟩ := h
  simp [State.oasisTo, hr]

theorem InReset.truncated (n : Nat) : StillReset s (metTruncated n s) := by
  unfold metTruncated
  split
  · exact .refl s
  · simp only [h.oasisTo, State.onOasis]
    split
    · exact .beside _ _
    · exact .beside _ _

theorem InReset.processed : StillReset s (metProcessed s) := by
  unfold metProcessed
  split
  · exact .refl s
  · rw [h.oasisTo]
    exact .onOasis _

theorem InReset.gateway (type : Nat) (f : State → List Byte → State) : StillReset s (gwTake type f s) := by
  unfold gwTake
  split
  · split
    · simp only [h.alive, Bool.false_eq_true, if_false]
      exact .beside _ _
    · exact .refl s
  · exact .refl s

end

/-! ### Resets -/

/-- A device-scope reset leaves a part held in reset, whatever it stood at. -/
theorem State.deviceReset_inReset (s : State) (source : Nat) (cold : Bool) (hq : ∀ b, Instr.resetRelease b ∉ s.pending) :
    InReset (s.deviceReset source cold) :=
  ⟨rfl, hq, rfl, rfl, rfl, rfl, rfl, rfl, rfl, rfl, rfl, rfl, rfl, rfl, rfl, rfl, rfl, rfl, rfl, rfl, rfl, rfl, rfl, rfl, rfl,
    fun _ ho _ => (State.reg_setReg_ne _ _ _ _ ho.symm).trans rfl⟩

/-- The sources asserted do not touch a part held in reset. -/
theorem InReset.with_held {s : State} (h : InReset s) (held : List Nat) : InReset { s with crb := { s.crb with held := held } } :=
  StillReset.inReset ⟨_, _, _, _, _, _, rfl, rfl, rfl, rfl, rfl, rfl, rfl, fun _ _ _ => rfl⟩ h

theorem InReset.resetLevel {s : State} (h : InReset s) (source : Nat) (cold on : Bool) : InReset (s.resetLevel source cold on) := by
  obtain ⟨-, hq, -⟩ := id h
  unfold State.resetLevel
  split
  · split
    · exact h
    · exact (s.deviceReset_inReset source cold hq).with_held _
  · exact h.with_held _

theorem InReset.thermal {s : State} (h : InReset s) (temp : Int) : InReset (thermal temp s) := by
  unfold Machine.thermal
  extract_lets s1
  have sampled : InReset s1 := by
    simp only [s1]
    split
    · exact h.resetLevel _ _ _
    split
    · exact h.resetLevel _ _ _
    · exact h
  rw [if_neg (by simp [sampled.alive])]
  exact sampled

/-- Of the registers a table keeps by key, one that is kept reads as before and one that is dropped reads nothing. -/
theorem SMap.find_filter_key {α : Type} (p : Nat → Bool) (m : SMap α) (i : Nat) :
    SMap.find (m.filter (fun e => p e.1)) i = if p i then SMap.find m i else none := by
  induction m with
  | nil => simp [SMap.find]
  | cons e r ih =>
    obtain ⟨k, w⟩ := e
    by_cases hk : k = i
    · subst hk
      cases hp : p k <;> simp [List.filter, hp, SMap.find, ih]
    · cases hp : p k <;> simp [List.filter, hp, SMap.find, hk, ih]

/-- A register that a PCIe-scope reset touches reads its reset value, any other what it held (R436). -/
theorem State.reg_filter (s : State) (p : Nat → Bool) (o : Nat) :
    ({ s with regs := s.regs.filter (fun e => p e.1) } : State).reg o = if p o then s.reg o else resetWord o := by
  simp only [State.reg, SMap.find_filter_key]
  cases p o <;> rfl

theorem InReset.pcieReset {s : State} (h : InReset s) : InReset s.pcieReset := by
  obtain ⟨hr, hq, hb, hs, hcore, hhif, hccu, htim, hnet, hing, hdec, hvis, hfst, hfus, hfpp, hbsu, hmap, hmxa, hgcr, hmemt, htdm, hpel,
    hcnt, hmon, hscan, hreg⟩ := h
  have hif : s.pcieReset.hif = Hif.reset := by
    have e : s.pcieReset.hif = { s.hif with holdoff := [], owed := [], owedOff := [] } := rfl
    rw [e, hhif]
    rfl
  let dropped : State := { s with regs := s.regs.filter (fun e => !pcieScope e.1 || pcieKept e.1) }
  have hdropped : ∀ o, o ≠ Reg.CRB_RESET_CAUSE → o ≠ Reg.OBS_SCAN_STATUS → dropped.reg o = resetWord o := fun o ho hl => by
    rw [State.reg_filter s (fun k => !pcieScope k || pcieKept k) o, hreg o ho hl, ite_self]
  have regs : ∀ o, o ≠ Reg.CRB_RESET_CAUSE → o ≠ Reg.OBS_SCAN_STATUS → s.pcieReset.reg o = resetWord o := by
    intro o ho hl
    have e : s.pcieReset.reg o = (dropped.putBit Reg.HIF_RING_STATUS 6 (s.bitOf Reg.HIF_RING_STATUS 6)).reg o :=
      State.reg_setBit_ne _ _ _ _ ho.symm
    rw [e]
    by_cases hring : o = Reg.HIF_RING_STATUS
    · subst hring
      have kept : (dropped.putBit Reg.HIF_RING_STATUS 6 (s.bitOf Reg.HIF_RING_STATUS 6)).reg Reg.HIF_RING_STATUS =
          BitVec.ofNat 32 (putBits (dropped.reg Reg.HIF_RING_STATUS).toNat 6 1
            (b2n ((s.reg Reg.HIF_RING_STATUS).toNat.testBit 6))) := State.reg_setReg_same _ _ _
      rw [kept, hdropped _ ho hl, hreg _ ho hl]
      decide +kernel
    · exact (State.reg_setFld_ne _ _ _ _ _ _ (Ne.symm hring)).trans (hdropped o ho hl)
  exact ⟨hr, hq, rfl, hs, hcore, hif, hccu, htim, hnet, hing, hdec, hvis, hfst, hfus, hfpp, hbsu, hmap, hmxa, hgcr, hmemt, htdm, hpel,
    hcnt, hmon, hscan, regs⟩

/-- Whatever row comes to a part held in reset but the release, it stays at reset. -/
theorem Row.inReset {s t : State} {c : Instr} (k : Row s c t) (h : InReset s) (hc : ∀ b, c ≠ .resetRelease b) : InReset t := by
  obtain ⟨hr, -, hb, hs, -, hhif, -, -, -, -, -, -, -, -, -, -, -, -, -, -, -, -, -, -, hscan, -⟩ := id h
  have ignored : ∀ {x : State}, x = s → InReset x := fun e => e ▸ h
  have stored : ∀ m, InReset { s with host := m } := fun m => StillReset.inReset (.beside m s.met) h
  cases k with
  | event f => exact ignored (State.act_dead h.alive f)
  | command code p => exact ignored (by simp [Machine.command, hr])
  | write off v => exact ignored (h.hostSet off v)
  | oasis f => exact StillReset.inReset (.beside _ _) h
  | onOasis f => exact (StillReset.onOasis f).inReset h
  | none => exact h
  | cmdTail tail writes =>
    rw [(stored _).hostSet]
    exact stored _
  | fetchError cause tail writes =>
    have idle : ({ s with host := s.host.writeAll writes } : State).canFetch = false := by simp [State.canFetch, State.busMaster, hr]
    simp only [commandFetchError, idle, Bool.false_and, Bool.false_eq_true, if_false]
    rw [(stored _).hostSet]
    exact stored _
  | replyDelivery => exact ignored (by simp [Machine.replyDelivery, State.busMaster, hr])
  | replyWriteError => exact ignored (by simp [Machine.replyWriteError, State.busMaster, hr])
  | holdoffExpiry v => exact ignored (by simp [Machine.holdoffExpiry, hhif, Hif.reset, SMap.find])
  | busMaster on => exact ignored (by simp [State.when, State.cfgUp, hr])
  | msix on masked => exact ignored (by simp [State.when, State.cfgUp, hr])
  | oversize write off dw => exact ignored (by simp [Machine.barOversize, h.barAnswers])
  | registerWrite off data en => exact ignored (by simp [Machine.registerWrite, h.barAnswers])
  | read off en => exact ignored (by simp [Machine.hostRead, h.barAnswers])
  | pairRead off both => exact ignored (by simp [Machine.pairRead, h.barAnswers])
  | windowWrite off data en => exact ignored (by simp [Machine.windowWrite, h.barAnswers])
  | truncated n => exact (h.truncated n).inReset h
  | processed => exact h.processed.inReset h
  | gateway type f => exact (h.gateway type f).inReset h
  | settled => exact ignored (by simp [Machine.memSettled, hs])
  | scanEnd unmapped fault => exact ignored (by simp [Machine.scanEnd, hscan])
  | tracePacket => exact ignored (by simp [State.when, hr])
  | tap ins => exact (StillReset.tap ins hscan).inReset h
  | porstN on | rstN on | rootPll on => exact h.resetLevel _ _ _
  | phyPll pll locked => exact ignored (by simp [State.when, hr])
  | thermal temp => exact h.thermal temp
  | pcieReset => exact h.pcieReset
  | release bootSel => exact absurd rfl (hc bootSel)
  | linkUp width speed => exact ignored (by simp [State.when, hr])
  | d3hot => exact ignored (by simp [Machine.d3hot, hb])

/-- A part held in reset stays so when the command at the front of its queue is taken. -/
theorem InReset.dequeue {s : State} {rest : List Instr} (h : InReset s) (hq : ∀ b, Instr.resetRelease b ∉ rest) :
    InReset { s with pending := rest } := by
  obtain ⟨hr, -, others⟩ := h
  exact ⟨hr, hq, others⟩

/-- Settles O4: no cycle of CORE passes, and every row but the release leaves a part held in reset at reset. -/
theorem resetHoldKept : Obligations.ResetHoldKept := by
  intro s t h ht
  obtain ⟨-, hq, -⟩ := id h
  cases hp : s.pending with
  | nil =>
    have idle : step s = .next s.tick := by simp [step, hp]
    cases idle.symm.trans ht
    rw [h.tick]
    exact h
  | cons c rest =>
    have hfront : step s = exec c { s with pending := rest } := by simp [step, hp]
    rw [hp] at hq
    obtain ⟨u, hu, row⟩ := exec_row c { s with pending := rest }
    cases (hfront.symm.trans ht).symm.trans hu
    exact row.inReset (h.dequeue (fun b hb => hq b (.tail _ hb))) (fun b e => hq b (e ▸ .head _))

end Sys2Proof.Machine
end

section
/-! PROOF. Device-scope resets (R434, R435): what each source does, and the one byte of device memory they do not reach. -/

namespace Sys2Proof.Machine

/-- A cell of device memory beyond the last row of Table 15.1, where no operation of the model puts one. -/
def State.beyondFlash : State := { State.reset with mem := [(0x7800000000, 1)] }

/-- Refutes O6: in a state whose memory lists a byte above the flash range, at an address Table 15.1 does not map, RST_N keeps that byte,
though it is no flash: the reset keeps every address from the start of flash on. -/
theorem not_deviceResetLeaves : ¬ Obligations.DeviceResetLeaves := by
  intro h
  obtain ⟨t, ht, -, -, -, -, -, cleared, -⟩ := h State.beyondFlash 1 false Instr.rstN (by simp) (by decide)
  have reset : exec (.rstN true) State.beyondFlash = .next (State.beyondFlash.resetLevel 1 false true) := rfl
  cases reset.symm.trans ht
  exact absurd (cleared 0x7800000000 (by decide +kernel)) (by decide +kernel)

end Sys2Proof.Machine
end

section
/-! PROOF. Fuses (R440, R442): a boot image that passes blows bits, and nothing else of the boot or of a reset touches one. -/

namespace Sys2Proof.Machine

theorem FusesWithin.refl (f : Fuses) : FusesWithin f f := ⟨fun _ h => h, fun _ h => h, fun _ _ h => h, id, id, id⟩

theorem FusesWithin.trans {f g h : Fuses} (a : FusesWithin f g) (b : FusesWithin g h) : FusesWithin f h := by
  obtain ⟨a1, a2, a3, a4, a5, a6⟩ := a
  obtain ⟨b1, b2, b3, b4, b5, b6⟩ := b
  exact ⟨fun i h => b1 i (a1 i h), fun i h => b2 i (a2 i h), fun k i h => b3 k i (a3 k i h), b4 ∘ a4, b5 ∘ a5, b6 ∘ a6⟩

/-- Each entry of a provisioning block sets bits of one field. -/
theorem Fuses.within_blow (f : Fuses) (e : Nat × Nat) : FusesWithin f (f.blow e) := by
  have or_left : ∀ a b i : Nat, a.testBit i = true → (a ||| b).testBit i = true := fun a b i h => by simp [Nat.testBit_or, h]
  have same : ∀ (k i : Nat), (SMap.get 0 f.keyHash k).testBit i = true → (SMap.get 0 f.keyHash k).testBit i = true := fun _ _ h => h
  unfold Fuses.blow
  split
  · exact ⟨fun i h => or_left _ _ i h, fun _ h => h, same, id, id, id⟩
  · exact ⟨fun _ h => h, fun _ h => h, same, fun h => by simp [h], id, id⟩
  · exact ⟨fun _ h => h, fun _ h => h, same, id, fun h => by simp [h], id⟩
  · exact ⟨fun _ h => h, fun _ h => h, same, id, id, fun h => by simp [h]⟩
  · exact ⟨fun _ h => h, fun i h => or_left _ _ i h, same, id, id, id⟩
  · refine ⟨fun _ h => h, fun _ h => h, fun j i h => ?_, id, id, id⟩
    by_cases hj : e.1 = j
    · subst hj
      rw [SMap.get_upd_same]
      exact or_left _ _ i h
    · rw [SMap.get_upd_ne _ _ _ _ _ hj]
      exact h

theorem Fuses.within_blown (es : List (Nat × Nat)) (f : Fuses) : FusesWithin f (es.foldl Fuses.blow f) := by
  induction es generalizing f with
  | nil => exact .refl f
  | cons e es ih => exact (f.within_blow e).trans (ih _)

/-- What each step of a list leaves alone, the list leaves alone. -/
theorem State.each_keeps {α β : Type} (g : State → β) {f : State → α → State} (hf : ∀ x a, g (f x a) = g x) (l : List α) (s : State) :
    g (s.each l f) = g s := by
  induction l generalizing s with
  | nil => rfl
  | cons a l ih => exact (ih _).trans (hf s a)

theorem State.putBoot_crb (s : State) (off v : Nat) : (s.putBoot off v).crb = s.crb := by
  unfold State.putBoot
  split <;> rfl

theorem State.each_putBoot_crb (l : List (Nat × Nat)) (s : State) : (s.each l (fun st e => st.putBoot e.1 e.2)).crb = s.crb :=
  State.each_keeps State.crb (fun x e => x.putBoot_crb e.1 e.2) l s

theorem State.each_setRegN_crb (off v : Nat → Nat) (l : List Nat) (s : State) :
    (s.each l (fun st w => st.setRegN (off w) (v w))).crb = s.crb :=
  State.each_keeps State.crb (fun x w => x.setRegN_crb (off w) (v w)) l s

theorem State.bootStart_fuses (s : State) (b : List Byte) (source : Nat) :
    (s.bootStart b source).crb.fuses = (bootProvision b).foldl Fuses.blow s.crb.fuses := by
  unfold State.bootStart
  extract_lets crb s1 s2 s3 dg s4 s5 s6 s7
  clear_value dg
  have settings : s3.crb = s2.crb := State.each_putBoot_crb _ _
  have digest : s4.crb = s3.crb := State.each_setRegN_crb _ _ _ _
  show s4.crb.fuses = _
  rw [digest, settings]

theorem State.bootHost_fuses (s : State) : s.bootHost.crb.fuses = s.crb.fuses := by
  unfold State.bootHost
  split <;> rfl

theorem State.bootFail_fuses (s : State) (code : Nat) : (s.bootFail code).crb.fuses = s.crb.fuses := by
  unfold State.bootFail
  split
  · rfl
  · exact State.bootHost_fuses _
  · exact State.bootHost_fuses _
  · rfl

/-- A check of a boot image blows what the image tried provisions where it passes, and no fuse where it does not or nothing is tried. -/
theorem bootImageCheck_fuses (nor : List Byte) (s : State) :
    (bootImageCheck nor s).crb.fuses = s.crb.fuses ∨
      ∃ b, (b = nor ∨ b = s.hostImage) ∧ bootCode s.crb.fuses b = 0 ∧
        (bootImageCheck nor s).crb.fuses = (bootProvision b).foldl Fuses.blow s.crb.fuses := by
  have tried : ∀ (x : State) (b : List Byte) (source : Nat), x.crb.fuses = s.crb.fuses → (b = nor ∨ b = s.hostImage) →
      let t := if bootCode x.crb.fuses b = 0 then x.bootStart b source else x.bootFail (bootCode x.crb.fuses b)
      t.crb.fuses = s.crb.fuses ∨ ∃ b, (b = nor ∨ b = s.hostImage) ∧ bootCode s.crb.fuses b = 0 ∧
        t.crb.fuses = (bootProvision b).foldl Fuses.blow s.crb.fuses := by
    intro x b source hx hb t
    simp only [t]
    split
    next pass => exact .inr ⟨b, hb, hx ▸ pass, by rw [State.bootStart_fuses, hx]⟩
    next => exact .inl ((State.bootFail_fuses _ _).trans hx)
  unfold bootImageCheck
  split
  · exact tried s.xspiUsed nor 0 rfl (.inl rfl)
  · exact tried s.xspiUsed nor 1 rfl (.inl rfl)
  · exact tried s s.hostImage 2 rfl (.inr rfl)
  · exact .inl rfl

theorem State.resetLevel_fuses (s : State) (source : Nat) (cold on : Bool) : (s.resetLevel source cold on).crb.fuses = s.crb.fuses := by
  unfold State.resetLevel
  split
  · split <;> rfl
  · rfl

/-- Settles O14: by what the check of an image does with the fuses, and by the level of each source of reset. -/
theorem fusesOnlyGain : Obligations.FusesOnlyGain := by
  refine ⟨fun s t nor ha ht => ?check, fun s k cold on row hrow => ?reset⟩
  case check =>
    cases (exec_of_act (f := bootImageCheck nor) ha rfl rfl).symm.trans ht
    rcases bootImageCheck_fuses nor s with same | ⟨b, hb, pass, blown⟩
    · rw [same]
      exact ⟨.refl _, fun _ => rfl⟩
    · refine ⟨blown ▸ Fuses.within_blown _ _, fun none_passes => ?_⟩
      obtain ⟨hnor, hhost⟩ := none_passes b pass
      rcases hb with hb | hb
      · exact absurd hb hnor
      · exact absurd hb hhost
  case reset =>
    simp only [List.mem_cons, Prod.mk.injEq, List.not_mem_nil, or_false] at hrow
    rcases hrow with ⟨rfl, rfl, rfl⟩ | ⟨rfl, rfl, rfl⟩ | ⟨rfl, rfl, rfl⟩ <;>
      exact ⟨_, rfl, State.resetLevel_fuses _ _ _ _⟩

end Sys2Proof.Machine
end

section
/-! PROOF. Reset, start-up and the link (R431, R433 to R436, R442 to R448): what each event does where its condition holds. -/

namespace Sys2Proof.Machine

variable {s : State}

/-! ### Sources of reset -/

theorem State.resetLevel_begins {source : Nat} (h : source ∉ s.crb.held) (cold : Bool) :
    s.resetLevel source cold true =
      (let x := s.deviceReset source cold
       { x with crb := { x.crb with held := x.crb.held ++ [source] } }) := by
  simp [State.resetLevel, h]

theorem State.resetLevel_held {source : Nat} (h : source ∈ s.crb.held) (cold : Bool) : s.resetLevel source cold true = s := by
  simp [State.resetLevel, h]

theorem State.resetLevel_ends (source : Nat) (cold : Bool) :
    s.resetLevel source cold false = { s with crb := { s.crb with held := s.crb.held.filter (· != source) } } := rfl

theorem tripBelow_le_tripAt : tripBelow ≤ tripAt := by
  unfold tripBelow tripAt
  split <;> decide

theorem thermal_trips {t : Int} (ht : tripAt < t) (hk : 4 ∉ s.crb.held) :
    thermal t s =
      (let x := s.deviceReset 4 false
       { x with crb := { x.crb with held := x.crb.held ++ [4] } }) := by
  simp only [thermal, if_pos ht, State.resetLevel_begins hk]
  rfl

theorem thermal_samples {t : Int} (hlo : tripBelow ≤ t) (hhi : t ≤ tripAt) (ha : s.alive = true) :
    thermal t s = s.setRegN Reg.CRB_TEMP (unsgn 16 t) := by
  simp only [thermal, if_neg (not_lt.mpr hhi), if_neg (not_lt.mpr hlo), ha, if_true]

theorem thermal_releases {t : Int} (ht : t < tripBelow) (ha : s.alive = false) :
    thermal t s = { s with crb := { s.crb with held := s.crb.held.filter (· != 4) } } := by
  have cool : ¬ tripAt < t := not_lt.mpr (ht.le.trans tripBelow_le_tripAt)
  have dead : (s.resetLevel 4 false false).alive = false := ha
  simp only [thermal, if_neg cool, if_pos ht, dead, Bool.false_eq_true, if_false]
  rfl

/-! ### PLLs -/

theorem State.released_of_alive (h : s.alive = true) : s.crb.released = true ∧ s.obs.stopped = false := by
  simpa [State.alive] using h

theorem exec_phyPllUnlock (ha : s.alive = true) (pll : Nat) (locked : Bool) :
    exec (.phyPllUnlock pll locked) s = .next (phyPll pll locked s) := by
  obtain ⟨hr, -⟩ := State.released_of_alive ha
  have e : exec (.phyPllUnlock pll locked) s = .next (s.when s.crb.released (phyPll pll locked)) := rfl
  rw [e, hr, State.when, if_pos rfl]

section
variable (hs : s.obs.stopped = false)
include hs

theorem phyPll_relocks {pll : Nat} (hlo : 1 ≤ pll) (hhi : pll ≤ 4) : phyPll pll true s = s.putBit Reg.CRB_CLK_STATUS pll true := by
  rw [phyPll, if_neg (by omega), if_neg (by simp [hs])]
  rfl

theorem phyPll_dram_lost : phyPll 1 false s = s.putBit Reg.CRB_CLK_STATUS 1 false := by
  rw [phyPll, if_neg (by decide), if_neg (by simp [hs])]
  rfl

theorem phyPll_ethernet_lost :
    phyPll 2 false s = (s.putBit Reg.CRB_CLK_STATUS 2 false).each (List.range 4)
      (fun st p => if st.portLink p then netLinkLoss p st else st) := by
  rw [phyPll, if_neg (by decide), if_neg (by simp [hs])]
  rfl

theorem phyPll_tandem_lost :
    phyPll 3 false s =
      (let x := s.putBit Reg.CRB_CLK_STATUS 3 false
       if x.linkState = 0 then x else x.linkLost 1) := by
  rw [phyPll, if_neg (by decide), if_neg (by simp [hs])]
  rfl

theorem phyPll_pcie_lost : phyPll 4 false s = (s.putBit Reg.CRB_CLK_STATUS 4 false).pcieReset := by
  rw [phyPll, if_neg (by decide), if_neg (by simp [hs])]
  rfl

end

/-! ### The boot -/

theorem resetRelease_of_free (hr : s.crb.released = false) (hk : s.crb.held = []) (boot : Bool) :
    resetRelease boot s =
      (let x : State := { s with
         core := 0
         crb := { s.crb with
           released := true
           trying := BootTry.slotA } }
       let y := (((x.putBit Reg.CRB_BOOT_STATUS 3 boot).setFld Reg.CRB_BOOT_STATUS 0 2 1).setFld Reg.CRB_CLK_STATUS 0 5 0x1F).showFuses
       if boot then y.bootHost else y) := by
  rw [resetRelease, if_neg (by simp [hr, hk])]

/-- The ROM checks the image of the source it tries: a NOR slot's, which xSPI has read, or the host's. -/
theorem bootImageCheck_of_trying {x : State} {nor b : List Byte} {k : Nat}
    (h : s.crb.trying = .slotA ∧ x = s.xspiUsed ∧ b = nor ∧ k = 0 ∨ s.crb.trying = .slotB ∧ x = s.xspiUsed ∧ b = nor ∧ k = 1 ∨
      s.crb.trying = .hostCheck ∧ x = s ∧ b = s.hostImage ∧ k = 2) :
    bootImageCheck nor s = if bootCode x.crb.fuses b = 0 then x.bootStart b k else x.bootFail (bootCode x.crb.fuses b) := by
  rcases h with ⟨ht, rfl, rfl, rfl⟩ | ⟨ht, rfl, rfl, rfl⟩ | ⟨ht, rfl, rfl, rfl⟩ <;> simp only [bootImageCheck, ht]

theorem xspiTimeout_of_slot (h : s.crb.trying = .slotA ∨ s.crb.trying = .slotB) : xspiTimeout s = s.bootFail 8 := by
  rcases h with h | h <;> simp only [xspiTimeout, h]

theorem ready_of_training (hb : s.fld Reg.CRB_BOOT_STATUS 0 2 = 2) (hr : s.bitOf Reg.CRB_START_STATUS 0 = false) (dram nand : List Nat) :
    ready dram nand s =
      (s.trained dram nand).event 11 0xFF01 St.ok 0x05 0 (result [(20, 4, (s.trained dram nand).regN Reg.CRB_FW_VERSION)]) := by
  rw [ready, if_neg (by simp [hb, hr])]

/-! ### The link -/

theorem pcieLinkUp_of_partner {width speed : Nat} (hc : s.bitOf Reg.CRB_CLK_STATUS 4 = true) (hw : width ∈ [1, 2, 4, 8]) (hlo : 1 ≤ speed)
    (hhi : speed ≤ 5) :
    pcieLinkUp width speed s =
      (let x := (((s.setFld Reg.HIF_PCIE_STATUS 0 4 (if width = 2 then 1 else width)).setFld Reg.HIF_PCIE_STATUS 4 3 speed).setBit
         Reg.HIF_PCIE_STATUS 7).setFld Reg.HIF_PCIE_STATUS 8 2 0
       { x with crb := { x.crb with barUp := true } }) := by
  have known : [1, 2, 4, 8].contains width = true := List.contains_iff_mem.mpr hw
  have speeds : rng speed 1 5 = true := by simp [rng, hlo, hhi]
  rw [pcieLinkUp, if_neg (by rw [known, speeds, hc]; decide)]
  rfl

theorem d3hot_of_up (h : s.crb.barUp = true) :
    d3hot s = { (s.setFld Reg.HIF_PCIE_STATUS 8 2 3) with crb := { s.crb with barUp := false } } := if_pos h

/-- Settles O60, one event after the other: each is the meaning of its row, taken where its condition holds. -/
theorem startUpEventsComplete : Obligations.StartUpEventsComplete := by
  refine ⟨fun s k cold row hrow => ?source, fun s t => ⟨fun ht hk => congrArg Host.Outcome.next (thermal_trips ht hk),
      fun hlo hhi ha => congrArg Host.Outcome.next (thermal_samples hlo hhi ha),
      fun ht ha => congrArg Host.Outcome.next (thermal_releases ht ha)⟩,
    fun s pll ha hlo hhi => ?pll, fun s => rfl, fun s boot hr hk => congrArg Host.Outcome.next (resetRelease_of_free hr hk boot),
    fun s x nor b k ha h => ?image, fun s ha h => exec_of_act ha rfl (xspiTimeout_of_slot h),
    fun s dram nand ha hb hr => ?ready, fun s width speed hr hc hw hlo hhi => ?linkUp,
    fun s h => congrArg Host.Outcome.next (d3hot_of_up h)⟩
  case source =>
    have level : ∀ on, exec (row on) s = .next (s.resetLevel k cold on) := by
      simp only [List.mem_cons, Prod.mk.injEq, List.not_mem_nil, or_false] at hrow
      rcases hrow with ⟨rfl, rfl, rfl⟩ | ⟨rfl, rfl, rfl⟩ | ⟨rfl, rfl, rfl⟩ <;> exact fun _ => rfl
    refine ⟨fun hk => ?_, fun hk => ?_, ?_⟩
    · rw [level, State.resetLevel_begins hk]
    · rw [level, State.resetLevel_held hk]
    · rw [level, State.resetLevel_ends]
  case pll =>
    obtain ⟨-, hs⟩ := State.released_of_alive ha
    refine ⟨?_, fun h => ?_, fun h => ?_, fun h => ?_, fun h => ?_⟩
    · rw [exec_phyPllUnlock ha, phyPll_relocks hs hlo hhi]
    · rw [h, exec_phyPllUnlock ha, phyPll_dram_lost hs]
    · rw [h, exec_phyPllUnlock ha, phyPll_ethernet_lost hs]
    · rw [h, exec_phyPllUnlock ha, phyPll_tandem_lost hs]
    · rw [h, exec_phyPllUnlock ha, phyPll_pcie_lost hs]
  case image =>
    exact ⟨fun pass => exec_of_act ha rfl ((bootImageCheck_of_trying h).trans (if_pos pass)),
      fun fail => exec_of_act ha rfl ((bootImageCheck_of_trying h).trans (if_neg fail))⟩
  case ready =>
    exact ⟨_, exec_of_act ha rfl (congrArg State.fetchAll (ready_of_training hb hr dram nand)), State.event_reported _ _ _ _ _ _ _⟩
  case linkUp =>
    have e : exec (.pcieLinkUp width speed) s = .next (s.when s.crb.released (pcieLinkUp width speed)) := rfl
    rw [e, hr, State.when, if_pos rfl, pcieLinkUp_of_partner hc hw hlo hhi]

end Sys2Proof.Machine
end

section
/-! PROOF. The Brake, scan-out and the TAP, lockstep (R322, R424 to R429): what each event does where its condition holds. -/

namespace Sys2Proof.Machine

variable {s : State}

/-! ### The Brake -/

theorem brakeStop_of_registered {b : BrakeReq} (ha : s.alive = true) (hb : s.obs.brake = some b) : brakeStop s = s.brakeStopped b := by
  obtain ⟨-, hs⟩ := State.released_of_alive ha
  simp only [brakeStop, hb, hs, Bool.false_eq_true, if_false]

theorem memSettled_of_stopped (hs : s.obs.stopped = true) : memSettled s = s.setBit Reg.OBS_BRAKE_STATUS 1 := if_pos hs

/-! ### Scan-out -/

/-- What an access ends with leaves open whether an IJTAG waits for it. -/
theorem State.scanResult_tapWait (kind a : Nat) (braked unmapped fault : Bool) :
    (s.scanResult kind a braked unmapped fault).obs.tapWait = s.obs.tapWait := by
  have ended : ∀ (x : State) (err : Nat), (x.scanDone err).obs.tapWait = x.obs.tapWait := fun _ _ => rfl
  have placed : ∀ bs : List Byte, (s.scanData bs).obs = s.obs := fun bs =>
    State.each_keeps State.obs (f := fun st w => st.setRegN (Reg.OBS_SCAN_DATA w) (leAt bs (4 * w) 4)) (fun _ _ => rfl) _ s
  have drawn : ∀ x : State, (x.drawFrees 8).obs = x.obs := fun _ => rfl
  unfold State.scanResult
  generalize (if kind = 1 then inDram a 64 else inFlash a 64) = there
  split_ifs <;> simp only [ended, drawn, placed]

/-- An access ends where the TAP does not hold the instruments, and gives them to an IJTAG that waited for it. -/
theorem exec_scanAccessEnd {kind a : Nat} {braked : Bool} (hscan : s.obs.scan = some (kind, a, braked))
    (hfree : s.bitOf Reg.OBS_SCAN_STATUS 4 = false) (unmapped fault : Bool) :
    exec (.scanAccessEnd unmapped fault) s =
      .next (let t := s.scanResult kind a braked unmapped fault
             if s.obs.tapWait then t.tapTake 4 else t) := by
  have e : exec (.scanAccessEnd unmapped fault) s = .next (scanEnd unmapped fault s) := rfl
  rw [e]
  simp only [scanEnd, hscan, hfree, State.scanResult_tapWait, Bool.false_eq_true, if_false]

theorem State.scanResult_running (kind a : Nat) (unmapped fault : Bool) :
    s.scanResult kind a false unmapped fault = s.scanDone 1 := if_pos rfl

theorem State.scanResult_segment (a : Nat) (unmapped fault : Bool) :
    s.scanResult 0 a true unmapped fault =
      if unmapped then s.scanDone 2 else if fault then s.scanDone 3
      else ((s.scanData (s.freeBytes 8)).drawFrees 8).scanDone 0 := rfl

theorem State.scanResult_nowhere {kind a : Nat} (hk : kind ≠ 0)
    (ha : ¬ (a % 64 = 0 ∧ (if kind = 1 then inDram a 64 else inFlash a 64) = true)) (unmapped fault : Bool) :
    s.scanResult kind a true unmapped fault = s.scanDone 2 := by
  have missing : a % 64 ≠ 0 ∨ (!(if kind = 1 then inDram a 64 else inFlash a 64)) = true := by
    by_cases h : a % 64 = 0
    · exact .inr (by simpa using fun k => ha ⟨h, k⟩)
    · exact .inl h
  rw [State.scanResult, if_neg (by decide), if_neg hk, if_pos missing]

theorem State.scanResult_memory {kind a : Nat} (hk : kind ≠ 0)
    (ha : a % 64 = 0 ∧ (if kind = 1 then inDram a 64 else inFlash a 64) = true) (unmapped fault : Bool) :
    s.scanResult kind a true unmapped fault = if fault then s.scanDone 3 else (s.scanData (s.ldB a 64)).scanDone 0 := by
  obtain ⟨aligned, there⟩ := ha
  rw [State.scanResult, if_neg (by decide), if_neg hk, if_neg (by simp [aligned, there])]

/-! ### The TAP -/

theorem tapInstruction_waits (h : s.obs.scan.isSome = true) :
    tapInstruction 4 s = { s with obs := { s.obs with tapWait := true } } := if_pos ⟨rfl, h⟩

theorem tapInstruction_taken {ins : Nat} (h : ¬ (ins = 4 ∧ s.obs.scan.isSome = true)) : tapInstruction ins s = s.tapTake ins := if_neg h

/-- The TAP as instruction `ins` leaves it, with what it shifts out and its error status. -/
def State.tapShown (s : State) (ins out : Nat) (err : Bool) : State :=
  { s with obs := { s.obs with
      tap := ins
      extest := ins == 3
      tdo := out
      tapError := err
      tapWait := false } }

theorem State.tapTake_idcode : s.tapTake 1 = (s.tapShown 1 (s.regN Reg.CRB_IDCODE) false).putBit Reg.OBS_SCAN_STATUS 4 false := rfl

theorem State.tapTake_bypass {ins : Nat} (h : ins = 0 ∨ 4 < ins) :
    s.tapTake ins = (s.tapShown ins 0 false).putBit Reg.OBS_SCAN_STATUS 4 false := by
  have closed : (decide (2 ≤ ins) && decide (ins ≤ 4)) = false := by simp; omega
  have not_idcode : ins ≠ 1 := by omega
  have not_ijtag : (ins == 4) = false := by simp; omega
  simp only [State.tapTake, closed, not_ijtag, not_idcode, Bool.false_and, Bool.false_eq_true, if_false]
  rfl

theorem State.tapTake_pins {ins : Nat} (h : ins = 2 ∨ ins = 3) :
    s.tapTake ins = (s.tapShown ins (s.freeBelow (2 ^ 64)) false).drawFree.putBit Reg.OBS_SCAN_STATUS 4 false := by
  rcases h with rfl | rfl <;> rfl

theorem State.tapTake_ijtag :
    s.tapTake 4 = (s.tapShown 4 (if s.obs.stopped then s.freeBelow (2 ^ 64) else 0) (!s.obs.stopped)).drawFree.putBit
      Reg.OBS_SCAN_STATUS 4 true := by
  cases h : s.obs.stopped <;> simp only [State.tapTake, State.tapShown, h] <;> rfl

/-! ### Lockstep (R322) -/

theorem lockstepMismatch_last {b : Bool} (hown : s.bitOf Reg.GCR_CTL_STATUS (if b then 2 else 1) = true)
    (hother : s.bitOf Reg.GCR_CTL_STATUS (if b then 1 else 2) = false) :
    lockstepMismatch b s =
      ((s.clrBit Reg.GCR_CTL_STATUS (if b then 2 else 1)).setBit Reg.GCR_CTL_STATUS (if b then 4 else 3)).brakeSource 4 0xFE := by
  simp only [lockstepMismatch, hown, hother, Bool.not_true, Bool.not_false, Bool.false_eq_true, if_false, if_true]

theorem lockstepMismatch_other {b : Bool} (hown : s.bitOf Reg.GCR_CTL_STATUS (if b then 2 else 1) = true)
    (hother : s.bitOf Reg.GCR_CTL_STATUS (if b then 1 else 2) = true) :
    lockstepMismatch b s =
      (let x := (s.clrBit Reg.GCR_CTL_STATUS (if b then 2 else 1)).setBit Reg.GCR_CTL_STATUS (if b then 4 else 3)
       ((if b then x else x.setBit Reg.GCR_CTL_STATUS 0).clrBit Reg.CCU_STATUS 1).event 10 0xFF02 St.internalFault
         (if b then 0x09 else 0x0A) ccuUnit (result [(20, 1, b2n b)])) := by
  simp only [lockstepMismatch, hown, hother, Bool.not_true, Bool.false_eq_true, if_false]

/-- Settles O59, one event after the other: each is the meaning of its row, taken where its condition holds. -/
theorem brakeAndScanEventsComplete : Obligations.BrakeAndScanEventsComplete := by
  refine ⟨fun s b ha hb => exec_of_act ha rfl (congrArg State.unfence (brakeStop_of_registered ha hb)),
    fun s ha => exec_of_act ha rfl rfl, fun s hs => congrArg Host.Outcome.next (memSettled_of_stopped hs),
    fun s kind a braked unmapped fault hscan hfree => ?scan, fun s h => congrArg Host.Outcome.next (tapInstruction_waits h),
    fun s ins h => ?tap, fun s b ha hown => ?lockstep⟩
  case scan =>
    refine ⟨fun hb => ?_, fun hb hk => ?_, fun hb hk => ⟨fun hthere => ?_, fun hthere => ?_⟩⟩ <;> subst hb
    · rw [exec_scanAccessEnd hscan hfree, State.scanResult_running]
    · subst hk
      refine ⟨?_, ?_, ?_⟩ <;> rw [exec_scanAccessEnd hscan hfree, State.scanResult_segment] <;> rfl
    · rw [exec_scanAccessEnd hscan hfree, State.scanResult_nowhere hk hthere]
    · refine ⟨?_, ?_⟩ <;> rw [exec_scanAccessEnd hscan hfree, State.scanResult_memory hk hthere] <;> rfl
  case tap =>
    have e : exec (.tapInstruction ins) s = .next (s.tapTake ins) := congrArg Host.Outcome.next (tapInstruction_taken h)
    refine ⟨fun hi => ?_, fun hi => ?_, fun hi => ?_, fun hi => ?_⟩ <;> rw [e]
    · subst hi
      rw [State.tapTake_idcode]
      rfl
    · rw [State.tapTake_bypass hi]
      rfl
    · rw [State.tapTake_pins hi]
      rfl
    · subst hi
      rw [State.tapTake_ijtag]
      rfl
  case lockstep =>
    cases hother : s.bitOf Reg.GCR_CTL_STATUS (if b then 1 else 2) with
    | false =>
      exact ⟨_, exec_of_act ha rfl (lockstepMismatch_last hown hother), fun _ => rfl, fun k => absurd k (by decide)⟩
    | true =>
      exact ⟨_, exec_of_act ha rfl (lockstepMismatch_other hown hother), fun k => absurd k (by decide),
        fun _ => State.event_reported _ _ _ _ _ _ _⟩

end Sys2Proof.Machine
end

section
/-! PROOF. The latches of register pairs (R453): what one read of a DW copies, and a read of both halves. -/

namespace Sys2Proof.Machine

variable {s : State} {off : Nat} {en : List Bool}

/-! ### Which register latches which -/

theorem SMap.get_foldl_set {α : Type} (d : α) (f : Nat → α) (l : List Nat) (m : SMap α) (h : Nat) :
    SMap.get d (l.foldl (fun m k => SMap.set m k (f k)) m) h = if h ∈ l then f h else SMap.get d m h := by
  induction l generalizing m with
  | nil => rfl
  | cons k l ih =>
    rw [List.foldl_cons, ih]
    by_cases hl : h ∈ l
    · simp [hl]
    · by_cases hk : h = k
      · subst hk
        simp [hl]
      · simp [hl, hk, SMap.get_set_ne _ _ _ _ _ (Ne.symm hk)]

/-- But for PEL_SNAP_CAD_LO, a LO latches its own HI alone. -/
theorem latchedBy_pair {h : Nat} (ho : off ≠ Reg.PEL_SNAP_CAD_LO) (hh : h ∈ latchedBy off) : h = off + 4 := by
  rw [latchedBy, if_neg ho] at hh
  split at hh
  · split at hh
    · exact List.mem_singleton.mp hh
    · cases hh
  · cases hh

theorem latchedHi_of_pair (h : off + 4 ∈ latchedBy off) : latchedHi (off + 4) = true := by
  simp [latchedHi, h]

/-- No register latches itself. -/
theorem not_mem_latchedBy (off : Nat) : off ∉ latchedBy off := by
  intro h
  by_cases ho : off = Reg.PEL_SNAP_CAD_LO
  · subst ho
    exact absurd h (by decide)
  · have := latchedBy_pair ho h
    omega

/-! ### A read of one DW -/

/-- A read with a byte enabled returns the latch of a latched HI and else what the register shows, and fills the latches of the HIs it
latches. -/
theorem State.readDw_latching (hb : s.bootFailed = false) (ho : off < 0x2000000) (he : (en.take 4).any id = true) :
    (s.readDw off en).1 = enabledBytes (if latchedHi off then (SMap.get 0 s.hif.latch off).toNat else s.readReg off) en ∧
      (s.readDw off en).2.hif.latch =
        (latchedBy off).foldl (fun m h => SMap.set m h (BitVec.ofNat 32 (s.readReg h))) s.hif.latch := by
  unfold State.readDw
  rw [if_neg (by simp [he]), if_neg (by simp [hb]), if_neg (Nat.not_le.mpr ho)]
  extract_lets v latch s1 s2
  cases s.obs.stopped with
  | true => exact ⟨rfl, rfl⟩
  | false =>
    have cleared : s2.hif = s1.hif := by
      simp only [s2]
      rw [State.readClear_frame]
    refine ⟨rfl, ?_⟩
    show (if drawsFree off then s2.drawFree else s2).hif.latch = _
    split
    · exact congrArg Hif.latch cleared
    · exact congrArg Hif.latch cleared

/-- A read of a register that latches leaves the boot's state as it was: CRB_BOOT_STATUS latches none. -/
theorem State.readDw_bootFailed {h : Nat} (hh : h ∈ latchedBy off) (hb : s.bootFailed = false) (ho : off < 0x2000000)
    (he : (en.take 4).any id = true) : (s.readDw off en).2.tick.bootFailed = s.bootFailed := by
  have other : Reg.CRB_BOOT_STATUS ≠ off := by
    rintro rfl
    exact absurd hh (by rw [show latchedBy Reg.CRB_BOOT_STATUS = [] by decide +kernel]; exact List.not_mem_nil)
  have kept : (s.readDw off en).2.reg Reg.CRB_BOOT_STATUS = s.reg Reg.CRB_BOOT_STATUS := by
    unfold State.readDw
    rw [if_neg (by simp [he]), if_neg (by simp [hb]), if_neg (Nat.not_le.mpr ho)]
    extract_lets v latch s1 s2
    have cleared : s2.reg Reg.CRB_BOOT_STATUS = s.reg Reg.CRB_BOOT_STATUS := State.reg_readClear_ne other
    cases s.obs.stopped with
    | true => rfl
    | false =>
      show (if drawsFree off then s2.drawFree else s2).reg Reg.CRB_BOOT_STATUS = _
      split
      · exact cleared
      · exact cleared
  rw [State.bootFailed_tick]
  simp only [State.bootFailed, State.fld, State.regN, kept]

/-! ### The latches after a read -/

/-- The latches that a completed read leaves are those of the read. -/
theorem State.completion_tick_hif (bs : List Byte) (x : State) : (State.completion (bs, x)).tick.hif = { x.hif with readData := bs } :=
  State.tick_hif _

/-- A latch after a read: filled with what its HI shows where the DW latches it, and else as it stood. -/
theorem State.latch_readDw (hb : s.bootFailed = false) (ho : off < 0x2000000) (he : (en.take 4).any id = true) (h : Nat) :
    SMap.get 0 (s.readDw off en).2.hif.latch h =
      if h ∈ latchedBy off then BitVec.ofNat 32 (s.readReg h) else SMap.get 0 s.hif.latch h := by
  rw [(State.readDw_latching hb ho he).2, SMap.get_foldl_set 0 (fun h => BitVec.ofNat 32 (s.readReg h))]

/-- A read of LO and then of its HI, in the cycle after, returns both halves as the first one's cycle showed them. -/
theorem State.readDw_pair (hb : s.bootFailed = false) (ho : off + 4 < 0x2000000) (hp : off + 4 ∈ latchedBy off)
    (hl : latchedHi off = false) :
    (s.readDw off allBytes).1 ++ ((s.readDw off allBytes).2.tick.readDw (off + 4) allBytes).1 =
      leBytes 4 (s.readReg off) ++ leBytes 4 (s.readReg (off + 4) % 2 ^ 32) := by
  have low : off < 0x2000000 := by omega
  have lo : (s.readDw off allBytes).1 = enabledBytes (s.readReg off) allBytes := by
    rw [(State.readDw_latching hb low rfl).1, hl]
    rfl
  have hi := (State.readDw_latching (s := (s.readDw off allBytes).2.tick) (en := allBytes)
    ((State.readDw_bootFailed hp hb low rfl).trans hb) ho rfl).1
  have held : SMap.get 0 (s.readDw off allBytes).2.tick.hif.latch (off + 4) = BitVec.ofNat 32 (s.readReg (off + 4)) := by
    rw [State.tick_hif, State.latch_readDw hb low rfl, if_pos hp]
  rw [latchedHi_of_pair hp, if_pos rfl, held, BitVec.toNat_ofNat] at hi
  rw [lo, hi]
  rfl

/-! ### O11 -/

/-- Settles O11: a latch is filled by the read of what latches it, at the cycle of the read, and by no other. -/
theorem latchesHold : Obligations.LatchesHold := by
  refine ⟨fun s off en ha hb h4 ho he => ?_, fun off ho h hh => ?_, if_pos rfl, fun h => rfl, fun s off ha hb h4 ho hp => ?_⟩
  · have same : off / 4 * 4 = off := by omega
    have hr := State.released_of_barAnswers ha
    have ex := exec_rcFieldRead ha off en
    rw [same, State.tick_released hr] at ex
    have latch := State.latch_readDw (s := { s with core := s.core + 1 }) (off := off) (en := en) hb ho he
    have shown := (State.readDw_latching (s := { s with core := s.core + 1 }) (off := off) (en := en) hb ho he).1
    refine ⟨s.core + 1, _, Nat.le_succ _, ex, fun h hh => ?_, fun h hh => ?_, fun hl => ?_, fun hl => ⟨?_, ?_⟩⟩
    all_goals rw [State.completion_tick_hif]
    · exact (latch h).trans (if_pos hh)
    · exact (latch h).trans (if_neg hh)
    · exact shown.trans (by rw [hl]; rfl)
    · exact shown.trans (by rw [hl]; rfl)
    · exact (latch off).trans (if_neg (not_mem_latchedBy off))
  · obtain rfl := latchedBy_pair ho hh
    exact ⟨rfl, latchedHi_of_pair hh⟩
  · have same : off / 4 * 4 = off := by omega
    have hr := State.released_of_barAnswers ha
    have ex := (exec_latchedPairRead ha off).2
    rw [same, State.tick_released hr] at ex
    refine ⟨s.core + 1, _, Nat.le_succ _, ex, fun hl => ?_⟩
    rw [State.completion_tick_hif]
    exact State.readDw_pair (s := { s with core := s.core + 1 }) hb ho hp hl

end Sys2Proof.Machine
end

section
/-! PROOF. Tandem and Peloton commands (R352, R365, R366, R372 and Table 3.9): the meaning of each opcode where no check refuses it. -/

namespace Sys2Proof.Machine

section
variable {p : CmdPacket} {e : State}

theorem bodyTandemConfig_of_allowed (hr : param p 16 1 ≤ 2) (hoff : (e.func tdmFunc).life = .off)
    (hslots : param p 16 1 = e.role ∨ e.allSlotsOff = true) :
    bodyTandemConfig p e = (Reply.ok [(20, 1, param p 16 1)], { e with tdm := { e.tdm with roleDue := some (param p 16 1) } }) := by
  have hfree : ¬ ((param p 16 1 != e.role && !e.allSlotsOff) = true) := by
    rcases hslots with h | h <;> simp [h]
  rw [bodyTandemConfig, if_neg (Nat.not_lt.2 hr), if_neg (by simp [hoff]), if_neg hfree]

/-! ### TANDEM_SWITCHOVER, by the state of the link -/

theorem bodyTandemSwitchover_paired (hr : e.role ≠ 0) (hon : (e.func tdmFunc).life ≠ .off) (hl : e.linkState = 3) :
    bodyTandemSwitchover p e = (Reply.ok [(20, 1, 3 - e.role)],
      ({ e with tdm := { e.tdm with switchAt := some (e.ccu.cadence + 2) } }).linkSend 0x31 0 e.ccu.cadence
        (leBytes 8 (e.ccu.cadence + 2))) := by
  rw [bodyTandemSwitchover, if_neg (not_or.2 ⟨hr, hon⟩), if_pos hl]

theorem bodyTandemSwitchover_down (hon : (e.func tdmFunc).life ≠ .off) (hl : e.linkState = 0) (hr : e.role = 2) :
    bodyTandemSwitchover p e = (Reply.ok [(20, 1, 1)], { e with tdm := { e.tdm with takeover := true } }) := by
  rw [bodyTandemSwitchover, if_neg (not_or.2 ⟨by omega, hon⟩), if_neg (by omega), if_pos ⟨hl, hr⟩]

theorem bodyTandemSwitchover_kept (hr : e.role ≠ 0) (hon : (e.func tdmFunc).life ≠ .off) (hl : e.linkState ≠ 3)
    (hd : ¬ (e.linkState = 0 ∧ e.role = 2)) : bodyTandemSwitchover p e = (Reply.ok [(20, 1, e.role)], e) := by
  rw [bodyTandemSwitchover, if_neg (not_or.2 ⟨hr, hon⟩), if_neg hl, if_neg hd]

/-! ### Membership and scheduled operations -/

theorem bodyPelotonJoin_of_passing (h16 : p.ext.length % 16 = 0) (h2 : 2 ≤ (memberEntries p.ext).length)
    (hme : param p 18 1 < (memberEntries p.ext).length)
    (hmac : ((memberEntries p.ext).getD (param p 18 1) []).take 6 = e.macOf 0) (htw : twinsOk (memberEntries p.ext) = true)
    (hfab : e.fabricOn = true) (hout : e.joined = false) (hdue : e.pel.joinDue = none) :
    bodyPelotonJoin p e = (Reply.ok [(20, 2, param p 16 2), (22, 1, param p 18 1)],
      { e with pel := { e.pel with joinDue := some (memberEntries p.ext, param p 16 2, param p 18 1), leaveDue := false } }) := by
  simp only [bodyPelotonJoin]
  rw [if_neg (by rw [hmac]; simp [h16, htw, hfab, Nat.lt_of_succ_le h2, hme]), if_neg (by simp [hout, hdue])]

theorem bodyPelotonLeave_of_joined (h : e.joined = true) :
    bodyPelotonLeave p e = (Reply.ok [], { e with pel := { e.pel with leaveDue := true } }) := by
  rw [bodyPelotonLeave, if_neg (by simp [h])]

theorem bodyPelotonSchedule_of_passing (hin : e.joined = true)
    (hop : param p 16 1 = 1 ∨ param p 16 1 = 2 ∨ (param p 16 1 = 3 ∧ switchRefusal e (param p 32 2) (param p 34 2) = none))
    (hearly : e.opTime (param p 24 8) (usTime (e.treeDepth * e.hop + 50)) = false) (hnear : e.opNear (param p 24 8) = false) :
    bodyPelotonSchedule switchRefusal p e = (Reply.ok [(20, 1, param p 16 1), (24, 8, param p 24 8)],
      (let y := opPayload (param p 16 1) (param p 32 2) (param p 34 2)
       let x := e.arm ⟨param p 16 1, param p 32 2, param p 34 2, param p 24 8, some e.pel.me, [], true⟩
       (x.each (x.treeChildren x.pel.me) (fun st c => st.pelSend 3 c st.pel.me (param p 24 8) y)).scheduleItem e.pel.me (param p 24 8)
         y)) := by
  have hmask : (if param p 16 1 = 3 then switchRefusal e (param p 32 2) (param p 34 2) else none) = none := by
    split
    · obtain h | h | ⟨-, h⟩ := hop
      · omega
      · omega
      · exact h
    · rfl
  simp only [bodyPelotonSchedule]
  rw [if_neg (by simp [hin]), if_neg (by omega), hmask]
  simp only [hearly, hnear, Bool.false_eq_true, if_false]

end

/-- Settles O22, one command after the other: each is its opcode's meaning in the entry state, replied. -/
theorem pairCommandsComplete : Obligations.PairCommandsComplete := by
  refine ⟨fun p s ha hr hoff hslots => ?config, fun p s ha => ?status, fun p s ha hr hon =>
    ⟨_, rfl, fun hl => ?paired, fun hl hsec => ?down, fun hl hd => ?kept⟩, fun p s ha h16 h2 hme hmac htw hfab hout hdue => ?join,
    fun p s ha hin => ?leave, fun p s ha hin hop hearly hnear => ?schedule, fun p s ha => ?members⟩
  case config => exact ⟨_, rfl, command_replied ha rfl (bodyTandemConfig_of_allowed hr hoff hslots) rfl rfl nofun⟩
  case status => exact ⟨_, rfl, command_replied ha rfl (rfl : bodyTandemStatus p _ = _) rfl rfl nofun⟩
  case paired => exact command_replied ha rfl (bodyTandemSwitchover_paired (p := p) hr hon hl) rfl rfl nofun
  case down => exact command_replied ha rfl (bodyTandemSwitchover_down (p := p) hon hl hsec) rfl rfl nofun
  case kept => exact command_replied ha rfl (bodyTandemSwitchover_kept (p := p) hr hon hl hd) rfl rfl nofun
  case join => exact ⟨_, rfl, command_replied ha rfl (bodyPelotonJoin_of_passing h16 h2 hme hmac htw hfab hout hdue) rfl rfl nofun⟩
  case leave => exact ⟨_, rfl, command_replied ha rfl (bodyPelotonLeave_of_joined (p := p) hin) rfl rfl nofun⟩
  case schedule => exact ⟨_, rfl, command_replied ha rfl (bodyPelotonSchedule_of_passing hin hop hearly hnear) rfl rfl nofun⟩
  case members => exact ⟨_, rfl, command_replied ha rfl (rfl : bodyPelotonStatus p _ = _) rfl rfl nofun⟩

end Sys2Proof.Machine
end

section
/-! PROOF. Metrology commands (Table 3.9, R399): the meaning of each opcode where no check refuses it. -/

namespace Sys2Proof.Machine

section
variable {p : CmdPacket} {e : State} {r : List Byte}

theorem bodyMetIdent_of_present (hr : e.met.ident = some r) (hp : e.metPresent = true) :
    bodyMetIdent p e = (Reply.ok [(20, 4, leAt r 0 4), (24, 4, leAt r 4 4), (28, 1, presentState r true)], e) := by
  simp only [bodyMetIdent, hr, hp, if_true]

theorem bodyMetCounter_of_present (hr : e.met.ident = some r) (hp : e.metPresent = true) :
    bodyMetCounter p e = (Reply.ok [(20, 4, leAt r 12 4)], e) := by
  simp only [bodyMetCounter, hr, hp, if_true]

theorem bodyMetSelect_of_passing {cells period : Nat} (hlo : 0x010 ≤ param p 16 2) (hhi : param p 16 2 ≤ 0x01F)
    (hn : param p 18 1 ≤ 1) (hres : e.metResident (param p 16 2) = some (cells, period))
    (hfit : 2 * (68 + 4 * cells) + 200000 + 24 * cells ≤ period)
    (hseal : e.met.oasis.sealed = false ∨ param p 16 2 = Mp.source e.met.oasis.params) :
    bodyMetSelect p e = (Reply.ok [(20, 2, param p 16 2)],
      { e with met := { e.met with selDue := some (param p 16 2, param p 18 1) } }) := by
  have hid : rng (param p 16 2) 0x010 0x01F = true := by simp [rng, hlo, hhi]
  have hopen : ¬ ((e.met.oasis.sealed && param p 16 2 != Mp.source e.met.oasis.params) = true) := by
    rcases hseal with h | h <;> simp [h]
  simp only [bodyMetSelect]
  rw [if_neg (by simp [hid, hn]), hres]
  show (if _ then _ else _) = _
  rw [if_neg (Nat.not_lt.2 hfit), if_neg hopen]

/-- The oldest `n` unread result records. -/
def unreadRecords (n : Nat) (ring : List (Bool × List Byte)) : List (List Byte) := ((ring.filter (fun x => x.1)).take n).map (fun x => x.2)

theorem bodyMetResultRead_of_count (hlo : 1 ≤ param p 24 2) (hhi : param p 24 2 ≤ 256) :
    bodyMetResultRead p e =
      (let recs := unreadRecords (param p 24 2) e.met.ring; let x := e.hostSt (param p 16 8) (recs.flatMap id)
       (Reply.accepted, (({ x with met := { x.met with ring := markRead (param p 24 2) x.met.ring } } : State).showUnread).longDone
          e.longKey St.ok 0 (result [(20, 2, recs.length)]))) := by
  rw [bodyMetResultRead, if_neg (by omega)]
  rfl

end

/-- Settles O24, one command after the other: each is its opcode's meaning in the entry state, replied. -/
theorem metrologyCommandsComplete : Obligations.MetrologyCommandsComplete := by
  refine ⟨fun p s r ha hr hp => ?ident, fun p s r ha hr hp => ?counter, fun p s cells period ha hlo hhi hn hres hfit hseal => ?select,
    fun p s ha hlo hhi => ?results⟩
  case ident => exact ⟨_, rfl, command_replied ha rfl (bodyMetIdent_of_present (p := p) hr hp) rfl rfl nofun⟩
  case counter => exact ⟨_, rfl, command_replied ha rfl (bodyMetCounter_of_present (p := p) hr hp) rfl rfl nofun⟩
  case select => exact ⟨_, rfl, command_replied ha rfl (bodyMetSelect_of_passing hlo hhi hn hres hfit hseal) rfl rfl nofun⟩
  case results => exact ⟨_, rfl, command_replied ha rfl (bodyMetResultRead_of_count hlo hhi) rfl rfl (fun _ => rfl)⟩

end Sys2Proof.Machine
end

section
/-! PROOF. Memory commands (R326, R340, R342, R345): the meaning of each opcode where none of its checks refuses it. -/

namespace Sys2Proof.Machine

/-! ### The bytes that a unit sees -/

theorem Memory.length_readBytes (m : Memory) (a n : Nat) : (m.readBytes a n).length = n := by
  induction n generalizing a with
  | zero => rfl
  | succ n ih => exact congrArg (· + 1) (ih (a + 1))

theorem length_indexed {α : Type} (v : List α) : (indexed v).length = v.length := by
  simp [indexed]

theorem length_overlay (cells : List (Nat × List Byte)) (a : Nat) (bs : List Byte) : (overlay cells a bs).length = bs.length := by
  rw [overlay, List.length_map, length_indexed]

theorem State.length_see (s : State) (a n : Nat) : (s.see a n).1.length = n := by
  unfold State.see
  extract_lets s0 raw gone cells own bs
  have hraw : raw.length = n := Memory.length_readBytes ..
  split
  · split
    · exact hraw
    · exact (List.length_map ..).trans ((length_indexed _).trans hraw)
  · exact (List.length_map ..).trans ((length_indexed _).trans ((length_overlay ..).trans hraw))

theorem State.length_hostLd (s : State) (a n : Nat) : (s.hostLd a n).length = n := Memory.length_readBytes ..

section
variable {p : CmdPacket} {e : State} {a n key : Nat} {bs : List Byte}

/-! ### Delivery (R340) -/

theorem State.deliver_device (hn : bs.length = n) (h : inFlash a n = false) :
    e.deliver key a bs =
      ((((e.chargePool 7 (ceilDiv n 64) 0 (some key)).chargeMove a n key).stB a bs).longDone key St.ok 0 (result [(20, 4, n)])) := by
  subst hn
  rw [State.deliver, if_neg (by simp [h])]

/-- A delivery to flash queues its slots, whose last one ends it. -/
theorem State.deliver_flash (hn : bs.length = n) (h : inFlash a n = true) :
    e.deliver key a bs =
      (let x := (e.chargePool 7 (ceilDiv n 64) 0 (some key)).chargeMove a n key
       { x with memt := { x.memt with
          flash := x.memt.flash ++ (List.range (n / 32768)).map (fun k => ⟨a + 32768 * k, (bs.drop (32768 * k)).take 32768, key⟩),
          jobs := x.memt.jobs ++ [⟨key, .flashWrite, n / 32768, n, 0, false⟩] } }) := by
  subst hn
  rw [State.deliver, if_pos h]

/-! ### Reads, writes and copies -/

theorem bodyMemRead_of_range (hlen : memLenBad (param p 32 4) [param p 16 8] = false)
    (hrow : (addrRow (param p 16 8) (param p 32 4)).isSome = true) :
    bodyMemRead p e =
      (let a := param p 16 8; let n := param p 32 4
       (Reply.accepted, ((((e.see a n).2.chargePool 7 (ceilDiv n 64) 0 (some e.longKey)).chargeMove a n e.longKey).hostSt (param p 24 8)
          (e.see a n).1).longDone e.longKey St.ok 0 (result [(20, 4, n)]))) := by
  rw [bodyMemRead, if_neg (by simp [hlen]), if_neg (by simp [Option.isNone_eq_false_iff.2 hrow])]

/-- A range of flash is whole slots. -/
theorem flash_slots (h : inFlash a n = true → a % 32768 = 0 ∧ n % 32768 = 0) :
    ¬ ((inFlash a n && (a % 32768 != 0 || n % 32768 != 0)) = true) := by
  cases hf : inFlash a n with
  | false => simp
  | true =>
    obtain ⟨ha, hn⟩ := h hf
    simp [ha, hn]

theorem bodyMemWrite_of_range (hlen : memLenBad (param p 32 4) [param p 16 8] = false)
    (hrow : (addrRow (param p 16 8) (param p 32 4)).isSome = true)
    (hslots : inFlash (param p 16 8) (param p 32 4) = true → param p 16 8 % 32768 = 0 ∧ param p 32 4 % 32768 = 0)
    (hdest : e.destRefusal (param p 16 8) (param p 32 4) = none) :
    bodyMemWrite p e = (Reply.accepted, e.deliver e.longKey (param p 16 8) (e.hostLd (param p 24 8) (param p 32 4))) := by
  rw [bodyMemWrite, if_neg (by simp [hlen]), if_neg (by simp [Option.isNone_eq_false_iff.2 hrow]), if_neg (flash_slots hslots), hdest]

theorem bodyMemCopy_of_range (hlen : memLenBad (param p 32 4) [param p 16 8, param p 24 8] = false)
    (hfrom : (addrRow (param p 16 8) (param p 32 4)).isSome = true) (hto : (addrRow (param p 24 8) (param p 32 4)).isSome = true)
    (hslots : inFlash (param p 24 8) (param p 32 4) = true → param p 24 8 % 32768 = 0 ∧ param p 32 4 % 32768 = 0)
    (hover : overlap (param p 16 8, param p 16 8 + param p 32 4) (param p 24 8, param p 24 8 + param p 32 4) = false)
    (hdest : e.destRefusal (param p 24 8) (param p 32 4) = none) :
    bodyMemCopy p e = (Reply.accepted,
      ((e.see (param p 16 8) (param p 32 4)).2.chargeMove (param p 16 8) (param p 32 4) e.longKey).deliver e.longKey (param p 24 8)
        (e.see (param p 16 8) (param p 32 4)).1) := by
  have hrows : ¬ (((addrRow (param p 16 8) (param p 32 4)).isNone || (addrRow (param p 24 8) (param p 32 4)).isNone) = true) := by
    obtain ⟨_, ha⟩ := Option.isSome_iff_exists.1 hfrom
    obtain ⟨_, hb⟩ := Option.isSome_iff_exists.1 hto
    simp [ha, hb]
  rw [bodyMemCopy, if_neg (by simp [hlen]), if_neg hrows, if_neg (flash_slots hslots), if_neg (by simp [hover]), hdest]

theorem bodySramWindow_of_part (h : param p 16 1 ≤ 3) :
    bodySramWindow p e = (Reply.ok [(20, 1, param p 16 1)], e.setFld Reg.MEM_WINDOW 0 2 (param p 16 1)) := if_neg (Nat.not_lt.2 h)

/-! ### Promotion and eviction -/

theorem bodyMemPromote_tile {f : Nat} (ht : e.memTarget (param p 16 8) = some (.tile f))
    (htier : (MemTarget.tile f).stagingTier = param p 24 1) :
    bodyMemPromote p e =
      if (e.map.data.tabOf f).isSome then
        (Reply.accepted, (e.setMap { e.map with hostPins := insertOnce f e.map.hostPins }).longDone e.longKey St.ok 0
          (result [(20, 8, param p 16 8), (28, 1, 0)]))
      else (Reply.accepted, (e.addJob ⟨e.longKey, .promote, 0, 0, 4096 + f, false⟩).setMap
        { e.map with promoting := insertOnce f e.map.promoting }) := by
  simp only [bodyMemPromote, ht]
  exact if_neg (by simp [htier])

theorem bodyMemPromote_obj {i : Nat} {o : MemObj} (ht : e.memTarget (param p 16 8) = some (.obj i o))
    (htier : (MemTarget.obj i o).stagingTier = param p 24 1)
    (hroom : ∀ x ∈ e.memt.objs, x.1 ≠ i → x.2.state ≠ .absent → overlap x.2.range o.range = false) :
    bodyMemPromote p e =
      (let x := (e.addJob ⟨e.longKey, .promote, 0, 0, i, false⟩).promoteRequest i
       let y := if o.state = .absent then x.1.poolTiles o o.tiles true (some e.longKey) else x.1
       (Reply.accepted, if x.2 then y.promoted i else y)) := by
  have hfree : ¬ (e.memt.objs.any (fun x => x.1 != i && x.2.state != .absent && overlap x.2.range o.range) = true) := by
    rw [List.any_eq_true]
    rintro ⟨x, hx, hany⟩
    simp only [Bool.and_eq_true, bne_iff_ne] at hany
    obtain ⟨⟨hne, hstate⟩, hover⟩ := hany
    simp [hroom x hx hne hstate] at hover
  have hcond : (o.state == .absent) = decide (o.state = .absent) := by cases o.state <;> rfl
  simp only [bodyMemPromote, ht]
  rw [if_neg (by simp [htier]), if_neg hfree]
  simp only [hcond, decide_eq_true_eq]

theorem bodyMemEvict_tile {f : Nat} (ht : e.memTarget (param p 16 8) = some (.tile f))
    (htier : (MemTarget.tile f).homeTier = param p 24 1) :
    bodyMemEvict p e = (Reply.accepted,
      (e.evictTile f).1.longDone e.longKey St.ok 0 (result [(20, 8, param p 16 8), (28, 1, b2n (e.evictTile f).2)])) := by
  simp only [bodyMemEvict, ht]
  exact if_neg (by simp [htier])

theorem bodyMemEvict_obj {i : Nat} {o : MemObj} (ht : e.memTarget (param p 16 8) = some (.obj i o))
    (htier : (MemTarget.obj i o).homeTier = param p 24 1) :
    bodyMemEvict p e =
      (let x := (e.addJob ⟨e.longKey, .evict, 0, 0, i, false⟩).dropPin i hostHolder
       (Reply.accepted, if x.2 then x.1.endJob e.longKey St.ok [(20, 8, param p 16 8), (28, 1, 1)] else x.1)) := by
  simp only [bodyMemEvict, ht]
  exact if_neg (by simp [htier])

/-! ### MEM_FLUSH -/

/-- Tile `j` of `o` has its home slot or its staging in the `n` bytes at `a`. -/
def State.flushHits (e : State) (a n : Nat) (o : MemObj) (j : Nat) : Bool :=
  overlap (span (o.slotAddr j) tileLen) (a, a + n) || overlap (span (o.tileAddr (e.stagedTile o j)) tileLen) (a, a + n)

/-- The objects, each with the dirty tiles that a flush of the `n` bytes at `a` writes back. -/
def State.flushDue (e : State) (a n : Nat) : List (Nat × MemObj × List Nat) :=
  e.memt.objs.map (fun x => (x.1, x.2, x.2.dirty.filter (e.flushHits a n x.2)))

theorem bodyMemFlush_of_range (hlen : memLenBad (param p 32 4) [param p 16 8] = false)
    (hrow : (addrRow (param p 16 8) (param p 32 4)).isSome = true) :
    bodyMemFlush p e =
      (let due := e.flushDue (param p 16 8) (param p 32 4); let count := (due.map (fun x => x.2.2.length)).sum
       if count = 0 then (Reply.accepted, e.longDone e.longKey St.ok 0 (result [(20, 4, 0)]))
       else (Reply.accepted, (e.addJob ⟨e.longKey, .flush, count, 0, 0, false⟩).each due
         (fun st x => st.queueBacks x.1 x.2.1 x.2.2 (.flush e.longKey)))) := by
  rw [bodyMemFlush, if_neg (by simp [hlen]), if_neg (by simp [Option.isNone_eq_false_iff.2 hrow])]
  rfl

end

/-- Settles O20, one command after the other: each is its opcode's meaning in the entry state, replied. -/
theorem memoryCommandsComplete : Obligations.MemoryCommandsComplete := by
  refine ⟨fun p s ha hlen hrow => ?read, fun p s ha hlen hrow hslots hdest => ⟨_, rfl, fun hdev => ?write, fun hfl => ?writeFlash⟩,
    fun p s ha hlen hfrom hto hslots hover hdest => ⟨_, rfl, fun hdev => ?copy, fun hfl => ?copyFlash⟩, fun p s ha hw => ?window,
    fun p s f ha ht htier => ⟨_, rfl, fun hin => ?held, fun hout => ?load⟩, fun p s i o ha ht htier hroom => ?promote,
    fun p s f ha ht htier => ?evictTile, fun p s i o ha ht htier => ?evict,
    fun p s ha hlen hrow => ⟨_, rfl, fun hnone => ?clean, fun hsome => ?flush⟩⟩
  case read => exact ⟨_, rfl, command_replied ha rfl (bodyMemRead_of_range hlen hrow) rfl rfl (fun _ => rfl)⟩
  case write =>
    have hb := bodyMemWrite_of_range hlen hrow hslots hdest
    rw [State.deliver_device (State.length_hostLd ..) hdev] at hb
    exact command_replied ha rfl hb rfl rfl (fun _ => rfl)
  case writeFlash =>
    have hb := bodyMemWrite_of_range hlen hrow hslots hdest
    rw [State.deliver_flash (State.length_hostLd ..) hfl] at hb
    exact command_replied ha rfl hb rfl rfl (fun _ => rfl)
  case copy =>
    have hb := bodyMemCopy_of_range hlen hfrom hto hslots hover hdest
    rw [State.deliver_device (State.length_see ..) hdev] at hb
    exact command_replied ha rfl hb rfl rfl (fun _ => rfl)
  case copyFlash =>
    have hb := bodyMemCopy_of_range hlen hfrom hto hslots hover hdest
    rw [State.deliver_flash (State.length_see ..) hfl] at hb
    exact command_replied ha rfl hb rfl rfl (fun _ => rfl)
  case window => exact ⟨_, rfl, command_replied ha rfl (bodySramWindow_of_part hw) rfl rfl nofun⟩
  case held => exact command_replied ha rfl ((bodyMemPromote_tile ht htier).trans (if_pos hin)) rfl rfl (fun _ => rfl)
  case load =>
    exact command_replied ha rfl ((bodyMemPromote_tile ht htier).trans (if_neg (by simp [hout]))) rfl rfl (fun _ => rfl)
  case promote => exact ⟨_, rfl, command_replied ha rfl (bodyMemPromote_obj ht htier hroom) rfl rfl (fun _ => rfl)⟩
  case evictTile => exact ⟨_, rfl, command_replied ha rfl (bodyMemEvict_tile ht htier) rfl rfl (fun _ => rfl)⟩
  case evict => exact ⟨_, rfl, command_replied ha rfl (bodyMemEvict_obj ht htier) rfl rfl (fun _ => rfl)⟩
  case clean => exact command_replied ha rfl ((bodyMemFlush_of_range hlen hrow).trans (if_pos hnone)) rfl rfl (fun _ => rfl)
  case flush => exact command_replied ha rfl ((bodyMemFlush_of_range hlen hrow).trans (if_neg hsome)) rfl rfl (fun _ => rfl)

end Sys2Proof.Machine
end

section
/-! PROOF. The cores of the GCR (R313 to R320): what a core that may issue does, and its random sequence. -/

namespace Sys2Proof.Machine

variable {s x : State} {n pc : Nat} {r : Run} {h : List Byte}

/-! ### Issue -/

/-- An instruction of a core that may issue has its effect, the program counter shown. -/
theorem State.coreIssue_of_issues (hc : CoreIssues s n pc r h x) (f : Run → List Byte → State → State) : s.coreIssue n pc f = f r h x := by
  obtain ⟨⟨i, hi⟩, hh, hw, hstate, hwait, hwall, hpc, hx⟩ := hc
  have may : ¬ (r.waiting = true ∨ ((s.coreOf n).state ≠ 1 ∧ (s.coreOf n).state ≠ 2) ∨ (s.coreOf n).wait.isSome = true ∨
      (s.coreOf n).walled ≠ 0 ∨ ((s.coreOf n).state = 2 ∧ Sd.tidy (s.runDesc r) ≤ (s.coreOf n).tidy)) := by
    rw [hw, hwait, hwall]
    rcases hstate with h1 | ⟨h2, ht⟩
    · simp [h1]
    · simp [h2, ht]
  subst hh hx
  simp only [State.coreIssue, hi]
  rw [if_neg may, if_neg (by simp [hpc])]

/-- An intrinsic of one cycle charges it and has its effect. -/
theorem gcrPlain_of_issues (hc : CoreIssues s n pc r h x) (f : Run → State → State) :
    gcrPlain n pc f s = f r (x.coreCharge n r 1 0) := State.coreIssue_of_issues hc _

/-! ### The random sequence (R318) -/

/-- What a stage's start makes of one core: its position and number, in `pn`. -/
def State.coreBegin (s : State) (r : Run) (h : List Byte) (pn : Nat × Nat) : State :=
  let n := pn.2
  let was := s.coreOf n
  let x : GcrCore := { GcrCore.reset with
    slot := r.slot, stage := r.index, position := pn.1, x := was.x, v := was.v, beats := was.beats,
    seq := (r.cadence * 65536 + 256 * pn.1 + s.runLayer r % 256) % 2 ^ 64 }
  let s1 : State := { s with mem := s.mem.clear (coreBase n + Gp.scratchAddr h) (Gp.scratchLen h) }
  let s2 := (s1.setCore n x).coreState n 1
  let s3 := (s2.setFld (Reg.GCR_CORE_STATUS n) 16 4 r.slot).setRegN (Reg.GCR_CORE_CUR n) (s.runLayer r + 65536 * s.runOperator r)
  (s3.setRegN (Reg.GCR_CORE_CHARGED n) 0).bankOpen 10 n (s.runLayer r) (s.runOperator r) 1 r.slot

theorem State.gcrStart_eq (s : State) (r : Run) :
    s.gcrStart r = s.each ((List.range (maskBits (Sd.unitMask (s.runDesc r))).length).zip (maskBits (Sd.unitMask (s.runDesc r))))
      (fun st pn => st.coreBegin r (Gp.header (s.img r.slot) (s.runDesc r)) pn) := rfl

@[simp] theorem State.pairBit_gcr (s : State) (lo hi n : Nat) (b : Bool) : (s.pairBit lo hi n b).gcr = s.gcr := by
  unfold State.pairBit
  split <;> rfl

@[simp] theorem State.pairBit_ccu (s : State) (lo hi n : Nat) (b : Bool) : (s.pairBit lo hi n b).ccu = s.ccu := by
  unfold State.pairBit
  split <;> rfl

theorem State.coreState_gcr (s : State) (n v : Nat) : (s.coreState n v).gcr = (s.updCore n (fun x => { x with state := v })).gcr :=
  State.pairBit_gcr ..

theorem State.coreBegin_ccu (s : State) (r : Run) (h : List Byte) (pn : Nat × Nat) : (s.coreBegin r h pn).ccu = s.ccu :=
  State.pairBit_ccu ..

@[simp] theorem State.coreOf_setCore_same (s : State) (n : Nat) (c : GcrCore) : (s.setCore n c).coreOf n = c := SMap.get_set_same ..

theorem State.coreOf_setCore_ne (s : State) {n m : Nat} (c : GcrCore) (h : n ≠ m) : (s.setCore n c).coreOf m = s.coreOf m :=
  SMap.get_set_ne _ _ _ _ _ h

/-- Two states that keep the same cores show the same one. -/
theorem State.coreOf_congr {s t : State} (h : s.gcr = t.gcr) (n : Nat) : s.coreOf n = t.coreOf n := by
  rw [State.coreOf, h]
  rfl

theorem State.seq_coreBegin_same (s : State) (r : Run) (h : List Byte) (k n : Nat) :
    ((s.coreBegin r h (k, n)).coreOf n).seq = (r.cadence * 65536 + 256 * k + s.runLayer r % 256) % 2 ^ 64 := by
  have e := State.coreOf_congr (State.coreState_gcr
    ((({ s with mem := s.mem.clear (coreBase n + Gp.scratchAddr h) (Gp.scratchLen h) } : State)).setCore n { GcrCore.reset with
      slot := r.slot, stage := r.index, position := k, x := (s.coreOf n).x, v := (s.coreOf n).v, beats := (s.coreOf n).beats,
      seq := (r.cadence * 65536 + 256 * k + s.runLayer r % 256) % 2 ^ 64 }) n 1) n
  refine (congrArg GcrCore.seq e).trans ?_
  rw [State.updCore, State.coreOf_setCore_same, State.coreOf_setCore_same]

theorem State.coreOf_coreBegin_ne (s : State) (r : Run) (h : List Byte) {k n m : Nat} (hne : n ≠ m) :
    (s.coreBegin r h (k, n)).coreOf m = s.coreOf m := by
  have e := State.coreOf_congr (State.coreState_gcr
    ((({ s with mem := s.mem.clear (coreBase n + Gp.scratchAddr h) (Gp.scratchLen h) } : State)).setCore n { GcrCore.reset with
      slot := r.slot, stage := r.index, position := k, x := (s.coreOf n).x, v := (s.coreOf n).v, beats := (s.coreOf n).beats,
      seq := (r.cadence * 65536 + 256 * k + s.runLayer r % 256) % 2 ^ 64 }) n 1) m
  refine e.trans ?_
  rw [State.updCore, State.coreOf_setCore_ne _ _ hne, State.coreOf_setCore_ne _ _ hne]
  rfl

theorem State.coreOf_each_coreBegin_ne {l : List (Nat × Nat)} {m : Nat} (hm : m ∉ l.map Prod.snd) (s : State) (r : Run) (h : List Byte) :
    (s.each l (fun st pn => st.coreBegin r h pn)).coreOf m = s.coreOf m := by
  induction l generalizing s with
  | nil => rfl
  | cons p l ih =>
    rw [List.map_cons, List.mem_cons, not_or] at hm
    exact (ih hm.2 _).trans (State.coreOf_coreBegin_ne s r h (Ne.symm hm.1))

/-- Each core of distinct ones, begun with its position, has the sequence state of that position. -/
theorem State.seq_each_coreBegin {l : List (Nat × Nat)} (hl : (l.map Prod.snd).Nodup) {k n : Nat} (hk : (k, n) ∈ l) (s : State) (r : Run)
    (h : List Byte) :
    ((s.each l (fun st pn => st.coreBegin r h pn)).coreOf n).seq = (r.cadence * 65536 + 256 * k + s.runLayer r % 256) % 2 ^ 64 := by
  induction l generalizing s with
  | nil => cases hk
  | cons p l ih =>
    rw [List.map_cons, List.nodup_cons] at hl
    have layer : (s.coreBegin r h p).runLayer r = s.runLayer r := by
      unfold State.runLayer State.sd State.img State.slot
      rw [State.coreBegin_ccu]
    show (((s.coreBegin r h p).each l _).coreOf n).seq = _
    rcases List.mem_cons.1 hk with rfl | hmem
    · rw [State.coreOf_each_coreBegin_ne hl.1, State.seq_coreBegin_same]
    · rw [ih hl.2 hmem, layer]

theorem nodup_maskBits (m : Nat) : (maskBits m).Nodup := List.nodup_range.filter _

/-- A charge leaves a core's sequence. -/
theorem State.seq_coreCharge (s : State) (n : Nat) (r : Run) (want tok : Nat) :
    ((s.coreCharge n r want tok).coreOf n).seq = (s.coreOf n).seq := by
  unfold State.coreCharge
  extract_lets cyc s1 s2 c
  have same : (s2.coreOf n).seq = (s.coreOf n).seq := rfl
  split
  · rw [State.coreOf_setCore_same]
    exact same
  · split
    · split
      · rw [State.coreOf_setCore_same]
        exact same
      · exact same
    · exact same

/-- Settles O13: the start gives each core its own seed, and a draw advances the sequence of its core alone. -/
theorem randSequence : Obligations.RandSequence := by
  refine ⟨fun s r n k hk => ?_, fun s n pc rd r h x ha hc => ?_⟩
  · obtain ⟨hlt, hget⟩ := List.getElem?_eq_some_iff.1 hk
    rw [State.gcrStart_eq]
    refine State.seq_each_coreBegin ?_ ?_ s r _
    · rw [List.map_snd_zip (by simp)]
      exact nodup_maskBits _
    · refine List.mem_iff_getElem.2 ⟨k, by simpa using hlt, ?_⟩
      rw [List.getElem_zip, List.getElem_range, hget]
  · have hseq : ((x.coreCharge n r 1 0).coreOf n).seq = (s.coreOf n).seq := by
      rw [State.seq_coreCharge]
      obtain ⟨-, -, -, -, -, -, -, rfl⟩ := hc
      rfl
    refine ⟨_, exec_of_act ha rfl (gcrPlain_of_issues hc _), ?_, ?_⟩
    · rw [State.coreAnswer, State.updCore, State.coreOf_setCore_same, State.updCore, State.coreOf_setCore_same, hseq]
      rfl
    · rw [State.coreAnswer, State.updCore, State.coreOf_setCore_same]
      refine (SMap.get_set_same ..).trans ?_
      rw [hseq]
      exact Nat.mod_eq_of_lt (Nat.lt_of_le_of_lt (Nat.div_le_self ..) (Nat.mod_lt _ (by decide)))

end Sys2Proof.Machine
end

section
/-! PROOF. GCR intrinsics without a wait (R315 to R317, R320): what each does on a core that may issue. -/

namespace Sys2Proof.Machine

variable {s x : State} {n pc : Nat} {r : Run} {h : List Byte}

/-! ### Beats (R315) -/

theorem gcrMove_of_regions (get : Bool) (hc : CoreIssues s n pc r h x) {ofs addr len : Nat} (hofs : ofs % 64 = 0) (haddr : addr % 64 = 0)
    (hlen : len % 64 = 0) (hrow : (addrRow addr len).isSome = true) (hin : inRegions h ofs len = true) :
    gcrMove get n pc ofs addr len s = gcrBeats get n r (List.range (len / 64)) ofs addr x := by
  rw [gcrMove, State.coreIssue_of_issues hc, if_neg (by simp [hofs, haddr, hlen, hin, Option.isNone_eq_false_iff.2 hrow])]

/-- The state without beat `k` of core `n`, which has come in or gone out. -/
def State.dropBeat (s : State) (n k : Nat) : State := s.setCore n { s.coreOf n with beats := (s.coreOf n).beats.eraseIdx k }

theorem gcrBeatDone_get {k : Nat} {b : GcrBeat} (hb : (s.coreOf n).beats[k]? = some b) (hget : b.get = true) :
    gcrBeatDone n k s =
      (let g := (s.dropBeat n k).see b.addr 64
       { g.2 with mem := g.2.mem.writeBytes (coreBase n + b.ofs) g.1 }) := by
  simp only [gcrBeatDone, hb, hget]
  rfl

theorem gcrBeatDone_put {k : Nat} {b : GcrBeat} (hb : (s.coreOf n).beats[k]? = some b) (hput : b.get = false) :
    gcrBeatDone n k s =
      (let bytes := (s.dropBeat n k).ldB (coreBase n + b.ofs) 64
       let y := (s.dropBeat n k).writing 8 b.cadence (fun t => t.stB b.addr bytes)
       if leAt bytes 0 4 = 0xC1E97F01 then y.capture b.addr (leAt bytes 20 2) (leAt bytes 22 2) (leAt bytes 24 8) else y) := by
  simp only [gcrBeatDone, hb, hput]
  rfl

/-! ### Intrinsics (R317) -/

theorem gcrFlagSet_of_unready (hc : CoreIssues s n pc r h x) {o i : Nat} (hi : r.outFlags[o]? = some i)
    (hf : (x.coreCharge n r 1 0).flagOf r.slot i ≠ .ready) :
    gcrFlagSet n pc o s = (x.coreCharge n r 1 0).runFlag r o Flag.ready := by
  rw [gcrFlagSet, State.coreIssue_of_issues hc, hi]
  exact if_neg hf

theorem gcrEndStage_of_issues (hc : CoreIssues s n pc r h x) :
    gcrEndStage n pc s = (x.coreCharge n r 1 0).coreOver n ((x.coreOf n).state == 2) := State.coreIssue_of_issues hc _

theorem gcrBound_of_running {i : Inst} (hi : s.coreInst n = some (r, i)) (hw : r.waiting = false)
    (hstate : (s.coreOf n).state = 1 ∨ (s.coreOf n).state = 2) (hwait : (s.coreOf n).wait = none)
    (hpc : inRange (Gp.codeAddr (Gp.header (s.img r.slot) (s.runDesc r))) (Gp.codeLen (Gp.header (s.img r.slot) (s.runDesc r))) pc = true) :
    gcrBound n pc s = (((s.setRegN (Reg.GCR_CORE_PC n) pc).updCore n (fun c => { c with bound := true })).setBit
      (Reg.GCR_CORE_STATUS n) 2).count 10 (gcrCnt n 1) := by
  have may : ¬ (((s.coreOf n).state ≠ 1 ∧ (s.coreOf n).state ≠ 2)) := by omega
  simp only [gcrBound, hi]
  rw [if_neg (by simp [hw, hwait, hpc, -ne_eq, may])]

/-- Settles O48, one intrinsic after the other: each has its effect in the state that its charge leaves. -/
theorem coreIntrinsicsComplete : Obligations.CoreIntrinsicsComplete := by
  refine ⟨fun s n pc ofs addr len r h x ha hc hofs haddr hlen hrow hin => ⟨?get, ?put⟩, fun s n k b ha hb hget => ?beatIn,
    fun s n k b ha hb hput => ?beatOut, fun s n pc o i r h x ha hc hi hf => ?flag, fun s n pc k r h x ha hc => ?items,
    fun s n pc rd r h x ha hc => ?rand, fun s n pc rd r h x ha hc => ?info, fun s n pc r h x ha hc => ?finish,
    fun s n pc r i ha hi hw hstate hwait hpc => ?bound⟩
  case get => exact exec_of_act ha rfl (gcrMove_of_regions true hc hofs haddr hlen hrow hin)
  case put => exact exec_of_act ha rfl (gcrMove_of_regions false hc hofs haddr hlen hrow hin)
  case beatIn => exact exec_of_act ha rfl (gcrBeatDone_get hb hget)
  case beatOut => exact exec_of_act ha rfl (gcrBeatDone_put hb hput)
  case flag => exact exec_of_act ha rfl (congrArg State.mapSync (gcrFlagSet_of_unready hc hi hf))
  case items => exact exec_of_act ha rfl (gcrPlain_of_issues hc _)
  case rand => exact exec_of_act ha rfl (gcrPlain_of_issues hc _)
  case info => exact exec_of_act ha rfl (gcrPlain_of_issues hc _)
  case finish => exact exec_of_act ha rfl (gcrEndStage_of_issues hc)
  case bound => exact exec_of_act ha rfl (gcrBound_of_running hi hw hstate hwait hpc)

end Sys2Proof.Machine
end

section
/-! PROOF. GCR waits, posts, instructions and walls (R313 to R316, R319, R320). -/

namespace Sys2Proof.Machine

variable {s x : State} {n pc : Nat} {r : Run} {h : List Byte}

/-! ### Waits (R317) -/

/-- Core `n` waits for `w` from this cycle on. -/
def State.coreWaits (s : State) (n : Nat) (w : GcrWait) : State :=
  s.updCore n (fun c => { c with wait := some w, waitFrom := s.core, syncs := c.syncs + b2n (w == GcrWait.sync) })

theorem gcrWaitRow_of_issues {w : GcrWait} {same : GcrWait → Bool} {ok : State → Run → Bool} (hwait : (s.coreOf n).wait = none)
    (hc : CoreIssues s.bsuSync n pc r h x) (hok : ok x r = true) :
    gcrWaitRow n pc w same ok s = gcrRetire n ((x.coreCharge n r 1 0).coreWaits n w) := by
  simp only [gcrWaitRow, hwait]
  rw [State.coreIssue_of_issues hc, if_neg (by simp [hok])]
  rfl

/-! ### Submissions (R240) -/

/-- The submission of a core to a channel. -/
def State.submission (s : State) (ch addr len tag : Nat) : BsuDesc := ⟨addr, len, tag, none, s.bsuSync.bsuForce ch⟩

theorem gcrSubmit_of_room {ch addr len tag : Nat} (hwait : (s.bsuSync.coreOf n).wait = none) (hc : CoreIssues s.bsuSync n pc r h x)
    (hmay : x.mayPost n 1 ch r = true) (hroom : ((x.coreCharge n r 1 0).bsuPost ch (s.submission ch addr len tag)).2 = true) :
    gcrSubmit n pc ch addr len tag s =
      ((x.coreCharge n r 1 0).bsuPost ch (s.submission ch addr len tag)).1.digest 8 r.cadence
        (2 ^ 56 * ch + ((x.coreCharge n r 1 0).bsuCh ch).queue.length) (leBytes 8 addr ++ leBytes 4 len ++ leBytes 4 tag) := by
  rw [State.submission] at hroom ⊢
  simp only [gcrSubmit, hwait]
  rw [State.coreIssue_of_issues hc, if_neg (by simp [hmay]), if_pos hroom, if_pos hroom]

theorem gcrSubmit_of_full {ch addr len tag : Nat} (hwait : (s.bsuSync.coreOf n).wait = none) (hc : CoreIssues s.bsuSync n pc r h x)
    (hmay : x.mayPost n 1 ch r = true) (hfull : ((x.coreCharge n r 1 0).bsuPost ch (s.submission ch addr len tag)).2 = false) :
    gcrSubmit n pc ch addr len tag s =
      (x.coreCharge n r 1 0).updCore n (fun c => { c with wait := some .submit, waitFrom := (x.coreCharge n r 1 0).core }) := by
  rw [State.submission] at hfull
  simp only [gcrSubmit, hwait]
  rw [State.coreIssue_of_issues hc, if_neg (by simp [hmay]), if_neg (by simp [hfull])]

/-! ### Posts (R316) -/

section
variable {target index len ofs rd cyc pos : Nat} {f : List Byte → State → State × Bool}

theorem gcrPost_of_issues (hc : CoreIssues s n pc r h x) (hmay : x.mayPost n target index r = true) (hin : inRegions h ofs len = true) :
    gcrPost n pc target index len ofs rd cyc pos f s =
      (let b := x.ldB (coreBase n + ofs) len
       let p := f b (x.coreCharge n r cyc 0)
       if p.2 then (p.1.digest 8 r.cadence (2 ^ 56 * index + pos) b).coreAnswer n rd 1 else (p.1.postLost n).coreAnswer n rd 0) := by
  rw [gcrPost, State.coreIssue_of_issues hc, if_neg (by simp [hmay]), if_neg (by simp [hin])]

end

/-! ### Ordinary instructions (R313, R320) -/

/-- What an ordinary instruction leaves, its cycle charged in `y`. -/
def coreExecuted (y : State) (n : Nat) (i : CoreStep) : State :=
  let c := y.coreOf n
  let z := y.each i.stores (fun t w => { t with mem := t.mem.writeBytes (coreBase n + w.1) w.2 })
  let out := coreResult i.kind c
  let depth := if i.kind = .call then c.depth + 1 else if i.kind = .ret then c.depth - 1 else c.depth
  let xs := (i.scalar ++ out.1).foldl (fun (m : SMap Nat) w => SMap.set m w.1 (w.2 % 2 ^ 64)) c.x
  let vs := (i.vector ++ out.2.1).foldl (fun (m : SMap Nat) w => SMap.set m w.1 (w.2 % 2 ^ 1024)) c.v
  let t := z.setCore n { c with depth := depth, x := xs, v := vs }
  if out.2.2 then t.setBit (Reg.GCR_CORE_STATUS n) 3 else t

theorem gcrInstr_of_defined {i : CoreStep} (hc : CoreIssues s n i.pc r h x) (hdef : i.kind ≠ .undefined)
    (hdepth : i.kind = .call → (x.coreOf n).depth < 16) (hld : ∀ l ∈ i.loads, inRegions h l.1 l.2 = true)
    (hst : ∀ l ∈ i.stores, inRegions h l.1 l.2.length = true) :
    gcrInstr n i s = coreExecuted (if i.newCycle then x.coreCharge n r 1 0 else x) n i := by
  have inside : ¬ ((i.loads.any (fun l => !inRegions h l.1 l.2) || i.stores.any (fun l => !inRegions h l.1 l.2.length)) = true) := by
    simp only [Bool.or_eq_true, List.any_eq_true, Bool.not_eq_true', not_or, not_exists, not_and, Bool.not_eq_false]
    exact ⟨hld, hst⟩
  rw [gcrInstr, State.coreIssue_of_issues hc, if_neg hdef, if_neg (fun hk => absurd (hdepth hk.1) (Nat.not_lt.2 hk.2)), if_neg inside]
  simp only [coreExecuted, List.foldl_append]
  generalize i.kind = k
  cases k with
  | call | ret | plain | e36 | fp | lanes | reduce | undefined => rfl

theorem gcrInstr_undefined {i : CoreStep} (hc : CoreIssues s n i.pc r h x) (hk : i.kind = .undefined) :
    gcrInstr n i s = x.coreFault n 6 := by
  rw [gcrInstr, State.coreIssue_of_issues hc, if_pos hk]

theorem gcrInstr_tooDeep {i : CoreStep} (hc : CoreIssues s n i.pc r h x) (hk : i.kind = .call) (hd : 16 ≤ (x.coreOf n).depth) :
    gcrInstr n i s = x.coreFault n 3 := by
  rw [gcrInstr, State.coreIssue_of_issues hc, if_neg (by simp [hk]), if_pos ⟨hk, hd⟩]

/-! ### Walls (R52, R319) -/

theorem gcrTrap_of_walled (hstate : (s.coreOf n).state = 1) (hwall : (s.coreOf n).walled ≠ 0) (hwait : (s.coreOf n).wait = none) :
    gcrTrap n s =
      (let c := s.coreOf n
       ((((s.coreState n 2).pairBit Reg.GCR_TRAP_LO Reg.GCR_TRAP_HI n true).count 10 (gcrCnt n 0)).updRun c.slot c.stage
         (fun r => { r with insts := r.insts.map (fun i =>
           if i.unit = n then { i with limit := i.limit ||| c.walled, cut := true } else i) })).updCore n
         (fun y => { y with walled := 0, depth := 0 })) := by
  rw [gcrTrap, if_neg (by simp [hstate, hwall, hwait])]

theorem gcrTidyEnd_of_spent {i : Inst} (hi : s.coreInst n = some (r, i)) (hstate : (s.coreOf n).state = 2)
    (hwait : (s.coreOf n).wait = none) (ht : Sd.tidy (s.runDesc r) ≤ (s.coreOf n).tidy) : gcrTidyEnd n s = s.coreFault n 1 := by
  simp only [gcrTidyEnd, hi]
  exact if_pos ⟨hstate, by rw [hwait]; rfl, ht⟩

/-! ### O49 -/

/-- Settles O49, one row after the other: a wait begins, a post goes in or is lost, an instruction executes or faults, a wall traps. -/
theorem coreWaitsAndWallsComplete : Obligations.CoreWaitsAndWallsComplete := by
  refine ⟨fun s n pc i rd w row r h x hrow ha hwait hc hok => ?waits,
    fun s n pc ch addr len tag r h x ha hwait hc hmay => ⟨fun hp => ?room, fun hp => ?full⟩,
    fun s n pc q ofs rd r h x ha hc hmay hin => ?mapPost, fun s n pc q ofs rd r h x ha hc hmay hin => ?statePost,
    fun s n pc ofs rd r h x ha hc hmay hin => ?correct, fun s n i r h x ha hc hdef hdepth hld hst => ?executed,
    fun s n i r h x ha hc => ⟨fun hk => ?undefined, fun hk hd => ?tooDeep⟩, fun s n ha hstate hwall hwait => ?trap,
    fun s n r i ha hi hstate hwait ht => ?tidy⟩
  case waits =>
    simp only [List.mem_cons, Prod.mk.injEq, List.not_mem_nil, or_false] at hrow
    obtain ⟨rfl, rfl⟩ | ⟨rfl, rfl⟩ | ⟨rfl, rfl⟩ := hrow
    · exact exec_of_act ha rfl (gcrWaitRow_of_issues hwait hc rfl)
    · exact exec_of_act ha rfl (gcrWaitRow_of_issues hwait hc (decide_eq_true (hok rfl)))
    · exact exec_of_act ha rfl (gcrWaitRow_of_issues hwait hc rfl)
  case room => exact exec_of_act ha rfl (gcrSubmit_of_room hwait hc hmay hp)
  case full => exact exec_of_act ha rfl (gcrSubmit_of_full hwait hc hmay hp)
  case mapPost =>
    have e := gcrPost_of_issues (rd := rd) (cyc := 1) (pos := SMap.get 0 s.map.received q) (f := fun b t => t.mapPost q b) hc hmay hin
    exact ⟨fun hp => exec_of_act ha rfl (e.trans (if_pos hp)), fun hp => exec_of_act ha rfl (e.trans (if_neg (by simp [hp])))⟩
  case statePost =>
    have e := gcrPost_of_issues (rd := rd) (cyc := 1) (pos := (SMap.get [] s.fus.queues q).length) (f := fun b t => t.fusPost q b) hc
      hmay hin
    exact ⟨fun hp => exec_of_act ha rfl (e.trans (if_pos hp)), fun hp => exec_of_act ha rfl (e.trans (if_neg (by simp [hp])))⟩
  case correct =>
    have e := gcrPost_of_issues (rd := rd) (cyc := 2) (pos := s.fpp.queue.length) (f := fun b t => t.postCorrection b) hc hmay hin
    rw [Nat.mul_zero, Nat.zero_add] at e
    exact ⟨fun hp => exec_of_act ha rfl (e.trans (if_pos hp)), fun hp => exec_of_act ha rfl (e.trans (if_neg (by simp [hp])))⟩
  case executed => exact exec_of_act ha rfl (gcrInstr_of_defined hc hdef hdepth hld hst)
  case undefined => exact exec_of_act ha rfl (gcrInstr_undefined hc hk)
  case tooDeep => exact exec_of_act ha rfl (gcrInstr_tooDeep hc hk hd)
  case trap => exact exec_of_act ha rfl (gcrTrap_of_walled hstate hwall hwait)
  case tidy => exact exec_of_act ha rfl (gcrTidyEnd_of_spent hi hstate hwait ht)

end Sys2Proof.Machine
end

section
/-! PROOF. Global operations (R374): an unarmed one, a snapshot, and the boundary that any other opens. -/

namespace Sys2Proof.Machine

variable {s : State} {o : PelOp}

/-- The state in which the armed operation `o` acts: it has left the armed list at its instant, and is traced. -/
def State.opBegins (s : State) (o : PelOp) : State :=
  let w := (s.runToTime o.instant).opDue o
  w.emit none 0x05 o.op 0 (leBytes 8 o.instant) (some w.ctlEngines)

/-- The boundary that operation `o`, no snapshot, opens at its instant. -/
def State.opRealigns (y : State) (o : PelOp) : State :=
  ((y.setPair Reg.CCU_CADENCE_ANCHOR_LO Reg.CCU_CADENCE_ANCHOR_HI o.instant).openBoundary ⟨o.instant, false, none⟩ (o.op == 2)
    (if o.op = 3 then some (o.disable, o.enable) else none)).opDone o

/-- The runs whose cadence the operation cuts short are aborted. -/
def State.opShortens (x : State) : State :=
  x.each (x.ccu.runs.filter (fun r => decide (r.cadence + max 1 (Img.stride (x.img r.slot)) ≤ x.ccu.cadence + 1)))
    (fun st r => st.abortRun r)

/-- The operation's instant is that of the boundary due next, on the grid as it stands. -/
def State.opRegular (x : State) (o : PelOp) : Bool :=
  match x.opening with
  | some p => p.instant == o.instant && !p.realigned
  | none => false

theorem State.opRegular_of_boundary {x : State} (h : ∃ p, x.opening = some p ∧ p.instant = o.instant ∧ p.realigned = false) :
    x.opRegular o = true := by
  obtain ⟨p, hp, hi, hr⟩ := h
  simp [State.opRegular, hp, hi, hr]

theorem State.not_opRegular {x : State} (h : ∀ p, x.opening = some p → p.instant ≠ o.instant ∨ p.realigned = true) :
    x.opRegular o = false := by
  unfold State.opRegular
  split
  next p hp => rcases h p hp with hi | hr <;> simp [*]
  next => rfl

theorem globalOperation_of_next (h : s.nextOp = some o) :
    globalOperation s =
      if !o.armed then (s.runToTime o.instant).opDue o
      else if o.op = 1 then (s.opBegins o).snapshot.opDone o
      else if (s.opBegins o).ccu.lastInstant.isNone then (s.opBegins o).opDone o
      else (if (s.opBegins o).opRegular o then s.opBegins o else (s.opBegins o).opShortens).opRealigns o := by
  simp only [globalOperation, h]
  rfl

/-- Settles O28, by what the operation is and how its instant stands to the grid. -/
theorem globalOperationComplete : Obligations.GlobalOperationComplete := by
  refine ⟨fun s o ha hn hun => ?unarmed,
    fun s o ha hn harm => ⟨fun h1 => ?snapshot, fun h1 hl => ?first, fun h1 hl hg => ?regular, fun h1 hl hg => ?short⟩⟩
  case unarmed =>
    exact exec_of_act ha rfl ((globalOperation_of_next hn).trans (if_pos (by simp [hun])))
  all_goals
    refine exec_of_act ha rfl ((globalOperation_of_next hn).trans ((if_neg (by simp [harm])).trans ?_))
  case snapshot => exact if_pos h1
  case first =>
    exact (if_neg h1).trans (if_pos (Option.isNone_iff_eq_none.2 hl))
  case regular =>
    refine (if_neg h1).trans ((if_neg (fun hn => hl (Option.isNone_iff_eq_none.1 hn))).trans ?_)
    exact congrArg (fun y => State.opRealigns y o) (if_pos (State.opRegular_of_boundary hg))
  case short =>
    refine (if_neg h1).trans ((if_neg (fun hn => hl (Option.isNone_iff_eq_none.1 hn))).trans ?_)
    exact congrArg (fun y => State.opRealigns y o) (if_neg (Bool.eq_false_iff.1 (State.not_opRegular hg)))

end Sys2Proof.Machine
end

section
/-! PROOF. The Phantom map's pipes and its epochs (R263, R265 to R283): what each row does where its condition holds. -/

namespace Sys2Proof.Machine

variable {s : State}

/-! ### Operations -/

/-- The rows of the map's operations, by their codes, all act alike. -/
theorem exec_mapRow {op pipe : Nat} {row : Instr}
    (h : (op, row) ∈ [(1, Instr.insert pipe), (2, .update pipe), (3, .miss pipe), (4, .retire pipe), (5, .kfInsert pipe),
      (6, .kfUpdate pipe), (7, .loop pipe), (8, .kfRetire pipe), (9, .activate pipe), (10, .read pipe), (11, .search pipe),
      (12, .select pipe), (13, .graph pipe)]) (s : State) : exec row s = .next (s.act (mapRow op pipe)) := by
  simp only [List.mem_cons, Prod.mk.injEq, List.not_mem_nil, or_false] at h
  obtain ⟨rfl, rfl⟩ | ⟨rfl, rfl⟩ | ⟨rfl, rfl⟩ | ⟨rfl, rfl⟩ | ⟨rfl, rfl⟩ | ⟨rfl, rfl⟩ | ⟨rfl, rfl⟩ | ⟨rfl, rfl⟩ | ⟨rfl, rfl⟩ |
    ⟨rfl, rfl⟩ | ⟨rfl, rfl⟩ | ⟨rfl, rfl⟩ | ⟨rfl, rfl⟩ := h
  all_goals rfl

/-- The next record of a pipe's queue, of the row's operation, within its limits and judged with `code`. -/
theorem mapRow_of_record {op pipe code : Nat} {r0 r : Run} {e : MapEnt} {rec : List Byte} {i : Inst}
    (hr0 : s.runOn 4 pipe = some r0) (hr : (s.mapClose r0.slot r0.index 10).runOf r0.slot r0.index = some r)
    (hn : (s.mapClose r0.slot r0.index 10).mapNext r = some (e, rec)) (hi : r.insts.find? (fun k => k.unit == pipe) = some i)
    (hop : leAt rec 0 1 = op) (hend : i.ended = false) (hw : r.waiting = false)
    (hl : limitBits ((s.mapClose r0.slot r0.index 10).runDesc r) i (mapCost (s.mapClose r0.slot r0.index 10) rec).1
      (mapCost (s.mapClose r0.slot r0.index 10) rec).2 = 0)
    (hc : (s.mapClose r0.slot r0.index 10).mapCheck (s.mapClose r0.slot r0.index 10).mapView r
      ((s.mapClose r0.slot r0.index 10).mapStage r) rec = some code)
    (hsel : op = 12 → code = 0 → (s.mapClose r0.slot r0.index 10).selectReady r rec = true) :
    mapRow op pipe s =
      (let x := s.mapClose r0.slot r0.index 10
       let y := x.chargeTo r pipe (mapCost x rec).1 (mapCost x rec).2
       ((if code = 0 then y.mapDo x.mapView r (x.mapStage r).entry e (x.mapStage r).codes.length rec else y).mapRan r e code
         (mapCost x rec).1).mapClose r.slot r.index 10) := by
  have ready : ¬ (op = 12 ∧ code = 0 ∧ (!(s.mapClose r0.slot r0.index 10).selectReady r rec) = true) := by
    rintro ⟨h12, h0, hnot⟩
    simp [hsel h12 h0] at hnot
  simp only [mapRow, hr0, hr, hn, hi]
  rw [if_neg (by simp [hop, hend, hw]), if_neg (by simp [hl]), hc]
  exact if_neg ready

/-- Settles O45: the rows of the operations act alike, each on the next record of its own code. -/
theorem mapOperationsComplete : Obligations.MapOperationsComplete := by
  intro s pipe op row r0 r e rec i code hrow x cost y ha hr0 hr hn hi hop hend hw hl hc hsel
  exact exec_of_act ha (exec_mapRow hrow s) (mapRow_of_record hr0 hr hn hi hop hend hw hl hc hsel)

/-! ### Epochs and initialisation -/

theorem mapCommit_of_resolving {e cad : Nat} {hs late : List Nat} (h : s.ccu.resolving = some (e, true, hs, cad, late)) :
    mapCommit s = if hs.contains 1 then s.mapCommitted e cad else s := by
  simp only [mapCommit, h]

theorem mapSquash_of_resolving {e cad : Nat} {hs late : List Nat} (h : s.ccu.resolving = some (e, false, hs, cad, late))
    (h1 : hs.contains 1 = true) :
    mapSquash s = (((s.setMap { s.map with data := { s.map.data with squashed := insertOnce e s.map.data.squashed } }).setRegN
      Reg.MAP_LAST_SQUASH (e % 2 ^ 32)).ackEpoch 1).mapRelease false := by
  simp only [mapSquash, h]
  exact if_neg (by rw [h1]; exact Bool.false_ne_true)

/-- The map without content, ready, before its event record. -/
def State.mapEmptied (s : State) : State :=
  let b := s.mapBases
  let m := ((((s.mem.clear b.dir (2 ^ 24)).clear b.kf (2 ^ 27)).clear b.desc (2 ^ 29)).clear b.edge (2 ^ 22)).clear 0x5000000 (2 ^ 24)
  let x : State := { s with mem := m, map := { s.map with
    data := MapData.reset
    frozen := none
    waiting := []
    hostPins := []
    deferred := [] } }
  let y := ((x.setRegN Reg.MAP_KF_LIVE 0).setRegN Reg.MAP_EDGES_LIVE 0).mapShow
  ((y.clrBit Reg.MAP_STATUS 3).setBit Reg.MAP_STATUS 2).setReady mapFunc

theorem mapInitComplete_of_running (h : s.bitOf Reg.MAP_STATUS 3 = true) :
    mapInitComplete s = s.mapEmptied.event 8 0xFF04 St.ok 0x94 mapFunc (zeros 12) := by
  rw [mapInitComplete, if_neg (by simp [h])]
  rfl

/-- Settles O46: a commit and a squash of the epoch being resolved, and the end of an initialisation. -/
theorem mapEpochsComplete : Obligations.MapEpochsComplete := by
  refine ⟨fun s e cad hs late ha hr => ⟨fun h1 => ?held, fun h1 => ?other⟩, fun s e cad hs late ha hr h1 => ?squash, fun s ha hb => ?init⟩
  case held => exact exec_of_act ha rfl ((mapCommit_of_resolving hr).trans (if_pos h1))
  case other => exact exec_of_act ha rfl ((mapCommit_of_resolving hr).trans (if_neg (by rw [h1]; exact Bool.false_ne_true)))
  case squash => exact exec_of_act ha rfl (mapSquash_of_resolving hr h1)
  case init => exact ⟨_, exec_of_act ha rfl (mapInitComplete_of_running hb), State.event_reported _ _ _ _ _ _ _⟩

end Sys2Proof.Machine
end

section
/-! PROOF. MXA units (R293 to R309): an array's next unit waits for what is missing, and works where nothing is. -/

namespace Sys2Proof.Machine

variable {s : State} {arr want : Nat} {r : Run} {x : MxStage} {i : Inst}

theorem exec_mxRow {row : Instr} (h : (want, row) ∈ [(0, Instr.tileOperation arr), (1, .outputUnit arr), (2, .softmaxUnit arr)])
    (s : State) : exec row s = .next (s.act (mxRow want arr)) := by
  simp only [List.mem_cons, Prod.mk.injEq, List.not_mem_nil, or_false] at h
  obtain ⟨rfl, rfl⟩ | ⟨rfl, rfl⟩ | ⟨rfl, rfl⟩ := h
  all_goals rfl

/-- Where an array stands in its stage. -/
def MxStage.pos (x : MxStage) (arr : Nat) : MxPos := SMap.get ⟨0, 0, 0, 0, true⟩ x.arrays arr

/-- The operation block at which an array stands. -/
def State.mxBlock (s : State) (r : Run) (p : MxPos) : List Byte := (mxOps (s.img r.slot) (s.runDesc r)).getD p.op []

/-- An array's next unit, of the kind `want`: what is missing first, or its work, paid for. -/
theorem mxRow_of_unit (hr : s.runOn 5 arr = some r) (hx : s.mxStage r.slot r.index = some x)
    (hi : r.insts.find? (fun k => k.unit == arr) = some i) (hdone : (x.pos arr).done = false) (hend : i.ended = false)
    (hw : r.waiting = false) (hkind : (Mx.units (s.mxBlock r (x.pos arr))).getD (x.pos arr).unit 3 = want) :
    mxRow want arr s =
      (let p := x.pos arr; let b := s.mxBlock r p
       if !s.mxBandsIn arr b p.block then s.waitOn r.slot r.index arr arr 0
       else if !s.mxTilesIn r.slot b p.block p.unit then s.waitOn r.slot r.index arr arr 4
       else if !s.mxStepIn r p.op b p.block then s.waitOn r.slot r.index arr arr 7
       else
         let t := s.waitOver r.slot r.index arr arr
         let spent := limitBits (s.runDesc r) i (Mx.cost b want).1 (Mx.cost b want).2
         if spent ≠ 0 then t.mxCut r (mxOps (s.img r.slot) (s.runDesc r)) arr spent p.index
         else t.mxWork want arr r (mxOps (s.img r.slot) (s.runDesc r)) p b) := by
  unfold MxStage.pos State.mxBlock at hkind
  unfold MxStage.pos at hdone
  simp only [mxRow, hr, hx, hi]
  rw [if_neg (by rw [hdone, hend, hw, hkind]; simp)]
  rfl

/-- What has come is not missing. -/
theorem not_missing {b : Bool} (h : b = true) : ¬ (!b) = true := by simp [h]

/-- Settles O47: the three rows act alike, by what has come for the array's next unit. -/
theorem matrixUnitsComplete : Obligations.MatrixUnitsComplete := by
  intro s arr want row r x i hrow ops pos b ha hr hx hi hdone hend hw hkind
  have e := mxRow_of_unit hr hx hi hdone hend hw hkind
  refine ⟨fun hb => ?bands, fun hb ht => ?tiles, fun hb ht hs => ?step, fun hb ht hs hl => ?work⟩
  all_goals refine exec_of_act ha (exec_mxRow hrow s) (e.trans ?_)
  case bands => exact if_pos (Bool.not_eq_true' _ ▸ hb)
  case tiles => exact (if_neg (not_missing hb)).trans (if_pos (Bool.not_eq_true' _ ▸ ht))
  case step => exact (if_neg (not_missing hb)).trans ((if_neg (not_missing ht)).trans (if_pos (Bool.not_eq_true' _ ▸ hs)))
  case work =>
    exact (if_neg (not_missing hb)).trans ((if_neg (not_missing ht)).trans ((if_neg (not_missing hs)).trans (if_neg (not_not.2 hl))))

end Sys2Proof.Machine
end

section
/-! PROOF. Copies between the tiers of memory (R335 to R337, R339, R349): what each event does where its condition holds. -/

namespace Sys2Proof.Machine

variable {s : State} {n slot f : Nat} {c : Copy} {o : MemObj}

/-! ### Issue -/

theorem prefetchIssue_of_entry {k i : Nat} {e : List Byte} (he : (fetchEntries (s.slot slot).image)[k]? = some e)
    (hi : s.objOf (objDecl (s.slot slot).image (Pe.object e)) = some i)
    (hl : (s.slot slot).running = true ∨ (s.slot slot).life = .starting) (hnew : (65536 * slot + k) ∉ s.memt.issued) :
    prefetchIssue slot k s =
      (let x := s.runToTime ((s.slot slot).runInstant + Pe.offset e)
       let y : State := { x with memt := { x.memt with issued := x.memt.issued ++ [65536 * slot + k] } }
       y.each (List.range (Pe.count e)) (fun st n => if Pe.writeBack e then st.backTile slot e i n else st.fetchTile slot e i n)) := by
  have due : ¬ ((!((s.slot slot).running || (s.slot slot).life == .starting) || s.memt.issued.contains (65536 * slot + k)) = true) := by
    rcases hl with h | h <;> simp [h, hnew]
  simp only [prefetchIssue, he, hi]
  exact if_neg due

/-! ### Fetches -/

/-- No copy of an earlier fetch or write-back goes to the staging slot of `c`. -/
theorem not_any_sameSlot (h : ∀ x ∈ s.memt.copies.take n, ¬ (x.obj = c.obj ∧ x.slot = c.slot)) :
    (s.memt.copies.take n).any (fun x => x.obj == c.obj && x.slot == c.slot) = false := by
  rw [List.any_eq_false]
  intro x hx hany
  simp only [Bool.and_eq_true, beq_iff_eq] at hany
  exact h x hx hany

section
variable {retries : Nat} {fault corrected : Bool}

/-- The staging slot of `c` takes the tile's bytes and is clean. -/
def State.tileStaged (x : State) (c : Copy) (o : MemObj) (bytes : List Byte) : State :=
  ({ x with mem := x.mem.writeBytes (o.slotAddr c.slot) bytes } : State).updObj c.obj
    (fun p => { p with dirty := p.dirty.filter (· != c.slot) })

/-- The staging slot of `c` takes zeros and the flag is CUT: its source gave no tile (R339). -/
def State.tileFaulted (x : State) (slot f : Nat) (d : List Byte) (c : Copy) (o : MemObj) : State :=
  let y := x.setFlag slot f Flag.cut (Sd.layer d) (Sd.operator d)
  { y with
    memt := { y.memt with cause := SMap.set y.memt.cause (flagKey slot f) 0xD5 }
    mem := y.mem.writeBytes (o.slotAddr c.slot) (zeros tileLen) }

theorem copyComplete_of_fetch (hc : s.memt.copies[n]? = some c) (hw : c.why = .fetch slot f) (ho : s.obj c.obj = some o)
    (hslot : ∀ x ∈ s.memt.copies.take n, ¬ (x.obj = c.obj ∧ x.slot = c.slot)) (hpaid : s.workPaid (2 * flagKey slot f + 1) = true) :
    copyComplete n fault retries corrected s =
      (let src := o.tileAddr c.tile; let bytes := s.ldB src tileLen
       let x := s.copyOver n src retries corrected; let d := s.fetchSd slot f
       if fault || (inFlash src 1 && !flashTileOk bytes) then
         if inFlash src 1 then (x.tileFaulted slot f d c o).flashFault src c.obj else x.tileFaulted slot f d c o
       else
         ((x.tileStaged c o bytes).setFlag slot f Flag.ready (Sd.layer d) (Sd.operator d)).monOffer 4 (b2n (inFlash src 1)) 0
           (c.timeTaken (x.tileStaged c o bytes))) := by
  simp only [copyComplete, hc, hw, ho]
  rw [not_any_sameSlot hslot, hpaid]
  rfl

theorem copyComplete_staged (hc : s.memt.copies[n]? = some c) (hw : c.why = .fetch slot f) (ho : s.obj c.obj = some o)
    (hslot : ∀ x ∈ s.memt.copies.take n, ¬ (x.obj = c.obj ∧ x.slot = c.slot)) (hpaid : s.workPaid (2 * flagKey slot f + 1) = true)
    (hfault : fault = false) (hok : inFlash (o.tileAddr c.tile) 1 = true → flashTileOk (s.ldB (o.tileAddr c.tile) tileLen) = true) :
    copyComplete n fault retries corrected s =
      (let src := o.tileAddr c.tile; let d := s.fetchSd slot f
       let y := (s.copyOver n src retries corrected).tileStaged c o (s.ldB src tileLen)
       (y.setFlag slot f Flag.ready (Sd.layer d) (Sd.operator d)).monOffer 4 (b2n (inFlash src 1)) 0 (c.timeTaken y)) := by
  have good : ¬ ((fault || (inFlash (o.tileAddr c.tile) 1 && !flashTileOk (s.ldB (o.tileAddr c.tile) tileLen))) = true) := by
    cases hf : inFlash (o.tileAddr c.tile) 1 with
    | false => simp [hfault]
    | true => simp [hfault, hok hf]
  exact (copyComplete_of_fetch hc hw ho hslot hpaid).trans (if_neg good)

theorem copyComplete_faulted (hc : s.memt.copies[n]? = some c) (hw : c.why = .fetch slot f) (ho : s.obj c.obj = some o)
    (hslot : ∀ x ∈ s.memt.copies.take n, ¬ (x.obj = c.obj ∧ x.slot = c.slot)) (hpaid : s.workPaid (2 * flagKey slot f + 1) = true)
    (hbad : fault = true ∨ inFlash (o.tileAddr c.tile) 1 = true ∧ flashTileOk (s.ldB (o.tileAddr c.tile) tileLen) = false) :
    copyComplete n fault retries corrected s =
      (let src := o.tileAddr c.tile
       let z := (s.copyOver n src retries corrected).tileFaulted slot f (s.fetchSd slot f) c o
       if inFlash src 1 then z.flashFault src c.obj else z) := by
  have bad : (fault || (inFlash (o.tileAddr c.tile) 1 && !flashTileOk (s.ldB (o.tileAddr c.tile) tileLen))) = true := by
    rcases hbad with h | ⟨hf, ht⟩
    · simp [h]
    · simp [hf, ht]
  exact (copyComplete_of_fetch hc hw ho hslot hpaid).trans (if_pos bad)

end

/-! ### Write-backs -/

theorem writeBackComplete_plain (hc : s.memt.copies[n]? = some c) (ho : s.obj c.obj = some o) (hfetch : ∀ slot f, c.why ≠ .fetch slot f)
    (hflush : ∀ h, c.why ≠ .flush h) : writeBackComplete n s = s.tileBack n c o := by
  cases hw : c.why with
  | fetch slot f => exact absurd hw (hfetch slot f)
  | flush h => exact absurd hw (hflush h)
  | writeBack | eviction | drain slot => simp only [writeBackComplete, hc, hw, ho]

/-- A write-back that the MEM_FLUSH of key `h` queued is made: one tile less is outstanding. -/
def State.flushBack (s : State) (n h : Nat) (c : Copy) (o : MemObj) : State :=
  let x := s.tileBack n c o
  { x with memt := { x.memt with jobs := x.memt.jobs.map (fun j =>
    if j.key = h then { j with left := j.left - 1, moved := j.moved + 1 } else j) } }

theorem writeBackComplete_flushLast {h : Nat} {j : MemJob} (hc : s.memt.copies[n]? = some c) (ho : s.obj c.obj = some o)
    (hw : c.why = .flush h) (hj : (s.flushBack n h c o).memt.jobs.find? (fun j => j.key == h && j.left == 0) = some j) :
    writeBackComplete n s = (s.flushBack n h c o).endJob h St.ok [(20, 4, j.moved)] := by
  unfold State.flushBack at hj ⊢
  simp only [writeBackComplete, hc, hw, ho, hj]

theorem writeBackComplete_flushMore {h : Nat} (hc : s.memt.copies[n]? = some c) (ho : s.obj c.obj = some o) (hw : c.why = .flush h)
    (hj : (s.flushBack n h c o).memt.jobs.find? (fun j => j.key == h && j.left == 0) = none) :
    writeBackComplete n s = s.flushBack n h c o := by
  unfold State.flushBack at hj ⊢
  simp only [writeBackComplete, hc, hw, ho, hj]

theorem copyLatencyOverrun_of_first (hc : s.memt.copies[n]? = some c) (hl : c.late = false) :
    copyLatencyOverrun n s =
      (let x := (s.runTo (c.bound + 1)).count 15 11
       { x with memt := { x.memt with copies := modifyAt (fun p => { p with late := true }) x.memt.copies n } }) := by
  simp only [copyLatencyOverrun, hc]
  rw [if_neg (by simp [hl])]

/-- Settles O50, by what the copy is for and by what its source gave. -/
theorem tierCopiesComplete : Obligations.TierCopiesComplete := by
  refine ⟨fun s slot k i e ha he hi hl hnew => ?issue,
    fun s n slot f retries fault corrected c o ha hc hw ho hslot hpaid => ⟨fun hfault hok => ?staged, fun hbad => ?faulted⟩,
    fun s n c o ha hc ho hfetch hflush => ?back, fun s n h c o ha hc ho hw => ⟨fun j hj => ?last, fun hj => ?more⟩,
    fun s n c ha hc hl => ?late⟩
  case issue => exact exec_of_act ha rfl (prefetchIssue_of_entry he hi hl hnew)
  case staged => exact exec_of_act ha rfl (copyComplete_staged hc hw ho hslot hpaid hfault hok)
  case faulted => exact exec_of_act ha rfl (copyComplete_faulted hc hw ho hslot hpaid hbad)
  case back => exact exec_of_act ha rfl (writeBackComplete_plain hc ho hfetch hflush)
  case last => exact exec_of_act ha rfl (writeBackComplete_flushLast hc ho hw hj)
  case more => exact exec_of_act ha rfl (writeBackComplete_flushMore hc ho hw hj)
  case late => exact exec_of_act ha rfl (copyLatencyOverrun_of_first hc hl)

end Sys2Proof.Machine
end

section
/-! PROOF. Promotion and eviction (R277, R339, R341, R342): what the end of each does to residency. -/

namespace Sys2Proof.Machine

variable {s : State} {home i f : Nat} {o : MemObj} {lost : List Nat}

theorem promotionComplete_object
    (h : s.memt.objs.find? (fun e => e.2.home == home && e.2.resident && e.2.state == .promoting) = some (i, o))
    (hpaid : s.workPaid (2 * i) = true) : promotionComplete home lost s = s.objPromoted i o lost := by
  simp only [promotionComplete, h]
  exact if_pos hpaid

theorem promotionComplete_tile
    (hnone : s.memt.objs.find? (fun e => e.2.home == home && e.2.resident && e.2.state == .promoting) = none)
    (h : s.map.promoting.find? (fun g => s.tileHome g == home) = some f) (hdone : (s.promoteTile f false).2 = true) :
    promotionComplete home lost s =
      (let x := (s.promoteTile f false).1
       let y := x.setMap { x.map with
         promoting := x.map.promoting.filter (· != f)
         hostPins := insertOnce f x.map.hostPins }
       y.each (x.memt.jobs.filter (fun j => j.kind == .promote && j.obj == 4096 + f))
         (fun st j => st.endJob j.key St.ok [(20, 8, home), (28, 1, 0)])) := by
  simp only [promotionComplete, hnone, h]
  exact if_neg (by simp [hdone])

/-- No write-back of the object's eviction is still out. -/
theorem not_any_eviction (h : ∀ c ∈ s.memt.copies, ¬ (c.obj = i ∧ c.why = .eviction)) :
    ¬ (s.memt.copies.any (fun c => c.obj == i && c.why == .eviction) = true) := by
  rw [List.any_eq_true]
  rintro ⟨c, hc, hany⟩
  simp only [Bool.and_eq_true, beq_iff_eq] at hany
  exact h c hc hany

theorem evictionComplete_freed (h : s.memt.objs.find? (fun e => e.2.home == home && e.2.state == .evicting) = some (i, o))
    (hback : ∀ c ∈ s.memt.copies, ¬ (c.obj = i ∧ c.why = .eviction)) (hkeep : o.keep = false) : evictionComplete home s = s.freeObj i := by
  simp only [evictionComplete, h]
  rw [if_neg (not_any_eviction hback), if_neg (by simp [hkeep])]

theorem evictionComplete_kept (h : s.memt.objs.find? (fun e => e.2.home == home && e.2.state == .evicting) = some (i, o))
    (hback : ∀ c ∈ s.memt.copies, ¬ (c.obj = i ∧ c.why = .eviction)) (hkeep : o.keep = true) :
    evictionComplete home s =
      (let x := s.updObj i (fun p => { p with
         state := .resident
         keep := false
         deferred := false
         wasDeferred := false })
       let y := x.each (s.jobsOn .evict i) (fun st h => st.endJob h St.ok [(20, 8, o.home), (28, 1, 1)])
       ((y.objFlags o Flag.ready).promoted i).memShow) := by
  simp only [evictionComplete, h]
  rw [if_neg (not_any_eviction hback), if_pos hkeep]

/-- Settles O51: an object and a map tile promoted, an eviction that frees and one that a promotion overtook. -/
theorem residencyEventsComplete : Obligations.ResidencyEventsComplete := by
  refine ⟨fun s home i lost o ha h hpaid => ?object, fun s home f lost ha hnone h hdone => ?tile,
    fun s home i o ha h hback => ⟨fun hkeep => ?freed, fun hkeep => ?kept⟩⟩
  case object => exact exec_of_act ha rfl (promotionComplete_object h hpaid)
  case tile => exact exec_of_act ha rfl (promotionComplete_tile hnone h hdone)
  case freed => exact exec_of_act ha rfl (evictionComplete_freed h hback hkeep)
  case kept => exact exec_of_act ha rfl (evictionComplete_kept h hback hkeep)

end Sys2Proof.Machine
end

section
/-! PROOF. Flash and DRAM events (R327, R346, R347, R350): what each does where its condition holds. -/

namespace Sys2Proof.Machine

variable {s : State}

/-! ### Slot writes (R346) -/

section
variable {failed spareLeft gc : Bool} {mean top spare beats : Nat} {w : FlashWrite} {rest : List FlashWrite}

/-- The head of the slot writes is put back where a spare is left for another try. -/
theorem flashSlotWrite_again (h : s.memt.flash = w :: rest) (hf : failed = true) (hs : spareLeft = true) :
    flashSlotWrite failed spareLeft mean top spare beats gc s = s.flashTold mean top spare beats gc := by
  simp only [flashSlotWrite, h]
  exact if_pos (by simp [hf, hs])

theorem flashSlotWrite_unfinished (h : s.memt.flash = w :: rest) (hover : ¬ (failed = true ∧ spareLeft = true))
    (hj : ((s.flashTold mean top spare beats gc).flashWrote w failed).memt.jobs.find? (fun j => j.key == w.key && j.left == 0) = none) :
    flashSlotWrite failed spareLeft mean top spare beats gc s = (s.flashTold mean top spare beats gc).flashWrote w failed := by
  simp only [flashSlotWrite, h, hj]
  exact if_neg (by simpa using hover)

/-- The head of the slot writes was the last part of job `j`, which ends with it. -/
theorem flashSlotWrite_finished {j : MemJob} (h : s.memt.flash = w :: rest) (hover : ¬ (failed = true ∧ spareLeft = true))
    (hj : ((s.flashTold mean top spare beats gc).flashWrote w failed).memt.jobs.find? (fun j => j.key == w.key && j.left == 0) = some j) :
    flashSlotWrite failed spareLeft mean top spare beats gc s =
      (let y := (s.flashTold mean top spare beats gc).flashWrote w failed
       if j.kind = .archive then y.archiveDone j.key j.obj
       else y.endJob j.key (if j.failed then St.internalFault else St.ok) [(20, 4, j.moved)]) := by
  simp only [flashSlotWrite, h, hj]
  exact if_neg (by simpa using hover)

/-! ### Wear (R347) -/

theorem wearWarning_of_worn (hm : 2700 ≤ mean) (hb : s.bitOf Reg.MEM_FLASH_STATUS 0 = false) :
    wearWarning mean top spare s = ((s.flashCounts mean top spare).setBit Reg.MEM_FLASH_STATUS 0).event 15 0xFF06 St.degraded 0xDB 0
      (leBytes 4 mean ++ leBytes 4 spare ++ zeros 4) := by
  rw [wearWarning, if_neg (by simp [hb, hm])]

theorem writeLock_of_worn (hm : 3000 ≤ mean ∨ spare < 256) (hb : s.bitOf Reg.MEM_FLASH_STATUS 1 = false) :
    writeLock mean top spare s = ((s.flashCounts mean top spare).setBit Reg.MEM_FLASH_STATUS 1).event 15 0xFF06 St.degraded 0xDC 0
      (leBytes 4 mean ++ leBytes 4 spare ++ zeros 4) := by
  have worn : ¬ ((decide (mean < 3000) && decide (256 ≤ spare) || s.bitOf Reg.MEM_FLASH_STATUS 1) = true) := by
    rw [hb, Bool.or_false, Bool.and_eq_true, decide_eq_true_eq, decide_eq_true_eq]
    omega
  rw [writeLock, if_neg worn]

end

/-! ### DRAM (R327, R339) -/

theorem dramUncorrectable_of_dram {addr : Nat} (h : inDram addr 1 = true) :
    dramUncorrectable addr s =
      (let ch := (addr - 0x1000000000) / 256 % 32
       (((({ s with memt := { s.memt with lost := insertOnce (addr / 64) s.memt.lost } } : State).setBit
         (Reg.MEM_DRAM_STATUS (ch / 4)) 2).setBit Reg.MEM_STATUS 2).count 15 13).event 15 0xFF06 St.internalFault 0xD8 0
         (leBytes 8 addr ++ leBytes 1 ch ++ zeros 3)) := by
  rw [dramUncorrectable, if_neg (by simp [h])]

/-- Settles O52, one event after the other. -/
theorem flashAndDramEventsComplete : Obligations.FlashAndDramEventsComplete := by
  refine ⟨fun s failed spareLeft gc mean top spare beats w rest ha h =>
      ⟨fun hf hs => ?again, fun hover hj => ?part, fun j hover hj => ⟨fun hk => ?archive, fun hk => ?job⟩⟩,
    fun s mean top spare ha => ⟨fun hm hb => ?warning, fun hm hb => ?lock⟩, fun s addr ha h => ?dram, fun s mults ha => ?poll⟩
  case again => exact exec_of_act ha rfl (flashSlotWrite_again h hf hs)
  case part => exact exec_of_act ha rfl (flashSlotWrite_unfinished h hover hj)
  case archive => exact exec_of_act ha rfl ((flashSlotWrite_finished h hover hj).trans (if_pos hk))
  case job => exact exec_of_act ha rfl ((flashSlotWrite_finished h hover hj).trans (if_neg hk))
  case warning => exact ⟨_, exec_of_act ha rfl (wearWarning_of_worn hm hb), State.event_reported _ _ _ _ _ _ _⟩
  case lock => exact ⟨_, exec_of_act ha rfl (writeLock_of_worn hm hb), State.event_reported _ _ _ _ _ _ _⟩
  case dram => exact ⟨_, exec_of_act ha rfl (dramUncorrectable_of_dram h), State.event_reported _ _ _ _ _ _ _⟩
  case poll => exact exec_of_act ha rfl rfl

end Sys2Proof.Machine
end

section
/-! PROOF. The Tandem link (R352 to R356, R359, R362, R363): training, loss, and the frames that a twin takes. -/

namespace Sys2Proof.Machine

variable {s x : State} {f : LinkIn} {sequenced : Bool}

/-! ### Taking a frame (R355) -/

theorem LinkTakes.alive (h : LinkTakes s sequenced f x) : s.alive = true := h.1

/-- A twin that takes a frame handles it in the state with the frame counted. -/
theorem State.linkTake_of_takes (h : LinkTakes s sequenced f x) (g : State → State) : s.linkTake sequenced f g = g x := by
  obtain ⟨-, hup, hout, hin⟩ := h
  rw [State.linkTake, if_neg (Nat.not_lt.2 hup)]
  cases sequenced with
  | false => rw [hout rfl]; rfl
  | true =>
    obtain ⟨hseq, hx⟩ := hin rfl
    rw [hx]
    exact if_pos hseq

/-! ### Training and loss -/

theorem linkTrainingComplete_of_training (hf : (s.func tdmFunc).life = .starting) (hl : s.linkState = 1)
    (hpll : s.bitOf Reg.CRB_CLK_STATUS 3 = true) :
    linkTrainingComplete s =
      (let x := (s.setFld Reg.TDM_STATUS 2 2 2).setFld Reg.TDM_STATUS 16 4 15
       ({ x with tdm := { x.tdm with
          lastRx := x.core
          lastTx := x.core } } : State).sendPair) := by
  rw [linkTrainingComplete, if_neg (by simp [hf, hl, hpll])]

theorem linkLostRow_silent (h : 2 ≤ s.linkState) : linkLostRow 1 s = (s.runTo (s.tdm.lastRx + usCore 10)).linkLost 1 :=
  if_neg (Nat.not_lt.2 h)

theorem linkLostRow_naks (h : 16 ≤ s.tdm.naks.2 ∨ 16 ≤ s.tdm.naksSent.2) : linkLostRow 2 s = s.linkLost 2 := if_pos h

theorem linkLostRow_replay (h : 2 ^ 20 < (s.tdm.replay.map (fun f => f.bytes.length)).sum) : linkLostRow 3 s = s.linkLost 3 := if_pos h

theorem linkLostRow_digest (h : ∃ e ∈ s.tdm.ownDigest, e.1 + 2 ≤ s.ccu.cadence) : linkLostRow 4 s = s.linkLost 4 := by
  obtain ⟨e, he, hlate⟩ := h
  exact if_pos (List.any_eq_true.2 ⟨e, he, decide_eq_true hlate⟩)

/-! ### Frames -/

/-- What a NAK makes of a twin that takes it: all that is unacknowledged goes out again. -/
def tdmResent (f : LinkIn) (x : State) : State :=
  let want := leAt f.payload 0 2
  let n := if x.tdm.naks.1 = want then x.tdm.naks.2 + 1 else 1
  let y := (({ x with tdm := { x.tdm with
    naks := (want, n)
    wire := (x.tdm.replay.map (fun r => x.relink r.bytes)).reverse ++ x.tdm.wire
    lastTx := x.core } } : State).count 13 57).countN 13 54 x.tdm.replay.length
  if 16 ≤ n then y.linkLost 2 else y

theorem tdmNak_of_takes (h : LinkTakes s false f x) : tdmNak f s = tdmResent f x := State.linkTake_of_takes h _

theorem tdmTimeEcho_of_primary (h : LinkTakes s true f x) (hr : x.role = 1) :
    tdmTimeEcho f s = ({ x with tdm := { x.tdm with echo := leAt f.payload 0 8 } } : State).sendTime := by
  rw [tdmTimeEcho, State.linkTake_of_takes h, if_neg (by simp [hr])]

theorem tdmBoundary_of_secondary (h : LinkTakes s true f x) (hr : x.role = 2) :
    tdmBoundary f s =
      (let b := (leAt f.payload 0 8, leAt f.payload 8 8)
       ({ x with tdm := { x.tdm with boundaries := if x.linkOn then x.tdm.boundaries ++ [b] else [b] } } : State).linkSend 0x05 0
         x.ccu.cadence (leBytes 8 x.raw)) := by
  rw [tdmBoundary, State.linkTake_of_takes h, if_neg (by simp [hr])]

/-! ### Time (R359) -/

/-- The secondary with the link delay that an echo measured. -/
def tdmDelay (f : LinkIn) (x : State) : State :=
  if leAt f.payload 8 8 = 0 then x else x.setRegN Reg.TDM_LINK_DELAY ((x.raw - leAt f.payload 8 8) / 2)

/-- How far the primary's time is ahead. -/
def tdmOffset (f : LinkIn) (y : State) : Int := (leAt f.payload 0 8 : Int) + y.regN Reg.TDM_LINK_DELAY - y.now

theorem tdmTime_of_secondary (h : LinkTakes s true f x) (hr : x.role = 2) :
    tdmTime f s =
      (let y := tdmDelay f x
       if !y.linkOn then y
       else if y.regN Reg.TIM_STEP_THRESH < (tdmOffset f y).natAbs then (y.takeChange (.step (tdmOffset f y))).1
       else
         let z := (y.takeChange (.slew (clampI (-800000000) 800000000 (tdmOffset f y)) (y.regN Reg.TIM_SLEW_RATE))).1
         (z.drawFree.takeChange (.rate ((z.freeBelow 1099511629 : Int) - 549755814))).1) := by
  rw [tdmTime, State.linkTake_of_takes h, if_neg (by simp [hr])]
  rfl

/-- Settles O53, one event after the other: a frame acts in the state with it counted. -/
theorem linkFramesComplete : Obligations.LinkFramesComplete := by
  refine ⟨fun s ha hf hl hpll => ?training, fun s ha => ⟨fun h => ?silent, fun h => ?naks, fun h => ?replay, fun h => ?digests⟩,
    fun s ha hl => ?crc, fun s ha hl => ?send, fun s x f h => ⟨?idle, ?nak⟩, fun s x f h => ⟨?pair, ?turn, ?digest⟩,
    fun s x f h => ⟨fun hr => ?echo, fun hr => ?boundary, fun hr => ⟨fun hoff => ?off, fun hon hfar => ?step, fun hon hnear => ?slew⟩⟩⟩
  case training => exact exec_of_act ha rfl (linkTrainingComplete_of_training hf hl hpll)
  case silent => exact exec_of_act ha rfl (linkLostRow_silent h)
  case naks => exact exec_of_act ha rfl (linkLostRow_naks h)
  case replay => exact exec_of_act ha rfl (linkLostRow_replay h)
  case digests => exact exec_of_act ha rfl (linkLostRow_digest h)
  case crc => exact exec_of_act ha rfl (if_neg (Nat.not_lt.2 hl))
  case send => exact exec_of_act ha rfl (if_neg (Nat.not_lt.2 hl))
  case idle => exact exec_of_act h.alive rfl (State.linkTake_of_takes h _)
  case nak => exact exec_of_act h.alive rfl (tdmNak_of_takes h)
  case pair => exact exec_of_act h.alive rfl (State.linkTake_of_takes h _)
  case turn => exact exec_of_act h.alive rfl (State.linkTake_of_takes h _)
  case digest => exact exec_of_act h.alive rfl (State.linkTake_of_takes h _)
  case echo => exact exec_of_act h.alive rfl (tdmTimeEcho_of_primary h hr)
  case boundary => exact exec_of_act h.alive rfl (tdmBoundary_of_secondary h hr)
  all_goals refine exec_of_act h.alive rfl ((tdmTime_of_secondary h hr).trans ?_)
  case off => exact if_pos (Bool.not_eq_true' _ ▸ hoff)
  case step => exact (if_neg (not_missing hon)).trans (if_pos hfar)
  case slew => exact (if_neg (not_missing hon)).trans (if_neg (Nat.not_lt.2 hnear))

end Sys2Proof.Machine
end

section
/-! PROOF. Items that a Tandem primary forwards (R357, R358, R361, Tables 16.3 and 16.4): what a secondary makes of each. -/

namespace Sys2Proof.Machine

variable {s x : State} {f : LinkIn}

/-! ### Taking an item -/

theorem State.item_of_takes (h : LinkTakes s true f x) (hp : x.noPins = true) (g : State → State) : s.item f g = g x :=
  (State.linkTake_of_takes h _).trans (if_pos hp)

/-- The item as far as it has come, with this frame. -/
def State.itemSoFar (x : State) (f : LinkIn) : List Byte := x.tdm.line ++ f.payload

/-- The state in which an item that is whole is handled. -/
def State.itemWhole (x : State) : State := { x with tdm := { x.tdm with line := [] } }

/-- The state that waits for the rest of an item. -/
def State.itemPart (x : State) (f : LinkIn) : State := { x with tdm := { x.tdm with line := x.itemSoFar f } }

theorem State.spanned_last (hl : f.payload.length < 4096 ∨ f.flags.testBit 0 = true) (g : List Byte → State → State) :
    x.spanned f g = g (x.itemSoFar f) x.itemWhole := if_pos (by simpa using hl)

theorem State.spanned_more (hl : 4096 ≤ f.payload.length) (hf : f.flags.testBit 0 = false) (g : List Byte → State → State) :
    x.spanned f g = x.itemPart f := if_neg (by simp [hl, hf])

/-! ### Lines -/

/-- Bytes of the line item at hand. -/
def State.lineNeeds (x : State) (all : List Byte) : Nat := 6 + ceilDiv ((x.cam (leAt all 0 2 - camFunc 0)).width * leAt all 5 1) 8

theorem tdmLine_of_takes (h : LinkTakes s true f x) (hp : x.noPins = true) :
    tdmLine f s =
      if (x.itemSoFar f).length < x.lineNeeds (x.itemSoFar f) && !f.flags.testBit 0 then x.itemPart f
      else x.itemWhole.lineItem f.tag (x.itemSoFar f) := State.item_of_takes h hp _

theorem tdmLine_whole (h : LinkTakes s true f x) (hp : x.noPins = true)
    (hw : x.lineNeeds (x.itemSoFar f) ≤ (x.itemSoFar f).length ∨ f.flags.testBit 0 = true) :
    tdmLine f s = x.itemWhole.lineItem f.tag (x.itemSoFar f) := by
  refine (tdmLine_of_takes h hp).trans (if_neg ?_)
  rcases hw with hlen | hlast
  · simp [Nat.not_lt.2 hlen]
  · simp [hlast]

theorem tdmLine_part (h : LinkTakes s true f x) (hp : x.noPins = true)
    (hw : (x.itemSoFar f).length < x.lineNeeds (x.itemSoFar f)) (hf : f.flags.testBit 0 = false) : tdmLine f s = x.itemPart f :=
  (tdmLine_of_takes h hp).trans (if_pos (by simp [hw, hf]))

/-! ### Register writes (R358) -/

/-- What a forwarded register write makes of a secondary that takes it. -/
def regwriteItem (f : LinkIn) (t : State) : State :=
  let off := leAt f.payload 0 4
  let en := (List.range 4).map (fun i => (leAt f.payload 8 1).testBit i)
  if 0x2000000 ≤ off then t.windowLand off (leBytes 4 (leAt f.payload 4 4)) en
  else if byteMask en = 0 then t
  else t.regWrite off (leAt f.payload 4 4) (byteMask en)

theorem tdmRegwrite_of_takes (h : LinkTakes s true f x) (hp : x.noPins = true) : tdmRegwrite f s = regwriteItem f x :=
  State.item_of_takes h hp _

/-! ### Scheduled operations (R373) -/

/-- What a relayed SCHEDULE makes of a secondary that takes it. -/
def scheduleTaken (f : LinkIn) (t : State) : State :=
  let y := Ph.payload f.payload
  if Ph.instant f.payload < t.now + usTime 50 || t.opNear (Ph.instant f.payload) then
    t.opRefused (Ph.root f.payload) (leAt y 0 1) (Ph.instant f.payload)
  else t.arm ⟨leAt y 0 1, leAt y 4 2, leAt y 6 2, Ph.instant f.payload, some (Ph.root f.payload), [], true⟩

theorem tdmSchedule_of_takes (h : LinkTakes s true f x) (hp : x.noPins = true) : tdmSchedule f s = scheduleTaken f x :=
  State.item_of_takes h hp _

/-- Settles O54, one item after the other: each acts in the state with its frame counted. -/
theorem linkItemsComplete : Obligations.LinkItemsComplete := by
  intro s x f h hp
  refine ⟨fun hw => ?line, fun hw hf => ?linePart, fun hl => ⟨?command, ?tile⟩, fun hl hf => ⟨?commandPart, ?tilePart⟩, ?frame,
    ⟨fun ho => ?window, fun ho hm => ?register, fun ho hm => ?nothing⟩, ?inertial, ?audio, ?encoder, ?points, ?fusCount,
    fun hbad => ?refused, fun hsoon hnear => ?armed⟩
  case line => exact exec_of_act h.alive rfl (tdmLine_whole h hp hw)
  case linePart => exact exec_of_act h.alive rfl (tdmLine_part h hp hw hf)
  case command => exact exec_of_act h.alive rfl ((State.item_of_takes h hp _).trans (State.spanned_last hl _))
  case tile => exact exec_of_act h.alive rfl ((State.item_of_takes h hp _).trans (State.spanned_last hl _))
  case commandPart => exact exec_of_act h.alive rfl ((State.item_of_takes h hp _).trans (State.spanned_more hl hf _))
  case tilePart => exact exec_of_act h.alive rfl ((State.item_of_takes h hp _).trans (State.spanned_more hl hf _))
  case window => exact exec_of_act h.alive rfl ((tdmRegwrite_of_takes h hp).trans (if_pos ho))
  case register =>
    exact exec_of_act h.alive rfl ((tdmRegwrite_of_takes h hp).trans ((if_neg (Nat.not_le.2 ho)).trans (if_neg hm)))
  case nothing => exact exec_of_act h.alive rfl ((tdmRegwrite_of_takes h hp).trans ((if_neg (Nat.not_le.2 ho)).trans (if_pos hm)))
  case refused => exact exec_of_act h.alive rfl ((tdmSchedule_of_takes h hp).trans (if_pos (by simpa using hbad)))
  case armed =>
    exact exec_of_act h.alive rfl ((tdmSchedule_of_takes h hp).trans (if_neg (by simp [Nat.not_lt.2 hsoon, hnear])))
  all_goals exact exec_of_act h.alive rfl (State.item_of_takes h hp _)

end Sys2Proof.Machine
end

section
/-! PROOF. The Peloton (R368 to R373): barriers, scheduled operations and shared map tiles. -/

namespace Sys2Proof.Machine

variable {s x : State} {b : List Byte} {t : Nat} {r : Round}

/-! ### Taking a frame (R367) -/

theorem PelTakes.alive (h : PelTakes s t b x) : s.alive = true := h.1

theorem State.pelTake_of_takes (h : PelTakes s t b x) (f : State → State) : s.pelTake t b f = f x := by
  obtain ⟨-, hrole, hin, hver, htype, hdom, hcrc, hlen, hfit, hdst, rfl⟩ := h
  have good : (s.joined && leAt b 0 1 == 1 && Ph.type b == t && leAt b 2 2 == s.pel.domain && leAt b 24 4 == s.listCrc &&
      Ph.len b == Ph.typeLen t && decide (32 + Ph.typeLen t ≤ b.length) && (Ph.dst b == 0xFFFF || Ph.dst b == s.pel.me)) = true := by
    simp only [Bool.and_eq_true, Bool.or_eq_true, beq_iff_eq, decide_eq_true_eq]
    exact ⟨⟨⟨⟨⟨⟨⟨hin, hver⟩, htype⟩, hdom⟩, hcrc⟩, hlen⟩, hfit⟩, hdst⟩
  rw [State.pelTake, if_neg hrole, if_pos good]

/-! ### Barriers (R369) -/

theorem barrierRound_of_open (hin : s.joined = true) (hrole : s.role ≠ 2) (hr : s.barrierOpen.pel.round = some r)
    (hnew : r.reported = false) : barrierRound s = s.barrierOpen.reportRound r := by
  rw [barrierRound, if_neg (by simp [hin, hrole])]
  simp only [hr, hnew, Bool.false_eq_true, if_false]

/-- The round of a report: the open one, or the one it opens. -/
def State.barrierJoins (x : State) (b : List Byte) : State :=
  if x.pel.round.isNone && decide (x.pel.lastRound < Ph.instant b) then x.openRound (Ph.instant b) else x

theorem barrierUp_of_round (h : PelTakes s 1 b x) (hr : (x.barrierJoins b).pel.round = some r) (hi : r.instant = Ph.instant b) :
    barrierUp b s =
      (let y := x.barrierJoins b; let d := Ph.payload b
       { y with pel := { y.pel with round := some { r with
         bits := r.bits ||| leAt d 0 32
         slow := r.slow || (leAt d 32 1).testBit 0
         lower := r.lower || (Ph.dst b == 0xFFFF && decide (Ph.src b < y.pel.me)) } } }) := by
  unfold State.barrierJoins at hr ⊢
  rw [barrierUp, State.pelTake_of_takes h]
  simp only [hr, hi, ne_eq, not_true_eq_false, if_false]

theorem barrierRelease_of_root (hin : s.joined = true) (hrole : s.role ≠ 2) (hr : s.pel.round = some r) (hrep : r.reported = true)
    (hroot : s.isRoot r = true) :
    barrierRelease s =
      (let x := s.runToTime (s.afterHops r.instant s.treeDepth); let h := if r.slow then 24 else 12
       (x.completeRound s.pel.me r.instant r.bits h).sendDown s.pel.me r.instant (leBytes 32 r.bits ++ leBytes 1 h)) := by
  simp only [barrierRelease, hr]
  rw [if_neg (by simp [hin, hrole, hrep, hroot])]

theorem barrierDown_of_takes (h : PelTakes s 2 b x) :
    barrierDown b s =
      if Ph.instant b ≤ x.pel.lastRound then x
      else
        let d := Ph.payload b
        let y := x.completeRound (Ph.root b) (Ph.instant b) (leAt d 0 32) (leAt d 32 1)
        (y.sendDown (Ph.root b) (Ph.instant b) d).countN 13 62 (y.treeChildren (Ph.root b)).length := State.pelTake_of_takes h _

theorem barrierTimeout_of_round (hr : s.pel.round = some r) :
    barrierTimeout s =
      (let x := s.runToTime (s.afterHops r.instant (2 * s.treeDepth) + usTime 50)
       let y := (x.setPresent 0).setFld Reg.PEL_STATUS 1 1 0
       ({ y with pel := { y.pel with
         round := none
         lastRound := r.instant } } : State).pelEvent St.pelotonTimeout 0xAB [(20, 1, s.pel.me), (24, 8, r.instant)]) := by
  simp only [barrierTimeout, hr]

/-! ### Scheduled operations (R372, R373) -/

/-- The operation of a SCHEDULE frame, that the member can perform, armed, passed on and acknowledged; or, near another one, refused and
acknowledged so. -/
def scheduleFrameTaken (b : List Byte) (x : State) : State :=
  let d := Ph.payload b; let op := leAt d 0 1; let due := Ph.instant b; let root := Ph.root b
  let near := x.opNear due
  let y := if near then x.opRefused root op due else x.arm ⟨op, leAt d 4 2, leAt d 6 2, due, some root, [], true⟩
  let cs := y.treeChildren root
  let z := (y.each cs (fun st c => st.pelSend 3 c root due d)).countN 13 62 cs.length
  (z.scheduleItem (Ph.src b) due d).pelSend 4 root root due (leBytes 1 op ++ leBytes 1 (b2n (!near)))

theorem pelotonScheduleFrame_of_other (h : PelTakes s 3 b x) (hroot : Ph.root b ≠ x.pel.me) :
    pelotonScheduleFrame b s =
      if Ph.instant b < x.now + usTime 50 then x.opRefused (Ph.root b) (leAt (Ph.payload b) 0 1) (Ph.instant b)
      else scheduleFrameTaken b x := by
  rw [pelotonScheduleFrame, State.pelTake_of_takes h, if_neg hroot]
  rfl

/-! ### Map tiles (R371) -/

theorem tileFrag_of_other (h : PelTakes s 5 b x) (hroot : Ph.root b ≠ x.pel.me) (hk : leAt (Ph.payload b) 8 1 < 16) :
    tileFrag b s =
      (let d := Ph.payload b; let cs := x.treeChildren (Ph.root b)
       let y := (x.each cs (fun st c => st.pelSend 5 c (Ph.root b) (Ph.instant b) d)).countN 13 62 cs.length
       if y.bitOf Reg.PEL_CTRL 17 then y.assemble (Ph.root b) (leAt d 0 8) (leAt d 8 1) (d.drop 12) else y) := by
  rw [tileFrag, State.pelTake_of_takes h, if_neg (not_or.2 ⟨hroot, by omega⟩)]

theorem tileAssemblyTimeout_of_tile {key : Nat} {a : PelTile} (h : s.pel.tiles.find? (fun x => x.key == key) = some a) :
    tileAssemblyTimeout key s =
      (let x := s.runTo (a.first + usCore 1000)
       ({ x with pel := { x.pel with tiles := x.pel.tiles.filter (fun z => z.key != key) } } : State).tileDrop key 2) := by
  simp only [tileAssemblyTimeout, h]

/-- Settles O55, one event after the other: a frame acts in the state with it counted. -/
theorem pelotonEventsComplete : Obligations.PelotonEventsComplete := by
  refine ⟨fun s r ha hin hrole hr hnew => ?report, fun s x b r h hr hi => ?up, fun s r ha hin hrole hr hrep hroot => ?release,
    fun s x b h => ⟨fun hn => ?down, fun ho => ?passed⟩, fun s r ha hr => ?timeout,
    fun s x b h hroot => ⟨fun hl => ?tooLate, fun hl => ?schedule⟩, fun s x b h => ?ack, fun s x b h hroot hk => ?fragment,
    fun s key a ha h => ?dropped⟩
  case report => exact exec_of_act ha rfl (barrierRound_of_open hin hrole hr hnew)
  case up => exact exec_of_act h.alive rfl (barrierUp_of_round h hr hi)
  case release => exact exec_of_act ha rfl (barrierRelease_of_root hin hrole hr hrep hroot)
  case down => exact exec_of_act h.alive rfl ((barrierDown_of_takes h).trans (if_neg (Nat.not_le.2 hn)))
  case passed => exact exec_of_act h.alive rfl ((barrierDown_of_takes h).trans (if_pos ho))
  case timeout => exact exec_of_act ha rfl (barrierTimeout_of_round hr)
  case tooLate => exact exec_of_act h.alive rfl ((pelotonScheduleFrame_of_other h hroot).trans (if_pos hl))
  case schedule => exact exec_of_act h.alive rfl ((pelotonScheduleFrame_of_other h hroot).trans (if_neg (Nat.not_lt.2 hl)))
  case ack => exact exec_of_act h.alive rfl (State.pelTake_of_takes h _)
  case fragment => exact exec_of_act h.alive rfl (tileFrag_of_other h hroot hk)
  case dropped => exact exec_of_act ha rfl (tileAssemblyTimeout_of_tile h)

end Sys2Proof.Machine
end

section
/-! PROOF. Metrology frames, the seal and the gateway (R382 to R387, R394 to R400): what each event does where its condition holds. -/

namespace Sys2Proof.Machine

variable {s : State}

theorem State.onOasis_started (h : s.met.oasis.started = true) (f : Oasis → Oasis) : s.onOasis f = s.oasis f := if_pos h

/-! ### Frames on their way (R382 to R384) -/

theorem metSnapshot_of_snap {sn : MetSend} (h : s.met.snap = some sn) :
    metSnapshot s =
      (let x := s.runTo sn.by_
       let c := x.fusCtx sn.ctx
       let g := x.fusGrid c
       let body := x.metBody c
       let y := x.chargePool 2 0 (memTok (Ub.pixBase c.block) (4 * g.2.1 * g.2.2)) none
       let z := if (addrRow x.metStage body.length).isSome then y.stB x.metStage body else y
       (({ z with met := { z.met with
         snap := none
         tx := some ⟨sn.ctx, x.core + ceilDiv (24 * (body.length + 4)) 10, body.length, crc32 body, none⟩ } } : State).count 15 18).onOasis
         (fun o => { o with rx := some ⟨o.frame.isSome, x.core, x.metHeader c⟩ })) := by
  simp only [metSnapshot, h]

theorem metFrame_of_sent {m : MetSend} (h : s.met.tx = some m) :
    metFrame s =
      (let x := s.runTo m.by_
       let y : State := { x with met := { x.met with
         tx := none
         sent := x.met.sent + 1 } }
       ((y.setRegN Reg.MET_FRAME_SEQ (x.met.sent % 2 ^ 32)).count 15 17).onOasis
         (fun o => o.arrive x.core (x.ldB x.metStage m.len ++ leBytes 4 m.crc))) := by
  simp only [metFrame, h]
  rfl

/-- Oasis keeps its own clock: the instant of its event touches nothing of it. -/
@[simp] theorem State.oasisTo_met (s : State) (since n : Nat) : (s.oasisTo since n).met = s.met := by
  unfold State.oasisTo
  split
  · rfl
  · exact State.runTo_met _ _

/-- What a truncated frame, of whose header `got` bytes came, makes of Oasis. -/
def Oasis.truncate (o : Oasis) (rx : MetRx) (got : Nat) : Oasis :=
  let o1 : Oasis := { o.drop with rx := none }
  if rx.busy then o1
  else ({ o1 with frameSealed := o1.sealed }).runRules (rx.header.take got) (.invalid (if o1.paramOk && o1.imageOk then 2 else 1))

theorem metTruncated_of_receiving {rx : MetRx} (got : Nat) (hs : s.met.oasis.started = true) (h : s.met.oasis.rx = some rx) :
    metTruncated got s =
      (let x := s.oasisTo rx.since (usCore 10000)
       { x with met := { x.met with
         tx := none
         oasis := x.met.oasis.truncate rx got } }) := by
  simp only [metTruncated, h]
  rw [State.onOasis_started (by simpa using hs)]
  rfl

theorem metProcessed_of_frame {f : List Byte} (hs : s.met.oasis.started = true) (h : s.met.oasis.frame = some f) :
    metProcessed s = (s.oasisTo s.met.oasis.frameAt (metCycles f)).oasis
      (fun o => (({ o with frame := none } : Oasis).runRules f (o.judge f)).serveWaiting) := by
  simp only [metProcessed, h]
  exact State.onOasis_started (by simpa using hs) _

/-! ### The seal (R387) -/

/-- Oasis with the level of SEAL_N taken; a seal drops what is staged. -/
def Oasis.sealTaken (o : Oasis) (high : Bool) : Oasis :=
  { o with
    sealed := !high
    staged := if high then o.staged else none }

theorem Oasis.seal_running {o : Oasis} {high : Bool} (h : o.sealed = high) (hs : o.started = true) :
    o.seal high = ((o.sealTaken high).logEntry (if high then 3 else 4) 0).identBoth := by
  rw [Oasis.seal, if_neg (by simp [h]), if_neg (not_missing hs)]
  cases high <;> rfl

theorem Oasis.seal_idle {o : Oasis} {high : Bool} (h : o.sealed = high) (hs : o.started = false) :
    o.seal high = o.sealTaken high := by
  rw [Oasis.seal, if_neg (by simp [h]), if_pos (Bool.not_eq_true' _ ▸ hs)]
  cases high <;> rfl

theorem Oasis.seal_of_same {o : Oasis} {high : Bool} (h : o.sealed ≠ high) : o.seal high = o :=
  if_pos (Bool.eq_not.2 h)

/-! ### The gateway (R397 to R400) -/

/-- A running part's gateway takes the head of the result path. -/
theorem gwTake_of_head {type : Nat} {r : List Byte} {rest : List (Nat × List Byte)} (ha : s.alive = true)
    (h : s.met.oasis.path = (type, r) :: rest) (f : State → List Byte → State) :
    gwTake type f s = f (s.oasis (fun o => { o with path := rest })) r := by
  simp only [gwTake, h, if_true]
  exact if_pos ha

/-- The gateway with record `r` in its ring of 256, before its event. -/
def State.gwRing (x : State) (r : List Byte) : State :=
  let ring := x.met.ring ++ [(true, r)]
  let y := ({ x with met := { x.met with
    ring := ring.drop (ring.length - 256)
    lastSeq := leAt r 4 4 } } : State).showUnread
  if 256 ≤ x.met.unread then y.setBit Reg.MET_GW_STATUS 5 else y

theorem State.gwResult_eq (x : State) (r : List Byte) :
    x.gwResult r =
      if leAt r 28 1 = 1 then
        ((x.gwRing r).setBit Reg.MET_GW_STATUS 6).metEvent St.metrologyInvalid (leAt r 29 1)
          (result [(20, 4, leAt r 4 4), (24, 4, leAt r 24 4), (28, 4, leAt r 8 4)])
      else
        (x.gwRing r).metEvent St.ok 0x23
          (result [(20, 2, leAt r 32 2), (22, 2, leAt r 34 2), (24, 2, leAt r 36 2), (26, 1, leAt r 31 1), (28, 4, leAt r 4 4)]) := by
  simp only [State.gwResult, State.gwRing, decide_eq_true_eq]

theorem gwResult_invalid {r : List Byte} {rest : List (Nat × List Byte)} (ha : s.alive = true)
    (h : s.met.oasis.path = (1, r) :: rest) (hbad : leAt r 28 1 = 1) :
    gwTake 0x01 State.gwResult s =
      (((s.oasis (fun o => { o with path := rest })).gwRing r).setBit Reg.MET_GW_STATUS 6).metEvent St.metrologyInvalid (leAt r 29 1)
        (result [(20, 4, leAt r 4 4), (24, 4, leAt r 24 4), (28, 4, leAt r 8 4)]) :=
  (gwTake_of_head ha h _).trans ((State.gwResult_eq _ r).trans (if_pos hbad))

theorem gwResult_valid {r : List Byte} {rest : List (Nat × List Byte)} (ha : s.alive = true)
    (h : s.met.oasis.path = (1, r) :: rest) (hok : leAt r 28 1 ≠ 1) :
    gwTake 0x01 State.gwResult s =
      ((s.oasis (fun o => { o with path := rest })).gwRing r).metEvent St.ok 0x23
        (result [(20, 2, leAt r 32 2), (22, 2, leAt r 34 2), (24, 2, leAt r 36 2), (26, 1, leAt r 31 1), (28, 4, leAt r 4 4)]) :=
  (gwTake_of_head ha h _).trans ((State.gwResult_eq _ r).trans (if_neg hok))

theorem identTimeout_of_present (h : s.bitOf Reg.MET_GW_STATUS 2 = true) :
    identTimeout s = (((s.runTo (s.met.identAt + 360000000)).clrBit Reg.MET_GW_STATUS 2).clrBit Reg.MET_IDENT_STATE 4).metEvent
      St.metrologyInvalid 0x30 (result [(20, 4, s.met.lastSeq)]) := by
  have bound : usCore 300000 = 360000000 := by decide
  rw [identTimeout, if_neg (by simp [h]), bound]

/-- Settles O56, one event after the other. -/
theorem metrologyEventsComplete : Obligations.MetrologyEventsComplete := by
  refine ⟨fun s sn ha h => ?snapshot, fun s m ha h => ?frame, fun s got rx hs h => ?truncated, fun s f hs h => ?processed,
    fun s high => ⟨fun h hs => ?sealRun, fun h hs => ?sealIdle, fun h => ?sealSame⟩,
    fun s r rest ha h => ⟨fun hbad => ?invalid, fun hok => ?valid⟩, fun s r rest ha h => ?ident,
    fun s ha => ⟨?discard, fun h => ?absent⟩, fun s => rfl⟩
  case snapshot => exact exec_of_act ha rfl (metSnapshot_of_snap h)
  case frame => exact exec_of_act ha rfl (metFrame_of_sent h)
  case truncated => exact congrArg Host.Outcome.next (metTruncated_of_receiving got hs h)
  case processed => exact congrArg Host.Outcome.next (metProcessed_of_frame hs h)
  case sealRun =>
    exact congrArg (fun o => Host.Outcome.next (s.oasis (fun _ => o))) (Oasis.seal_running h hs)
  case sealIdle =>
    exact congrArg (fun o => Host.Outcome.next (s.oasis (fun _ => o))) (Oasis.seal_idle h hs)
  case sealSame => exact congrArg (fun o => Host.Outcome.next (s.oasis (fun _ => o))) (Oasis.seal_of_same h)
  case invalid => exact ⟨_, congrArg Host.Outcome.next (gwResult_invalid ha h hbad), State.event_reported _ _ _ _ _ _ _⟩
  case valid => exact ⟨_, congrArg Host.Outcome.next (gwResult_valid ha h hok), State.event_reported _ _ _ _ _ _ _⟩
  case ident => exact congrArg Host.Outcome.next (gwTake_of_head ha h _)
  case discard => exact exec_of_act ha rfl rfl
  case absent => exact ⟨_, exec_of_act ha rfl (identTimeout_of_present h), State.event_reported _ _ _ _ _ _ _⟩

end Sys2Proof.Machine
end

section
/-! PROOF. Requests to Oasis (R388 to R390, R397, R398): refused while sealed, held while a frame is processed, and else served. -/

namespace Sys2Proof.Machine

variable {o : Oasis} {type : Nat} {x : List Byte}

/-! ### The three answers to a request -/

theorem Oasis.request_sealed (hs : o.started = true) (hseal : o.sealed = true) (ht : type ≠ 0x83) : o.request type x = o.refuse type := by
  rw [Oasis.request, if_neg (not_missing hs), if_pos hseal, if_neg ht]

theorem Oasis.request_waits {f : List Byte} (hs : o.started = true) (hopen : o.sealed = false) (hf : o.frame = some f) :
    o.request type x = { o with waiting := o.waiting ++ [(type, x)] } := by
  rw [Oasis.request, if_neg (not_missing hs), if_neg (by simp [hopen]), if_pos (by simp [hf])]

theorem Oasis.request_served (hs : o.started = true) (hopen : o.sealed = false) (hf : o.frame = none) :
    o.request type x = o.serve type x := by
  rw [Oasis.request, if_neg (not_missing hs), if_neg (by simp [hopen]), if_neg (by simp [hf])]

/-- The parameters are read while sealed, too. -/
theorem Oasis.request_read (hs : o.started = true) (h : o.sealed = true ∨ o.frame = none) :
    o.request 0x83 x = (o.respond 0x83 0).tx 0x04 o.params := by
  cases hseal : o.sealed with
  | true => rw [Oasis.request, if_neg (not_missing hs), if_pos hseal, if_pos rfl]; rfl
  | false =>
    obtain hc | hf := h
    · exact absurd (hseal.symm.trans hc) Bool.false_ne_true
    · rw [Oasis.request_served hs hseal hf]; rfl

/-! ### Lengths and offsets in a payload -/

/-- Four little-endian bytes spell the number they were made of. -/
theorem leNat_leBytes (n v : Nat) : leNat (leBytes n v) = v % 256 ^ n := by
  induction n generalizing v with
  | zero => simp [leBytes, leNat, Nat.mod_one]
  | succ n ih =>
    have head : (BitVec.ofNat 8 v).toNat = v % 256 := BitVec.toNat_ofNat v 8
    rw [leBytes, leNat, ih, head, Nat.pow_succ', Nat.mod_mul]

theorem length_leBytes (n v : Nat) : (leBytes n v).length = n := by
  induction n generalizing v with
  | zero => rfl
  | succ n ih => exact congrArg (· + 1) (ih (v / 256))

theorem leAt_leBytes_append {v : Nat} (hv : v < 2 ^ 32) (bs : List Byte) : leAt (leBytes 4 v ++ bs) 0 4 = v := by
  rw [leAt, List.drop_zero, List.take_append_of_le_length (length_leBytes 4 v).ge, List.take_of_length_le (length_leBytes 4 v).le,
    leNat_leBytes]
  exact Nat.mod_eq_of_lt hv

theorem drop_leBytes_append (v : Nat) (bs : List Byte) : (leBytes 4 v ++ bs).drop 4 = bs := rfl

/-! ### What each request does -/

theorem Oasis.serve_imageLoad {ofs : Nat} (hofs : ofs < 2 ^ 32) (bs : List Byte) :
    o.serve 0x86 (leBytes 4 ofs ++ bs) = o.loadImage ofs bs := by
  show o.loadImage (leAt (leBytes 4 ofs ++ bs) 0 4) ((leBytes 4 ofs ++ bs).drop 4) = _
  rw [leAt_leBytes_append hofs, drop_leBytes_append]

theorem Oasis.serve_imageCommit {len : Nat} (hlen : len < 2 ^ 32) (sig : List Byte) :
    o.serve 0x87 (leBytes 4 len ++ sig) = o.commitImage len sig := by
  show o.commitImage (leAt (leBytes 4 len ++ sig) 0 4) ((leBytes 4 len ++ sig).drop 4) = _
  rw [leAt_leBytes_append hlen, drop_leBytes_append]

theorem Oasis.loadImage_inRange {ofs : Nat} {bs : List Byte} (hbs : bs ≠ []) (hlen : bs.length ≤ 1024) (hend : ofs + bs.length ≤ 1572864) :
    o.loadImage ofs bs = ({ o with load := { o.load with bytes := o.load.bytes.writeBytes ofs bs } } : Oasis).respond 0x86 0 := by
  rw [Oasis.loadImage, if_neg (by simp [hbs, Nat.not_lt.2 hlen, Nat.not_lt.2 hend])]

theorem Oasis.loadImage_outOfRange {ofs : Nat} {bs : List Byte} (h : bs = [] ∨ 1024 < bs.length ∨ 1572864 < ofs + bs.length) :
    o.loadImage ofs bs = o.respond 0x86 2 := by
  rw [Oasis.loadImage, if_pos]
  simpa only [Bool.or_eq_true, List.isEmpty_iff, decide_eq_true_eq, or_assoc] using h

theorem Oasis.not_full (h : o.counter < 65535) : ¬ (o.full = true) := by
  rw [Oasis.full, decide_eq_true_eq]
  omega

theorem Oasis.commitParams_full (h : 65535 ≤ o.counter) : o.commitParams = o.respond 0x85 3 := if_pos (decide_eq_true h)

theorem Oasis.commitImage_full (h : 65535 ≤ o.counter) (len : Nat) (sig : List Byte) : o.commitImage len sig = o.respond 0x87 3 :=
  if_pos (decide_eq_true h)

/-- A staged block committed: refused where its checks fail, without an event where it stands already, and else counted, logged and put in
place of the active one. -/
theorem Oasis.commitParams_staged {b : List Byte} (hroom : o.counter < 65535) (hb : o.staged = some b) :
    o.commitParams =
      if !metParamsOk b then o.respond 0x85 2
      else if b = o.params then ({ o with
        staged := none
        paramOk := true } : Oasis).respond 0x85 0
      else (({ (({ o with counter := o.counter + 1 } : Oasis).logEntry 1 (Mp.crc b)) with
        spare := o.params
        params := b
        staged := none
        paramOk := true } : Oasis).respond 0x85 0).identBoth := by
  rw [Oasis.commitParams, if_neg (Oasis.not_full hroom), hb]

/-- The image that a commit of `len` bytes with the signature `sig` tries. -/
def Oasis.tried (o : Oasis) (len : Nat) (sig : List Byte) : MetImage := ⟨o.load.bytes, len, sig⟩

theorem Oasis.commitImage_inRange {len : Nat} {sig : List Byte} (hroom : o.counter < 65535) (hpos : 0 < len) (hlen : len ≤ 1572864)
    (hsig : sig.length = 96) :
    o.commitImage len sig =
      if !(o.tried len sig).passes then o.respond 0x87 4
      else (({ (({ o with counter := o.counter + 1 } : Oasis).logEntry 2 (o.tried len sig).crc) with
        image := o.tried len sig
        load := o.image } : Oasis).respond 0x87 0).start := by
  rw [Oasis.commitImage, if_neg (Oasis.not_full hroom), if_neg (by omega)]
  rfl

/-! ### O57 -/

/-- A row that is a request to Oasis answers what the request makes of it. -/
theorem oasis_next {s : State} {f : Oasis → Oasis} {o : Oasis} (h : f s.met.oasis = o) :
    (.next (s.oasis f) : Out) = .next (s.oasis (fun _ => o)) := by
  subst h
  rfl

/-- Settles O57, by the answer to the request and then by the request. -/
theorem oasisRequestsComplete : Obligations.OasisRequestsComplete := by
  refine ⟨fun s => rfl, fun s hs => ⟨?period, ?ident, ?log, fun h => ?read⟩, fun s ty ofs len bs pay f row hs hopen hf hrow => ?waits,
    fun s ty ofs len bs row hs hseal hrow => ?refused,
    fun s ofs len bs hs hopen hf => ⟨fun hl => ?staged, fun hl => ?wrongLength, fun hbs hofs hl hend => ?loaded, fun hofs hbad => ?outside,
      fun hfull => ⟨?fullParams, ?fullImage⟩⟩,
    fun s b hs hopen hf hroom hb => ⟨fun hok hne => ?committed, fun hok he => ?same, fun hbad => ?badParams⟩,
    fun s len sig hs hopen hf hroom hpos hlen hsig => ⟨fun hok => ?switched, fun hbad => ?badImage⟩⟩
  case period => exact congrArg Host.Outcome.next (State.onOasis_started hs _)
  case ident => exact congrArg Host.Outcome.next (State.onOasis_started hs _)
  case log => exact congrArg Host.Outcome.next (State.onOasis_started hs _)
  case read => exact oasis_next (Oasis.request_read hs h)
  case waits =>
    simp only [List.mem_cons, Prod.mk.injEq, List.not_mem_nil, or_false] at hrow
    obtain ⟨rfl, rfl, rfl⟩ | ⟨rfl, rfl, rfl⟩ | ⟨rfl, rfl, rfl⟩ | ⟨rfl, rfl, rfl⟩ | ⟨rfl, rfl, rfl⟩ := hrow
    all_goals exact oasis_next (Oasis.request_waits hs hopen hf)
  case refused =>
    simp only [List.mem_cons, Prod.mk.injEq, List.not_mem_nil, or_false] at hrow
    obtain ⟨rfl, rfl⟩ | ⟨rfl, rfl⟩ | ⟨rfl, rfl⟩ | ⟨rfl, rfl⟩ := hrow
    all_goals exact oasis_next (Oasis.request_sealed hs hseal (by decide))
  all_goals refine oasis_next ((Oasis.request_served hs hopen hf).trans ?_)
  case staged => exact if_pos hl
  case wrongLength => exact if_neg hl
  case loaded => exact (Oasis.serve_imageLoad hofs bs).trans (Oasis.loadImage_inRange hbs hl hend)
  case outside => exact (Oasis.serve_imageLoad hofs bs).trans (Oasis.loadImage_outOfRange hbad)
  case fullParams => exact Oasis.commitParams_full hfull
  case fullImage => exact Oasis.commitImage_full hfull _ _
  case committed => exact (Oasis.commitParams_staged hroom hb).trans ((if_neg (not_missing hok)).trans (if_neg hne))
  case same => exact (Oasis.commitParams_staged hroom hb).trans ((if_neg (not_missing hok)).trans (if_pos he))
  case badParams => exact (Oasis.commitParams_staged hroom hb).trans (if_pos (by simp [hbad]))
  case switched =>
    exact (Oasis.serve_imageCommit (by omega) sig).trans
      ((Oasis.commitImage_inRange hroom hpos hlen hsig).trans (if_neg (not_missing hok)))
  case badImage =>
    exact (Oasis.serve_imageCommit (by omega) sig).trans
      ((Oasis.commitImage_inRange hroom hpos hlen hsig).trans (if_pos (Bool.not_eq_true' _ ▸ hbad)))

end Sys2Proof.Machine
end
